-- ==== Sys2Proof/Word.lean ====
section
/-! DEFINITION. Word.lean: the words, bytes and sparse maps the model is written in. Registers are 32 bits
wide and little-endian (R6). -/

namespace Sys2Proof

/-- A byte. -/
abbrev Byte := BitVec 8
/-- A 32-bit register word (R6). -/
abbrev Word := BitVec 32
/-- A run of bytes in ascending address order. -/
abbrev Bytes := List Byte
/-- A sparse map from numbers to values: strictly rising keys, no entry equal to what an unlisted key reads as. -/
abbrev Sparse (α : Type) := List (Nat × α)

end Sys2Proof
end

