-- ==== Sys2Proof/Syntax.lean ====
section
/-! DEFINITION. Syntax.lean: the commands of the block, one constructor of `Instr` for each row of
spec/opcode_table.json, and the operands they carry. A command that depends on when it happens carries `t`, the
fabric tick (1 tb, R70) at which it happens; what the surroundings measure or answer is an operand too. -/

namespace Sys2Proof

/-- The three radio regions, in the order L, M, H (R18). -/
inductive Region | L | M | H
  deriving DecidableEq, Repr

/-- The replaceable units of R18. -/
inductive UnitId
  | lane (n : Fin 384)
  | watcher (r : Region) (slot : Fin 512)
  | viterbi (n : Fin 96)
  | resampler (n : Fin 48)
  | carrier (r : Region) (c : Fin 4)
  | tableEngine (n : Fin 6)
  | aes (n : Fin 8)
  | sha256
  | p256
  | timer (n : Fin 16)
  deriving DecidableEq, Repr

/-- The parts whose fault takes the whole package to SAFE (R20). -/
inductive CorePart | network | strongroom | supervisor
  deriving DecidableEq, Repr

/-- The two tamper lines (R409). -/
inductive TamperLine | A | B
  deriving DecidableEq, Repr

/-- The two directions of the die link (R98). -/
inductive LinkDir | frontToCore | coreToFront
  deriving DecidableEq, Repr

/-- The two dies (R18). -/
inductive Die | front | core
  deriving DecidableEq, Repr

/-- The two contexts of the interrupt controller (R364). -/
inductive IrqCtx | host | supervisor
  deriving DecidableEq, Repr

/-- The three kinds of host ring (R285, R293, R294). -/
inductive RingKind | delivery | submission | command
  deriving DecidableEq, Repr

/-- What triggers a PCIe reset (R91). -/
inductive PcieResetKind | hotReset | linkDown | functionLevel | perst
  deriving DecidableEq, Repr

/-- Function power states (R284). -/
inductive PciePower | d0 | d3hot | d3cold
  deriving DecidableEq, Repr

/-- Why a trial falls back (R434). -/
inductive FallbackWhy | windowEnded | watchdog | lockstep
  deriving DecidableEq, Repr

/-- The straps sampled when reset is released (R94). -/
structure Straps where
  recovery : Bool
  mode1 : Bool
  mode0 : Bool
  deriving DecidableEq, Repr

/-- A pin reset: the straps when `RESET_N` is released, and what a board programmer wrote to the flash while it was low, by flash address
(R94, R444). -/
structure PinLow where
  straps : Straps
  flash : List (Nat × Bytes)
  deriving DecidableEq, Repr

/-- A tick, and the straps as they stand when the reset that begins then is released (R94). -/
structure Release where
  tick : Nat
  straps : Straps
  deriving DecidableEq, Repr

/-- The BARs: BAR0/1 is register space, BAR2/3 the MSI-X table and the pending bits, BAR4/5 the recovery ROM's (R284, R442). -/
inductive Bar
  | bar0
  | bar2
  | bar4
  deriving DecidableEq, Repr

/-- One access to a BAR: `size` in bytes; `data` is what a write carries (R8). -/
structure Access where
  write : Bool
  addr : Nat
  size : Nat
  data : BitVec 64
  bar : Bar
  deriving DecidableEq, Repr

/-- What a calibration of one LO centre found (R108). -/
structure CalResult where
  region : Region
  centre : Fin 4
  codes : Word
  temp : Byte
  deriving DecidableEq, Repr

/-- A correction record a calibration measured (R111). -/
structure CorrResult where
  region : Region
  slot : Fin 512
  record : BitVec 256
  deriving DecidableEq, Repr

/-- The fields of `STR.CMD` other than OP (R61). -/
structure StrWord where
  source : Fin 16
  dest : Fin 4
  auto : Bool
  deriving DecidableEq, Repr

/-- What the surroundings answer to a structure-image operation: host memory at `STR.SRC_ADDR` (none: the read
fails), the peer's pair digest (none: unreachable, R59), the out-of-service units whose re-run self-test passes
(R65), whether the flash programs (R427), and what the calibration finds (R66 step 4). -/
structure StrEnv where
  host : Option Bytes
  peer : Option Bytes
  passing : List UnitId
  flashOk : Bool
  cals : List CalResult
  corrs : List CorrResult
  deriving DecidableEq, Repr

/-- An access to a BAR happens at tick `tick`; the rest is what the surroundings answer when a write starts something: a
structure-image command (R61), a reset, after which the straps are sampled again (R94), a recovery chunk whose bank erases or
fails (R442). -/
structure BusEnv where
  tick : Nat
  str : StrEnv
  straps : Straps
  flashOk : Bool
  deriving DecidableEq, Repr

/-- What a die-link direction has carried: for each flit slot since the last one told of, what waited on which channels, payloads of
88 bytes, and the newest flit as it arrived, 96 bytes (R98, R99, R101). -/
structure FlitRx where
  slots : List (List (Nat × Bytes))
  raw : Bytes
  deriving DecidableEq, Repr

/-- A MAC address of a frame (R256). -/
inductive MacAddr
  | none
  | short (pan : BitVec 16) (addr : BitVec 16)
  | ext (eui : BitVec 64)
  deriving DecidableEq, Repr

/-- The frame types of R205. -/
inductive FrameKind | data | ack | command | other
  deriving DecidableEq, Repr

/-- A mesh-addressing header at the start of the payload (R256, R261). -/
structure MeshHdr where
  orig : MacAddr
  final : MacAddr
  hops : Nat
  deriving DecidableEq, Repr

/-- The auxiliary security header of a secured frame (R403). -/
structure SecHdr where
  level : Nat
  keyMode : Nat
  keyIndex : Byte
  fcSuppressed : Bool
  fc5 : Bool
  fc : Word
  deriving DecidableEq, Repr

/-- A received IEEE 802.15.4 MAC frame, as the lane delivers it: fields read under the standard, the header
octets, the payload as received and the MIC. `ies` are its Header IEs, each with its descriptor (R213). -/
structure MacFrame where
  version : Nat
  kind : FrameKind
  ackReq : Bool
  pendingBit : Bool
  seq : Byte
  dst : MacAddr
  src : MacAddr
  sec : Option SecHdr
  ies : List Bytes
  mesh : Option MeshHdr
  mhr : Bytes
  payload : Bytes
  mic : Bytes
  deriving DecidableEq, Repr

/-- What a slot's watcher and lanes show beside a detection: the correlation of another mode within the hold (R144), and the running
RSSI of the slot's lanes in 0.5 dB (R152). -/
structure SlotSeen where
  rival : Nat
  rssi : List (Nat × Int)
  deriving DecidableEq, Repr

/-- What a region's channeliser gave in a millisecond: the mean and peak power of its 1,024 bins (R161), and the samples of its 800
usable bins, the oldest first (R141). -/
structure BinBlock where
  power : List Word
  samples : List (List (BitVec 36))
  deriving DecidableEq, Repr

/-- Who starts an operation of a command block of `FWD`: the host, whose registers hold what it wrote before, or the supervisor with what
it writes to the registers of its own set first (R269). -/
inductive FwdFrom
  | host
  | supervisor (arg mask : Word) (data : List Word)
  deriving DecidableEq, Repr

/-- A complex number with whole parts. -/
structure Gauss where
  re : Int
  im : Int
  deriving DecidableEq, Repr, Inhabited

/-- What a lane has of an OFDM or LOFDM reception after its transforms: the two LTF bodies and, of LOFDM, the symbols from SYNC on, each
on the active tones in ascending order (R192, R193). -/
structure LaneTones where
  y1 : List Gauss
  y2 : List Gauss
  syms : List (List Gauss)
  deriving DecidableEq, Repr

/-- What a lane has of a reception: LOFDM tones; of SUN MR-OFDM the LTF tones and the octets that the standard's decoding gives; of
MR-FSK the frame's SNR and the octets as they were sent. -/
inductive RxAir
  | lofdm (x : LaneTones)
  | sun (x : LaneTones) (octets : Bytes)
  | fsk (snr : Int) (octets : Bytes)
  deriving DecidableEq, Repr

/-- What a lane reports at the end of a frame: what it has of the reception, the MAC frame that its octets hold under the standard,
the running RSSI, CFO and timing offset (R195), and the tick of the timestamp point (R199). -/
structure RxReport where
  air : RxAir
  frame : MacFrame
  rssi : Int
  cfo : Int
  timing : Int
  stampTick : Nat
  deriving DecidableEq, Repr

/-- What a lane has of a frame's header (R172, R174, R180, R194). -/
inductive HeaderRead
  | lofdm (x : LaneTones)
  | sun (mcs : Nat) (reservedSet fcs2 : Bool) (length : Nat)
  | fsk (sfd : BitVec 16) (modeSwitch fcs2 dw : Bool) (length : Nat)
  deriving DecidableEq, Repr

/-- The descriptor of a command-ring message (R294). -/
structure CmdDesc where
  msgType : Nat
  tag : Nat
  reqAddr : Nat
  reqLen : Nat
  rspMax : Nat
  rspAddr : Nat
  deriving DecidableEq, Repr

/-- What the host writes to the function's power management registers (R297): PME_En, and a 1 to PME_Status, which clears it. -/
structure PmeCtl where
  enable : Bool
  clear : Bool
  deriving DecidableEq, Repr

/-- MSI-X as the host sets it in the function's configuration space (R284, R296): enabled, and the whole function masked. -/
structure MsixCtl where
  enable : Bool
  mask : Bool
  deriving DecidableEq, Repr

/-- The tick of a control cycle, and how many errors the memories have corrected since the one before (R472). -/
structure CycleSeen where
  tick : Nat
  corrected : Nat
  deriving DecidableEq, Repr

/-- The tick of a heartbeat period, and the lanes whose heartbeat in it reaches the host interface as other octets than were sent
(R290, R469). -/
structure HbSeen where
  tick : Nat
  wrong : List (Nat × Bytes)
  deriving DecidableEq, Repr

/-- Where the latent-fault tests of a run found their faults (R470): the regions whose comparator and whose transmit timeout
failed, and a byte of each partition whose ECC logic failed. -/
structure LatentSeen where
  detector : List Region
  cutoff : List Region
  ecc : List (Fin 8 × Nat)
  deriving DecidableEq, Repr

/-- A message served from a command ring: its ring, its descriptor and the request read by DMA (none: the read
fails, R294). -/
structure Msg where
  ring : Fin 4
  desc : CmdDesc
  req : Option Bytes
  deriving DecidableEq, Repr

/-- What the surroundings answer to a firmware or bundle offer: the container in host memory and whether the
flash erases, programs and reads back (R427); the TARGET that the twin path has chosen for it, where it goes to the peer (R459). -/
structure OfferEnv where
  container : Option Bytes
  flashOk : Bool
  twin : Option (Fin 5)
  deriving DecidableEq, Repr

/-- An Ethernet recovery or update session frame (R443). -/
structure SessFrame where
  version : Byte
  op : Byte
  seq : BitVec 16
  deviceId : Bytes
  target : Byte
  offset : Nat
  data : Bytes
  dst : Bytes
  src : Bytes
  deriving DecidableEq, Repr

/-- The commands of the block: one constructor for each row of spec/opcode_table.json. -/
inductive Instr
  -- registers and the structure image (chapters 0 and 2)
  | registerWrite (a : Access) (e : BusEnv)
  | strNone (w : StrWord)
  | strValidate (w : StrWord) (e : StrEnv)
  | strApply (w : StrWord) (e : StrEnv) (t : Nat)
  | strStore (w : StrWord) (e : StrEnv)
  | strSetDefault (w : StrWord) (e : StrEnv)
  | strOpRefused (w : StrWord) (op : Fin 16)
  | defaultImageLoad (e : StrEnv) (t : Nat)
  -- clocks, power domains, modes and start-up (chapter 3)
  | tcxoFailure (t : Nat)
  | pllUnlock (t : Nat)
  | ethReferenceLoss (t : Nat)
  | pcieReferenceLoss (t : Nat)
  | slowCrystalStop (t : Nat)
  | pgTimeout (domain : Fin 16) (t : Nat)
  | modeCmdHearth (byHost : Bool) (t : Nat)
  | modeCmdConfigure (byHost : Bool) (t : Nat)
  | modeCmdActive (byHost : Bool) (t : Nat)
  | modeCmdQuiet (byHost : Bool) (t : Nat)
  | modeCmdStandby (byHost : Bool) (t : Nat)
  | heldModeCommand (t : Nat)
  | hearthWake (source : Fin 16) (t : Nat)
  | unitFault (u : UnitId) (cause : Word) (t : Nat)
  | clusterFault (c : Fin 12) (cause : Word) (t : Nat)
  | radioRegionFault (r : Region) (cause : Word) (t : Nat)
  | coreRegionFault (p : CorePart) (t : Nat)
  | powerOn (s : Straps) (t : Nat)
  | supplyLoss (t : Nat)
  | pinReset (s : PinLow) (t : Nat)
  | watchdogReset (s : Straps) (t : Nat)
  | hostReset (w : Word) (s : Straps) (t : Nat)
  | recoveryReset (w : Word) (s : Straps) (t : Nat)
  | pcieReset (k : PcieResetKind) (t : Nat)
  | brownOut (s : Straps) (t : Nat)
  | supplyOutOfRange (rail : Nat) (t : Nat)
  | powerCoreGoodLow (t : Release)
  | hearthFeedChange (backup : Bool) (t : Nat)
  | rootPllLock (t : Nat)
  | pllLockTimeout (t : Nat)
  | dieLinkTrained (t : Nat)
  | dieLinkTrainTimeout (badLane : Fin 64) (t : Nat)
  | pcieLinkUp (t : Nat)
  | bootBankSelect (flashAnswers : Bool) (t : Nat)
  | lpddr5Trained (ok : Bool) (t : Nat)
  | selfTestComplete (failed : List UnitId) (t : Nat)
  | flitCrcFail (d : LinkDir) (f : FlitRx) (t : Nat)
  | dieLinkNak (d : LinkDir) (raw : Bytes) (t : Nat)
  | dieLinkRetrainDone (d : LinkDir) (ok : Bool) (badLane : Fin 64) (t : Nat)
  -- radio front ends (chapter 4)
  | rfcRecalNow (r : Region)
  | recalIntervalExpiry (r : Region) (t : Nat)
  | recalTemperatureDue (r : Region) (temp : Byte) (t : Nat)
  | recalStart (r : Region) (t : Nat)
  | recalDeferLimit (r : Region) (t : Nat)
  | recalDone (r : Region) (cals : List CalResult) (corrs : List CorrResult) (t : Nat)
  | transmitCommand (r : Region) (c : Fin 4) (t : Nat)
  | backoffEnd (r : Region) (c : Fin 4) (t : Nat)
  | ccaEnd (r : Region) (c : Fin 4) (power : Int) (t : Nat)
  | startInstantReached (r : Region) (c : Fin 4) (t : Nat)
  | backoffDeadline (r : Region) (c : Fin 4) (t : Nat)
  | txStart (r : Region) (c : Fin 4) (t : Nat)
  | paSettleExpiry (r : Region) (t : Nat)
  | txEnd (r : Region) (c : Fin 4) (t : Nat)
  | paOffExpiry (r : Region) (t : Nat)
  | rxSettleExpiry (r : Region) (t : Nat)
  | loLock (r : Region) (t : Nat)
  | loLockLost (r : Region) (t : Nat)
  | pdetSample (r : Region) (level : Byte) (t : Nat)
  | txTimeoutExpiry (r : Region) (c : Fin 4) (t : Nat)
  | coexGrantRise (r : Region) (t : Nat)
  | coexGrantFall (r : Region) (t : Nat)
  | coexWaitExpiry (r : Region) (c : Fin 4) (t : Nat)
  | coexRequestRise (r : Region) (pri : Bool) (t : Nat)
  | coexRequestFall (r : Region) (t : Nat)
  | coexMaxGrantExpiry (r : Region) (t : Nat)
  | rfcWinDataRead (r : Region)
  | rfcWinDataWrite (r : Region) (w : Word)
  | profileMessage (m : Msg) (t : Nat)
  -- whole-band reception (chapter 5)
  | detectionReport (r : Region) (slot : Fin 512) (mode : Fin 8) (preStart : Nat) (level : Int)
      (quarter : Bool) (corr : Nat) (seen : SlotSeen) (t : Nat)
  | headerCheck (lane : Fin 384) (h : HeaderRead) (cfo : Int) (rssi : Int) (t : Nat)
  | headerDeadlineExpiry (lane : Fin 384) (t : Nat)
  | pendingExpiry (r : Region) (t : Nat)
  | quarantineExpiry (r : Region) (slot : Fin 512) (t : Nat)
  | frameEnd (lane : Fin 384) (rx : RxReport) (t : Nat)
  | noiseFloorUpdate (r : Region) (slot : Fin 512) (block : Int) (t : Nat)
  | binPowerUpdate (r : Region) (bins : BinBlock) (t : Nat)
  | gainCommand (r : Region) (w : Word) (t : Nat)
  | gainTimedApply (r : Region) (t : Nat)
  | gainDeferredApply (r : Region) (t : Nat)
  | histogramSnapshot (r : Region) (counts : List Word) (clipI clipQ : Word) (t : Nat)
  -- loading maps, medium access and the Porch (chapters 6 and 7)
  | mapWinDataRead (r : Region)
  | macReceive (r : Region) (t : Nat)
  | dutySecondTick (t : Nat)
  | dutySave (t : Nat)
  | downlinkRequest (t : Nat)
  | poolWaitResume (t : Nat)
  | calendarFullRetry (t : Nat)
  | bookingRelease (handle : Fin 262144) (t : Nat)
  | bookingDeadline (handle : Fin 262144) (t : Nat)
  | ackWindowExpiry (r : Region) (c : Fin 4) (t : Nat)
  | strobeGapExpiry (r : Region) (c : Fin 4) (t : Nat)
  | beaconInstant (r : Region) (t : Nat)
  -- downlink scheduling (chapter 10)
  | shaperRefill (t : Nat)
  | dlsHistogramSample (r : Region) (t : Nat)
  | dlsHistClear (r : Region)
  | dlsHistDataRead (r : Region)
  -- forwarding and learning (chapter 8)
  | fwdRead (by_ : FwdFrom) (block : Fin 5)
  | fwdWrite (by_ : FwdFrom) (block : Fin 5)
  | fwdInsert (by_ : FwdFrom) (block : Fin 5)
  | fwdDelete (by_ : FwdFrom) (block : Fin 5)
  | fwdSearch (by_ : FwdFrom) (block : Fin 5)
  | prefixRebuild (length : Byte)
  | prefixRebuildDone (length : Nat) (t : Nat)
  | nodeWindowWrite (addr : Nat) (size : Nat) (data : BitVec 64)
  -- jobs and host rings (chapter 9)
  | jobDispatch (accepts : List (Fin 7))
  | cryptoJob (octets : Nat)
  | submissionDoorbell (ring : Fin 32) (tail : BitVec 16)
  | submissionDescriptor (ring : Fin 32) (desc : Option Bytes) (buf : Option Bytes) (t : Nat)
  | stagingResume (t : Nat)
  | commandDoorbell (ring : Fin 4) (tail : BitVec 16)
  | echoMessage (m : Msg)
  | deliveryHeadWrite (ring : Fin 32) (head : BitVec 16) (t : Nat)
  | ringEnable (k : RingKind) (i : Fin 32) (t : Nat)
  | ringDisable (k : RingKind) (i : Fin 32)
  | ringReset (k : RingKind) (i : Fin 32)
  | ringIrqMask (k : RingKind) (i : Fin 32) (mask : Bool)
  | ringDmaError (k : RingKind) (i : Fin 32) (t : Nat)
  | modTimerExpiry (k : RingKind) (i : Fin 32) (t : Nat)
  | hostSleepWrite (w : Word)
  | pciePowerStateChange (p : PciePower) (l1 : Bool) (pmeEn : PmeCtl) (t : Nat)
  | ethFrameReceive (p : Fin 2) (frame : Bytes) (t : Nat)
  | pauseRefresh (p : Fin 2) (t : Nat)
  | ethPauseReceived (p : Fin 2) (pfc : Option (Fin 8)) (quanta : BitVec 16) (t : Nat)
  | ethFrameDepart (p : Fin 2) (t : Nat)
  -- time, pins and timers (chapter 11)
  | incrCommit (w : Word)
  | nowNsRead
  | timebaseStepOffset (timed : Bool)
  | timebaseStepSet (timed : Bool)
  | stepApply (t : Nat)
  | disciplinedWrite (w : Word)
  | holdoverExpiry (t : Nat)
  | pinArm (n : Fin 8)
  | pinStop (n : Fin 8)
  | pinPulseStart (n : Fin 8) (t : Nat)
  | pinPulseEnd (n : Fin 8) (t : Nat)
  | pinCapture (n : Fin 8) (t : Nat)
  | pinStatusRead (n : Fin 8)
  | snapshotReady (r : Region) (samples : List Word) (t : Nat)
  | snapDataRead
  | timerArm (c : Fin 16)
  | timerStop (c : Fin 16)
  | terminalCommit (c : Fin 16) (hi : BitVec 16)
  | groupArm (w : Word)
  | timerCountRead (c : Fin 16)
  | timerExpiry (c : Fin 16) (t : Nat)
  | slowRatioMeasure (count : Nat) (t : Nat)
  -- interrupts (chapter 12)
  | irqSourceEvent (src : Fin 512) (level : Bool) (t : Nat)
  | irqStormWindow (t : Nat)
  | irqClaim (ctx : IrqCtx)
  | irqEoi (ctx : IrqCtx) (w : Word)
  | irqSwi (w : Word)
  | hearthTimerExpiry (t : Nat)
  -- keys, lifecycle and debug (chapter 13)
  | keyUpdateOwnerAuthority (m : Msg) (t : Nat)
  | keyUpdateNetworkKek (m : Msg) (t : Nat)
  | keyUpdateTwinLink (m : Msg) (t : Nat)
  | keyUpdateImage (m : Msg) (t : Nat)
  | keyUpdateTamperPolicy (m : Msg) (t : Nat)
  | keyUpdateZeroize (m : Msg) (t : Nat)
  | keyUpdateNodeKeys (m : Msg) (t : Nat)
  | staleGenerationJob (handle : Fin 262144)
  | rolloverSweep (t : Nat)
  | rolloverWindowEnd (t : Nat)
  | tamperDetected (l : TamperLine) (t : Nat)
  | keyRegeneration (t : Nat)
  | maintenanceMessage (m : Msg) (t : Nat)
  | tapBypass
  | tapIdcode
  | tapSamplePreload (pins : Bytes) (preload : Bytes)
  | tapExtest
  | tapClamp
  | tapHighz
  | tapDebugAccess (a : Access)
  | tapPrivateTest (code : Fin 64)
  | dbgCoreHalt (pair : Fin 2) (halt : Bool)
  | dbgCoreStep (pair : Fin 2)
  | dbgMemDataAccess (write : Bool) (data : Word)
  -- firmware update and recovery (chapter 14)
  | fwOfferStore (m : Msg) (e : OfferEnv) (t : Nat)
  | fwOfferActivate (m : Msg) (e : OfferEnv) (t : Nat)
  | fwOfferReadBlock (m : Msg)
  | updateLockTimeout (t : Nat)
  | idlePairReady (passed : Bool) (imageRule : Byte) (t : Nat)
  | handoverTimeout (t : Nat)
  | firmwareConfirmation (m : Msg) (t : Nat)
  | trialWarning (t : Nat)
  | trialFallback (why : FallbackWhy) (t : Nat)
  | nvStartModeWrite (w : Word)
  | recoveryChunk (w : Word) (half : Bytes) (flashOk : Bool) (t : Nat)
  | ethSessionHello (p : Fin 2) (f : SessFrame)
  | ethSessionStart (p : Fin 2) (f : SessFrame) (t : Nat)
  | ethSessionData (p : Fin 2) (f : SessFrame) (flashOk : Bool) (t : Nat)
  | ethSessionEnd (p : Fin 2) (f : SessFrame) (flashOk : Bool) (t : Nat)
  | ethSessionReboot (p : Fin 2) (f : SessFrame) (s : Straps) (t : Nat)
  | ethSessionAbort (p : Fin 2) (f : SessFrame)
  -- twin operation and functional safety (chapter 15)
  | twinOwnChange (released : Bool) (t : Nat)
  | claimDelayExpiry (t : Nat)
  | lineFault (t : Nat)
  | takeoverComplete (t : Nat)
  | takeoverTimeout (t : Nat)
  | twinRxHello (raw : Bytes) (t : Nat)
  | twinRxConfirm (raw : Bytes) (t : Nat)
  | twinRxClaim (raw : Bytes) (t : Nat)
  | twinRxYield (raw : Bytes) (t : Nat)
  | twinRxHealth (raw : Bytes) (t : Nat)
  | twinRxKeepalive (raw : Bytes) (t : Nat)
  | twinRxProbe (raw : Bytes) (t : Nat)
  | twinRxMirror (raw : Bytes) (t : Nat)
  | twinRxResyncReq (raw : Bytes) (t : Nat)
  | twinRxResyncData (raw : Bytes) (t : Nat)
  | twinRxResyncDone (raw : Bytes) (t : Nat)
  | twinRxXferStart (raw : Bytes) (t : Nat)
  | twinRxXferData (raw : Bytes) (flashOk : Bool) (t : Nat)
  | twinRxXferEnd (raw : Bytes) (flashOk : Bool) (t : Nat)
  | twinRxXferRsp (raw : Bytes) (t : Nat)
  | twinHelloTimer (t : Nat)
  | twinRetransmitTimer (t : Nat)
  | twinKeepaliveTimer (t : Nat)
  | twinLinkTimeout (t : Nat)
  | twinHealthPeriod (t : Nat)
  | standbyAckTimeout (t : Nat)
  | heartbeatPeriod (t : HbSeen)
  | latentTestRun (failed : List (Fin 8)) (region : LatentSeen) (pair : List (Fin 2)) (t : Nat)
  | safRunLatent
  | overtemp (front core : Byte) (t : Nat)
  | lockstepMiscompare (pair : Fin 2) (t : Nat)
  | eccUncorrectable (partition : Fin 8) (addr : Nat) (t : Nat)
  -- the Cellar (chapter 16)
  | cellarClear (m : Msg) (t : Nat)
  | returnMessage (m : Msg) (t : Nat)
  | cellarFreeze (t : Nat)
  | cellarUnfreeze (t : Nat)
  | freezeTimeout (t : Nat)
  | recWin0Read
  | recWin7Read
  | opTimeSave (t : Nat)
  -- the table's later rows
  | twinBlockLockLoss (t : Nat)
  | ethLinkChange (p : Fin 2) (up : Bool) (t : Nat)
  | ethPauseQuantaExpiry (p : Fin 2) (t : Nat)
  | msixEnableChange (msix : MsixCtl) (busMaster : Bool) (t : Nat)
  | handoverCompleted (t : Nat)
  | modeTransitionComplete (e : StrEnv) (t : Nat)
  | powerCoreGoodRise (t : Nat)
  | migrationBackgroundPass (t : Nat)
  | twinFrameSend (t : Nat)
  | supervisorControlCycle (t : CycleSeen)
  | ethReferenceRestored (t : Nat)
  | pcieReferenceRestored (t : Nat)
  | tcxoRestored (t : Nat)
  | rootPllRelock (t : Nat)
  | supplyBackInRange (t : Nat)
  | overtempCleared (front core : Byte) (t : Nat)
  | hearthSupplyLoss (t : Nat)
  | hearthSupplyReturn (t : Nat)
  | coexPriChange (r : Region) (pri : Bool) (t : Nat)
  deriving DecidableEq, Repr

end Sys2Proof
end

