-- ==== Sys2Proof/Decode.lean ====
section
/-! DEFINITION. Decode.lean: the command a word spells by the table's bits. No row of spec/opcode_table.json gives
any bits, so no word spells a command. -/

namespace Sys2Proof

/-- The command spelt by the `nbits` bits of `w`: none, because the table gives no row any bits.
[log 8: DESIGN CHOICE] -/
def decodeTableWord (nbits w : Nat) : Option Instr :=
  match nbits, w with
  | _, _ => none

end Sys2Proof
end

