-- ==== Sys2Proof/Machine/Bytes.lean ====
section
/-! DEFINITION. Machine/Bytes.lean: fields of little-endian byte strings (R6), bit fields of words, and the cyclic
redundancy checks the spec names. -/

namespace Sys2Proof.Machine

/-- The byte at an offset; 0 beyond the end. -/
def byteAt (b : Bytes) (o : Nat) : Nat := ((b.drop o).headD 0).toNat

/-- The number of `n` little-endian bytes. -/
def leNat : Bytes → Nat
  | [] => 0
  | x :: xs => x.toNat + 256 * leNat xs

/-- The number of `n` bytes at offset `o`, little-endian. -/
def le (b : Bytes) (o n : Nat) : Nat := leNat ((b.drop o).take n)

/-- The number of `n` bytes at offset `o`, big-endian. -/
def be (b : Bytes) (o n : Nat) : Nat := leNat ((b.drop o).take n).reverse

/-- `n` bytes at offset `o`. -/
def slice (b : Bytes) (o n : Nat) : Bytes := (b.drop o).take n

/-- A number as `n` little-endian bytes. -/
def toLE : Nat → Nat → Bytes
  | 0, _ => []
  | n + 1, v => BitVec.ofNat 8 v :: toLE n (v / 256)

/-- A number as `n` big-endian bytes. -/
def toBE (n v : Nat) : Bytes := (toLE n v).reverse

/-- `n` zero bytes. -/
def zeros (n : Nat) : Bytes := List.replicate n 0

/-- `b` cut or padded with zeros to `n` bytes. -/
def fit (b : Bytes) (n : Nat) : Bytes := (b ++ zeros (n - b.length)).take n

/-- `b` with the bytes `v` written at offset `o`; `b` keeps its length. -/
def splice (b : Bytes) (o : Nat) (v : Bytes) : Bytes :=
  (b.take o ++ v ++ b.drop (o + v.length)).take b.length

/-- Bits [lo + n − 1 : lo] of a number. -/
def bits (v lo n : Nat) : Nat := v / 2 ^ lo % 2 ^ n

/-- Bit `i` of a number. -/
def bit (v i : Nat) : Bool := v / 2 ^ i % 2 == 1

/-- A number read as an `n`-bit two's complement value. -/
def sgn (n v : Nat) : Int := if v < 2 ^ (n - 1) then (v : Int) else (v : Int) - (2 : Int) ^ n

/-- An integer as an `n`-bit two's complement number. -/
def unsgn (n : Nat) (x : Int) : Nat := (x % (2 : Int) ^ n).toNat

/-- An integer brought into a range. -/
def clampI (lo hi x : Int) : Int := if x < lo then lo else if hi < x then hi else x

/-- The quotient of integers rounded to the nearest, halves away from zero, for a positive divisor. -/
def roundDiv (x : Int) (d : Nat) : Int :=
  if 0 ≤ x then (2 * x + d) / (2 * d) else - ((2 * (-x) + d) / (2 * d))

/-- The least multiple count: `x / d` rounded up. -/
def ceilDiv (x d : Nat) : Nat := (x + d - 1) / d

/-- `w` with bits [lo + n − 1 : lo] replaced by `v`. -/
def setBits {k : Nat} (w : BitVec k) (lo n v : Nat) : BitVec k :=
  let mask := BitVec.ofNat k ((2 ^ n - 1) * 2 ^ lo)
  (w &&& ~~~ mask) ||| (BitVec.ofNat k (v % 2 ^ n * 2 ^ lo))

/-- Bits [lo + n − 1 : lo] of a bit vector, as a number. -/
def getBits {k : Nat} (w : BitVec k) (lo n : Nat) : Nat := bits w.toNat lo n

/-- Whether bit `i` of a bit vector is set. -/
def getBit {k : Nat} (w : BitVec k) (i : Nat) : Bool := w.getLsbD i

/-- The bytes of a bit vector of 8·n bits, little-endian. -/
def bvBytes {k : Nat} (n : Nat) (w : BitVec k) : Bytes := toLE n w.toNat

/-- A bit vector from little-endian bytes. -/
def bvOf (k : Nat) (b : Bytes) : BitVec k := BitVec.ofNat k (leNat b)

/-- One bit of a reflected CRC-32C. -/
def crc32cBit (c : Word) : Word := if c.getLsbD 0 then (c >>> 1) ^^^ 0x82F63B78 else c >>> 1

/-- One byte of a reflected CRC-32C. -/
def crc32cByte (c : Word) (x : Byte) : Word :=
  (List.range 8).foldl (fun a _ => crc32cBit a) (c ^^^ x.zeroExtend 32)

/-- CRC-32C: polynomial 0x1EDC6F41 reflected, initial value and final inversion all ones. -/
def crc32c (b : Bytes) : Word := ~~~ (b.foldl crc32cByte 0xFFFFFFFF)

/-- A CRC-8 with a given polynomial, initial value 0, most significant bit first. -/
def crc8 (poly : Byte) (b : Bytes) : Byte :=
  b.foldl (fun c x =>
    (List.range 8).foldl (fun (a : Byte) _ => if a.getLsbD 7 then (a <<< 1) ^^^ poly else a <<< 1) (c ^^^ x)) 0

end Sys2Proof.Machine
end

