-- ==== Sys2Proof/Machine/Mpdu.lean ====
section
/-! DEFINITION. Machine/Mpdu.lean: MAC frames as octets under IEEE 802.15.4-2020 (R205) and the mesh-addressing header of RFC 4944
(R256, R261), as the router sends them and as it reads them, all without the FCS. [log 5: PRESUMED] -/

namespace Sys2Proof.Machine

/-- Tag octets of a security level (R403). -/
def micLen : Nat → Nat
  | 1 => 4 | 2 => 8 | 3 => 16 | 5 => 4 | 6 => 8 | 7 => 16 | _ => 0

/-! Frames sent. -/

/-- The addressing mode of an address. [log 5: PRESUMED] -/
def addrMode : MacAddr → Nat
  | .none => 0
  | .short _ _ => 2
  | .ext _ => 3

/-- The octets of an address field. -/
def addrOctets : MacAddr → Bytes
  | .none => []
  | .short _ a => bvBytes 2 a
  | .ext e => bvBytes 8 e

/-- The header of a frame the router sends: `kind` and `version` as the frame control field has them, the one PAN field it bears, its
security level, key index and frame counter, its Header IEs. -/
structure TxMhr where
  kind : Nat
  version : Nat
  seq : Nat
  pending : Bool
  ackReq : Bool
  pan : Nat
  dst : MacAddr
  src : MacAddr
  sec : Option (Nat × Nat × Nat)
  ies : Bytes
  deriving DecidableEq, Repr

/-- The octets of a header: frame control, sequence number, addressing fields with one PAN, auxiliary security header with key
identifier mode 1, Header IEs. [log 5: PRESUMED] -/
def TxMhr.octets (h : TxMhr) : Bytes :=
  let dm := addrMode h.dst
  let sm := addrMode h.src
  let compressed := decide (dm ≠ 0) && decide (sm ≠ 0) && ! (decide (dm = 3) && decide (sm = 3))
  toLE 2 (h.kind + 8 * h.sec.isSome.toNat + 16 * h.pending.toNat + 32 * h.ackReq.toNat + 64 * compressed.toNat +
      512 * (! h.ies.isEmpty).toNat + 1024 * dm + 4096 * h.version + 16384 * sm) ++
    toLE 1 h.seq ++ (if dm = 0 ∧ sm = 0 then [] else toLE 2 h.pan) ++ addrOctets h.dst ++ addrOctets h.src ++
    (match h.sec with
     | some (level, index, fc) => toLE 1 (level + 8) ++ toLE 4 fc ++ toLE 1 index
     | none => []) ++ h.ies

/-- The octets of the header of a secured data frame between extended addresses: 21, and 6 of the auxiliary security header. -/
def dataMhrOctets : Nat := 27

/-! Frames read. -/

/-- The length of an address field. -/
def addrLen : Nat → Nat
  | 2 => 2 | 3 => 8 | _ => 0

/-- Whether a header bears a PAN of the destination, and one of the source. [log 5: PRESUMED] -/
def panFields (version dm sm : Nat) (compressed : Bool) : Bool × Bool :=
  if version < 2 then (decide (dm ≠ 0), decide (sm ≠ 0) && ! compressed)
  else if dm = 0 ∧ sm = 0 then (compressed, false)
  else if sm = 0 then (! compressed, false)
  else if dm = 0 then (false, ! compressed)
  else if dm = 3 ∧ sm = 3 then (! compressed, false)
  else (true, ! compressed)

/-- An address field of a mode at an offset; a short address without a PAN is none. -/
def readAddr (b : Bytes) (o mode : Nat) (pan : Option (BitVec 16)) : MacAddr :=
  match mode, pan with
  | 3, _ => .ext (bvOf 64 (slice b o 8))
  | 2, some p => .short p (bvOf 16 (slice b o 2))
  | _, _ => .none

/-- The Header IEs of the octets behind a header, the octets behind them, and whether payload IEs come first there; none where they
are malformed. [log 5: PRESUMED] -/
def readIes : Nat → Bytes → Option (List Bytes × Bytes × Bool)
  | 0, b => some ([], b, false)
  | n + 1, b =>
    let d := le b 0 2
    let len := 2 + d % 128
    if b.isEmpty then some ([], [], false)
    else if b.length < len ∨ 2 ^ 15 ≤ d then none
    else if bits d 7 8 = 0x7E then some ([], b.drop 2, true)
    else if bits d 7 8 = 0x7F then some ([], b.drop 2, false)
    else (readIes n (b.drop len)).map (fun r => (b.take len :: r.1, r.2.1, r.2.2))

/-- The mesh-addressing header a MAC payload begins with: its short addresses are of the PAN of the frame's source (R256).
[log 5: PRESUMED] -/
def readMesh (pan : BitVec 16) (b : Bytes) : Option MeshHdr :=
  let d := byteAt b 0
  let p := if d % 16 = 15 then 2 else 1
  let lv := if bit d 5 then 2 else 8
  let lf := if bit d 4 then 2 else 8
  let addr (short : Bool) (o : Nat) : MacAddr :=
    if short then .short pan (BitVec.ofNat 16 (be b o 2)) else .ext (BitVec.ofNat 64 (be b o 8))
  if d / 64 = 2 ∧ p + lv + lf ≤ b.length then
    some ⟨addr (bit d 5) p, addr (bit d 4) (p + lv), if d % 16 = 15 then byteAt b 1 else d % 16⟩
  else none

/-- Octets that are no frame of the types R205 names. -/
def otherFrame (version : Nat) (b : Bytes) : MacFrame :=
  { version := version, kind := .other, ackReq := false, pendingBit := false, seq := 0, dst := .none, src := .none, sec := none,
    ies := [], mesh := none, mhr := b, payload := [], mic := [] }

/-- The frame types of R205. -/
def frameKind : Nat → FrameKind
  | 1 => .data
  | 2 => .ack
  | 3 => .command
  | _ => .other

/-- The length of the key identifier of a key identifier mode. -/
def keyIdLen : Nat → Nat
  | 1 => 1 | 2 => 5 | 3 => 9 | _ => 0

/-- The auxiliary security header at an offset, with the offset behind it. [log 5: PRESUMED] -/
def readSec (b : Bytes) (o : Nat) : SecHdr × Nat :=
  let ctl := byteAt b o
  let km := bits ctl 3 2
  let e := o + 1 + (if bit ctl 5 then 0 else if bit ctl 6 then 5 else 4) + keyIdLen km
  ({ level := ctl % 8, keyMode := km, keyIndex := if km = 0 then 0 else BitVec.ofNat 8 (byteAt b (e - 1)),
     fcSuppressed := bit ctl 5, fc5 := bit ctl 6,
     fc := if bit ctl 5 then 0 else bvOf 32 (slice b (o + 1) 4) }, e)

/-- A frame as the lane delivers it, read from its octets without the FCS (R205, R256); the PAN of a short source is the source's, or
under PAN ID compression the destination's. [log 5: PRESUMED] -/
def readFrame (b : Bytes) : MacFrame :=
  let fc := le b 0 2
  let version := bits fc 12 2
  let dm := bits fc 10 2
  let sm := bits fc 14 2
  let secured := bit fc 3
  let pans := panFields version dm sm (bit fc 6)
  let p0 := if version = 2 ∧ bit fc 8 then 2 else 3
  let p1 := p0 + 2 * pans.1.toNat
  let p2 := p1 + addrLen dm + 2 * pans.2.toNat
  let p3 := p2 + addrLen sm
  let dpan : Option (BitVec 16) := if pans.1 then some (bvOf 16 (slice b p0 2)) else none
  let span_ : Option (BitVec 16) := if pans.2 then some (bvOf 16 (slice b (p2 - 2) 2)) else none
  let sec := readSec b p3
  let p4 := if secured then sec.2 else p3
  let mic := if secured then micLen sec.1.level else 0
  let body := (b.take (b.length - mic)).drop p4
  let ies := if version = 2 ∧ bit fc 9 then readIes body.length body else some ([], body, false)
  match ies with
  | none => otherFrame version b
  | some (l, payload, payloadIes) =>
    if b.length < p4 + mic ∨ dm = 1 ∨ sm = 1 ∨ version = 3 ∨ frameKind (bits fc 0 3) = .other then otherFrame version b
    else
      { version := version, kind := frameKind (bits fc 0 3), ackReq := bit fc 5, pendingBit := bit fc 4,
        seq := if p0 = 2 then 0 else BitVec.ofNat 8 (byteAt b 2),
        dst := readAddr b p1 dm (dpan.or (span_.or (some 0xFFFF))), src := readAddr b p2 sm (span_.or dpan),
        sec := if secured then some sec.1 else none, ies := l,
        mesh := if payloadIes then none else readMesh ((span_.or dpan).getD 0xFFFF) payload,
        mhr := b.take (b.length - mic - payload.length), payload := payload, mic := b.drop (b.length - mic) }

end Sys2Proof.Machine
end

