-- ==== Sys2Proof/Config.lean ====
section
/-! DEFINITION. Config.lean: what the implementation fixes, and the free values: opaque constants of which nothing
can be evaluated or proved. The cryptographic functions, the random source, IPHC and the parts of IEEE 802.15.4 the
spec only names are of this kind (log entries 3, 4 and 5). -/

namespace Sys2Proof.Config

/-- The n-th draw of the device's random source: backoffs (R207), relocation positions (R254), nonces (R455).
[log 4: DESIGN CHOICE] -/
opaque draw : Nat → Nat
/-- The n-th value the spec leaves open. -/
opaque freeWord : Nat → BitVec 32
/-- What the Pantry window shows at a tick and an address (R283: its contents change as it is read).
[log 43: DESIGN CHOICE] -/
opaque pantryByte : Nat → Nat → BitVec 8
/-- Where, modulo 80 ms in fabric ticks, the calibration of a region starts in an application that began at a tick: the spec gives
steps 3 and 4 of R66 no times of their own. [log 167: DEDUCED] -/
opaque calFrom : Nat → Nat → BitVec 32
/-- The centre (bits 2–1) and the lock (bit 0) of a region's LO at a tick while an application calibrates it: the spec gives
the calibration no course. [log 167: DEDUCED] -/
opaque calLo : Nat → Nat → BitVec 3
/-- How a `UNIT_OOS` record packs the level and the kind of R18 into PARAM0 (R480 gives no packing).
[log 44: DESIGN CHOICE] -/
opaque oosCode : Nat → Nat → BitVec 32
/-- SHA-256. [log 3: DESIGN CHOICE] -/
opaque sha256 : Bytes → Bytes
/-- ECDSA P-256 verification: public key, message digest, signature r then s (R34, R384). [log 3: DESIGN CHOICE] -/
opaque ecdsaVerify : Bytes → Bytes → Bytes → Bool
/-- The P-256 agreement of R390: the x-coordinate of private key times public point, none off the curve. -/
opaque ecdh : Bytes → Bytes → Option Bytes
/-- AES-CMAC (R397). -/
opaque cmac : Bytes → Bytes → Bytes
/-- AES key wrap of NIST SP 800-38F (R392). -/
opaque kwWrap : Bytes → Bytes → Bytes
/-- The bit `TAMPER_A` is driven with in a slow tick (R409: pseudo-random). [log 188: DEDUCED] -/
opaque tamperBit : Nat → Bool
/-- AES key unwrap of NIST SP 800-38F (R390). -/
opaque kwUnwrap : Bytes → Bytes → Option Bytes
/-- AES-CCM: key, nonce, associated data, plaintext, tag length; ciphertext with its tag (R401, R403). -/
opaque ccmSeal : Bytes → Bytes → Bytes → Bytes → Nat → Bytes
/-- AES-CCM verification and decryption; none when the tag fails. -/
opaque ccmOpen : Bytes → Bytes → Bytes → Bytes → Nat → Option Bytes
/-- AES-GCM: key, IV, associated data, plaintext; ciphertext followed by the 16-byte tag (R424, R454). -/
opaque gcmSeal : Bytes → Bytes → Bytes → Bytes → Bytes
/-- AES-GCM verification and decryption: key, IV, associated data, ciphertext, tag; none when the tag fails. -/
opaque gcmOpen : Bytes → Bytes → Bytes → Bytes → Bytes → Option Bytes
/-- The Yurigan provisioning root's public key, held in mask ROM (R384). -/
opaque provisioningRoot : Bytes
/-- The substitute test root, held in mask ROM (R400). -/
opaque testRoot : Bytes
/-- The device root key, private key and public key the n-th generation yields (R380, R411). -/
opaque newRoot : Nat → Bytes
opaque newDevPriv : Nat → Bytes
opaque newDevPub : Nat → Bytes
/-- STF, LTF and PHR symbols of a SUN MR-OFDM option and MCS under IEEE 802.15.4-2020 (R308). [log 214: DESIGN CHOICE] -/
opaque sunHeaderSymbols : Nat → Nat → Nat
/-- Symbols of a SUN MR-OFDM option from the start of its STF to the end of its LTF under IEEE 802.15.4-2020 (R199).
[log 214: DESIGN CHOICE] -/
opaque sunTrainSymbols : Nat → Nat
/-- The power index a transmit job requests (R115 names it; no rule says where it comes from): the n-th request.
[log 28: DESIGN CHOICE] -/
opaque powerReq : Nat → BitVec 6
/-- Whether the frames sent in a mode have an FCS of two octets: no rule says. [log 172: DESIGN CHOICE] -/
opaque fcs2 : Nat → Bool
/-- The MAC address of an Ethernet port outside RECOVERY: the spec gives none (R443 says 'its own address').
[log 45: DESIGN CHOICE] -/
opaque portMac : Nat → Bytes
/-- Whether a seed lies inside the front-die synthesiser's code range for a centre (rule 0x41).
[log 47: DESIGN CHOICE] -/
opaque seedInRange : Nat → BitVec 32 → Bool
/-- The running RSSI of a lane at a tick, in 0.5 dB units (R152), where no command brings it. [log 195: DESIGN CHOICE] -/
opaque laneRssi : Nat → Nat → Int
/-- What one step of a 6-bit soft bit stands for (R193): 2^16 times the steps of a metric of 1. [log 174: DESIGN CHOICE] -/
opaque softScale : Nat
/-- The data tones of a SUN MR-OFDM option, by their places among its active tones, under IEEE 802.15.4-2020 (R192).
[log 214: DESIGN CHOICE] -/
opaque sunDataTones : Nat → List Nat
/-- The pad bits of a transmitted payload (R182). [log 172: DESIGN CHOICE] -/
opaque padBit : Nat → Nat → Bool
/-- The symbols of a SUN MR-OFDM frame of an option and MCS under IEEE 802.15.4-2020 (R172): STF, LTF, PHR, and the scrambled,
interleaved, tailed and padded payload. [log 214: DESIGN CHOICE] -/
opaque sunSymbols : Nat → Nat → Bytes → List Bytes
/-- The physical position of a line of the key cells, under the permutation of a seed (R396). [log 46: DEDUCED] -/
opaque scramble : Bytes → Nat → Nat
/-- The mask stream of a seed (R396), byte by byte, for a line. [log 46: DEDUCED] -/
opaque maskByte : Bytes → Nat → Nat → BitVec 8

end Sys2Proof.Config
end

