-- ==== Sys2Proof/Machine/Regs.lean ====
section
/-! DEFINITION. Machine/Regs.lean: the registers of BAR0 as the chapters' register tables give them: a name for each
address, and one row for each register with its access masks (R4) and, in `regReset`, its reset value. -/

namespace Sys2Proof.Machine

/-- SYS.ID (R3). -/
def Reg.sysId : Nat := 0
/-- SYS.MODE (R83). -/
def Reg.sysMode : Nat := 0x10
/-- SYS.MODE_CMD (R85). -/
def Reg.sysModeCmd : Nat := 0x14
/-- SYS.RESET (R92). -/
def Reg.sysReset : Nat := 0x18
/-- SYS.RESET_CAUSE (R93). -/
def Reg.sysResetCause : Nat := 0x1C
/-- SYS.BOOT (R96). -/
def Reg.sysBoot : Nat := 0x20
/-- SYS.ACCESS_ERR (R11). -/
def Reg.sysAccessErr : Nat := 0x40
/-- SYS.TROUBLE (R486). -/
def Reg.sysTrouble : Nat := 0x44
/-- SYS.DEVICE_ID (R381). -/
def Reg.sysDeviceId (i : Nat) : Nat := 0x80 + 4 * i
/-- SYS.LIFECYCLE (R381). -/
def Reg.sysLifecycle : Nat := 0x90
/-- CLK.STATUS (R74). -/
def Reg.clkStatus : Nat := 0x10000
/-- CLK.DLINK_STATUS (R103). -/
def Reg.clkDlinkStatus : Nat := 0x10100
/-- CLK.DLINK_REPLAY_CNT (R103). -/
def Reg.clkDlinkReplayCnt : Nat := 0x10104
/-- CLK.DLINK_RETRAIN_CNT (R103). -/
def Reg.clkDlinkRetrainCnt : Nat := 0x10108
/-- PWR.DOMAIN_STATE (R78). -/
def Reg.pwrDomainState : Nat := 0x18000
/-- STR.CMD (R61). -/
def Reg.strCmd : Nat := 0x20000
/-- STR.SRC_ADDR_LO (R60). -/
def Reg.strSrcAddrLo : Nat := 0x20004
/-- STR.SRC_ADDR_HI (R60). -/
def Reg.strSrcAddrHi : Nat := 0x20008
/-- STR.SRC_LEN (R60). -/
def Reg.strSrcLen : Nat := 0x2000C
/-- STR.RESULT (R62). -/
def Reg.strResult : Nat := 0x20010
/-- STR.STATE (R63). -/
def Reg.strState : Nat := 0x20014
/-- STR.ACTIVE_COUNTER_LO (R60). -/
def Reg.strActiveCounterLo : Nat := 0x20018
/-- STR.ACTIVE_COUNTER_HI (R60). -/
def Reg.strActiveCounterHi : Nat := 0x2001C
/-- STR.ACTIVE_DIGEST (R60). -/
def Reg.strActiveDigest (i : Nat) : Nat := 0x20020 + 4 * i
/-- RFC.CTRL (R135). -/
def Reg.rfcCtrl (i : Nat) : Nat := 0x40000 + 0x4000 * i
/-- RFC.STATUS (R136). -/
def Reg.rfcStatus (i : Nat) : Nat := 0x40004 + 0x4000 * i
/-- RFC.TIMING (R137). -/
def Reg.rfcTiming (i : Nat) : Nat := 0x40008 + 0x4000 * i
/-- RFC.COEX (R138). -/
def Reg.rfcCoex (i : Nat) : Nat := 0x4000C + 0x4000 * i
/-- RFC.RECAL (R134). -/
def Reg.rfcRecal (i : Nat) : Nat := 0x40010 + 0x4000 * i
/-- RFC.CENTRE_FREQ (R134). -/
def Reg.rfcCentreFreq (i j : Nat) : Nat := 0x40020 + 0x4000 * i + 0x10 * j
/-- RFC.CENTRE_CAL (R134). -/
def Reg.rfcCentreCal (i j : Nat) : Nat := 0x40024 + 0x4000 * i + 0x10 * j
/-- RFC.CENTRE_STATE (R134). -/
def Reg.rfcCentreState (i j : Nat) : Nat := 0x40028 + 0x4000 * i + 0x10 * j
/-- RFC.PDET (R134). -/
def Reg.rfcPdet (i : Nat) : Nat := 0x40060 + 0x4000 * i
/-- RFC.TX_TIMEOUT (R134). -/
def Reg.rfcTxTimeout (i : Nat) : Nat := 0x40064 + 0x4000 * i
/-- RFC.WIN_SEL (R134). -/
def Reg.rfcWinSel (i : Nat) : Nat := 0x40070 + 0x4000 * i
/-- RFC.WIN_DATA (R113). -/
def Reg.rfcWinData (i : Nat) : Nat := 0x40074 + 0x4000 * i
/-- RFC.PROF_COUNTER_LO (R134). -/
def Reg.rfcProfCounterLo (i : Nat) : Nat := 0x40080 + 0x4000 * i
/-- RFC.PROF_COUNTER_HI (R134). -/
def Reg.rfcProfCounterHi (i : Nat) : Nat := 0x40084 + 0x4000 * i
/-- RFC.PROF_STATUS (R134). -/
def Reg.rfcProfStatus (i : Nat) : Nat := 0x40088 + 0x4000 * i
/-- RFC.TX_LATE_CNT (R134). -/
def Reg.rfcTxLateCnt (i : Nat) : Nat := 0x40090 + 0x4000 * i
/-- RFC.TX_CLAMP_CNT (R134). -/
def Reg.rfcTxClampCnt (i : Nat) : Nat := 0x40094 + 0x4000 * i
/-- RFC.TX_BLANK_CNT (R134). -/
def Reg.rfcTxBlankCnt (i : Nat) : Nat := 0x40098 + 0x4000 * i
/-- RFC.COEX_DENY_CNT (R134). -/
def Reg.rfcCoexDenyCnt (i : Nat) : Nat := 0x4009C + 0x4000 * i
/-- RFC.COEX_ABORT_CNT (R134). -/
def Reg.rfcCoexAbortCnt (i : Nat) : Nat := 0x400A0 + 0x4000 * i
/-- RFC.RECAL_CNT (R134). -/
def Reg.rfcRecalCnt (i : Nat) : Nat := 0x400A4 + 0x4000 * i
/-- RFC.RECAL_DEFER_CNT (R134). -/
def Reg.rfcRecalDeferCnt (i : Nat) : Nat := 0x400A8 + 0x4000 * i
/-- RFC.LOCK_LOST_CNT (R134). -/
def Reg.rfcLockLostCnt (i : Nat) : Nat := 0x400AC + 0x4000 * i
/-- RXP.GAIN_CTRL (R165). -/
def Reg.rxpGainCtrl (i : Nat) : Nat := 0x80000 + 0x10000 * i
/-- RXP.GAIN_AT_SEC (R164). -/
def Reg.rxpGainAtSec (i : Nat) : Nat := 0x80004 + 0x10000 * i
/-- RXP.GAIN_AT_NS (R164). -/
def Reg.rxpGainAtNs (i : Nat) : Nat := 0x80008 + 0x10000 * i
/-- RXP.GAIN_STATUS (R164). -/
def Reg.rxpGainStatus (i : Nat) : Nat := 0x8000C + 0x10000 * i
/-- RXP.HIST_CTRL (R164). -/
def Reg.rxpHistCtrl (i : Nat) : Nat := 0x80020 + 0x10000 * i
/-- RXP.HIST_SPAN_US (R164). -/
def Reg.rxpHistSpanUs (i : Nat) : Nat := 0x80024 + 0x10000 * i
/-- RXP.CLIP_I_SNAP (R164). -/
def Reg.rxpClipISnap (i : Nat) : Nat := 0x80028 + 0x10000 * i
/-- RXP.CLIP_Q_SNAP (R164). -/
def Reg.rxpClipQSnap (i : Nat) : Nat := 0x8002C + 0x10000 * i
/-- RXP.HIST (R164). -/
def Reg.rxpHist (i j : Nat) : Nat := 0x80100 + 0x10000 * i + 4 * j
/-- RXP.BIN_PWR (R164). -/
def Reg.rxpBinPwr (i j : Nat) : Nat := 0x81000 + 0x10000 * i + 4 * j
/-- RXP.SLOT_STATUS (R166). -/
def Reg.rxpSlotStatus (i j : Nat) : Nat := 0x88000 + 0x10000 * i + 0x40 * j
/-- RXP.SLOT_DETECT_CNT (R166). -/
def Reg.rxpSlotDetectCnt (i j : Nat) : Nat := 0x88004 + 0x10000 * i + 0x40 * j
/-- RXP.SLOT_DETECT_MERGED_CNT (R166). -/
def Reg.rxpSlotDetectMergedCnt (i j : Nat) : Nat := 0x88008 + 0x10000 * i + 0x40 * j
/-- RXP.SLOT_SUPPRESSED_CNT (R166). -/
def Reg.rxpSlotSuppressedCnt (i j : Nat) : Nat := 0x8800C + 0x10000 * i + 0x40 * j
/-- RXP.SLOT_ALLOC_CNT (R166). -/
def Reg.rxpSlotAllocCnt (i j : Nat) : Nat := 0x88010 + 0x10000 * i + 0x40 * j
/-- RXP.SLOT_HEADER_FAIL_CNT (R166). -/
def Reg.rxpSlotHeaderFailCnt (i j : Nat) : Nat := 0x88014 + 0x10000 * i + 0x40 * j
/-- RXP.SLOT_FCS_FAIL_CNT (R166). -/
def Reg.rxpSlotFcsFailCnt (i j : Nat) : Nat := 0x88018 + 0x10000 * i + 0x40 * j
/-- RXP.SLOT_FRAME_OK_CNT (R166). -/
def Reg.rxpSlotFrameOkCnt (i j : Nat) : Nat := 0x8801C + 0x10000 * i + 0x40 * j
/-- RXP.SLOT_CAPTURE_CNT (R166). -/
def Reg.rxpSlotCaptureCnt (i j : Nat) : Nat := 0x88020 + 0x10000 * i + 0x40 * j
/-- RXP.SLOT_OVERLAPPED_CNT (R166). -/
def Reg.rxpSlotOverlappedCnt (i j : Nat) : Nat := 0x88024 + 0x10000 * i + 0x40 * j
/-- RXP.SLOT_PREEMPT_LOSS_CNT (R166). -/
def Reg.rxpSlotPreemptLossCnt (i j : Nat) : Nat := 0x88028 + 0x10000 * i + 0x40 * j
/-- RXP.SLOT_STARVED_CNT (R166). -/
def Reg.rxpSlotStarvedCnt (i j : Nat) : Nat := 0x8802C + 0x10000 * i + 0x40 * j
/-- RXP.SLOT_EXPIRED_CNT (R166). -/
def Reg.rxpSlotExpiredCnt (i j : Nat) : Nat := 0x88030 + 0x10000 * i + 0x40 * j
/-- RXP.SLOT_DROPPED_CNT (R166). -/
def Reg.rxpSlotDroppedCnt (i j : Nat) : Nat := 0x88034 + 0x10000 * i + 0x40 * j
/-- RXP.SLOT_FLAGGED_CNT (R166). -/
def Reg.rxpSlotFlaggedCnt (i j : Nat) : Nat := 0x88038 + 0x10000 * i + 0x40 * j
/-- RXP.TROUBLE (R168). -/
def Reg.rxpTrouble : Nat := 0xB0000
/-- RXP.LANES (R167). -/
def Reg.rxpLanes (i : Nat) : Nat := 0xB0010 + 8 * i
/-- RXP.ALLOC (R167). -/
def Reg.rxpAlloc (i : Nat) : Nat := 0xB0014 + 8 * i
/-- RXP.LANE_STATE (R167). -/
def Reg.rxpLaneState (i : Nat) : Nat := 0xB1000 + 4 * i
/-- RXP.CLUSTER_STATUS (R167). -/
def Reg.rxpClusterStatus (i : Nat) : Nat := 0xB2000 + 0x10 * i
/-- RXP.CLUSTER_OOS (R167). -/
def Reg.rxpClusterOos (i : Nat) : Nat := 0xB2004 + 0x10 * i
/-- RXP.CLUSTER_LOSS_CNT (R167). -/
def Reg.rxpClusterLossCnt (i : Nat) : Nat := 0xB2008 + 0x10 * i
/-- TXP.LOAD_CTRL (R203). -/
def Reg.txpLoadCtrl (i : Nat) : Nat := 0xC0000 + 0x10000 * i
/-- TXP.LOAD_REQ (R204). -/
def Reg.txpLoadReq (i : Nat) : Nat := 0xC0004 + 0x10000 * i
/-- TXP.LOAD_RATE_STEP (R204). -/
def Reg.txpLoadRateStep (i : Nat) : Nat := 0xC0008 + 0x10000 * i
/-- TXP.CFO_CTRL (R204). -/
def Reg.txpCfoCtrl (i : Nat) : Nat := 0xC000C + 0x10000 * i
/-- TXP.TS_TRIM_RX (R202). -/
def Reg.txpTsTrimRx (i : Nat) : Nat := 0xC0010 + 0x10000 * i
/-- TXP.TS_TRIM_TX (R202). -/
def Reg.txpTsTrimTx (i : Nat) : Nat := 0xC0014 + 0x10000 * i
/-- TXP.FSK_CTRL (R204). -/
def Reg.txpFskCtrl (i : Nat) : Nat := 0xC0018 + 0x10000 * i
/-- TXP.MAP_STATUS (R202). -/
def Reg.txpMapStatus (i : Nat) : Nat := 0xC0020 + 0x10000 * i
/-- TXP.MAP_WIN_SEL (R202). -/
def Reg.txpMapWinSel (i : Nat) : Nat := 0xC0030 + 0x10000 * i
/-- TXP.MAP_WIN_DATA (R202). -/
def Reg.txpMapWinData (i : Nat) : Nat := 0xC0034 + 0x10000 * i
/-- TXP.MAP_CHANGE_CNT (R202). -/
def Reg.txpMapChangeCnt (i : Nat) : Nat := 0xC0040 + 0x10000 * i
/-- TXP.MAP_NONE_CNT (R202). -/
def Reg.txpMapNoneCnt (i : Nat) : Nat := 0xC0044 + 0x10000 * i
/-- TXP.MAP_DEFER_CNT (R202). -/
def Reg.txpMapDeferCnt (i : Nat) : Nat := 0xC0048 + 0x10000 * i
/-- TXP.SYNC_FAIL_CNT (R202). -/
def Reg.txpSyncFailCnt (i : Nat) : Nat := 0xC004C + 0x10000 * i
/-- TXP.SYNC_DL_WORD_CNT (R202). -/
def Reg.txpSyncDlWordCnt (i : Nat) : Nat := 0xC0050 + 0x10000 * i
/-- TXP.HDR_UNSUP_CNT (R202). -/
def Reg.txpHdrUnsupCnt (i : Nat) : Nat := 0xC0054 + 0x10000 * i
/-- TXP.CFO_RANGE_CNT (R202). -/
def Reg.txpCfoRangeCnt (i : Nat) : Nat := 0xC0058 + 0x10000 * i
/-- TXP.CFO_JUMP_CNT (R202). -/
def Reg.txpCfoJumpCnt (i : Nat) : Nat := 0xC005C + 0x10000 * i
/-- MAC.ACK_CTRL (R241). -/
def Reg.macAckCtrl (i : Nat) : Nat := 0x100000 + 0x10000 * i
/-- MAC.DUTY_USED (R239). -/
def Reg.macDutyUsed (i j : Nat) : Nat := 0x100010 + 0x10000 * i + 8 * j
/-- MAC.DUTY_REFUSED_CNT (R239). -/
def Reg.macDutyRefusedCnt (i j : Nat) : Nat := 0x100014 + 0x10000 * i + 8 * j
/-- MAC.BEACON_STATUS (R239). -/
def Reg.macBeaconStatus (i : Nat) : Nat := 0x100100 + 0x10000 * i
/-- MAC.BEACON_MASK (R239). -/
def Reg.macBeaconMask (i j : Nat) : Nat := 0x100140 + 0x10000 * i + 4 * j
/-- MAC.CCA_BUSY_CNT (R239). -/
def Reg.macCcaBusyCnt (i : Nat) : Nat := 0x100200 + 0x10000 * i
/-- MAC.CHANNEL_BUSY_CNT (R239). -/
def Reg.macChannelBusyCnt (i : Nat) : Nat := 0x100204 + 0x10000 * i
/-- MAC.ACK_SENT_CNT (R239). -/
def Reg.macAckSentCnt (i : Nat) : Nat := 0x100208 + 0x10000 * i
/-- MAC.ACK_MISSED_CNT (R239). -/
def Reg.macAckMissedCnt (i : Nat) : Nat := 0x10020C + 0x10000 * i
/-- MAC.DUP_CNT (R239). -/
def Reg.macDupCnt (i : Nat) : Nat := 0x100210 + 0x10000 * i
/-- MAC.REPLAY_CNT (R239). -/
def Reg.macReplayCnt (i : Nat) : Nat := 0x100214 + 0x10000 * i
/-- MAC.NO_ACK_CNT (R239). -/
def Reg.macNoAckCnt (i : Nat) : Nat := 0x100218 + 0x10000 * i
/-- MAC.BEACON_SENT_CNT (R239). -/
def Reg.macBeaconSentCnt (i : Nat) : Nat := 0x10021C + 0x10000 * i
/-- MAC.BEACON_SKIP_CNT (R239). -/
def Reg.macBeaconSkipCnt (i : Nat) : Nat := 0x100220 + 0x10000 * i
/-- MAC.SELF_EUI_LO (R240). -/
def Reg.macSelfEuiLo : Nat := 0x130000
/-- MAC.SELF_EUI_HI (R240). -/
def Reg.macSelfEuiHi : Nat := 0x130004
/-- MAC.SELF_ADDR (R240). -/
def Reg.macSelfAddr : Nat := 0x130008
/-- MAC.RDV_OUI (R240). -/
def Reg.macRdvOui : Nat := 0x13000C
/-- MAC.LOCK (R240). -/
def Reg.macLock : Nat := 0x130010
/-- MAC.TROUBLE (R240). -/
def Reg.macTrouble : Nat := 0x130014
/-- RDV.GUARD (R241). -/
def Reg.rdvGuard (i : Nat) : Nat := 0x140000 + 0x10000 * i
/-- RDV.DRIFT_CTRL (R241). -/
def Reg.rdvDriftCtrl (i : Nat) : Nat := 0x140004 + 0x10000 * i
/-- RDV.STROBE_CTRL (R241). -/
def Reg.rdvStrobeCtrl (i : Nat) : Nat := 0x140008 + 0x10000 * i
/-- RDV.LEAD (R241). -/
def Reg.rdvLead (i : Nat) : Nat := 0x14000C + 0x10000 * i
/-- RDV.POSTACK (R241). -/
def Reg.rdvPostack (i : Nat) : Nat := 0x140010 + 0x10000 * i
/-- RDV.SHORT_CNT (R242). -/
def Reg.rdvShortCnt (i : Nat) : Nat := 0x140040 + 0x10000 * i
/-- RDV.STROBE_CNT (R242). -/
def Reg.rdvStrobeCnt (i : Nat) : Nat := 0x140044 + 0x10000 * i
/-- RDV.STROBE_COPY_CNT (R242). -/
def Reg.rdvStrobeCopyCnt (i : Nat) : Nat := 0x140048 + 0x10000 * i
/-- RDV.LONG_CNT (R242). -/
def Reg.rdvLongCnt (i : Nat) : Nat := 0x14004C + 0x10000 * i
/-- RDV.PARKED_CNT (R242). -/
def Reg.rdvParkedCnt (i : Nat) : Nat := 0x140050 + 0x10000 * i
/-- RDV.POSTACK_CNT (R242). -/
def Reg.rdvPostackCnt (i : Nat) : Nat := 0x140054 + 0x10000 * i
/-- RDV.WINDOW_LATE_CNT (R242). -/
def Reg.rdvWindowLateCnt (i : Nat) : Nat := 0x140058 + 0x10000 * i
/-- RDV.LOST_CNT (R242). -/
def Reg.rdvLostCnt (i : Nat) : Nat := 0x14005C + 0x10000 * i
/-- RDV.FIX_CNT (R242). -/
def Reg.rdvFixCnt (i : Nat) : Nat := 0x140060 + 0x10000 * i
/-- RDV.FIX_AMBIG_CNT (R242). -/
def Reg.rdvFixAmbigCnt (i : Nat) : Nat := 0x140064 + 0x10000 * i
/-- RDV.DRIFT_JUMP_CNT (R242). -/
def Reg.rdvDriftJumpCnt (i : Nat) : Nat := 0x140068 + 0x10000 * i
/-- RDV.IE_BAD_CNT (R242). -/
def Reg.rdvIeBadCnt (i : Nat) : Nat := 0x14006C + 0x10000 * i
/-- RDV.CAL_STATUS (R242). -/
def Reg.rdvCalStatus : Nat := 0x170000
/-- RDV.CAL_HWM (R242). -/
def Reg.rdvCalHwm : Nat := 0x170004
/-- RDV.CAL_FULL_CNT (R242). -/
def Reg.rdvCalFullCnt : Nat := 0x170008
/-- RDV.TROUBLE (R242). -/
def Reg.rdvTrouble : Nat := 0x17000C
/-- FWD.LEARN_CTRL (R274). -/
def Reg.fwdLearnCtrl : Nat := 0x180000
/-- FWD.ROUTE_CTRL (R274). -/
def Reg.fwdRouteCtrl : Nat := 0x180004
/-- FWD.FLOOD_CTRL (R274). -/
def Reg.fwdFloodCtrl : Nat := 0x180008
/-- FWD.FLOOD_SLOT (R273). -/
def Reg.fwdFloodSlot : Nat := 0x18000C
/-- FWD.WIN_PAGE (R273). -/
def Reg.fwdWinPage : Nat := 0x180010
/-- FWD.TABLE_WIN (R273). -/
def Reg.fwdTableWin : Nat := 0x180014
/-- FWD.CACHE_RESIDENT (R273). -/
def Reg.fwdCacheResident : Nat := 0x180018
/-- FWD.CACHE_PINNED (R273). -/
def Reg.fwdCachePinned : Nat := 0x18001C
/-- FWD.TROUBLE (R275). -/
def Reg.fwdTrouble : Nat := 0x180020
/-- FWD.UNKNOWN_SRC_CNT (R273). -/
def Reg.fwdUnknownSrcCnt : Nat := 0x180040
/-- FWD.NO_ROUTE_CNT (R273). -/
def Reg.fwdNoRouteCnt : Nat := 0x180044
/-- FWD.FLOOD_CNT (R273). -/
def Reg.fwdFloodCnt : Nat := 0x180048
/-- FWD.NO_NODE_CNT (R273). -/
def Reg.fwdNoNodeCnt : Nat := 0x18004C
/-- FWD.CACHE_MISS_CNT (R273). -/
def Reg.fwdCacheMissCnt : Nat := 0x180050
/-- FWD.CRC_FAIL_CNT (R273). -/
def Reg.fwdCrcFailCnt : Nat := 0x180054
/-- FWD.IPHC_FAIL_CNT (R273). -/
def Reg.fwdIphcFailCnt : Nat := 0x180058
/-- FWD.FASTPATH_TO_HOST_CNT (R273). -/
def Reg.fwdFastpathToHostCnt : Nat := 0x18005C
/-- FWD.LOOKUP_CNT (R273). -/
def Reg.fwdLookupCnt (i : Nat) : Nat := 0x180100 + 0x40 * i
/-- FWD.MISS_CNT (R273). -/
def Reg.fwdMissCnt (i : Nat) : Nat := 0x180104 + 0x40 * i
/-- FWD.RETRY_CNT (R273). -/
def Reg.fwdRetryCnt (i : Nat) : Nat := 0x180108 + 0x40 * i
/-- FWD.RACE_CNT (R273). -/
def Reg.fwdRaceCnt (i : Nat) : Nat := 0x18010C + 0x40 * i
/-- FWD.INSERT_CNT (R273). -/
def Reg.fwdInsertCnt (i : Nat) : Nat := 0x180110 + 0x40 * i
/-- FWD.INSERT_FAIL_CNT (R273). -/
def Reg.fwdInsertFailCnt (i : Nat) : Nat := 0x180114 + 0x40 * i
/-- FWD.RELOCATE_CNT (R273). -/
def Reg.fwdRelocateCnt (i : Nat) : Nat := 0x180118 + 0x40 * i
/-- FWD.ENTRIES (R273). -/
def Reg.fwdEntries (i : Nat) : Nat := 0x18011C + 0x40 * i
/-- FWD.SPILL_ENTRIES (R273). -/
def Reg.fwdSpillEntries (i : Nat) : Nat := 0x180120 + 0x40 * i
/-- FWD.CONTESTED_CNT (R273). -/
def Reg.fwdContestedCnt (i : Nat) : Nat := 0x180124 + 0x40 * i
/-- FWD.ROUTE_CHANGE_CNT (R273). -/
def Reg.fwdRouteChangeCnt (i : Nat) : Nat := 0x180128 + 0x40 * i
/-- FWD.FILTER_FP_CNT (R273). -/
def Reg.fwdFilterFpCnt : Nat := 0x1801E4
/-- FWD.REBUILD_CNT (R273). -/
def Reg.fwdRebuildCnt : Nat := 0x1801E8
/-- FWD.PFX_LEN_PRESENT (R273). -/
def Reg.fwdPfxLenPresent (i : Nat) : Nat := 0x180400 + 4 * i
/-- FWD.PFX_REBUILD (R273). -/
def Reg.fwdPfxRebuild : Nat := 0x180420
/-- FWD.CTX_PREFIX (R273). -/
def Reg.fwdCtxPrefix (i j : Nat) : Nat := 0x181000 + 0x20 * i + 4 * j
/-- FWD.CTX_WORD4 (R273). -/
def Reg.fwdCtxWord4 (i : Nat) : Nat := 0x181010 + 0x20 * i
/-- FWD.CTX_RESERVED (R273). -/
def Reg.fwdCtxReserved (i j : Nat) : Nat := 0x181014 + 0x20 * i + 4 * j
/-- FWD.CMD (R270). -/
def Reg.fwdCmd (i : Nat) : Nat := 0x190000 + 0x400 * i
/-- FWD.STATUS (R271). -/
def Reg.fwdStatus (i : Nat) : Nat := 0x190004 + 0x400 * i
/-- FWD.ARG (R270). -/
def Reg.fwdArg (i : Nat) : Nat := 0x190008 + 0x400 * i
/-- FWD.MASK (R270). -/
def Reg.fwdMask (i : Nat) : Nat := 0x19000C + 0x400 * i
/-- FWD.DATA (R270). -/
def Reg.fwdData (i j : Nat) : Nat := 0x190100 + 0x400 * i + 4 * j
/-- FWD.SUP.CMD (R270). -/
def Reg.fwdSupCmd (i : Nat) : Nat := 0x1A0000 + 0x400 * i
/-- FWD.SUP.STATUS (R271). -/
def Reg.fwdSupStatus (i : Nat) : Nat := 0x1A0004 + 0x400 * i
/-- FWD.SUP.ARG (R270). -/
def Reg.fwdSupArg (i : Nat) : Nat := 0x1A0008 + 0x400 * i
/-- FWD.SUP.MASK (R270). -/
def Reg.fwdSupMask (i : Nat) : Nat := 0x1A000C + 0x400 * i
/-- FWD.SUP.DATA (R270). -/
def Reg.fwdSupData (i j : Nat) : Nat := 0x1A0100 + 0x400 * i + 4 * j
/-- JOB.STATUS (R280). -/
def Reg.jobStatus : Nat := 0x1C0000
/-- JOB.RESERVE (R280). -/
def Reg.jobReserve : Nat := 0x1C0004
/-- JOB.HWM (R280). -/
def Reg.jobHwm : Nat := 0x1C0008
/-- JOB.TROUBLE (R280). -/
def Reg.jobTrouble : Nat := 0x1C000C
/-- JOB.GROUP_STATUS (R280). -/
def Reg.jobGroupStatus (i : Nat) : Nat := 0x1C0010 + 4 * i
/-- JOB.GROUP_SERVED_CNT (R280). -/
def Reg.jobGroupServedCnt (i : Nat) : Nat := 0x1C0050 + 4 * i
/-- JOB.RX_DROP_CNT (R280). -/
def Reg.jobRxDropCnt : Nat := 0x1C0100
/-- HIF.STEER (R301). -/
def Reg.hifSteer (i : Nat) : Nat := 0x200000 + 4 * i
/-- HIF.STEER_MISC (R301). -/
def Reg.hifSteerMisc : Nat := 0x20000C
/-- HIF.STEER_DROP_CNT (R301). -/
def Reg.hifSteerDropCnt : Nat := 0x200010
/-- HIF.HOST_SLEEP (R301). -/
def Reg.hifHostSleep : Nat := 0x200020
/-- HIF.WAKE_RINGS (R301). -/
def Reg.hifWakeRings : Nat := 0x200024
/-- HIF.PANTRY_CTRL (R301). -/
def Reg.hifPantryCtrl : Nat := 0x200030
/-- HIF.PANTRY_STATUS (R301). -/
def Reg.hifPantryStatus : Nat := 0x200034
/-- HIF.PANTRY_DROP_CNT (R301). -/
def Reg.hifPantryDropCnt : Nat := 0x200038
/-- HIF.ETH_PAUSE (R301). -/
def Reg.hifEthPause : Nat := 0x200040
/-- HIF.ETH_CTRL (R301). -/
def Reg.hifEthCtrl : Nat := 0x200044
/-- HIF.ETH_GW_MAC_LO (R301). -/
def Reg.hifEthGwMacLo : Nat := 0x200048
/-- HIF.ETH_GW_MAC_HI (R301). -/
def Reg.hifEthGwMacHi : Nat := 0x20004C
/-- HIF.ETH_RX_DROP_CNT (R301). -/
def Reg.hifEthRxDropCnt (i : Nat) : Nat := 0x200050 + 4 * i
/-- HIF.TROUBLE (R301). -/
def Reg.hifTrouble : Nat := 0x200060
/-- HIF.DELIVERY.BASE_LO (R302). -/
def Reg.hifDeliveryBaseLo (i : Nat) : Nat := 0x201000 + 0x40 * i
/-- HIF.DELIVERY.BASE_HI (R302). -/
def Reg.hifDeliveryBaseHi (i : Nat) : Nat := 0x201004 + 0x40 * i
/-- HIF.DELIVERY.HEAD (R302). -/
def Reg.hifDeliveryHead (i : Nat) : Nat := 0x201008 + 0x40 * i
/-- HIF.DELIVERY.TAIL (R302). -/
def Reg.hifDeliveryTail (i : Nat) : Nat := 0x20100C + 0x40 * i
/-- HIF.DELIVERY.CTRL (R302). -/
def Reg.hifDeliveryCtrl (i : Nat) : Nat := 0x201010 + 0x40 * i
/-- HIF.DELIVERY.STATUS (R302). -/
def Reg.hifDeliveryStatus (i : Nat) : Nat := 0x201014 + 0x40 * i
/-- HIF.DELIVERY.HELD (R302). -/
def Reg.hifDeliveryHeld (i : Nat) : Nat := 0x201018 + 0x40 * i
/-- HIF.DELIVERY.HOLD_MAX (R302). -/
def Reg.hifDeliveryHoldMax (i : Nat) : Nat := 0x20101C + 0x40 * i
/-- HIF.DELIVERY.RECORD_CNT (R302). -/
def Reg.hifDeliveryRecordCnt (i : Nat) : Nat := 0x201020 + 0x40 * i
/-- HIF.DELIVERY.DROP_CNT (R302). -/
def Reg.hifDeliveryDropCnt (i : Nat) : Nat := 0x201024 + 0x40 * i
/-- HIF.DELIVERY.IRQ_CNT (R302). -/
def Reg.hifDeliveryIrqCnt (i : Nat) : Nat := 0x201028 + 0x40 * i
/-- HIF.SUBMISSION.BASE_LO (R302). -/
def Reg.hifSubmissionBaseLo (i : Nat) : Nat := 0x201800 + 0x40 * i
/-- HIF.SUBMISSION.BASE_HI (R302). -/
def Reg.hifSubmissionBaseHi (i : Nat) : Nat := 0x201804 + 0x40 * i
/-- HIF.SUBMISSION.HEAD (R302). -/
def Reg.hifSubmissionHead (i : Nat) : Nat := 0x201808 + 0x40 * i
/-- HIF.SUBMISSION.TAIL (R302). -/
def Reg.hifSubmissionTail (i : Nat) : Nat := 0x20180C + 0x40 * i
/-- HIF.SUBMISSION.CTRL (R302). -/
def Reg.hifSubmissionCtrl (i : Nat) : Nat := 0x201810 + 0x40 * i
/-- HIF.SUBMISSION.STATUS (R302). -/
def Reg.hifSubmissionStatus (i : Nat) : Nat := 0x201814 + 0x40 * i
/-- HIF.SUBMISSION.HELD (R302). -/
def Reg.hifSubmissionHeld (i : Nat) : Nat := 0x201818 + 0x40 * i
/-- HIF.SUBMISSION.HOLD_MAX (R302). -/
def Reg.hifSubmissionHoldMax (i : Nat) : Nat := 0x20181C + 0x40 * i
/-- HIF.SUBMISSION.RECORD_CNT (R302). -/
def Reg.hifSubmissionRecordCnt (i : Nat) : Nat := 0x201820 + 0x40 * i
/-- HIF.SUBMISSION.DROP_CNT (R302). -/
def Reg.hifSubmissionDropCnt (i : Nat) : Nat := 0x201824 + 0x40 * i
/-- HIF.SUBMISSION.IRQ_CNT (R302). -/
def Reg.hifSubmissionIrqCnt (i : Nat) : Nat := 0x201828 + 0x40 * i
/-- HIF.COMMAND.BASE_LO (R302). -/
def Reg.hifCommandBaseLo (i : Nat) : Nat := 0x202000 + 0x40 * i
/-- HIF.COMMAND.BASE_HI (R302). -/
def Reg.hifCommandBaseHi (i : Nat) : Nat := 0x202004 + 0x40 * i
/-- HIF.COMMAND.HEAD (R302). -/
def Reg.hifCommandHead (i : Nat) : Nat := 0x202008 + 0x40 * i
/-- HIF.COMMAND.TAIL (R302). -/
def Reg.hifCommandTail (i : Nat) : Nat := 0x20200C + 0x40 * i
/-- HIF.COMMAND.CTRL (R302). -/
def Reg.hifCommandCtrl (i : Nat) : Nat := 0x202010 + 0x40 * i
/-- HIF.COMMAND.STATUS (R302). -/
def Reg.hifCommandStatus (i : Nat) : Nat := 0x202014 + 0x40 * i
/-- HIF.COMMAND.HELD (R302). -/
def Reg.hifCommandHeld (i : Nat) : Nat := 0x202018 + 0x40 * i
/-- HIF.COMMAND.HOLD_MAX (R302). -/
def Reg.hifCommandHoldMax (i : Nat) : Nat := 0x20201C + 0x40 * i
/-- HIF.COMMAND.RECORD_CNT (R302). -/
def Reg.hifCommandRecordCnt (i : Nat) : Nat := 0x202020 + 0x40 * i
/-- HIF.COMMAND.DROP_CNT (R302). -/
def Reg.hifCommandDropCnt (i : Nat) : Nat := 0x202024 + 0x40 * i
/-- HIF.COMMAND.IRQ_CNT (R302). -/
def Reg.hifCommandIrqCnt (i : Nat) : Nat := 0x202028 + 0x40 * i
/-- DLS.REGION_CTRL (R324). -/
def Reg.dlsRegionCtrl (i : Nat) : Nat := 0x240000 + 0x10000 * i
/-- DLS.VTIME (R324). -/
def Reg.dlsVtime (i : Nat) : Nat := 0x240004 + 0x10000 * i
/-- DLS.STATUS (R324). -/
def Reg.dlsStatus (i : Nat) : Nat := 0x240008 + 0x10000 * i
/-- DLS.SB_TOKENS (R324). -/
def Reg.dlsSbTokens (i j : Nat) : Nat := 0x240010 + 0x10000 * i + 8 * j
/-- DLS.SB_HELD_CNT (R324). -/
def Reg.dlsSbHeldCnt (i j : Nat) : Nat := 0x240014 + 0x10000 * i + 8 * j
/-- DLS.HIST_SEL (R324). -/
def Reg.dlsHistSel (i : Nat) : Nat := 0x240100 + 0x10000 * i
/-- DLS.HIST_DATA (R324). -/
def Reg.dlsHistData (i : Nat) : Nat := 0x240104 + 0x10000 * i
/-- DLS.HIST_CTRL (R324). -/
def Reg.dlsHistCtrl (i : Nat) : Nat := 0x240108 + 0x10000 * i
/-- DLS.SAMPLE_CNT (R324). -/
def Reg.dlsSampleCnt (i : Nat) : Nat := 0x24010C + 0x10000 * i
/-- DLS.ASSIGN_CNT (R324). -/
def Reg.dlsAssignCnt (i : Nat) : Nat := 0x240200 + 0x10000 * i
/-- DLS.SAFETY_FIRST_CNT (R324). -/
def Reg.dlsSafetyFirstCnt (i : Nat) : Nat := 0x240204 + 0x10000 * i
/-- DLS.MIN_FIRST_CNT (R324). -/
def Reg.dlsMinFirstCnt (i : Nat) : Nat := 0x240208 + 0x10000 * i
/-- DLS.RESTAMP_CNT (R324). -/
def Reg.dlsRestampCnt (i : Nat) : Nat := 0x24020C + 0x10000 * i
/-- DLS.TAG_CLAMP_CNT (R324). -/
def Reg.dlsTagClampCnt (i : Nat) : Nat := 0x240210 + 0x10000 * i
/-- DLS.EXPIRED_CNT (R324). -/
def Reg.dlsExpiredCnt (i : Nat) : Nat := 0x240214 + 0x10000 * i
/-- DLS.QUEUE_FULL_CNT (R324). -/
def Reg.dlsQueueFullCnt (i : Nat) : Nat := 0x240218 + 0x10000 * i
/-- DLS.NO_ACK_FINAL_CNT (R324). -/
def Reg.dlsNoAckFinalCnt (i : Nat) : Nat := 0x24021C + 0x10000 * i
/-- DLS.DISCARD_CNT (R324). -/
def Reg.dlsDiscardCnt (i : Nat) : Nat := 0x240220 + 0x10000 * i
/-- DLS.CLASS_STATUS (R326). -/
def Reg.dlsClassStatus (i j : Nat) : Nat := 0x248000 + 0x10000 * i + 0x20 * j
/-- DLS.CLASS_LIFETIME (R325). -/
def Reg.dlsClassLifetime (i j : Nat) : Nat := 0x248004 + 0x10000 * i + 0x20 * j
/-- DLS.CLASS_QUEUED (R325). -/
def Reg.dlsClassQueued (i j : Nat) : Nat := 0x248008 + 0x10000 * i + 0x20 * j
/-- DLS.CLASS_LAST_FINISH (R325). -/
def Reg.dlsClassLastFinish (i j : Nat) : Nat := 0x24800C + 0x10000 * i + 0x20 * j
/-- DLS.CLASS_SHAPE_TOKENS (R325). -/
def Reg.dlsClassShapeTokens (i j : Nat) : Nat := 0x248010 + 0x10000 * i + 0x20 * j
/-- DLS.CLASS_MIN_TOKENS (R325). -/
def Reg.dlsClassMinTokens (i j : Nat) : Nat := 0x248014 + 0x10000 * i + 0x20 * j
/-- DLS.CLASS_BROKEN_CNT (R325). -/
def Reg.dlsClassBrokenCnt (i j : Nat) : Nat := 0x248018 + 0x10000 * i + 0x20 * j
/-- DLS.CLASS_SENT_US (R325). -/
def Reg.dlsClassSentUs (i j : Nat) : Nat := 0x24801C + 0x10000 * i + 0x20 * j
/-- DLS.TROUBLE (R328). -/
def Reg.dlsTrouble : Nat := 0x270000
/-- DLS.POOL_WAIT_CNT (R327). -/
def Reg.dlsPoolWaitCnt : Nat := 0x270004
/-- DLS.POOL_USED (R327). -/
def Reg.dlsPoolUsed (i : Nat) : Nat := 0x270010 + 4 * i
/-- TSU.CTRL (R357). -/
def Reg.tsuCtrl : Nat := 0x280000
/-- TSU.STATUS (R357). -/
def Reg.tsuStatus : Nat := 0x280004
/-- TSU.INCR_NS (R356). -/
def Reg.tsuIncrNs : Nat := 0x280008
/-- TSU.INCR_FRAC (R356). -/
def Reg.tsuIncrFrac : Nat := 0x28000C
/-- TSU.NOW_NS (R356). -/
def Reg.tsuNowNs : Nat := 0x280010
/-- TSU.NOW_SEC_LO (R356). -/
def Reg.tsuNowSecLo : Nat := 0x280014
/-- TSU.NOW_SEC_HI (R356). -/
def Reg.tsuNowSecHi : Nat := 0x280018
/-- TSU.NOW_FRAC (R356). -/
def Reg.tsuNowFrac : Nat := 0x28001C
/-- TSU.STEP_CTRL (R357). -/
def Reg.tsuStepCtrl : Nat := 0x280020
/-- TSU.STEP_NS (R356). -/
def Reg.tsuStepNs : Nat := 0x280024
/-- TSU.STEP_SEC_LO (R356). -/
def Reg.tsuStepSecLo : Nat := 0x280028
/-- TSU.STEP_SEC_HI (R356). -/
def Reg.tsuStepSecHi : Nat := 0x28002C
/-- TSU.STEP_AT_NS (R356). -/
def Reg.tsuStepAtNs : Nat := 0x280030
/-- TSU.STEP_AT_SEC_LO (R356). -/
def Reg.tsuStepAtSecLo : Nat := 0x280034
/-- TSU.STEP_AT_SEC_HI (R356). -/
def Reg.tsuStepAtSecHi : Nat := 0x280038
/-- TSU.STEP_ACCUM_LO (R356). -/
def Reg.tsuStepAccumLo : Nat := 0x280040
/-- TSU.STEP_ACCUM_HI (R356). -/
def Reg.tsuStepAccumHi : Nat := 0x280044
/-- TSU.STEP_CNT (R356). -/
def Reg.tsuStepCnt : Nat := 0x280048
/-- TSU.ETH_RX_CORR (R339). -/
def Reg.tsuEthRxCorr (i : Nat) : Nat := 0x280100 + 0x20 * i
/-- TSU.ETH_TX_CORR (R339). -/
def Reg.tsuEthTxCorr (i : Nat) : Nat := 0x280104 + 0x20 * i
/-- TSU.PTP_ONESTEP_CNT (R356). -/
def Reg.tsuPtpOnestepCnt (i : Nat) : Nat := 0x280108 + 0x20 * i
/-- TSU.PTP_BAD_CNT (R356). -/
def Reg.tsuPtpBadCnt (i : Nat) : Nat := 0x28010C + 0x20 * i
/-- TSU.PTP_CTRL (R356). -/
def Reg.tsuPtpCtrl : Nat := 0x280200
/-- TSU.PIN_CTRL (R358). -/
def Reg.tsuPinCtrl (i : Nat) : Nat := 0x281000 + 0x40 * i
/-- TSU.PIN_STATUS (R359). -/
def Reg.tsuPinStatus (i : Nat) : Nat := 0x281004 + 0x40 * i
/-- TSU.PIN_AT_NS (R358). -/
def Reg.tsuPinAtNs (i : Nat) : Nat := 0x281008 + 0x40 * i
/-- TSU.PIN_AT_SEC_LO (R358). -/
def Reg.tsuPinAtSecLo (i : Nat) : Nat := 0x28100C + 0x40 * i
/-- TSU.PIN_AT_SEC_HI (R358). -/
def Reg.tsuPinAtSecHi (i : Nat) : Nat := 0x281010 + 0x40 * i
/-- TSU.PIN_CAP_NS (R358). -/
def Reg.tsuPinCapNs (i : Nat) : Nat := 0x281014 + 0x40 * i
/-- TSU.PIN_CAP_SEC_LO (R358). -/
def Reg.tsuPinCapSecLo (i : Nat) : Nat := 0x281018 + 0x40 * i
/-- TSU.PIN_CAP_SEC_HI (R358). -/
def Reg.tsuPinCapSecHi (i : Nat) : Nat := 0x28101C + 0x40 * i
/-- TSU.SNAP_SEL (R356). -/
def Reg.tsuSnapSel : Nat := 0x282000
/-- TSU.SNAP_DATA (R356). -/
def Reg.tsuSnapData : Nat := 0x282004
/-- TSU.SNAP_STATUS (R356). -/
def Reg.tsuSnapStatus : Nat := 0x282008
/-- TSU.SNAP_START_NS (R356). -/
def Reg.tsuSnapStartNs (i : Nat) : Nat := 0x282010 + 0x10 * i
/-- TSU.SNAP_START_SEC_LO (R356). -/
def Reg.tsuSnapStartSecLo (i : Nat) : Nat := 0x282014 + 0x10 * i
/-- TSU.SNAP_START_SEC_HI (R356). -/
def Reg.tsuSnapStartSecHi (i : Nat) : Nat := 0x282018 + 0x10 * i
/-- TMR.SLOW_RATIO (R360). -/
def Reg.tmrSlowRatio : Nat := 0x290000
/-- TMR.STATUS (R360). -/
def Reg.tmrStatus : Nat := 0x290004
/-- TMR.WAKE_ELAPSED_LO (R360). -/
def Reg.tmrWakeElapsedLo : Nat := 0x290008
/-- TMR.WAKE_ELAPSED_HI (R360). -/
def Reg.tmrWakeElapsedHi : Nat := 0x29000C
/-- TMR.GROUP_ARM (R360). -/
def Reg.tmrGroupArm : Nat := 0x290010
/-- TMR.GROUP_PERIOD_LO (R360). -/
def Reg.tmrGroupPeriodLo : Nat := 0x290014
/-- TMR.GROUP_PERIOD_HI (R360). -/
def Reg.tmrGroupPeriodHi : Nat := 0x290018
/-- TMR.CTRL (R360). -/
def Reg.tmrCtrl (i : Nat) : Nat := 0x290100 + 0x20 * i
/-- TMR.CH_STATUS (R361). -/
def Reg.tmrChStatus (i : Nat) : Nat := 0x290104 + 0x20 * i
/-- TMR.TERMINAL_LO (R360). -/
def Reg.tmrTerminalLo (i : Nat) : Nat := 0x290108 + 0x20 * i
/-- TMR.TERMINAL_HI (R360). -/
def Reg.tmrTerminalHi (i : Nat) : Nat := 0x29010C + 0x20 * i
/-- TMR.COUNT_LO (R360). -/
def Reg.tmrCountLo (i : Nat) : Nat := 0x290110 + 0x20 * i
/-- TMR.COUNT_HI (R360). -/
def Reg.tmrCountHi (i : Nat) : Nat := 0x290114 + 0x20 * i
/-- IRQ.HOST_CLAIM (R376). -/
def Reg.irqHostClaim : Nat := 0x2A0000
/-- IRQ.HOST_EOI (R377). -/
def Reg.irqHostEoi : Nat := 0x2A0004
/-- IRQ.HOST_STACK (R378). -/
def Reg.irqHostStack : Nat := 0x2A0008
/-- IRQ.SUP_CLAIM (R375). -/
def Reg.irqSupClaim : Nat := 0x2A0100
/-- IRQ.SUP_EOI (R375). -/
def Reg.irqSupEoi : Nat := 0x2A0104
/-- IRQ.SUP_STACK (R375). -/
def Reg.irqSupStack : Nat := 0x2A0108
/-- IRQ.TROUBLE (R375). -/
def Reg.irqTrouble : Nat := 0x2A0200
/-- IRQ.CLAIM_EMPTY_CNT (R375). -/
def Reg.irqClaimEmptyCnt : Nat := 0x2A0204
/-- IRQ.MERGE_CNT (R375). -/
def Reg.irqMergeCnt : Nat := 0x2A0208
/-- IRQ.STORM_CNT (R375). -/
def Reg.irqStormCnt : Nat := 0x2A020C
/-- IRQ.EOI_ERR_CNT (R375). -/
def Reg.irqEoiErrCnt : Nat := 0x2A0210
/-- IRQ.SWI (R375). -/
def Reg.irqSwi : Nat := 0x2A0300
/-- IRQ.HEARTH_TIMER (R374). -/
def Reg.irqHearthTimer : Nat := 0x2A0310
/-- IRQ.WAKE_SRC (R375). -/
def Reg.irqWakeSrc : Nat := 0x2A0314
/-- IRQ.WAKE_SEEN (R375). -/
def Reg.irqWakeSeen : Nat := 0x2A0318
/-- IRQ.SRC (R379). -/
def Reg.irqSrc (i : Nat) : Nat := 0x2A1000 + 4 * i
/-- IRQ.PENDING (R375). -/
def Reg.irqPending (i : Nat) : Nat := 0x2A3000 + 4 * i
/-- IRQ.ACTIVE (R375). -/
def Reg.irqActive (i : Nat) : Nat := 0x2A3040 + 4 * i
/-- KEY.STATUS (R418). -/
def Reg.keyStatus : Nat := 0x300000
/-- KEY.TROUBLE (R419). -/
def Reg.keyTrouble : Nat := 0x300004
/-- KEY.COUNTER_LO (R417). -/
def Reg.keyCounterLo : Nat := 0x300008
/-- KEY.COUNTER_HI (R417). -/
def Reg.keyCounterHi : Nat := 0x30000C
/-- KEY.GEN (R417). -/
def Reg.keyGen : Nat := 0x300010
/-- KEY.ROLLOVER (R417). -/
def Reg.keyRollover : Nat := 0x300014
/-- KEY.SWEEP (R417). -/
def Reg.keySweep : Nat := 0x300018
/-- KEY.STALE_LEFT (R417). -/
def Reg.keyStaleLeft : Nat := 0x30001C
/-- KEY.DEV_PUB (R417). -/
def Reg.keyDevPub (i : Nat) : Nat := 0x300040 + 4 * i
/-- KEY.OWNER_PUB (R417). -/
def Reg.keyOwnerPub (i : Nat) : Nat := 0x300080 + 4 * i
/-- KEY.UNWRAP_FAIL_CNT (R417). -/
def Reg.keyUnwrapFailCnt : Nat := 0x300100
/-- KEY.STALE_USE_CNT (R417). -/
def Reg.keyStaleUseCnt : Nat := 0x300104
/-- KEY.REWRAP_CNT (R417). -/
def Reg.keyRewrapCnt : Nat := 0x300108
/-- KEY.REWRAP_ABANDON_CNT (R417). -/
def Reg.keyRewrapAbandonCnt : Nat := 0x30010C
/-- KEY.SEC_REFUSED_CNT (R417). -/
def Reg.keySecRefusedCnt : Nat := 0x300110
/-- KEY.KEY_UNAVAIL_CNT (R417). -/
def Reg.keyKeyUnavailCnt : Nat := 0x300114
/-- KEY.MSG_REFUSED_CNT (R417). -/
def Reg.keyMsgRefusedCnt : Nat := 0x300118
/-- CRY.ENGINE_STATUS (R417). -/
def Reg.cryEngineStatus : Nat := 0x320000
/-- CRY.TROUBLE (R417). -/
def Reg.cryTrouble : Nat := 0x320004
/-- CRY.KAT_CNT (R417). -/
def Reg.cryKatCnt : Nat := 0x320008
/-- UPD.STATUS (R446). -/
def Reg.updStatus : Nat := 0x340000
/-- UPD.LOCK (R445). -/
def Reg.updLock : Nat := 0x340004
/-- UPD.RUNNING_COUNTER_LO (R445). -/
def Reg.updRunningCounterLo : Nat := 0x340008
/-- UPD.RUNNING_COUNTER_HI (R445). -/
def Reg.updRunningCounterHi : Nat := 0x34000C
/-- UPD.FW_MIN_LO (R445). -/
def Reg.updFwMinLo : Nat := 0x340010
/-- UPD.FW_MIN_HI (R445). -/
def Reg.updFwMinHi : Nat := 0x340014
/-- UPD.BANK_COUNTER_LO (R445). -/
def Reg.updBankCounterLo (i : Nat) : Nat := 0x340018 + 8 * i
/-- UPD.BANK_COUNTER_HI (R445). -/
def Reg.updBankCounterHi (i : Nat) : Nat := 0x34001C + 8 * i
/-- UPD.CTRL (R445). -/
def Reg.updCtrl : Nat := 0x340028
/-- UPD.NV_START_MODE (R445). -/
def Reg.updNvStartMode : Nat := 0x34002C
/-- UPD.TRIAL (R445). -/
def Reg.updTrial : Nat := 0x340030
/-- UPD.PROGRESS (R445). -/
def Reg.updProgress : Nat := 0x340034
/-- UPD.LAST_RESULT (R445). -/
def Reg.updLastResult : Nat := 0x340038
/-- UPD.SLOT_BUSY_CNT (R445). -/
def Reg.updSlotBusyCnt : Nat := 0x340040
/-- UPD.REC_CHUNK (R445). -/
def Reg.updRecChunk : Nat := 0x340100
/-- UPD.REC_TARGET (R445). -/
def Reg.updRecTarget : Nat := 0x340104
/-- UPD.REC_STATUS (R445). -/
def Reg.updRecStatus : Nat := 0x340108
/-- TWN.STATUS (R473). -/
def Reg.twnStatus : Nat := 0x380000
/-- TWN.CTRL (R472). -/
def Reg.twnCtrl : Nat := 0x380004
/-- TWN.OWN_HEALTH (R472). -/
def Reg.twnOwnHealth : Nat := 0x380008
/-- TWN.PEER_HEALTH (R472). -/
def Reg.twnPeerHealth : Nat := 0x38000C
/-- TWN.PEER_AGE_MS (R472). -/
def Reg.twnPeerAgeMs : Nat := 0x380010
/-- TWN.RESYNC (R472). -/
def Reg.twnResync : Nat := 0x380014
/-- TWN.BACKLOG (R472). -/
def Reg.twnBacklog : Nat := 0x380018
/-- TWN.RETRANSMIT_CNT (R472). -/
def Reg.twnRetransmitCnt : Nat := 0x380020
/-- TWN.CRC_FAIL_CNT (R472). -/
def Reg.twnCrcFailCnt : Nat := 0x380024
/-- TWN.AUTH_FAIL_CNT (R472). -/
def Reg.twnAuthFailCnt : Nat := 0x380028
/-- TWN.LINK_DOWN_CNT (R472). -/
def Reg.twnLinkDownCnt : Nat := 0x38002C
/-- TWN.RESYNC_CNT (R472). -/
def Reg.twnResyncCnt : Nat := 0x380030
/-- TWN.TAKEOVER_CNT (R472). -/
def Reg.twnTakeoverCnt : Nat := 0x380034
/-- SAF.TROUBLE (R474). -/
def Reg.safTrouble : Nat := 0x390000
/-- SAF.CMD (R472). -/
def Reg.safCmd : Nat := 0x390004
/-- SAF.LATENT_RESULT (R472). -/
def Reg.safLatentResult : Nat := 0x390008
/-- SAF.LATENT_AGE_S (R472). -/
def Reg.safLatentAgeS : Nat := 0x39000C
/-- SAF.TEMP (R472). -/
def Reg.safTemp : Nat := 0x390010
/-- SAF.HB_SENT_CNT (R472). -/
def Reg.safHbSentCnt : Nat := 0x390014
/-- SAF.HB_FAIL_CNT (R472). -/
def Reg.safHbFailCnt : Nat := 0x390018
/-- SAF.ECC_CORR_CNT (R472). [log 143: DEDUCED] -/
def Reg.safEccCorrCnt : Nat := 0x39001C
/-- SAF.ECC_UNCORR_CNT (R472). -/
def Reg.safEccUncorrCnt : Nat := 0x390020
/-- SAF.LOCKSTEP_CNT (R472). -/
def Reg.safLockstepCnt : Nat := 0x390024
/-- REC.STATUS (R491). -/
def Reg.recStatus : Nat := 0x3A0000
/-- REC.CTRL (R491). -/
def Reg.recCtrl : Nat := 0x3A0004
/-- REC.NEXT (R490). -/
def Reg.recNext : Nat := 0x3A0008
/-- REC.CURSOR (R490). -/
def Reg.recCursor : Nat := 0x3A000C
/-- REC.WIN (R490). -/
def Reg.recWin (i : Nat) : Nat := 0x3A0010 + 4 * i
/-- REC.OP_TIME (R490). -/
def Reg.recOpTime : Nat := 0x3A0030
/-- REC.POWER_CYCLES (R490). -/
def Reg.recPowerCycles : Nat := 0x3A0034
/-- REC.LOST_FULL_CNT (R490). -/
def Reg.recLostFullCnt : Nat := 0x3A0038
/-- REC.SUPPRESSED_CNT (R490). -/
def Reg.recSuppressedCnt : Nat := 0x3A003C
/-- REC.HOLD_OVF_CNT (R490). -/
def Reg.recHoldOvfCnt : Nat := 0x3A0040
/-- REC.HOLD_LEVEL (R490). -/
def Reg.recHoldLevel : Nat := 0x3A0044
/-- DBG.SESSION (R414). -/
def Reg.dbgSession : Nat := 0x3C0000
/-- DBG.CORE_CTRL (R414). -/
def Reg.dbgCoreCtrl : Nat := 0x3C0004
/-- DBG.MEM_ADDR (R414). -/
def Reg.dbgMemAddr : Nat := 0x3C0008
/-- DBG.MEM_DATA (R414). -/
def Reg.dbgMemData : Nat := 0x3C000C

/-- A register or an array of registers: first address, (count, stride) of each array index, the bits with access
RW, W1C, W1S and RWL (R4); every other bit is RO. -/
structure RegRow where
  base : Nat
  dims : List (Nat × Nat)
  rw : Word
  w1c : Word
  w1s : Word
  rwl : Word
  deriving DecidableEq, Repr

/-- Part 1 of the register table. -/
def regRows0 : List RegRow :=
  [
    ⟨0, [], 0, 0, 0, 0⟩,
    ⟨0x10, [], 0, 0, 0, 0⟩,
    ⟨0x14, [], 0xF, 0x20000000, 0x80000000, 0⟩,
    ⟨0x18, [], 0, 0, 0, 0⟩,
    ⟨0x1C, [], 0, 0xFF, 0, 0⟩,
    ⟨0x20, [], 0, 0, 0, 0⟩,
    ⟨0x40, [], 0, 7, 0, 0⟩,
    ⟨0x44, [], 0, 0, 0, 0⟩,
    ⟨0x80, [(4, 4)], 0, 0, 0, 0⟩,
    ⟨0x90, [], 0, 0, 0, 0⟩,
    ⟨0x10000, [], 0, 0xE0, 0, 0⟩,
    ⟨0x10100, [], 0, 0xC, 0, 0⟩,
    ⟨0x10104, [], 0, 0, 0, 0⟩,
    ⟨0x10108, [], 0, 0, 0, 0⟩,
    ⟨0x18000, [], 0, 0xFFFF0000, 0, 0⟩,
    ⟨0x20000, [], 0x13FF, 0, 0x80000000, 0⟩,
    ⟨0x20004, [], 0xFFFFFFFF, 0, 0, 0⟩,
    ⟨0x20008, [], 0xFFFFFFFF, 0, 0, 0⟩,
    ⟨0x2000C, [], 0xFFFFFFFF, 0, 0, 0⟩,
    ⟨0x20010, [], 0, 0, 0, 0⟩,
    ⟨0x20014, [], 0, 2, 0, 0⟩,
    ⟨0x20018, [], 0, 0, 0, 0⟩,
    ⟨0x2001C, [], 0, 0, 0, 0⟩,
    ⟨0x20020, [(8, 4)], 0, 0, 0, 0⟩,
    ⟨0x40000, [(3, 0x4000)], 0, 0, 0x80000000, 1⟩,
    ⟨0x40004, [(3, 0x4000)], 0, 0xF800, 0, 0⟩,
    ⟨0x40008, [(3, 0x4000)], 0xFFFFFF, 0, 0, 0⟩,
    ⟨0x4000C, [(3, 0x4000)], 0xFFFFFFFF, 0, 0, 0⟩,
    ⟨0x40010, [(3, 0x4000)], 0, 0, 0x80000000, 0⟩,
    ⟨0x40020, [(3, 0x4000), (4, 0x10)], 0, 0, 0, 0⟩,
    ⟨0x40024, [(3, 0x4000), (4, 0x10)], 0, 0, 0, 0⟩,
    ⟨0x40028, [(3, 0x4000), (4, 0x10)], 0, 0, 0, 0⟩,
    ⟨0x40060, [(3, 0x4000)], 0, 0, 0, 0⟩,
    ⟨0x40064, [(3, 0x4000)], 0, 0, 0, 0⟩,
    ⟨0x40070, [(3, 0x4000)], 0xC0000FFF, 0, 0, 0⟩,
    ⟨0x40074, [(3, 0x4000)], 0xFFFFFFFF, 0, 0, 0⟩,
    ⟨0x40080, [(3, 0x4000)], 0, 0, 0, 0⟩,
    ⟨0x40084, [(3, 0x4000)], 0, 0, 0, 0⟩,
    ⟨0x40088, [(3, 0x4000)], 0, 0, 0, 0⟩,
    ⟨0x40090, [(3, 0x4000)], 0, 0, 0, 0⟩]

/-- Part 2 of the register table. -/
def regRows1 : List RegRow :=
  [
    ⟨0x40094, [(3, 0x4000)], 0, 0, 0, 0⟩,
    ⟨0x40098, [(3, 0x4000)], 0, 0, 0, 0⟩,
    ⟨0x4009C, [(3, 0x4000)], 0, 0, 0, 0⟩,
    ⟨0x400A0, [(3, 0x4000)], 0, 0, 0, 0⟩,
    ⟨0x400A4, [(3, 0x4000)], 0, 0, 0, 0⟩,
    ⟨0x400A8, [(3, 0x4000)], 0, 0, 0, 0⟩,
    ⟨0x400AC, [(3, 0x4000)], 0, 0, 0, 0⟩,
    ⟨0x80000, [(3, 0x10000)], 0x4000001F, 0, 0x80000000, 0⟩,
    ⟨0x80004, [(3, 0x10000)], 0xFFFFFFFF, 0, 0, 0⟩,
    ⟨0x80008, [(3, 0x10000)], 0xFFFFFFFF, 0, 0, 0⟩,
    ⟨0x8000C, [(3, 0x10000)], 0, 6, 0, 0⟩,
    ⟨0x80020, [(3, 0x10000)], 0, 0, 0x80000000, 0⟩,
    ⟨0x80024, [(3, 0x10000)], 0, 0, 0, 0⟩,
    ⟨0x80028, [(3, 0x10000)], 0, 0, 0, 0⟩,
    ⟨0x8002C, [(3, 0x10000)], 0, 0, 0, 0⟩,
    ⟨0x80100, [(3, 0x10000), (64, 4)], 0, 0, 0, 0⟩,
    ⟨0x81000, [(3, 0x10000), (1024, 4)], 0, 0, 0, 0⟩,
    ⟨0x88000, [(3, 0x10000), (512, 0x40)], 0, 0, 0, 0⟩,
    ⟨0x88004, [(3, 0x10000), (512, 0x40)], 0, 0, 0, 0⟩,
    ⟨0x88008, [(3, 0x10000), (512, 0x40)], 0, 0, 0, 0⟩,
    ⟨0x8800C, [(3, 0x10000), (512, 0x40)], 0, 0, 0, 0⟩,
    ⟨0x88010, [(3, 0x10000), (512, 0x40)], 0, 0, 0, 0⟩,
    ⟨0x88014, [(3, 0x10000), (512, 0x40)], 0, 0, 0, 0⟩,
    ⟨0x88018, [(3, 0x10000), (512, 0x40)], 0, 0, 0, 0⟩,
    ⟨0x8801C, [(3, 0x10000), (512, 0x40)], 0, 0, 0, 0⟩,
    ⟨0x88020, [(3, 0x10000), (512, 0x40)], 0, 0, 0, 0⟩,
    ⟨0x88024, [(3, 0x10000), (512, 0x40)], 0, 0, 0, 0⟩,
    ⟨0x88028, [(3, 0x10000), (512, 0x40)], 0, 0, 0, 0⟩,
    ⟨0x8802C, [(3, 0x10000), (512, 0x40)], 0, 0, 0, 0⟩,
    ⟨0x88030, [(3, 0x10000), (512, 0x40)], 0, 0, 0, 0⟩,
    ⟨0x88034, [(3, 0x10000), (512, 0x40)], 0, 0, 0, 0⟩,
    ⟨0x88038, [(3, 0x10000), (512, 0x40)], 0, 0, 0, 0⟩,
    ⟨0xB0000, [], 0, 0x30777, 0, 0⟩,
    ⟨0xB0010, [(3, 8)], 0, 0, 0, 0⟩,
    ⟨0xB0014, [(3, 8)], 0, 0, 0, 0⟩,
    ⟨0xB1000, [(384, 4)], 0, 0, 0, 0⟩,
    ⟨0xB2000, [(12, 0x10)], 0, 0, 0, 0⟩,
    ⟨0xB2004, [(12, 0x10)], 0, 0, 0, 0⟩,
    ⟨0xB2008, [(12, 0x10)], 0, 0, 0, 0⟩,
    ⟨0xC0000, [(3, 0x10000)], 0x8FFFFFFF, 0, 0, 0⟩]

/-- Part 3 of the register table. -/
def regRows2 : List RegRow :=
  [
    ⟨0xC0004, [(3, 0x10000)], 0xFFFFFFFF, 0, 0, 0⟩,
    ⟨0xC0008, [(3, 0x10000)], 0xFFFF, 0, 0, 0⟩,
    ⟨0xC000C, [(3, 0x10000)], 0xFFFF0003, 0, 0, 0⟩,
    ⟨0xC0010, [(3, 0x10000)], 0xFFFFFF, 0, 0, 0⟩,
    ⟨0xC0014, [(3, 0x10000)], 0xFFFFFF, 0, 0, 0⟩,
    ⟨0xC0018, [(3, 0x10000)], 3, 0, 0, 0⟩,
    ⟨0xC0020, [(3, 0x10000)], 0, 0, 0, 0⟩,
    ⟨0xC0030, [(3, 0x10000)], 0xFF0F, 0, 0, 0⟩,
    ⟨0xC0034, [(3, 0x10000)], 0, 0, 0, 0⟩,
    ⟨0xC0040, [(3, 0x10000)], 0, 0, 0, 0⟩,
    ⟨0xC0044, [(3, 0x10000)], 0, 0, 0, 0⟩,
    ⟨0xC0048, [(3, 0x10000)], 0, 0, 0, 0⟩,
    ⟨0xC004C, [(3, 0x10000)], 0, 0, 0, 0⟩,
    ⟨0xC0050, [(3, 0x10000)], 0, 0, 0, 0⟩,
    ⟨0xC0054, [(3, 0x10000)], 0, 0, 0, 0⟩,
    ⟨0xC0058, [(3, 0x10000)], 0, 0, 0, 0⟩,
    ⟨0xC005C, [(3, 0x10000)], 0, 0, 0, 0⟩,
    ⟨0x100000, [(3, 0x10000)], 0x87FFFF07, 0, 0, 0⟩,
    ⟨0x100010, [(3, 0x10000), (16, 8)], 0, 0, 0, 0⟩,
    ⟨0x100014, [(3, 0x10000), (16, 8)], 0, 0, 0, 0⟩,
    ⟨0x100100, [(3, 0x10000)], 0, 0, 0, 0⟩,
    ⟨0x100140, [(3, 0x10000), (16, 4)], 0xFFFFFFFF, 0, 0, 0⟩,
    ⟨0x100200, [(3, 0x10000)], 0, 0, 0, 0⟩,
    ⟨0x100204, [(3, 0x10000)], 0, 0, 0, 0⟩,
    ⟨0x100208, [(3, 0x10000)], 0, 0, 0, 0⟩,
    ⟨0x10020C, [(3, 0x10000)], 0, 0, 0, 0⟩,
    ⟨0x100210, [(3, 0x10000)], 0, 0, 0, 0⟩,
    ⟨0x100214, [(3, 0x10000)], 0, 0, 0, 0⟩,
    ⟨0x100218, [(3, 0x10000)], 0, 0, 0, 0⟩,
    ⟨0x10021C, [(3, 0x10000)], 0, 0, 0, 0⟩,
    ⟨0x100220, [(3, 0x10000)], 0, 0, 0, 0⟩,
    ⟨0x130000, [], 0, 0, 0, 0xFFFFFFFF⟩,
    ⟨0x130004, [], 0, 0, 0, 0xFFFFFFFF⟩,
    ⟨0x130008, [], 0, 0, 0, 0xFFFFFFFF⟩,
    ⟨0x13000C, [], 0, 0, 0, 0xFFFFFF⟩,
    ⟨0x130010, [], 0, 0, 1, 0⟩,
    ⟨0x130014, [], 0, 7, 0, 0⟩,
    ⟨0x140000, [(3, 0x10000)], 0xFFFFFFFF, 0, 0, 0⟩,
    ⟨0x140004, [(3, 0x10000)], 0xFFFF0F03, 0, 0, 0⟩,
    ⟨0x140008, [(3, 0x10000)], 0xFFFF000F, 0, 0, 0⟩]

/-- Part 4 of the register table. -/
def regRows3 : List RegRow :=
  [
    ⟨0x14000C, [(3, 0x10000)], 0xFFFFFFFF, 0, 0, 0⟩,
    ⟨0x140010, [(3, 0x10000)], 0xFFF, 0, 0, 0⟩,
    ⟨0x140040, [(3, 0x10000)], 0, 0, 0, 0⟩,
    ⟨0x140044, [(3, 0x10000)], 0, 0, 0, 0⟩,
    ⟨0x140048, [(3, 0x10000)], 0, 0, 0, 0⟩,
    ⟨0x14004C, [(3, 0x10000)], 0, 0, 0, 0⟩,
    ⟨0x140050, [(3, 0x10000)], 0, 0, 0, 0⟩,
    ⟨0x140054, [(3, 0x10000)], 0, 0, 0, 0⟩,
    ⟨0x140058, [(3, 0x10000)], 0, 0, 0, 0⟩,
    ⟨0x14005C, [(3, 0x10000)], 0, 0, 0, 0⟩,
    ⟨0x140060, [(3, 0x10000)], 0, 0, 0, 0⟩,
    ⟨0x140064, [(3, 0x10000)], 0, 0, 0, 0⟩,
    ⟨0x140068, [(3, 0x10000)], 0, 0, 0, 0⟩,
    ⟨0x14006C, [(3, 0x10000)], 0, 0, 0, 0⟩,
    ⟨0x170000, [], 0, 0, 0, 0⟩,
    ⟨0x170004, [], 0, 0, 0, 0⟩,
    ⟨0x170008, [], 0, 0, 0, 0⟩,
    ⟨0x17000C, [], 0, 3, 0, 0⟩,
    ⟨0x180000, [], 0x8000FFFF, 0, 0, 0⟩,
    ⟨0x180004, [], 0xFF0F, 0, 0, 0⟩,
    ⟨0x180008, [], 7, 0, 0, 0⟩,
    ⟨0x18000C, [], 0x7FFFFFF, 0, 0, 0⟩,
    ⟨0x180010, [], 3, 0, 0, 0⟩,
    ⟨0x180014, [], 3, 0, 0, 0⟩,
    ⟨0x180018, [], 0, 0, 0, 0⟩,
    ⟨0x18001C, [], 0, 0, 0, 0⟩,
    ⟨0x180020, [], 0, 0xFF, 0, 0⟩,
    ⟨0x180040, [], 0, 0, 0, 0⟩,
    ⟨0x180044, [], 0, 0, 0, 0⟩,
    ⟨0x180048, [], 0, 0, 0, 0⟩,
    ⟨0x18004C, [], 0, 0, 0, 0⟩,
    ⟨0x180050, [], 0, 0, 0, 0⟩,
    ⟨0x180054, [], 0, 0, 0, 0⟩,
    ⟨0x180058, [], 0, 0, 0, 0⟩,
    ⟨0x18005C, [], 0, 0, 0, 0⟩,
    ⟨0x180100, [(4, 0x40)], 0, 0, 0, 0⟩,
    ⟨0x180104, [(4, 0x40)], 0, 0, 0, 0⟩,
    ⟨0x180108, [(4, 0x40)], 0, 0, 0, 0⟩,
    ⟨0x18010C, [(4, 0x40)], 0, 0, 0, 0⟩,
    ⟨0x180110, [(4, 0x40)], 0, 0, 0, 0⟩]

/-- Part 5 of the register table. -/
def regRows4 : List RegRow :=
  [
    ⟨0x180114, [(4, 0x40)], 0, 0, 0, 0⟩,
    ⟨0x180118, [(4, 0x40)], 0, 0, 0, 0⟩,
    ⟨0x18011C, [(4, 0x40)], 0, 0, 0, 0⟩,
    ⟨0x180120, [(3, 0x40)], 0, 0, 0, 0⟩,
    ⟨0x180124, [(3, 0x40)], 0, 0, 0, 0⟩,
    ⟨0x180128, [(3, 0x40)], 0, 0, 0, 0⟩,
    ⟨0x1801E4, [], 0, 0, 0, 0⟩,
    ⟨0x1801E8, [], 0, 0, 0, 0⟩,
    ⟨0x180400, [(5, 4)], 0, 0, 0, 0⟩,
    ⟨0x180420, [], 0xFF, 0, 0x80000000, 0⟩,
    ⟨0x181000, [(16, 0x20), (4, 4)], 0xFFFFFFFF, 0, 0, 0⟩,
    ⟨0x181010, [(16, 0x20)], 0xC00000FF, 0, 0, 0⟩,
    ⟨0x181014, [(16, 0x20), (3, 4)], 0, 0, 0, 0⟩,
    ⟨0x190000, [(5, 0x400)], 0xF, 0x20000000, 0x80000000, 0⟩,
    ⟨0x190004, [(5, 0x400)], 0, 0, 0, 0⟩,
    ⟨0x190008, [(5, 0x400)], 0xFFFFFFFF, 0, 0, 0⟩,
    ⟨0x19000C, [(5, 0x400)], 0, 0, 0, 0⟩,
    ⟨0x190100, [(5, 0x400), (64, 4)], 0xFFFFFFFF, 0, 0, 0⟩,
    ⟨0x1A0000, [(5, 0x400)], 0xF, 0x20000000, 0x80000000, 0⟩,
    ⟨0x1A0004, [(5, 0x400)], 0, 0, 0, 0⟩,
    ⟨0x1A0008, [(5, 0x400)], 0xFFFFFFFF, 0, 0, 0⟩,
    ⟨0x1A000C, [(5, 0x400)], 0, 0, 0, 0⟩,
    ⟨0x1A0100, [(5, 0x400), (64, 4)], 0xFFFFFFFF, 0, 0, 0⟩,
    ⟨0x1C0000, [], 0, 0, 0, 0⟩,
    ⟨0x1C0004, [], 0xFFF0FFF, 0, 0, 0⟩,
    ⟨0x1C0008, [], 0, 0, 0, 0⟩,
    ⟨0x1C000C, [], 0, 3, 0, 0⟩,
    ⟨0x1C0010, [(16, 4)], 0, 0, 0, 0⟩,
    ⟨0x1C0050, [(16, 4)], 0, 0, 0, 0⟩,
    ⟨0x1C0100, [], 0, 0, 0, 0⟩,
    ⟨0x200000, [(3, 4)], 0x1F07001F, 0, 0, 0⟩,
    ⟨0x20000C, [], 0x1F001F1F, 0, 0, 0⟩,
    ⟨0x200010, [], 0, 0, 0, 0⟩,
    ⟨0x200020, [], 0x80000000, 2, 0, 0⟩,
    ⟨0x200024, [], 0xFFFFFFFF, 0, 0, 0⟩,
    ⟨0x200030, [], 0xFFFF, 0, 0, 0⟩,
    ⟨0x200034, [], 0, 0, 0, 0⟩,
    ⟨0x200038, [], 0, 0, 0, 0⟩,
    ⟨0x200040, [], 0xFFFFFFFF, 0, 0, 0⟩,
    ⟨0x200044, [], 7, 0, 0, 0⟩]

/-- Part 6 of the register table. -/
def regRows5 : List RegRow :=
  [
    ⟨0x200048, [], 0xFFFFFFFF, 0, 0, 0⟩,
    ⟨0x20004C, [], 0xFFFF, 0, 0, 0⟩,
    ⟨0x200050, [(2, 4)], 0, 0, 0, 0⟩,
    ⟨0x200060, [], 0, 7, 0, 0⟩,
    ⟨0x201000, [(32, 0x40)], 0xFFFFF000, 0, 0, 0⟩,
    ⟨0x201004, [(32, 0x40)], 0xFFFFFFFF, 0, 0, 0⟩,
    ⟨0x201008, [(32, 0x40)], 0xFFFF, 0, 0, 0⟩,
    ⟨0x20100C, [(32, 0x40)], 0, 0, 0, 0⟩,
    ⟨0x201010, [(32, 0x40)], 0xC0000000, 0, 0x20000000, 0⟩,
    ⟨0x201014, [(32, 0x40)], 0, 0x38000000, 0, 0⟩,
    ⟨0x201018, [(32, 0x40)], 0, 0, 0, 0⟩,
    ⟨0x20101C, [(32, 0x40)], 0xFFFF, 0, 0, 0⟩,
    ⟨0x201020, [(32, 0x40)], 0, 0, 0, 0⟩,
    ⟨0x201024, [(32, 0x40)], 0, 0, 0, 0⟩,
    ⟨0x201028, [(32, 0x40)], 0, 0, 0, 0⟩,
    ⟨0x201800, [(32, 0x40)], 0xFFFFF000, 0, 0, 0⟩,
    ⟨0x201804, [(32, 0x40)], 0xFFFFFFFF, 0, 0, 0⟩,
    ⟨0x201808, [(32, 0x40)], 0, 0, 0, 0⟩,
    ⟨0x20180C, [(32, 0x40)], 0xFFFF, 0, 0, 0⟩,
    ⟨0x201810, [(32, 0x40)], 0xC0000000, 0, 0x20000000, 0⟩,
    ⟨0x201814, [(32, 0x40)], 0, 0x38000000, 0, 0⟩,
    ⟨0x201818, [(32, 0x40)], 0, 0, 0, 0⟩,
    ⟨0x20181C, [(32, 0x40)], 0xFFFF, 0, 0, 0⟩,
    ⟨0x201820, [(32, 0x40)], 0, 0, 0, 0⟩,
    ⟨0x201824, [(32, 0x40)], 0, 0, 0, 0⟩,
    ⟨0x201828, [(32, 0x40)], 0, 0, 0, 0⟩,
    ⟨0x202000, [(4, 0x40)], 0xFFFFF000, 0, 0, 0⟩,
    ⟨0x202004, [(4, 0x40)], 0xFFFFFFFF, 0, 0, 0⟩,
    ⟨0x202008, [(4, 0x40)], 0, 0, 0, 0⟩,
    ⟨0x20200C, [(4, 0x40)], 0xFFFF, 0, 0, 0⟩,
    ⟨0x202010, [(4, 0x40)], 0xC0000000, 0, 0x20000000, 0⟩,
    ⟨0x202014, [(4, 0x40)], 0, 0x38000000, 0, 0⟩,
    ⟨0x202018, [(4, 0x40)], 0, 0, 0, 0⟩,
    ⟨0x20201C, [(4, 0x40)], 0xFFFF, 0, 0, 0⟩,
    ⟨0x202020, [(4, 0x40)], 0, 0, 0, 0⟩,
    ⟨0x202024, [(4, 0x40)], 0, 0, 0, 0⟩,
    ⟨0x202028, [(4, 0x40)], 0, 0, 0, 0⟩,
    ⟨0x240000, [(3, 0x10000)], 0xFFF, 0, 0, 0⟩,
    ⟨0x240004, [(3, 0x10000)], 0, 0, 0, 0⟩,
    ⟨0x240008, [(3, 0x10000)], 0, 0, 0, 0⟩]

/-- Part 7 of the register table. -/
def regRows6 : List RegRow :=
  [
    ⟨0x240010, [(3, 0x10000), (16, 8)], 0, 0, 0, 0⟩,
    ⟨0x240014, [(3, 0x10000), (16, 8)], 0, 0, 0, 0⟩,
    ⟨0x240100, [(3, 0x10000)], 0x3FF010F, 0, 0, 0⟩,
    ⟨0x240104, [(3, 0x10000)], 0, 0, 0, 0⟩,
    ⟨0x240108, [(3, 0x10000)], 0, 0, 0x80000000, 0⟩,
    ⟨0x24010C, [(3, 0x10000)], 0, 0, 0, 0⟩,
    ⟨0x240200, [(3, 0x10000)], 0, 0, 0, 0⟩,
    ⟨0x240204, [(3, 0x10000)], 0, 0, 0, 0⟩,
    ⟨0x240208, [(3, 0x10000)], 0, 0, 0, 0⟩,
    ⟨0x24020C, [(3, 0x10000)], 0, 0, 0, 0⟩,
    ⟨0x240210, [(3, 0x10000)], 0, 0, 0, 0⟩,
    ⟨0x240214, [(3, 0x10000)], 0, 0, 0, 0⟩,
    ⟨0x240218, [(3, 0x10000)], 0, 0, 0, 0⟩,
    ⟨0x24021C, [(3, 0x10000)], 0, 0, 0, 0⟩,
    ⟨0x240220, [(3, 0x10000)], 0, 0, 0, 0⟩,
    ⟨0x248000, [(3, 0x10000), (1024, 0x20)], 0, 7, 0, 0⟩,
    ⟨0x248004, [(3, 0x10000), (1024, 0x20)], 0xFFFFFFFF, 0, 0, 0⟩,
    ⟨0x248008, [(3, 0x10000), (1024, 0x20)], 0, 0, 0, 0⟩,
    ⟨0x24800C, [(3, 0x10000), (1024, 0x20)], 0, 0, 0, 0⟩,
    ⟨0x248010, [(3, 0x10000), (1024, 0x20)], 0, 0, 0, 0⟩,
    ⟨0x248014, [(3, 0x10000), (1024, 0x20)], 0, 0, 0, 0⟩,
    ⟨0x248018, [(3, 0x10000), (1024, 0x20)], 0, 0, 0, 0⟩,
    ⟨0x24801C, [(3, 0x10000), (1024, 0x20)], 0, 0, 0, 0⟩,
    ⟨0x270000, [], 0, 0x77, 0, 0⟩,
    ⟨0x270004, [], 0, 0, 0, 0⟩,
    ⟨0x270010, [(3, 4)], 0, 0, 0, 0⟩,
    ⟨0x280000, [], 0x8000FFFF, 0, 0, 0⟩,
    ⟨0x280004, [], 0, 0xF8, 0, 0⟩,
    ⟨0x280008, [], 0xF, 0, 0, 0⟩,
    ⟨0x28000C, [], 0xFFFFFFFF, 0, 0, 0⟩,
    ⟨0x280010, [], 0, 0, 0, 0⟩,
    ⟨0x280014, [], 0, 0, 0, 0⟩,
    ⟨0x280018, [], 0, 0, 0, 0⟩,
    ⟨0x28001C, [], 0, 0, 0, 0⟩,
    ⟨0x280020, [], 0x60000000, 0, 0x80000000, 0⟩,
    ⟨0x280024, [], 0xFFFFFFFF, 0, 0, 0⟩,
    ⟨0x280028, [], 0xFFFFFFFF, 0, 0, 0⟩,
    ⟨0x28002C, [], 0xFFFF, 0, 0, 0⟩,
    ⟨0x280030, [], 0xFFFFFFFF, 0, 0, 0⟩,
    ⟨0x280034, [], 0xFFFFFFFF, 0, 0, 0⟩]

/-- Part 8 of the register table. -/
def regRows7 : List RegRow :=
  [
    ⟨0x280038, [], 0xFFFF, 0, 0, 0⟩,
    ⟨0x280040, [], 0, 0, 0, 0⟩,
    ⟨0x280044, [], 0, 0, 0, 0⟩,
    ⟨0x280048, [], 0, 0, 0, 0⟩,
    ⟨0x280100, [(2, 0x20)], 0xFFFFFF, 0, 0, 0⟩,
    ⟨0x280104, [(2, 0x20)], 0xFFFFFF, 0, 0, 0⟩,
    ⟨0x280108, [(2, 0x20)], 0, 0, 0, 0⟩,
    ⟨0x28010C, [(2, 0x20)], 0, 0, 0, 0⟩,
    ⟨0x280200, [], 0x80000007, 0, 0, 0⟩,
    ⟨0x281000, [(8, 0x40)], 0, 0, 0xC0000000, 0⟩,
    ⟨0x281004, [(8, 0x40)], 0, 0x1E, 0, 0⟩,
    ⟨0x281008, [(8, 0x40)], 0xFFFFFFFF, 0, 0, 0⟩,
    ⟨0x28100C, [(8, 0x40)], 0xFFFFFFFF, 0, 0, 0⟩,
    ⟨0x281010, [(8, 0x40)], 0xFFFF, 0, 0, 0⟩,
    ⟨0x281014, [(8, 0x40)], 0, 0, 0, 0⟩,
    ⟨0x281018, [(8, 0x40)], 0, 0, 0, 0⟩,
    ⟨0x28101C, [(8, 0x40)], 0, 0, 0, 0⟩,
    ⟨0x282000, [], 0x33FFF, 0, 0, 0⟩,
    ⟨0x282004, [], 0, 0, 0, 0⟩,
    ⟨0x282008, [], 0, 0x770, 0, 0⟩,
    ⟨0x282010, [(3, 0x10)], 0, 0, 0, 0⟩,
    ⟨0x282014, [(3, 0x10)], 0, 0, 0, 0⟩,
    ⟨0x282018, [(3, 0x10)], 0, 0, 0, 0⟩,
    ⟨0x290000, [], 0, 0, 0, 0⟩,
    ⟨0x290004, [], 0, 2, 0, 0⟩,
    ⟨0x290008, [], 0, 0, 0, 0⟩,
    ⟨0x29000C, [], 0, 0, 0, 0⟩,
    ⟨0x290010, [], 0xFFFF, 0, 0x80000000, 0⟩,
    ⟨0x290014, [], 0xFFFFFFFF, 0, 0, 0⟩,
    ⟨0x290018, [], 0xFFFF, 0, 0, 0⟩,
    ⟨0x290100, [(16, 0x20)], 0, 0, 0xC0000000, 0⟩,
    ⟨0x290104, [(16, 0x20)], 0, 0xE, 0, 0⟩,
    ⟨0x290108, [(16, 0x20)], 0xFFFFFFFF, 0, 0, 0⟩,
    ⟨0x29010C, [(16, 0x20)], 0xFFFF, 0, 0, 0⟩,
    ⟨0x290110, [(16, 0x20)], 0, 0, 0, 0⟩,
    ⟨0x290114, [(16, 0x20)], 0, 0, 0, 0⟩,
    ⟨0x2A0000, [], 0, 0, 0, 0⟩,
    ⟨0x2A0004, [], 0, 0, 0, 0⟩,
    ⟨0x2A0008, [], 0, 0, 0, 0⟩,
    ⟨0x2A0100, [], 0, 0, 0, 0⟩]

/-- Part 9 of the register table. -/
def regRows8 : List RegRow :=
  [
    ⟨0x2A0104, [], 0, 0, 0, 0⟩,
    ⟨0x2A0108, [], 0, 0, 0, 0⟩,
    ⟨0x2A0200, [], 0, 7, 0, 0⟩,
    ⟨0x2A0204, [], 0, 0, 0, 0⟩,
    ⟨0x2A0208, [], 0, 0, 0, 0⟩,
    ⟨0x2A020C, [], 0, 0, 0, 0⟩,
    ⟨0x2A0210, [], 0, 0, 0, 0⟩,
    ⟨0x2A0300, [], 0, 0, 0xFFFFFFFF, 0⟩,
    ⟨0x2A0310, [], 0xFFFFFFFF, 0, 0, 0⟩,
    ⟨0x2A0314, [], 0, 0, 0, 0⟩,
    ⟨0x2A0318, [], 0, 0, 0, 0⟩,
    ⟨0x2A1000, [(512, 4)], 0x80000000, 0xC, 0, 0⟩,
    ⟨0x2A3000, [(16, 4)], 0, 0, 0, 0⟩,
    ⟨0x2A3040, [(16, 4)], 0, 0, 0, 0⟩,
    ⟨0x300000, [], 0, 0, 0, 0⟩,
    ⟨0x300004, [], 0, 0x3F, 0, 0⟩,
    ⟨0x300008, [], 0, 0, 0, 0⟩,
    ⟨0x30000C, [], 0, 0, 0, 0⟩,
    ⟨0x300010, [], 0, 0, 0, 0⟩,
    ⟨0x300014, [], 0, 0, 0, 0⟩,
    ⟨0x300018, [], 0, 0, 0, 0⟩,
    ⟨0x30001C, [], 0, 0, 0, 0⟩,
    ⟨0x300040, [(16, 4)], 0, 0, 0, 0⟩,
    ⟨0x300080, [(16, 4)], 0, 0, 0, 0⟩,
    ⟨0x300100, [], 0, 0, 0, 0⟩,
    ⟨0x300104, [], 0, 0, 0, 0⟩,
    ⟨0x300108, [], 0, 0, 0, 0⟩,
    ⟨0x30010C, [], 0, 0, 0, 0⟩,
    ⟨0x300110, [], 0, 0, 0, 0⟩,
    ⟨0x300114, [], 0, 0, 0, 0⟩,
    ⟨0x300118, [], 0, 0, 0, 0⟩,
    ⟨0x320000, [], 0, 0, 0, 0⟩,
    ⟨0x320004, [], 0, 1, 0, 0⟩,
    ⟨0x320008, [], 0, 0, 0, 0⟩,
    ⟨0x340000, [], 0, 0x7C, 0, 0⟩,
    ⟨0x340004, [], 0, 0, 0, 0⟩,
    ⟨0x340008, [], 0, 0, 0, 0⟩,
    ⟨0x34000C, [], 0, 0, 0, 0⟩,
    ⟨0x340010, [], 0, 0, 0, 0⟩,
    ⟨0x340014, [], 0, 0, 0, 0⟩]

/-- Part 10 of the register table. -/
def regRows9 : List RegRow :=
  [
    ⟨0x340018, [(2, 8)], 0, 0, 0, 0⟩,
    ⟨0x34001C, [(2, 8)], 0, 0, 0, 0⟩,
    ⟨0x340028, [], 3, 0, 0, 0⟩,
    ⟨0x34002C, [], 0xF, 0, 0, 0⟩,
    ⟨0x340030, [], 0, 0, 0, 0⟩,
    ⟨0x340034, [], 0, 0, 0, 0⟩,
    ⟨0x340038, [], 0, 0, 0, 0⟩,
    ⟨0x340040, [], 0, 0, 0, 0⟩,
    ⟨0x340100, [], 0x4100FFFF, 0, 0x80000000, 0⟩,
    ⟨0x340104, [], 1, 0, 0, 0⟩,
    ⟨0x340108, [], 0, 0, 0, 0⟩,
    ⟨0x380000, [], 0, 0xFF, 0, 0⟩,
    ⟨0x380004, [], 1, 0, 0, 0⟩,
    ⟨0x380008, [], 0, 0, 0, 0⟩,
    ⟨0x38000C, [], 0, 0, 0, 0⟩,
    ⟨0x380010, [], 0, 0, 0, 0⟩,
    ⟨0x380014, [], 0, 0, 0, 0⟩,
    ⟨0x380018, [], 0, 0, 0, 0⟩,
    ⟨0x380020, [], 0, 0, 0, 0⟩,
    ⟨0x380024, [], 0, 0, 0, 0⟩,
    ⟨0x380028, [], 0, 0, 0, 0⟩,
    ⟨0x38002C, [], 0, 0, 0, 0⟩,
    ⟨0x380030, [], 0, 0, 0, 0⟩,
    ⟨0x380034, [], 0, 0, 0, 0⟩,
    ⟨0x390000, [], 0, 0x3F, 0, 0⟩,
    ⟨0x390004, [], 0, 0, 1, 0⟩,
    ⟨0x390008, [], 0, 0, 0, 0⟩,
    ⟨0x39000C, [], 0, 0, 0, 0⟩,
    ⟨0x390010, [], 0, 0, 0, 0⟩,
    ⟨0x390014, [], 0, 0, 0, 0⟩,
    ⟨0x390018, [], 0, 0, 0, 0⟩,
    ⟨0x39001C, [], 0, 0, 0, 0⟩,
    ⟨0x390020, [], 0, 0, 0, 0⟩,
    ⟨0x390024, [], 0, 0, 0, 0⟩,
    ⟨0x3A0000, [], 0, 0xE, 0, 0⟩,
    ⟨0x3A0004, [], 3, 0, 0xC0000000, 0⟩,
    ⟨0x3A0008, [], 0, 0, 0, 0⟩,
    ⟨0x3A000C, [], 0xFFFF, 0, 0, 0⟩,
    ⟨0x3A0010, [(8, 4)], 0, 0, 0, 0⟩,
    ⟨0x3A0030, [], 0, 0, 0, 0⟩]

/-- Part 11 of the register table. -/
def regRows10 : List RegRow :=
  [
    ⟨0x3A0034, [], 0, 0, 0, 0⟩,
    ⟨0x3A0038, [], 0, 0, 0, 0⟩,
    ⟨0x3A003C, [], 0, 0, 0, 0⟩,
    ⟨0x3A0040, [], 0, 0, 0, 0⟩,
    ⟨0x3A0044, [], 0, 0, 0, 0⟩,
    ⟨0x3C0000, [], 0, 0, 0, 0⟩,
    ⟨0x3C0004, [], 0x31, 0, 2, 0⟩,
    ⟨0x3C0008, [], 0xFFFFFFFF, 0, 0, 0⟩,
    ⟨0x3C000C, [], 0xFFFFFFFF, 0, 0, 0⟩]

/-- The register table. -/
def regRows : List RegRow :=
  regRows0 ++ regRows1 ++ regRows2 ++ regRows3 ++ regRows4 ++ regRows5 ++ regRows6 ++ regRows7 ++ regRows8 ++ regRows9 ++ regRows10

/-- Whether an offset from a row's base names an element of an array with these dimensions. -/
def dimsHit : List (Nat × Nat) → Nat → Bool
  | [], off => off == 0
  | (n, st) :: ds, off => decide (off / st < n) && dimsHit ds (off % st)

/-- Whether a row gives the register at an address. -/
def RegRow.hit (x : RegRow) (a : Nat) : Bool := decide (x.base ≤ a) && dimsHit x.dims (a - x.base)

/-- The row of an address; none: the address is unassigned (R13). -/
def regDesc (a : Nat) : Option RegRow := regRows.find? (fun x => x.hit a)

/-- The rows whose reset value is not 0, with that value. -/
def resetRows : List (Nat × List (Nat × Nat) × Word) :=
  [
    (0, [], 0x26180201),
    (0x1C, [], 1),
    (0x10100, [], 0xFF00),
    (0x18000, [], 1),
    (0x20014, [], 0x700),
    (0x40008, [(3, 0x4000)], 0x20A05),
    (0x4000C, [(3, 0x4000)], 0x190640CB),
    (0xC0000, [(3, 0x10000)], 0x84100048),
    (0xC0004, [(3, 0x10000)], 0x20140802),
    (0xC0008, [(3, 0x10000)], 0x503),
    (0xC000C, [(3, 0x10000)], 0x7D00002),
    (0x100000, [(3, 0x10000)], 0x83E86403),
    (0x100140, [(3, 0x10000), (16, 4)], 0xFFFFFFFF),
    (0x140000, [(3, 0x10000)], 0x640032),
    (0x140004, [(3, 0x10000)], 0xC80202),
    (0x140008, [(3, 0x10000)], 0x5DC0008),
    (0x14000C, [(3, 0x10000)], 0x3E803E8),
    (0x140010, [(3, 0x10000)], 0x1F4),
    (0x180000, [], 0x80000258),
    (0x180004, [], 0xC04),
    (0x1C0004, [], 0x1000200),
    (0x200030, [], 0x800),
    (0x200040, [], 0xFFFF2818),
    (0x20101C, [(32, 0x40)], 0x1000),
    (0x20181C, [(32, 0x40)], 0x1000),
    (0x20201C, [(4, 0x40)], 0x1000),
    (0x240000, [(3, 0x10000)], 0x3C),
    (0x280000, [], 0xA),
    (0x280008, [], 1),
    (0x28000C, [], 0x38800000),
    (0x280100, [(2, 0x20)], 0x366),
    (0x280104, [(2, 0x20)], 0x266),
    (0x300000, [], 0x38000000),
    (0x380000, [], 0x8000000),
    (0x380004, [], 1),
    (0x3A0004, [], 2)]

/-- What a register reads as when nothing has written it: the reset value of its table, 0 where the table has none.
[log 6: DESIGN CHOICE] -/
def regReset (a : Nat) : Word :=
  match resetRows.find? (fun x => decide (x.1 ≤ a) && dimsHit x.2.1 (a - x.1)) with
  | some x => x.2.2
  | none => 0

end Sys2Proof.Machine
end

