-- ==== Sys2Proof/Machine/Sparse.lean ====
section
/-! DEFINITION. Machine/Sparse.lean: reading and writing sparse maps in their one canonical form: keys strictly
rising, no entry equal to what an unlisted key reads as. -/

namespace Sys2Proof.Machine

variable {α : Type}

/-- The value at a key; `d` where the key is not listed. -/
def sget (d : α) : Sparse α → Nat → α
  | [], _ => d
  | (k', v) :: m, k => if k = k' then v else sget d m k

/-- A map without a key. -/
def sdel : Sparse α → Nat → Sparse α
  | [], _ => []
  | (k', v) :: m, k => if k = k' then sdel m k else (k', v) :: sdel m k

/-- A map with a value at a key, whatever the value. -/
def sins : Sparse α → Nat → α → Sparse α
  | [], k, v => [(k, v)]
  | (k', v') :: m, k, v =>
    if k < k' then (k, v) :: (k', v') :: m else if k = k' then (k, v) :: m else (k', v') :: sins m k v

/-- A map with a value at a key; a value equal to the default removes the entry. -/
def sput [DecidableEq α] (d : α) (m : Sparse α) (k : Nat) (v : α) : Sparse α :=
  if v = d then sdel m k else sins m k v

/-- Every value of a map changed; values that become the default leave it. -/
def smap [DecidableEq α] (d : α) (f : α → α) (m : Sparse α) : Sparse α :=
  m.filterMap (fun kv => if f kv.2 = d then none else some (kv.1, f kv.2))

/-- Whether every key of a map lies above `lo` and keys rise strictly (`none`: no lower bound). -/
def sRising : Option Nat → Sparse α → Bool
  | _, [] => true
  | none, (k, _) :: m => sRising (some k) m
  | some lo, (k, _) :: m => decide (lo < k) && sRising (some k) m

/-- The canonical form under a default that may depend on the key. -/
def swf [DecidableEq α] (d : Nat → α) (m : Sparse α) : Bool :=
  sRising none m && m.all (fun kv => decide (kv.2 ≠ d kv.1))

/-- The number of keys listed. -/
def scount (m : Sparse α) : Nat := m.length

end Sys2Proof.Machine
end

