-- ==== Sys2Proof/Machine/State.lean ====
section
/-! DEFINITION. Machine/State.lean: the state of the block as plain data, its reset value, and the reasons a
command can stop. Registers live in one sparse register file keyed by BAR0 address (an unlisted address reads as its
reset value); what engines, queues and stores hold has a structure of its own. -/

namespace Sys2Proof.Machine

/-- Faults: the block stops. -/
inductive Fault
  /-- Raised by `DBG_MEM_DATA_ACCESS` when `DBG.MEM_ADDR` lies outside the 2 MiB supervisor memory (R23, R414): the
  spec gives that address no meaning. Safe: no claim about such an access can be proved. -/
  | debugAddress
  deriving DecidableEq, Repr

/-- Refusals: no meaning for the command. -/
inductive Refusal
  /-- Raised by an arm of `exec` whose command has no meaning yet. Safe. -/
  | notModelled (mnemonic : String)
  /-- Raised by `TAP_PRIVATE_TEST` in lifecycle RETURNED: R412 calls the private test instructions 'not described in
  this manual'. Safe. -/
  | privateTest
  deriving DecidableEq, Repr

/-- One value for each radio region. -/
structure Per3 (α : Type) where
  l : α
  m : α
  h : α
  deriving DecidableEq, Repr

/-- The operating modes (R79). -/
inductive Mode
  | off | hearth | recovery | configure | active | quiet | degraded | standby | handover | safe | maintenance
  | returned
  deriving DecidableEq, Repr

/-- The lifecycle states (R381). -/
inductive Lifecycle | blank | field | fieldDebug | zeroized | returned
  deriving DecidableEq, Repr

/-- What a mode transition in progress is for: a command of R88, a structural application (R66), the wait for the
last mirror items (R467), HEARTH entry (R90). -/
inductive TransKind | command | structural | yieldWait | hearthEntry
  deriving DecidableEq, Repr

/-- A mode transition in progress (R83). -/
structure Transition where
  target : Mode
  kind : TransKind
  since : Nat
  deriving DecidableEq, Repr

/-- A structure image in use: its sixteen sections in ID order, the digest of its header and block table, its
COUNTER, its source (0–3 flash slot, 4 host memory, R63) and its DEPLOYMENT_TAG (R37). -/
structure Image where
  sections : List Bytes
  digest : Bytes
  counter : Nat
  source : Nat
  tag : Bytes
  deriving DecidableEq, Repr

/-- The structure-image block: the active image, a structural application in progress with the mode it left (R66),
and the COUNTER last applied (R36, MRAM). -/
structure StrState where
  active : Option Image
  applying : Option (Image × Mode)
  storedCounter : Nat
  deriving DecidableEq, Repr

/-- One timer channel (R351): while it runs, COUNT is `base` plus the ticks since `start`. `shortened` says that the
TERMINAL last committed lay below COUNT (R352); `latchHi` is what a read of COUNT_LO latched. -/
structure TimerCh where
  running : Bool
  base : Nat
  start : Nat
  terminal : Nat
  shortened : Bool
  latchHi : BitVec 16
  jobAt : Option Nat
  deriving DecidableEq, Repr

/-- The wake context in the Hearth's store (R90 step 2), with the sources the Hearth watches (R373). -/
structure WakeCtx where
  mode : Mode
  source : Nat
  counter : Nat
  timebase : Nat
  incr : Nat
  slowCount : Nat
  ratio : Nat
  timers : List TimerCh
  staggered : List Nat
  pinAts : List (Nat × Word)
  capPins : List Nat
  locked : List (Nat × Word)
  watch : List Nat
  deriving DecidableEq, Repr

/-- Mode, start-up and board conditions (chapter 3). `domains` has bit n − 1 set while domain n is on (R78).
`mask` is the mask last applied (R81), `supplyBad`, `tcxoBad` and `hot` say which causes of R84 are present; `loadDone` that the images of R68 have been tried;
`slowBad` and the two after it which clocks of R72 have
failed; `recoveryCmd` that the present start follows a reset of KIND 2 (R91). -/
structure SysState where
  mode : Mode
  previous : Mode
  safeCause : Byte
  transition : Option Transition
  heldCmd : Option Mode
  hostCmdWritten : Bool
  stage : Nat
  bank : Bool
  straps : Straps
  startTries : Nat
  startTick : Nat
  warm : Bool
  domains : BitVec 16
  mask : BitVec 16
  retention : Bool
  coreEn : Bool
  mainGood : Bool
  onBackup : Bool
  hearthOn : Bool
  supplyBad : Bool
  tcxoBad : Bool
  hot : Bool
  wake : Option WakeCtx
  latchedWake : List Nat
  quietClaim : Bool
  loadDone : Bool
  coreGood : Bool
  slowBad : Bool
  ethRefBad : Bool
  pcieRefBad : Bool
  recoveryCmd : Bool
  deriving DecidableEq, Repr

/-- One die-link direction (R98–R102): the flits sent since training, whose number gives the next one's sequence and flit slot,
the sequence that last failed and how often in a row, the ticks of recent replays
and retrainings, the NAK its receiver has set, the flits (96 bytes each) its transmitter keeps for replay and those it last
replayed, and the recent gaps, from a tick to a tick (none: not yet ended). -/
structure DieDir where
  up : Bool
  sent : Nat
  failSeq : Option Nat
  failStreak : Nat
  replays : List Nat
  retrains : List Nat
  retraining : Bool
  nak : Option Nat
  kept : List Bytes
  replayed : List Bytes
  gaps : List (Nat × Option Nat)
  deriving DecidableEq, Repr

/-- The firmware image in a pair's half of the supervisor memory (R423, R429): the LOAD_LEN bytes loaded, and ENTRY. -/
structure FwImage where
  bytes : Bytes
  entry : Nat
  deriving DecidableEq, Repr

/-- The lockstep pairs (R19, R431): which is active, which are in service, which core is halted by the debugger, and the image in each
pair's half. -/
structure Pairs where
  active : Fin 2
  ok0 : Bool
  ok1 : Bool
  halted0 : Bool
  halted1 : Bool
  half0 : Option FwImage
  half1 : Option FwImage
  deriving DecidableEq, Repr

/-- How a downlink frame is preambled (R225). -/
inductive PreMode | short | strobe | long | parked | postAck
  deriving DecidableEq, Repr

/-- What a carrier's job carries. -/
inductive TxKind | downlink | flood | ack | beacon
  deriving DecidableEq, Repr

/-- How a transmission ends (R207, R119, R120, R130, R132, R235); `returned`: it never began and goes back to the scheduler
(R88). -/
inductive Outcome
  | acked | sent | noAck | noRoute | tooLong | expired | queueFull | discarded | late | channelBusy | coexDenied
  | coexAbort | lockLost | returned
  deriving DecidableEq, Repr

/-- A record for a delivery ring (R287): its kind, its bytes, its entries, the Pantry cells it holds, the port whose ingress cells
they are (none: cells for receive frames), and how many of them are the safety reserve's. -/
structure HostRec where
  kind : Nat
  bytes : Bytes
  entries : Nat
  cells : Nat
  port : Option Nat
  safe : Nat
  deriving DecidableEq, Repr

/-- What a transmission takes at its t0 and keeps to its end: its entry of POWER (R65, R114), its slot's correction record
(R112), its limit in ms (R129, R130), the codes of its loading map (R190), `TXP.FSK_CTRL` (R204), the number of the free values its form takes; and `TXP.TS_TRIM_TX` where its
timestamp point passed before the register was written again (R201). `holes` are the times, from and to, in which the front die did not
permit the emission (R450). -/
structure TxAir where
  entry : BitVec 64
  corr : BitVec 256
  limitMs : Nat
  codes : BitVec 144
  fsk : Word
  pick : Nat
  trim : Option Word
  holes : List (Nat × Nat)
  deriving DecidableEq, Repr

/-- What a job has taken before its t0: nothing. -/
def TxAir.reset : TxAir := ⟨0, 0, 0, 0, 0, 0, none, []⟩

/-- A job on a carrier: the frame, its form (R191), its corrections (R198), its start instant and deadline in fabric
ticks, and the strobe train it belongs to (R226): `opened` says that a copy of it has had its turn. `ackCtrl` and `gapUs` are
`MAC.ACK_CTRL` and the strobe gap as they stood when it was formed (R241). An acknowledgement holds the record of the frame it answers, with its
ring, until it is known whether it was sent (R238). -/
structure TxJob where
  kind : TxKind
  slot : Nat
  handle : Option Nat
  pre : PreMode
  ext : Nat
  mode : Nat
  map : Nat
  rate : Nat
  frame : Bytes
  seq : Byte
  airtime : Nat
  needCca : Bool
  wantAck : Bool
  safety : Bool
  powerReq : Nat
  power : Nat
  offset : Int
  symScale : Int
  start : Nat
  deadline : Nat
  copies : Nat
  sentCopies : Nat
  charged : Nat
  expected : Nat
  ackTo : Nat
  cls : Nat
  answers : Option (Nat × HostRec)
  opened : Bool
  ackCtrl : Word
  gapUs : Nat
  air : TxAir
  deriving DecidableEq, Repr

/-- The states of a carrier: R207's automaton (`starting`: t0 is decided; `settle`: the PA settles before the ramp-up),
the commands held under R119, the strobe gap of R226 and the wait for an acknowledgement of R235. -/
inductive CPhase
  | idle | assigned | held | wait | backoff | cca | starting | settle | onAir | gap | withheld | ackWait
  deriving DecidableEq, Repr

/-- One transmit carrier (R207): NB, BE, the tick its phase ends at, t0, the tick of the first symbol, the last copy's end,
whether a sample of its CCA was invalid, and the job put aside while an acknowledgement has the carrier (R208). -/
structure Carrier where
  phase : CPhase
  job : Option TxJob
  nb : Nat
  be : Nat
  due : Nat
  t0 : Nat
  first : Nat
  ended : Nat
  spoiled : Bool
  aside : Option TxJob
  deriving DecidableEq, Repr

/-- The coexistence wires of a region, the tick their rules count from, and whether a request has yet to be granted
(R131–R133); `req` and `pri` are the arbiter's inputs, `reqAt` and `priAt` the ticks from which the requester's own wires are up (none: low); `cfg` is
`RFC.COEX` as it stood when the request last rose (R138). -/
structure Coex where
  req : Bool
  reqAt : Option Nat
  priAt : Option Nat
  pri : Bool
  gnt : Bool
  since : Nat
  wanted : Bool
  cfg : Word
  deriving DecidableEq, Repr

/-- The calibration schedule of a region (R109, R110): whether one is due and since when, whether its deferral limit
has passed, the one running with its blind time, and when and at what temperature the last ended. -/
structure Recal where
  due : Bool
  dueAt : Nat
  forced : Bool
  running : Option Nat
  blindUs : Nat
  lastAt : Nat
  lastTemp : Byte
  loopAt : Nat
  deriving DecidableEq, Repr

/-- The front end of one radio region (chapter 4). The T/R lines stand at `tr` until the tick of `trStep`, then at its level;
`PAEN_x` is high from `paHighAt` on while `paEn` is set, and while it is high `PABIAS_x` and `PAMODE_x` drive `paBias` and
`paMode` (R114, R116). `centre` is the centre the LO runs on outside a calibration
(R107); during one it follows from the time (`State.loAt`). `timing` is `RFC.TIMING` as the last t0 took it (R116), `tripped` that the
power-detector comparator holds the lines at 00 (R121), `validFrom` the tick at which the samples last became valid; `bad` holds the
invalid marks of the history ring (R141), from a tick to a tick (none: not yet ended). -/
structure Radio where
  inService : Bool
  isolated : Bool
  loLocked : Bool
  centre : Fin 4
  lockLost : List Nat
  carriers : Sparse Carrier
  tr : BitVec 2
  trStep : Option (Nat × BitVec 2)
  paEn : Bool
  paMode : Bool
  paBias : Byte
  paLowAt : Nat
  paHighAt : Nat
  paOff : Option Nat
  rxValidAt : Option Nat
  invalid : Bool
  validFrom : Nat
  bad : List (Nat × Option Nat)
  pdet : List Bool
  pdetLevel : Byte
  coex : Coex
  recal : Recal
  timing : Word
  tripped : Bool
  corr : Sparse (BitVec 256)
  winLatch : Option (Nat × List Word)
  barred : List Nat
  seededRun : Sparse Bool
  deriving DecidableEq, Repr

/-- A detection (R144), as it waits for a lane (R153), with the tick of its report (R145). -/
structure Detection where
  slot : Nat
  mode : Nat
  preStart : Nat
  level : Int
  reported : Nat
  deriving DecidableEq, Repr

/-- A lane decoding a reception (the lane-state table, R150, R158), with the tick it started at (R142), its running RSSI
(R152) and the tick it was taken at, `TXP.TS_TRIM_RX` as its timestamp took it (R201), what its header named: the content its payload's map has, FCS_TYPE, SEED, DW (R174, R180, R181), and the ticks of the first gain step, invalid sample and lost sample at or after its preamble start. -/
structure Lane where
  confirmed : Bool
  region : Region
  slot : Nat
  mode : Nat
  preStart : Nat
  started : Nat
  level : Int
  levelAt : Nat
  trim : Word
  deadline : Nat
  reserved : Bool
  overlapped : Bool
  captured : Bool
  lateStart : Bool
  gainStepped : Option Nat
  blanked : Option Nat
  linkGap : Option Nat
  length : Nat
  map : Nat
  rate : Nat
  dlHeld : Nat
  mcs : Nat
  codes : BitVec 144
  fcs2 : Bool
  seed : Nat
  dw : Bool
  rxCells : Nat
  safetyCells : Nat
  deriving DecidableEq, Repr

/-- What a watcher and the quarantine rule keep for one slot (R146, R147, R149): failures in a row, the last report of each
mode with its tick and level, the power blocks of the last 100 ms, when a lane of the slot last freed. -/
structure SlotRx where
  fails : Nat
  quarUntil : Option Nat
  reports : List (Nat × Nat × Int)
  blocks : List (Nat × Int)
  lastBusy : Nat
  deriving DecidableEq, Repr

/-- A sample of the history ring: its tick, its 800 usable bins, its invalid mark (R141). -/
structure RingSample where
  tick : Nat
  bins : List (BitVec 36)
  invalid : Bool
  deriving DecidableEq, Repr

/-- The receive side of one radio region (chapter 5): `ring` is its history ring, the oldest sample first (R141), `allocAt` is the cycle of the allocator's last detection (R151), `histAcc`
what the meters have accumulated since tick `histFrom`: 64 counts, then the clips on I and on Q (R161). -/
structure RxRegion where
  ring : List RingSample
  slots : Sparse SlotRx
  pending : List Detection
  allocAt : Nat
  histAcc : List Nat
  gainTimed : Bool
  gainDeferred : Option Nat
  gainLog : List Nat
  histFrom : Nat
  deriving DecidableEq, Repr

/-- A receive job on its way to the MAC stage (R26 step 7, R158), with the SNRs its lane found (R192), its payload's symbols or bits
(R195) and `TXP.TS_TRIM_RX` as its timestamp took it (R201). -/
structure RxJob where
  lane : Nat
  slot : Nat
  mode : Nat
  flags : Byte
  preStart : Nat
  endTick : Nat
  map : Nat
  rate : Nat
  dlHeld : Nat
  mcs : Nat
  rxCells : Nat
  safetyCells : Nat
  snr : Int
  tones : List Int
  units : Nat
  trim : Word
  lost : Bool
  report : RxReport
  deriving DecidableEq, Repr

/-- One loading map: its 144 bits of codes (R44) and the content held while it is in REPLACE_PENDING (R190). -/
structure LoadMap where
  codes : BitVec 144
  held : Option (BitVec 144)
  deriving DecidableEq, Repr

/-- Transmit-side state of one region (chapter 6): its maps and the words latched by the map window. -/
structure TxRegion where
  maps : Sparse LoadMap
  winLatch : List Word
  deriving DecidableEq, Repr

/-- Airtime accounting and beacons of one region (R210, R236): µs charged, keyed by sub-band × 2^40 + second; the present duty
second, counted from 3,600 so that every second of the rolling hour before has its number, and the tick it began at (R336); a beacon that waits for a carrier. -/
structure MacRegion where
  duty : Sparse Nat
  sec : Nat
  secAt : Option Nat
  beacon : Option TxJob
  beaconSlot : Nat
  lastBeacon : Option Nat
  deriving DecidableEq, Repr

/-- A booking of the Porch (R222, R223, R313, R319). Start instant and deadline are ns of the fix scale
until the release, which converts them to the timebase, and the release instant ns of the fix scale (R337); a booking without a
prediction has no deadline. `mac` is the MAC frame formed at release with its sequence number. -/
structure Booking where
  region : Region
  slot : Nat
  via : Option Nat
  key : Nat
  keyType : Nat
  flood : Bool
  start : Int
  deadline : Option Int
  release : Int
  formed : Nat
  mac : Bytes
  seq : Byte
  pre : PreMode
  ext : Nat
  copies : Nat
  airtime : Nat
  released : Bool
  assigned : Bool
  cls : Nat
  finish : Nat
  markReg : Bool
  markSafety : Bool
  owedAtMark : Bool
  fixChanged : Bool
  ackCtrl : Word
  gapUs : Nat
  deriving DecidableEq, Repr

/-- The Porch (chapter 7): bookings keyed by 4 × handle, and by 4 × handle + 1 + region for a flood's copies; nodes
waiting for room in the calendar; by handle the end of the acknowledgement a post-acknowledgement delivery follows, in ns
of the fix scale, and a flood's copies still out with whether one was sent. -/
structure Porch where
  bookings : Sparse (Option Booking)
  waiting : List Nat
  postAck : Sparse (Option Int)
  floodOut : Sparse (Nat × Bool)
  deriving DecidableEq, Repr

/-- Where a downlink frame came from. -/
inductive DlSource | submission (ring : Nat) | ethernet (port : Nat)
  deriving DecidableEq, Repr

/-- A downlink frame in a node queue or in submission staging: the queue header of R305 and the descriptor's
fields (R293). `attempts` counts its transmissions (R289), `tries` is the header's attempt count (R320), `retries` the times it
ended without an acknowledgement (R235). -/
structure DlFrame where
  source : DlSource
  op : Nat
  handle : Nat
  payload : Bytes
  clsOverride : Option Nat
  cls : Nat
  region : Region
  finish : Nat
  enqueued : Nat
  lifetime : Nat
  attempts : Nat
  tries : Nat
  retries : Nat
  cookie : BitVec 64
  complRing : Nat
  complete : Bool
  iphcDone : Bool
  stampRaw : Nat
  cells : Nat
  pool : Region
  offset : Nat
  units : Nat
  seq : Option Byte
  sentRaw : Nat
  sentSource : Nat
  waiting : Bool
  deriving DecidableEq, Repr

/-- The downlink scheduler of one region (chapter 10): buckets in ns (none: full), histograms keyed by class × 32 +
kind × 16 + bin, the latched histogram, when the last sample was taken. -/
structure DlsRegion where
  sbTokens : Sparse (Option Int)
  shape : Sparse (Option Int)
  minRate : Sparse (Option Int)
  hist : Sparse Word
  latch : List Word
  lastSample : Option Nat
  deriving DecidableEq, Repr

/-- The downlink scheduler: its regions, the queues by handle, and the DOWNLINK section, the profile and the BURST_S
figures in effect since the last refill (R317). -/
structure Dls where
  regions : Per3 DlsRegion
  queues : Sparse (List DlFrame)
  records : Bytes
  prof : Option Bytes
  burst : List Nat
  lastRefill : Option Nat
  deriving DecidableEq, Repr

/-- The learning and prefix tables (R252–R267) and the node records (R16, R249): the records the Loft holds, the
records cached on chip in order of use, latest first. -/
structure Tables where
  learn : Per3 (Sparse (BitVec 128))
  spill : Per3 (Sparse (BitVec 128))
  prefixes : Sparse (BitVec 256)
  bloom : Sparse Bool
  rebuilding : List Nat
  deletes : Sparse Nat
  loft : Sparse (BitVec 2048)
  cache : List (Nat × BitVec 2048)
  /-- The tick at which GO of a command block falls (R269), by the block's completion source. -/
  busy : Sparse Nat
  /-- The positions that relocations in progress write, with the tick at which each insertion ends at the latest (R255), by table. -/
  moving : Sparse (List (Nat × Nat))
  deriving DecidableEq, Repr

/-- A job in the dispatcher (R276): its type, group, level, cost, and what it is about: the region of a receive job, the
channel of a timer event. -/
structure Job where
  kind : Fin 7
  group : Nat
  level : Nat
  cost : Nat
  arg : Nat
  deriving DecidableEq, Repr

/-- What a learning job is about (R257): the table, the key, the node, the route offered and its metric. -/
structure LearnReq where
  no : Nat
  region : Nat
  key : Nat
  type : Nat
  handle : Nat
  route : Nat
  metric : Int
  deriving DecidableEq, Repr

/-- The job dispatcher (R276–R278): the jobs queued in groups, requests waiting for a job, jobs an engine holds, what the learning
jobs are about and how many there have been. -/
structure Jobs where
  learns : List LearnReq
  learnNo : Nat
  queued : List Job
  deficit : Sparse Int
  waiting : List Job
  handed : List Job
  inFlight : Nat
  rxIn : Nat
  ackIn : Nat
  next : Nat
  deriving DecidableEq, Repr

/-- One host ring (R295, R296): HEAD, TAIL, P, when its moderation timer started, whether its interrupt is due, the
records held for it. -/
structure Ring where
  head : Nat
  tail : Nat
  p : Nat
  timer : Option Nat
  due : Bool
  held : List HostRec
  stopped : Bool
  deriving DecidableEq, Repr

/-- A frame waiting to leave by an Ethernet port (R300): its bytes without FCS, its PFC priority (none: no priority is
given), and for an `ETH_SEND` descriptor its COOKIE, completion ring and COMPLETE. -/
structure EthOut where
  frame : Bytes
  prio : Option Nat
  compl : Option (BitVec 64 × Nat × Bool)
  deriving DecidableEq, Repr

/-- A frame of the fast path that waits for cells of its port's egress pool, with the cells of the receive pool and of the safety
reserve it still holds (R281, R298). -/
structure EthHeld where
  out : EthOut
  rx : Nat
  safe : Nat
  deriving DecidableEq, Repr

/-- One Ethernet port (R300): link, received and sent PAUSE, priorities paused, frames waiting to leave, frames of the fast path
waiting for egress cells. -/
structure EthPort where
  up : Bool
  pausedUntil : Option Nat
  pfcUntil : Sparse (Option Nat)
  sentPause : Option Nat
  ingress : Nat
  egress : List EthOut
  waiting : List EthHeld
  deriving DecidableEq, Repr

/-- Host interface (chapter 9): rings keyed 0–31 delivery, 32–63 submission, 64–67 command; Pantry cells in use. -/
structure Hif where
  rings : Sparse Ring
  linkUp : Bool
  power : PciePower
  l1 : Bool
  pmeEn : Bool
  busMaster : Bool
  msix : Bool
  rxUsed : Nat
  safetyUsed : Nat
  /-- The cells the safety reserve has now: `SAFETY_RESERVE` as far as cells freed have let it apply (R301). -/
  safetySize : Nat
  /-- The MSI-X table of BAR2 (R284), its pending bits, and the function's own mask. -/
  msixTable : Sparse (BitVec 128)
  msixPending : BitVec 64
  msixMask : Bool
  /-- PME_Status (R297). -/
  pmeStatus : Bool
  /-- The command ring whose turn it is (R294). -/
  cmdTurn : Nat
  /-- The lanes whose heartbeat reaches the host interface as other octets in this period (R290, R469). -/
  hbWrong : List (Nat × Bytes)
  staging : List DlFrame
  stalled : Bool
  ports : Sparse EthPort
  rxJobs : Per3 (List RxJob)
  hbSeq : Sparse Nat
  hbTaken : List Nat
  hbPassed : List Nat
  busyOk : List Nat
  deriving DecidableEq, Repr

/-- A pending timebase step (R332): issued at tick `since`. -/
structure StepPend where
  since : Nat
  set : Bool
  timed : Bool
  sec : Nat
  ns : Nat
  atSec : Nat
  atNs : Nat
  deriving DecidableEq, Repr

/-- A time pin (R346–R350): armed, pulsing until a tick, the next instant in ns, capture buffers; `fresh` is NEW. The pad of an input is
held with its interrupt source. -/
structure Pin where
  armed : Bool
  pulseEnd : Option Nat
  next : Nat
  stopping : Bool
  curSec : Nat
  curNs : Nat
  curCoarse : Bool
  readSec : Nat
  readNs : Nat
  readSeq : Nat
  seq : Nat
  fresh : Bool
  /-- The tick of the last capture, and the current buffer, NEW and OVERRUN_STK as they stood before it (R348). -/
  capAt : Nat
  oldSec : Nat
  oldNs : Nat
  oldCoarse : Bool
  oldSeq : Nat
  oldFresh : Bool
  oldOverrun : Bool
  deriving DecidableEq, Repr

/-- The timebase (R329): its value in 2^−32 ns at tick `at`, from which it advances by `incr` a tick; the tick, value and increment of each
course before, the latest first, as far as a timestamp may still be taken from it; the latches of
R331, the step pending, the accumulated offset steps (R337), when the holdover last restarted (R334) and the last valid ratio of the slow
clock (R355). -/
structure Tsu where
  base : Nat
  start : Nat
  incr : Nat
  past : List (Nat × Nat × Nat)
  latchSec : Nat
  latchFrac : Nat
  step : Option StepPend
  accum : Int
  holdFrom : Nat
  pins : Sparse Pin
  snaps : Sparse (List Word)
  snapPend : Sparse (Option Nat)
  hearthCaps : Sparse (Option Nat)
  cycleAt : Nat
  ratio : Nat
  deriving DecidableEq, Repr

/-- One interrupt source as the controller holds it (R364, R370); for an external input also its pin level after the glitch filter and
the ticks of the pad's transitions that the filter has not let through (R363). -/
structure IrqSrc where
  enabled : Bool
  edge : Bool
  wake : Bool
  target : Bool
  level : Nat
  vector : Nat
  raw : Bool
  pending : Bool
  active : Bool
  storm : Bool
  merged : Bool
  changes : Nat
  heldLevel : Option (Nat × Bool)
  pin : Bool
  moves : List Nat
  deriving DecidableEq, Repr

/-- The interrupt controller (chapter 12). `events` are edge events raised by other blocks and not yet taken;
`told` is the source the last MSI-X message stood for, `due` the vectors of the messages that wait (R366), `supLine` the interrupt line
of the active pair (R366), `supWoken` whether a core of it that waits resumes (R372), `missA` and `missB` the slow ticks of the last
samples of the tamper mesh that differed (R409). -/
structure Irq where
  srcs : Sparse IrqSrc
  hostStack : List Nat
  supStack : List Nat
  events : List Nat
  told : Option Nat
  due : List Nat
  hearthAt : Nat
  hearthLeft : Nat
  wakeSeen : List Nat
  wakeSrc : Option Nat
  window : Nat
  supLine : Bool
  supWoken : Bool
  missA : Option Nat
  missB : Option Nat
  deriving DecidableEq, Repr

/-- A key sealed with KW (R392): it opens to `key` under the derivation root it was sealed under, and under no other (R400). -/
structure Sealed where
  root : Bytes
  key : Bytes
  deriving DecidableEq, Repr

/-- What a store slot of the key store holds, its keys sealed (R392). -/
structure KeyStore where
  gen : Nat
  owner : Option Bytes
  profile : Option Bytes
  kek : Option (Nat × Sealed)
  prev : Option (Nat × Sealed)
  rolloverS : Nat
  twin : Option Sealed
  image : Option Sealed
  armed : Bool
  deriving DecidableEq, Repr

/-- A store slot (R392): its content, the derivation root its SEAL was made under, and whether the content is still what was sealed;
none: erased or never written. -/
structure KeySlot where
  store : Option KeyStore
  root : Bytes
  kept : Bool
  deriving DecidableEq, Repr

/-- The Strongroom (chapter 13). `root`, `devPriv` and the key cells are reached by no register; `commitLive`, `commitGen`, `counter` and
`commitCrc` are the commit record's line (R392). -/
structure Key where
  lifecycle : Lifecycle
  debugLatch : Bool
  deviceId : Bytes
  devPub : Bytes
  devPriv : Option Sealed
  root : Option Bytes
  slotA : KeySlot
  slotB : KeySlot
  commitLive : Bool
  commitGen : Nat
  commitCrc : Word
  counter : Nat
  integrity : Bool
  checked : Bool
  cur : Option (Nat × Bytes)
  prev : Option (Nat × Bytes)
  windowEnd : Option Nat
  sweep : Option Nat
  sweepAt : Nat
  engineOwner : Option Bytes
  wrapCtr : Nat
  regenDue : Bool
  offTamper : Bool
  staleJobs : List (Nat × Nat × Nat)
  deriving DecidableEq, Repr

/-- A firmware trial (R430, R437): the TRIAL record. -/
structure Trial where
  active : Bool
  bank : Bool
  rejectedA : Bool
  rejectedB : Bool
  starts : Nat
  left : Nat
  counter : Nat
  deriving DecidableEq, Repr

/-- One copy of an NV settings set, with the CRC its header holds (R437). -/
structure NvCopy where
  counter : Nat
  startMode : Nat
  defaultSlot : Nat
  duty : Sparse Nat
  trial : Trial
  crc : Word
  deriving DecidableEq, Repr

/-- One format set of the NV settings: its two copies (none: not written). -/
structure NvSet where
  format : Nat
  a : Option NvCopy
  b : Option NvCopy
  deriving DecidableEq, Repr

/-- An update session that writes a container (R427, R442, R443, R459): its destination, what has arrived, whether the
check of its header has passed and it holds the lock, and the last sequence number taken. -/
structure Session where
  target : Nat
  checked : Bool
  data : Bytes
  lastSeq : BitVec 16
  peer : Bytes
  deriving DecidableEq, Repr

/-- The raise K fixed at a claim (R463). -/
inductive RaiseK | by (k : Nat) | exhaust
  deriving DecidableEq, Repr

/-- A frame sent on the twin link and not yet acknowledged (R458, R462): its bytes as sent, and the tick it was first sent. -/
structure TwinSent where
  seq : Nat
  type : Byte
  payload : Bytes
  raw : Bytes
  sent : Nat
  deriving DecidableEq, Repr

/-- An offer this package's host has made by the twin path (R459): its ring and tag, what its answer names, and the frames of the
transfer still to be sent. -/
structure TwinOffer where
  ring : Nat
  tag : Nat
  counter : Nat
  place : Nat
  left : List (Byte × Bytes)
  deriving DecidableEq, Repr

/-- The twin link (R454–R458). Link states: 0 DOWN, 1 HELLO, 2 CONFIRM, 3 UP (R473). -/
structure TwinLink where
  link : Nat
  txSeq : Nat
  rxNext : Nat
  unacked : List TwinSent
  ackAt : Nat
  lastRx : Nat
  lastTx : Nat
  authFails : List Nat
  ownNonce : Bytes
  peerNonce : Bytes
  keyA : Bytes
  keyB : Bytes
  peerConfirmed : Bool
  peerAccum : Int
  peerHealth : Word
  peerAt : Nat
  outQueue : List (Byte × Bytes)
  slowHello : Bool
  deriving DecidableEq, Repr

/-- Twin operation (chapter 15): the line, claims, mirroring. SYNC: 0 NONE, 1 RESYNC, 2 IN_SYNC, 3 LOST (R466).
`silent` says PEER_SILENT_STK has been set since the link was last up, `mirrorLost` that the link has gone down since a wait
of R467 began, `mirrorAt`, in 10⁻¹⁸ s, is where the stream at MIRROR_MBPS has come to, `offer` is an offer made by the twin path,
and `gateFrom` says since when this package's drive has been on while the line reads released (R450). -/
structure Twin where
  l : TwinLink
  released : Bool
  ownDrive : Bool
  sync : Nat
  probeAt : Option Nat
  probeOk : Bool
  claimFrom : Option Nat
  claimAt : Nat
  healthSeq : Nat
  lastHealth : Word
  cursor : Option Nat
  mirror : List Bytes
  acked : Sparse Nat
  offered : Sparse Nat
  lastSync : Option Nat
  hearthKept : Bool
  raise : Option RaiseK
  secured : Sparse (Nat × Nat)
  lineReadback : Bool
  peerDuty : List (Nat × Nat × Nat × Nat)
  silent : Bool
  mirrorLost : Bool
  mirrorAt : Nat
  offer : Option TwinOffer
  gateFrom : Option Nat
  deriving DecidableEq, Repr

/-- The background self-test of a standby (R465): the lanes whose test frame runs, and the tick since when the memories are scrubbed. -/
structure BgTest where
  lanes : List Nat
  since : Nat
  deriving DecidableEq, Repr

/-- Functional safety (R469, R470), and the background self-test of a standby (R465). -/
structure Saf where
  latentAt : Nat
  latentFailed : Bool
  tempFront : Byte
  tempCore : Byte
  hbAt : Nat
  hbRing : Nat
  bg : Option BgTest
  deriving DecidableEq, Repr

/-- The test access port (R412) and the debug session (R413, R414). `supMem` holds the words of supervisor memory that a
debugger has written, by address / 4; `keyWords` where, by address / 4, the supervisor's map shows key cells and the working key register,
which the spec does not give. -/
structure Dbg where
  scopeTap : Bool
  scopeBar : Bool
  ir : Byte
  boundary : Bytes
  pinsDriven : Bool
  pinsHighZ : Bool
  captured : Bytes
  supMem : Sparse (Option Word)
  keyWords : List Nat
  deriving DecidableEq, Repr

/-- A token bucket of the Cellar (R481): what its records have used and has not yet accrued again, in fabric ticks at
tick `stamp`, and the events suppressed since the last record of the code. A full bucket has used 0. -/
structure CellBucket where
  spent : Nat
  stamp : Nat
  suppressed : Nat
  deriving DecidableEq, Repr

/-- The Cellar (chapter 16). `records` is keyed by index. `opBase` seconds were counted when domain 2 came on at
tick `opFrom` (R478); `unlearned` holds events the supervisor has yet to learn of (R479), and
`clearMsg` the command ring and TAG that wait for the end of a clear (R485). -/
structure Cellar where
  records : Sparse (BitVec 256)
  next : Nat
  opBase : Nat
  opFrom : Option Nat
  opSaved : Nat
  powerCycles : Nat
  lostFull : Nat
  clearing : Bool
  buckets : Sparse CellBucket
  hold : List (BitVec 256)
  frozenAt : Option Nat
  lostHold : Nat
  unlearned : List (Nat × Nat × Nat × Nat)
  latch : BitVec 256
  clearMsg : Option (Nat × Nat)
  deriving DecidableEq, Repr

/-- What a state record holds (R432), area by area: the mode (`SYS.MODE`), the held command, the lock's holder and progress; the
active image; the supervisor context; each region's calibration schedule (last time and temperature, deferral start); the twin
protocol; the safety monitor; the Cellar; HEAD of the command rings and the message in progress; the rollover window, the sweep and
the duty save; the trial. [log 183: DESIGN CHOICE] -/
structure StateContent where
  mode : Nat
  heldCmd : Option Mode
  lock : Option Nat
  progress : Word
  image : Option (Nat × Nat × Bool × Bytes)
  supStack : List Nat
  supActive : List Nat
  cal : Per3 (Nat × Byte × Option Nat)
  twin : Twin
  saf : Saf
  detections : List Word
  next : Nat
  hold : List (BitVec 256)
  lostHold : Nat
  buckets : Sparse CellBucket
  heads : List Nat
  message : Option (Nat × Nat)
  windowEnd : Option Nat
  sweep : Option Nat
  sweepAt : Nat
  dutyAt : Nat
  trial : Trial
  deriving DecidableEq, Repr

/-- A handover of supervisor control in progress (R431): the pair it leaves, whether the idle pair is ready and since when,
the trial it opens, who holds the lock for it, the command ring whose message it answers, and the state record the idle pair's half
holds (R432). -/
structure Handover where
  fromPair : Fin 2
  ready : Bool
  since : Nat
  confirmS : Nat
  bank : Bool
  counter : Nat
  holder : Nat
  ring : Option Nat
  tag : Nat
  record : Option (StateContent × Bytes)
  deriving DecidableEq, Repr

/-- Flash, NV settings and firmware (chapter 14). Banks are keyed 0, 1 and slots 0–3; bundles by slot of the
node-image store; sessions by their holder of R445, and `answered` by the same the last SEQ, target, status and offset that a closed
session was answered with (R443). `halves` are the bytes of BAR4/5 (R442). `running` and `runHdr` are COUNTER and payload header of the firmware
that runs, `oldFw` those of the image the other pair has kept, with its bank; `kept` is what the state record held that the other
pair wrote at activation (R434), `dutyAt` when the duty totals were last saved (R212). [log 148: DESIGN CHOICE] -/
structure Upd where
  banks : Sparse Bytes
  slots : Sparse Bytes
  bundles : Sparse Bytes
  halves : Sparse Byte
  nv0 : NvSet
  nv1 : NvSet
  fwMin : Nat
  bundleCounter : Nat
  lock : Option Nat
  lockAt : Nat
  running : Nat
  runHdr : Bytes
  oldFw : Option (Nat × Bool × Bytes)
  kept : Option StateContent
  dutyAt : Nat
  recordFormat : Nat
  handover : Option Handover
  sessions : Sparse (Option Session)
  answered : Sparse (Option (BitVec 16 × Nat × Nat × Nat))
  migrate : Option Nat
  migrateAt : Nat
  trialAt : Nat
  warned : Bool
  deriving DecidableEq, Repr

/-- What leaves the block. -/
inductive Output
  | msix (vector : Nat)
  | hostWrite (ring : Nat) (entry : Nat) (offset : Nat) (bytes : Bytes)
  | answer (ring : Nat) (tag : Nat) (mailbox : Nat) (result : Nat) (rsp : Bytes)
  | twinFrame (raw : Bytes)
  | ethFrame (port : Nat) (frame : Bytes)
  | pauseFrame (port : Nat) (quanta : Nat)
  | sessionAnswer (port : Nat) (body : Bytes)
  | air (region : Region) (carrier : Nat) (first : Nat) (job : TxJob)
  | pme
  | wakePin
  | leaveL1
  | qspiHighZ
  | tdo (bits : Bytes)
  deriving DecidableEq, Repr

/-- The state of the block. -/
structure State where
  /-- The fabric tick reached (R70). The model's own clock; the timebase is computed from it. -/
  now : Nat
  /-- The commands that wait, first in, first out. -/
  pending : List Instr
  /-- The register file: BAR0 addresses and their words; an unlisted address reads as its reset value. -/
  regs : Sparse Word
  /-- By register address, the tick at which hardware last set bits of it and the bits set in that tick (R5). -/
  setAt : Sparse (Nat × Word)
  /-- What the last register or window read returned. -/
  readData : BitVec 64
  /-- The model's own counter of free values taken. -/
  freeCtr : Nat
  /-- What has left the block, oldest first. -/
  outbox : List Output
  /-- Fitted Loft size in GiB, 0 when it is unavailable (R25, R97). -/
  loftGiB : Nat
  loftReady : Bool
  /-- Units out of service (R21). -/
  oos : List UnitId
  /-- Clusters out of service as a whole (R20). -/
  oosClusters : List Nat
  sys : SysState
  dieF2c : DieDir
  dieC2f : DieDir
  pairs : Pairs
  str : StrState
  radio : Per3 Radio
  rx : Per3 RxRegion
  lanes : Sparse (Option Lane)
  tx : Per3 TxRegion
  mac : Per3 MacRegion
  porch : Porch
  dls : Dls
  tab : Tables
  jobs : Jobs
  hif : Hif
  tsu : Tsu
  timers : Sparse TimerCh
  irq : Irq
  key : Key
  upd : Upd
  twin : Twin
  saf : Saf
  dbg : Dbg
  cellar : Cellar
  deriving DecidableEq, Repr

/-- A carrier that holds nothing. -/
def Carrier.reset : Carrier :=
  ⟨.idle, none, 0, 0, 0, 0, 0, 0, false, none⟩

/-- Coexistence wires at rest: low. -/
def Coex.reset : Coex := ⟨false, none, none, false, false, 0, false, 0⟩

/-- A front end after reset: off, unlocked, lines low (R105). -/
def Radio.reset : Radio :=
  { inService := false, isolated := false, loLocked := false, centre := 0, lockLost := [], carriers := [], tr := 0, trStep := none,
    paEn := false, paMode := false, paBias := 0, paLowAt := 0, paHighAt := 0, paOff := none, rxValidAt := none, invalid := true, validFrom := 0, bad := [],
    pdet := [], pdetLevel := 0, coex := Coex.reset, timing := 0x00020A05, tripped := false,
    recal := ⟨false, 0, false, none, 0, 0, 0, 0⟩, corr := [], winLatch := none, barred := [], seededRun := [] }

/-- The receive side of a region after reset. -/
def RxRegion.reset : RxRegion := ⟨[], [], [], 0, [], false, none, [], 0⟩

/-- Airtime accounting of a region after reset. -/
def MacRegion.reset : MacRegion := ⟨[], 3600, none, none, 0, none⟩

/-- A downlink-scheduler region after reset. -/
def DlsRegion.reset : DlsRegion := ⟨[], [], [], [], [], none⟩

/-- A die-link direction after reset: not up (R103). -/
def DieDir.reset : DieDir := ⟨false, 0, none, 0, [], [], false, none, [], [], []⟩

/-- A stopped timer channel. -/
def TimerCh.reset : TimerCh := ⟨false, 0, 0, 0, false, 0, none⟩

/-- A host ring after reset (R295). -/
def Ring.reset : Ring := ⟨0, 0, 0, none, false, [], false⟩

/-- An Ethernet port after reset: link down. -/
def EthPort.reset : EthPort := ⟨false, none, [], none, 0, [], []⟩

/-- A pin after reset: disarmed, nothing captured. -/
def Pin.reset : Pin :=
  ⟨false, none, 0, false, 0, 0, false, 0, 0, 0, 0, false, 0, 0, 0, false, 0, false, false⟩

/-- An interrupt source with no image active (R379). -/
def IrqSrc.reset : IrqSrc := ⟨false, false, false, false, 0, 0, false, false, false, false, false, 0, none, false, []⟩

/-- No trial. -/
def Trial.reset : Trial := ⟨false, false, false, false, 0, 0, 0⟩

/-- An erased key-store slot. -/
def KeySlot.erased : KeySlot := ⟨none, [], false⟩

/-- The nominal timebase increment 0x1_3880_0000 in 2^−32 ns (R330). -/
def nominalIncr : Nat := 0x138800000

/-- The twin link down, nothing heard of a peer (R473). -/
def TwinLink.reset : TwinLink :=
  { link := 0, txSeq := 1, rxNext := 1, unacked := [], ackAt := 0, lastRx := 0, lastTx := 0, authFails := [],
    ownNonce := [], peerNonce := [], keyA := [], keyB := [], peerConfirmed := false, peerAccum := 0, peerHealth := 0,
    peerAt := 0, outQueue := [], slowHello := false }

/-- The link down again (R458): what `TWN.PEER_HEALTH` and `TWN.PEER_AGE_MS` show of the peer stays (R472). -/
def TwinLink.again (l : TwinLink) : TwinLink :=
  { TwinLink.reset with lastRx := l.lastRx, peerHealth := l.peerHealth, peerAt := l.peerAt }

/-- The block right after a power-on reset, before the root PLL locks: stage 0, `SYS.MODE.CURRENT` 0x0 (R83, R95),
only the Hearth domain on (R78), lifecycle BLANK as shipped (R381), MRAM, flash and Loft empty. What the spec leaves to
the part or the board (device identity, straps, fitted Loft, levels of wires) has the values the assumption log names.
[log 2: DESIGN CHOICE] [log 7: DEDUCED] -/
def State.reset : State where
  now := 0
  pending := []
  regs := []
  setAt := []
  readData := 0
  freeCtr := 0
  outbox := []
  loftGiB := 2
  loftReady := false
  oos := []
  oosClusters := []
  sys :=
    { mode := .off, previous := .off, safeCause := 0, transition := none, heldCmd := none, hostCmdWritten := false,
      stage := 0, bank := false, straps := ⟨false, false, false⟩, startTries := 0, startTick := 0, warm := false,
      domains := 0x0001, mask := 0x0001, retention := false, coreEn := true, mainGood := true, onBackup := false, hearthOn := true,
      supplyBad := false, tcxoBad := false, hot := false, wake := none, latchedWake := [], quietClaim := false,
      loadDone := false, coreGood := true, slowBad := false, ethRefBad := false, pcieRefBad := false,
      recoveryCmd := false }
  dieF2c := DieDir.reset
  dieC2f := DieDir.reset
  pairs := ⟨0, true, true, false, false, none, none⟩
  str := ⟨none, none, 0⟩
  radio := ⟨Radio.reset, Radio.reset, Radio.reset⟩
  rx := ⟨RxRegion.reset, RxRegion.reset, RxRegion.reset⟩
  lanes := []
  tx := ⟨⟨[], []⟩, ⟨[], []⟩, ⟨[], []⟩⟩
  mac := ⟨MacRegion.reset, MacRegion.reset, MacRegion.reset⟩
  porch := ⟨[], [], [], []⟩
  dls := ⟨⟨DlsRegion.reset, DlsRegion.reset, DlsRegion.reset⟩, [], [], none, [60, 60, 60], none⟩
  tab := ⟨⟨[], [], []⟩, ⟨[], [], []⟩, [], [], [], [], [], [], [], []⟩
  jobs := ⟨[], 0, [], [], [], [], 0, 0, 0, 0⟩
  hif :=
    { rings := [], linkUp := false, power := .d0, l1 := false, pmeEn := false, busMaster := false, msix := false,
      rxUsed := 0, safetyUsed := 0, safetySize := 2048, msixTable := [], msixPending := 0, msixMask := false, pmeStatus := false,
      cmdTurn := 0, hbWrong := [], staging := [], stalled := false, ports := [], rxJobs := ⟨[], [], []⟩,
      hbSeq := [], hbTaken := [], hbPassed := [], busyOk := [] }
  tsu :=
    { base := 0, start := 0, incr := nominalIncr, past := [], latchSec := 0, latchFrac := 0, step := none,
      accum := 0, holdFrom := 0, pins := [], snaps := [], snapPend := [], hearthCaps := [],
      cycleAt := 0, ratio := 0x61A80000 }
  timers := []
  irq :=
    { srcs := [], hostStack := [], supStack := [], events := [], told := none, due := [], hearthAt := 0,
      hearthLeft := 0, wakeSeen := [], wakeSrc := none, window := 0, supLine := false, supWoken := false,
      missA := none, missB := none }
  key :=
    { lifecycle := .blank, debugLatch := false, deviceId := 1 :: List.replicate 15 0, devPub := List.replicate 64 0,
      devPriv := some ⟨List.replicate 32 0, List.replicate 32 0⟩, root := some (List.replicate 32 0), slotA := KeySlot.erased,
      slotB := KeySlot.erased, commitLive := false, commitGen := 0, commitCrc := 0, counter := 0,
      integrity := false, checked := false, cur := none, prev := none, windowEnd := none, sweep := none, sweepAt := 0,
      engineOwner := none, wrapCtr := 0, regenDue := false, offTamper := false, staleJobs := [] }
  upd :=
    { banks := [], slots := [], bundles := [], halves := [], nv0 := ⟨1, none, none⟩, nv1 := ⟨1, none, none⟩, fwMin := 0,
      bundleCounter := 0, lock := none, lockAt := 0, running := 0, runHdr := [], oldFw := none, kept := none, dutyAt := 0, recordFormat := 1,
      handover := none, sessions := [], answered := [], migrate := none, migrateAt := 0, trialAt := 0, warned := false }
  twin :=
    { l := TwinLink.reset, released := true, ownDrive := false, sync := 0, probeAt := none, probeOk := false,
      claimFrom := none, claimAt := 0, healthSeq := 0, lastHealth := 0, cursor := none, mirror := [], acked := [],
      offered := [], lastSync := none, hearthKept := true, raise := none, secured := [], lineReadback := true,
      peerDuty := [], silent := false, mirrorLost := false, mirrorAt := 0, offer := none, gateFrom := none }
  saf := ⟨0, false, 0, 0, 0, 0, none⟩
  dbg := ⟨false, false, 0xFF, [], false, false, [], [], []⟩
  cellar :=
    { records := [], next := 0, opBase := 0, opFrom := none, opSaved := 0, powerCycles := 0, lostFull := 0,
      clearing := false, buckets := [], hold := [], frozenAt := none, lostHold := 0,
      unlearned := [], latch := 0, clearMsg := none }

end Sys2Proof.Machine
end

