-- ==== Sys2Proof/Machine/Ops.lean ====
section
/-! DEFINITION. Machine/Ops.lean: the operations every chapter shares: time, regions, registers, interrupt events,
outputs, random draws and Cellar records. -/

namespace Sys2Proof

/-- The number of a region in every per-region array: 0 L, 1 M, 2 H. -/
def Region.ix : Region → Nat
  | .L => 0
  | .M => 1
  | .H => 2

/-- The region of a number. -/
def Region.ofIx : Nat → Region
  | 0 => .L
  | 1 => .M
  | _ => .H

/-- The front domain of a radio region (R75). -/
def Region.frontDom (r : Region) : Nat := 3 + r.ix
/-- The DSP domain of a radio region (R75). -/
def Region.dspDom (r : Region) : Nat := 6 + r.ix

/-- The three regions in order. -/
def allRegions : List Region := [.L, .M, .H]

end Sys2Proof

namespace Sys2Proof.Machine

/-- The value of a region. -/
def Per3.get {α : Type} (p : Per3 α) : Region → α
  | .L => p.l
  | .M => p.m
  | .H => p.h

/-- The three values with one region's replaced. -/
def Per3.set {α : Type} (p : Per3 α) (r : Region) (v : α) : Per3 α :=
  match r with
  | .L => { p with l := v }
  | .M => { p with m := v }
  | .H => { p with h := v }

/-- The three values with a function applied to one region's. -/
def Per3.upd {α : Type} (p : Per3 α) (r : Region) (f : α → α) : Per3 α := p.set r (f (p.get r))

/-! Complex numbers with whole parts. -/

end Sys2Proof.Machine

namespace Sys2Proof

/-- Sum, difference, product, conjugate, multiple and squared magnitude. -/
def Gauss.add (a b : Gauss) : Gauss := ⟨a.re + b.re, a.im + b.im⟩
def Gauss.sub (a b : Gauss) : Gauss := ⟨a.re - b.re, a.im - b.im⟩
def Gauss.mul (a b : Gauss) : Gauss := ⟨a.re * b.re - a.im * b.im, a.re * b.im + a.im * b.re⟩
def Gauss.conj (a : Gauss) : Gauss := ⟨a.re, -a.im⟩
def Gauss.scale (a : Gauss) (k : Int) : Gauss := ⟨k * a.re, k * a.im⟩
def Gauss.norm2 (a : Gauss) : Nat := (a.re * a.re + a.im * a.im).toNat

end Sys2Proof

namespace Sys2Proof.Machine

/-! Time. One fabric tick is 1/819.2 µs (R70). -/

/-- Fabric ticks in a number of µs, rounded up. -/
def usTicks (n : Nat) : Nat := ceilDiv (n * 4096) 5
/-- Fabric ticks in a number of ms. -/
def msTicks (n : Nat) : Nat := n * 819200
/-- Fabric ticks in a number of s. -/
def secTicks (n : Nat) : Nat := n * 819200000
/-- Whole µs in a number of ticks. -/
def ticksUs (n : Nat) : Nat := n * 5 / 4096
/-- Whole ms in a number of ticks. -/
def ticksMs (n : Nat) : Nat := n / 819200
/-- Whole ns in a number of ticks. -/
def ticksNs (n : Nat) : Nat := n * 5000 / 4096
/-- Fabric ticks in a number of ns, rounded up. -/
def nsTicks (n : Nat) : Nat := ceilDiv (n * 4096) 5000
/-- The ticks of one slow tick at the nominal ratio (R71). [log 54: DESIGN CHOICE] -/
def slowTick : Nat := 25000

/-- The state as it stands when a command that happens at tick `t` acts: at the later of `t` and the tick reached.
[log 9: DESIGN CHOICE] -/
def State.tick (s : State) (t : Nat) : State := { s with now := max s.now t }

/-- The state a command leaves, with the queue and the clock of the state it acted on: those are the step's. -/
def State.keep (u v : State) : State := { u with now := v.now, pending := v.pending }

/-- A command that happens at tick `t`: it changes the state of that tick by `f`.
[log 9: DESIGN CHOICE] [log 10: DESIGN CHOICE] -/
def State.act (s : State) (t : Nat) (f : State → State) : Host.Outcome State Fault Refusal :=
  .next ((f (s.tick t)).keep (s.tick t))

/-- A command that happens at the tick reached. -/
def State.go (s : State) (f : State → State) : Host.Outcome State Fault Refusal := .next ((f s).keep s)

/-- Apply a change where a condition holds. -/
def State.when (s : State) (c : Bool) (f : State → State) : State := if c then f s else s

/-- The spans of a list, from a tick to a tick (none: not yet ended), that reach back at most 4 ms: more than the history
rings hold (R141). -/
def State.spansKept (s : State) (l : List (Nat × Option Nat)) : List (Nat × Option Nat) :=
  l.filter (fun g => match g.2 with | some e => decide (s.now < e + msTicks 4) | none => true)

/-- Every open span of a list ends now. -/
def State.spansEnd (s : State) (l : List (Nat × Option Nat)) : List (Nat × Option Nat) :=
  l.map (fun g => (g.1, some (g.2.getD s.now)))

/-- The first tick at or after a tick that a span of a list covers. -/
def spanSince (l : List (Nat × Option Nat)) (k : Nat) : Option Nat :=
  ((l.filter (fun g => match g.2 with | some e => decide (k < e) | none => true)).map (fun g => max k g.1)).min?

/-! Registers. -/

/-- The word stored at a BAR0 address. -/
def State.rg (s : State) (a : Nat) : Word := sget (regReset a) s.regs a

/-- Store a word. -/
def State.setRg (s : State) (a : Nat) (w : Word) : State := { s with regs := sput (regReset a) s.regs a w }

/-- A field of a register: `n` bits from bit `lo`. -/
def State.rf (s : State) (a lo n : Nat) : Nat := getBits (s.rg a) lo n

/-- One bit of a register. -/
def State.rb (s : State) (a i : Nat) : Bool := (s.rg a).getLsbD i

/-- Store a field of a register. -/
def State.setRf (s : State) (a lo n v : Nat) : State := s.setRg a (setBits (s.rg a) lo n v)

/-- The bits of a register that hardware has set in the present cycle (R5). -/
def State.setNow (s : State) (a : Nat) : Word :=
  let x := sget (0, 0) s.setAt a
  if x.1 = s.now then x.2 else 0

/-- Hardware sets a bit of a register in the present cycle (R5). -/
def State.setMark (s : State) (a i : Nat) : State :=
  { s with setAt := sput (0, 0) s.setAt a (s.now, s.setNow a ||| BitVec.ofNat 32 (2 ^ i)) }

/-- Set one bit (a sticky field among them, R4). -/
def State.stk (s : State) (a i : Nat) : State := (s.setRf a i 1 1).setMark a i

/-- What a word written to a register clears of its W1C bits `m`: a bit that hardware sets in the same cycle stays set
(R5). -/
def State.w1cOf (s : State) (a : Nat) (m w : Word) : Word := w &&& m &&& ~~~ s.setNow a

/-- The W1C bits `m` of a register, written with a word. -/
def State.w1c (s : State) (a : Nat) (m w : Word) : State := s.setRg a (s.rg a &&& ~~~ s.w1cOf a m w)

/-- Clear one bit. -/
def State.clrb (s : State) (a i : Nat) : State := s.setRf a i 1 0

/-- Store one bit. -/
def State.setb (s : State) (a i : Nat) (b : Bool) : State := s.setRf a i 1 b.toNat

/-- Advance a 32-bit counter that saturates. -/
def State.cntBy (s : State) (a n : Nat) : State := s.setRg a (BitVec.ofNat 32 (min 0xFFFFFFFF ((s.rg a).toNat + n)))

/-- Advance a saturating counter by one. -/
def State.cnt (s : State) (a : Nat) : State := s.cntBy a 1

/-! Accesses that reach no register (R9–R11, R14). -/

/-- The base of the block that holds a BAR0 register address (R13). -/
def blockBase (a : Nat) : Nat :=
  (([0x3C0000, 0x3A0000, 0x390000, 0x380000, 0x340000, 0x300000, 0x2A0000, 0x290000, 0x280000, 0x240000, 0x200000, 0x1C0000,
    0x180000, 0x140000, 0x100000, 0xC0000, 0x80000, 0x40000, 0x20000, 0x10000] : List Nat).find? (fun b => decide (b ≤ a))).getD 0

/-- A write to an unassigned address: `SYS.ACCESS_ERR.UNMAPPED_STK`, while `SYS` is powered. -/
def State.unmapped (s : State) : State :=
  if s.sys.domains.getLsbD 9 then s.stk Reg.sysAccessErr 1 else s

/-- A write discarded as under R10: `LOCKED_STK`, with the block of the first one. -/
def State.lockedErr (s : State) (a : Nat) : State :=
  let s := if s.rb Reg.sysAccessErr 2 then s else s.setRf Reg.sysAccessErr 16 16 (blockBase a / 65536)
  s.stk Reg.sysAccessErr 2

/-! Events, outputs, draws. -/

/-- Whether an event of a source is kept (R364): domain 10 is on and the source is ENABLED; the completion of a command block of `FWD`
is judged once its GO has fallen. -/
def State.hears (s : State) (src : Nat) : Bool :=
  s.sys.domains.getLsbD 9 && ((sget IrqSrc.reset s.irq.srcs src).enabled || (0xA8 ≤ src && src ≤ 0xBC))

/-- Raise an edge source (R362): an event that is kept waits for the interrupt controller to take it. [log 49: DEDUCED] -/
def State.event (s : State) (src : Nat) : State :=
  { s with irq := { s.irq with events := s.irq.events ++ (if s.hears src then [src] else []) } }

/-- The completion source of a command block of `FWD`: the host's set and the supervisor's (R269). -/
def fwdSource (sup : Bool) (b : Nat) : Nat := (if sup then 0xB8 else 0xA8) + b
/-- Whether GO of the block with a completion source reads 1 (R269). -/
def State.fwdBusy (s : State) (src : Nat) : Bool := decide (s.now < sget 0 s.tab.busy src)
/-- A block's operation starts, or is taken again: it lasts a free time of at most 20 µs. [log 40: DESIGN CHOICE] -/
def State.fwdStart (s : State) (src : Nat) : State :=
  let e := s.now + 1 + (Config.freeWord s.freeCtr).toNat % usTicks 20
  { s with freeCtr := s.freeCtr + 1, tab := { s.tab with busy := sput 0 s.tab.busy src e } }

/-- Send something out of the block. -/
def State.out (s : State) (o : Output) : State := { s with outbox := s.outbox ++ [o] }

/-- The next draw of the random source. [log 4: DESIGN CHOICE] -/
def State.draw (s : State) : Nat := Config.draw s.freeCtr

/-- The next free value. -/
def State.free (s : State) : Word := Config.freeWord s.freeCtr

/-- One draw or free value used. -/
def State.used (s : State) : State := { s with freeCtr := s.freeCtr + 1 }

/-- Whether power domain `n` (1–16) is on (R75). -/
def State.domOn (s : State) (n : Nat) : Bool := s.sys.domains.getLsbD (n - 1)

/-- Whether a timer channel is out of service (R21). -/
def State.timerOut (s : State) (c : Nat) : Bool := s.oos.any (fun u => match u with | .timer i => i.val == c | _ => false)

/-- Whether a table engine is out of service: 0–2 serve the learning tables of regions L, M and H, 3 the prefix table, 4 and 5 the
node records (R20, R21, R248). [log 189: DESIGN CHOICE] -/
def State.tableOut (s : State) (k : Nat) : Bool :=
  s.oos.any (fun u => match u with | .tableEngine i => i.val == k | _ => false)
/-- Whether no node-record engine is in service. -/
def State.nodesOut (s : State) : Bool := s.tableOut 4 && s.tableOut 5
/-- Whether no AES engine is in service. -/
def State.aesOut (s : State) : Bool :=
  decide (8 ≤ s.oos.countP (fun u => match u with | .aes _ => true | _ => false))
/-- Whether signatures can be verified: the SHA-256 engine and the P-256 verifier are in service. [log 189: DESIGN CHOICE] -/
def State.canVerify (s : State) : Bool :=
  ! s.oos.any (fun u => match u with | .sha256 => true | .p256 => true | _ => false)
/-- Whether a region has lost every unit of a kind it cannot do without: the network region its node-record engines, the
Strongroom its AES engines (R18, R20). -/
def State.coreLost (s : State) : Bool := s.nodesOut || s.aesOut

/-! The Cellar (chapter 16). -/

/-- Severity, burst and refill period in seconds of an event code (R480); burst 0: never rate-limited. -/
def cellarRow : Nat → Nat × Nat × Nat
  | 0x01 => (0, 8, 60) | 0x02 => (1, 8, 60) | 0x03 => (2, 4, 60)
  | 0x10 => (0, 16, 10) | 0x11 => (3, 16, 10) | 0x12 => (1, 2, 3600) | 0x13 => (2, 8, 60) | 0x14 => (2, 8, 60)
  | 0x15 => (2, 8, 60) | 0x16 => (2, 32, 1) | 0x17 => (1, 16, 10) | 0x18 => (2, 4, 60)
  | 0x20 => (3, 4, 10) | 0x21 => (3, 4, 10) | 0x22 => (0, 4, 60)
  | 0x30 => (1, 8, 60) | 0x31 => (2, 8, 60) | 0x32 => (2, 8, 60) | 0x33 => (2, 8, 60) | 0x34 => (1, 8, 60)
  | 0x35 => (2, 8, 60)
  | 0x40 => (1, 8, 60) | 0x41 => (2, 4, 60) | 0x42 => (3, 4, 60) | 0x43 => (3, 4, 10) | 0x44 => (1, 4, 60)
  | 0x50 => (1, 8, 60) | 0x51 => (0, 8, 60) | 0x52 => (2, 4, 60) | 0x53 => (1, 2, 3600) | 0x54 => (1, 2, 3600)
  | 0x60 => (3, 4, 60) | 0x61 => (3, 4, 60) | 0x62 => (0, 8, 60) | 0x63 => (2, 16, 10) | 0x64 => (2, 8, 60)
  | 0x65 => (2, 4, 60) | 0x66 => (3, 4, 60)
  | 0xF00 => (0, 0, 0) | 0xF01 => (1, 0, 0) | 0xF02 => (3, 0, 0)
  | _ => (0, 0, 0)

/-- Fabric ticks of operation counted at this moment, from the seconds saved (R478). -/
def State.opTicks (s : State) : Nat :=
  secTicks s.cellar.opBase + (match s.cellar.opFrom with | some f => s.now - f | none => 0)

/-- OP_TIME in seconds (R478). -/
def State.opTime (s : State) : Nat := s.opTicks / 819200000

/-- A record (R476). -/
def cellRecord (code sev flags op cyc supp ms p0 p1 p2 : Nat) : BitVec 256 :=
  let b := toLE 2 code ++ toLE 1 sev ++ toLE 1 flags ++ toLE 4 op ++ toLE 4 cyc ++ toLE 2 supp ++ toLE 2 ms ++
    toLE 4 p0 ++ toLE 4 p1 ++ toLE 4 p2
  bvOf 256 (b ++ toLE 4 (crc32c b).toNat)

/-- The index of the return record (R476). -/
def returnIx : Nat := 65535

/-- Write an ordinary record at NEXT, or count it as lost when the Cellar is full (R482); source 0x142 (R492). -/
def State.cellWrite (s : State) (x : BitVec 256) : State :=
  if s.cellar.next ≥ returnIx then
    { s with cellar := { s.cellar with lostFull := min 0xFFFFFFFF (s.cellar.lostFull + 1) } }
  else
    let s := { s with cellar := { s.cellar with records := sput 0 s.cellar.records s.cellar.next x,
                                                next := s.cellar.next + 1 } }
    s.when (decide (s.rf Reg.recCtrl 0 2 ≤ getBits x 16 2)) (·.event 0x142)

/-- A record written from the holding queue: FLAGS.HELD set, its CRC over it (R476). -/
def cellHeld (x : BitVec 256) : BitVec 256 :=
  let y := setBits x 24 1 1
  setBits y 224 32 (crc32c (bvBytes 28 y)).toNat

/-- A record that passed its rate limit: written, or held while the Cellar is frozen (R483) or a clear is under way (R485). -/
def State.cellPut (s : State) (x : BitVec 256) : State :=
  match s.cellar.frozenAt.isSome || s.cellar.clearing with
  | false =>
    let s := if s.cellar.lostHold = 0 then s else
      ({ s with cellar := { s.cellar with lostHold := 0 } } : State).cellWrite
        (cellRecord 0xF01 1 0 s.opTime s.cellar.powerCycles 0 (ticksMs (s.opTicks % 819200000)) s.cellar.lostHold 0 0)
    s.cellWrite x
  | true =>
    if s.cellar.hold.length < 32 then
      { s with cellar := { s.cellar with hold := s.cellar.hold ++ [cellHeld x] } }
    else
      ({ s with cellar := { s.cellar with lostHold := s.cellar.lostHold + 1 } } : State).cnt Reg.recHoldOvfCnt
        |>.stk Reg.recStatus 2

/-- Form an event (R479): the rate limit (R481), then the record with the time of the event. Nothing is recorded once the
part is RETURNED (R488); an event met while the supervisor's domain is off waits until it learns of it. -/
def State.cellForm (s : State) (code p0 p1 p2 : Nat) : State :=
  if s.key.lifecycle = .returned then s
  else
    let (sev, burst, period) := cellarRow code
    let b := sget ⟨0, 0, 0⟩ s.cellar.buckets code
    let spent := b.spent - (s.now - b.stamp)
    let one := secTicks period
    if burst ≠ 0 ∧ burst * one < spent + one then
      ({ s with cellar := { s.cellar with buckets := sput ⟨0, 0, 0⟩ s.cellar.buckets code
                                            ⟨spent, s.now, b.suppressed + 1⟩ } } : State).cnt Reg.recSuppressedCnt
    else
      let s := if burst = 0 then s else
        { s with cellar := { s.cellar with buckets := sput ⟨0, 0, 0⟩ s.cellar.buckets code ⟨spent + one, s.now, 0⟩ } }
      let supp := min b.suppressed 65535
      s.cellPut (cellRecord code sev (if b.suppressed > 65535 then 2 else 0) s.opTime s.cellar.powerCycles supp
        (ticksMs (s.opTicks % 819200000)) p0 p1 p2)

/-- An event for the Cellar. -/
def State.cell (s : State) (code p0 p1 p2 : Nat) : State :=
  if s.domOn 12 then s.cellForm code p0 p1 p2
  else { s with cellar := { s.cellar with unlearned := s.cellar.unlearned ++ [(code, p0, p1, p2)] } }

/-- The supervisor learns of the events met while it was off. [log 85: DEDUCED] -/
def State.cellLearn (s : State) : State :=
  s.cellar.unlearned.foldl (fun s e => s.cellForm e.1 e.2.1 e.2.2.1 e.2.2.2)
    { s with cellar := { s.cellar with unlearned := [] } }

/-- The held records are written in order (R483). -/
def State.cellRelease (s : State) : State :=
  s.cellar.hold.foldl (fun s x => s.cellWrite x) { s with cellar := { s.cellar with hold := [] } }

/-- End a freeze: the held records are written, or wait for the end of a clear under way (R483, R485). -/
def State.cellThaw (s : State) : State :=
  ({ s with cellar := { s.cellar with frozenAt := none } } : State).when (! s.cellar.clearing) (·.cellRelease)

end Sys2Proof.Machine
end

