-- ==== Sys2Proof/Machine/Image.lean ====
section
/-! DEFINITION. Machine/Image.lean: the fields of the active structure image and of the regulatory profile, the Evlet
signed container, and the validator (R32–R58, R123–R126, R519). -/

namespace Sys2Proof.Machine

/-! The active image. With none active every field reads 0. -/

/-- A section of an image, by ID 1–16. -/
def Image.sec (im : Image) (i : Nat) : Bytes := im.sections.getD (i - 1) []

/-- A section of the active image. -/
def State.sec (s : State) (i : Nat) : Bytes :=
  match s.str.active with
  | some im => im.sec i
  | none => []

/-- REGIONS: one byte of a region record (R40). -/
def secRegion (b : Bytes) (r o n : Nat) : Nat := le b (24 * r + o) n
/-- POWERED of a region. -/
def State.powered (s : State) (r : Region) : Bool := secRegion (s.sec 1) r.ix 0 1 == 1
/-- LO_COUNT. -/
def State.loCount (s : State) (r : Region) : Nat := secRegion (s.sec 1) r.ix 1 1
/-- COEX_ROLE. -/
def State.coexRole (s : State) (r : Region) : Nat := secRegion (s.sec 1) r.ix 2 1
/-- INIT_GAIN. -/
def State.initGain (s : State) (r : Region) : Nat := secRegion (s.sec 1) r.ix 3 1
/-- LO_CENTRE k in kHz. -/
def State.loCentre (s : State) (r : Region) (k : Nat) : Nat := secRegion (s.sec 1) r.ix (4 + 4 * k) 4

/-- CLUSTERS: the attachment code of a cluster (R41): 0 detached, 1 L, 2 M, 3 H. -/
def State.attach (s : State) (c : Nat) : Nat := byteAt (s.sec 2) c
/-- The clusters attached to a region. -/
def State.clustersOf (s : State) (r : Region) : List Nat := (List.range 12).filter (fun c => s.attach c == r.ix + 1)

/-- SLOTS: SLOT_COUNT of a region (R42). -/
def slotCountOf (b : Bytes) (r : Nat) : Nat := le b (2 * r) 2
/-- SLOTS: the offset of a slot record. -/
def slotOff (b : Bytes) (r i : Nat) : Nat :=
  8 + 32 * (((List.range r).map (slotCountOf b)).sum + i)
/-- SLOTS: a field of a slot record. -/
def slotField (b : Bytes) (r i o n : Nat) : Nat := le b (slotOff b r i + o) n

/-- SLOTS: the slot records of a region. -/
def slotsOf (b : Bytes) (r : Nat) : Bytes := slice b (slotOff b r 0) (32 * slotCountOf b r)

/-- SLOT_COUNT of a region in the active image. -/
def State.slotCount (s : State) (r : Region) : Nat := slotCountOf (s.sec 3) r.ix
/-- A field of a slot record of the active image; 0 beyond SLOT_COUNT. -/
def State.slotF (s : State) (r : Region) (i o n : Nat) : Nat :=
  if i < s.slotCount r then slotField (s.sec 3) r.ix i o n else 0
/-- ENABLED of a slot. -/
def State.slotOn (s : State) (r : Region) (i : Nat) : Bool := bit (s.slotF r i 3 1) 0
/-- SAFETY of a slot. -/
def State.slotSafety (s : State) (r : Region) (i : Nat) : Bool := bit (s.slotF r i 3 1) 1
/-- CAPTURE_PREEMPT of a slot. -/
def State.slotCapture (s : State) (r : Region) (i : Nat) : Bool := bit (s.slotF r i 3 1) 2
/-- PHY_MASK of a slot. -/
def State.slotMask (s : State) (r : Region) (i : Nat) : Nat := s.slotF r i 4 2
/-- SUBBAND of a slot. -/
def State.slotSub (s : State) (r : Region) (i : Nat) : Nat := s.slotF r i 0xB 1
/-- Twice the centre frequency of a slot, in kHz (R42: the mean of the centres of its bins). -/
def State.slotCentre2 (s : State) (r : Region) (i : Nat) : Int :=
  2 * (s.loCentre r 0 : Int) +
    (2 * (s.slotF r i 0 2 : Int) + (s.slotF r i 2 1 : Int) - 1 - 1024) * 200

/-- LOFDM: the 144 code bits of a loading map (R44). -/
def imgMap (b : Bytes) (r m : Nat) : BitVec 144 :=
  BitVec.ofNat 144 (((List.range 8).map (fun w => le b ((r * 256 + m) * 32 + 4 * w) 4 % 2 ^ 18 * 2 ^ (18 * w))).sum)

/-- GAIN: LNA_STEP, VGA, GAIN_DB of an entry (R45). -/
def State.gainDb (s : State) (r : Region) (i : Nat) : Int := sgn 16 (le (s.sec 5) ((r.ix * 32 + i) * 4 + 2) 2)

/-- POWER: a field of an entry (R46). -/
def State.powF (s : State) (r : Region) (i o n : Nat) : Nat := le (s.sec 6) ((r.ix * 64 + i) * 8 + o) n

/-- CALIB: a field of a region record (R47). -/
def State.calF (s : State) (r : Region) (o n : Nat) : Nat := le (s.sec 7) (80 * r.ix + o) n

/-- TABLES: a field (R48). -/
def State.tabF (s : State) (o n : Nat) : Nat := le (s.sec 8) o n

/-- DOWNLINK: a field of a class record of an image section (R49). -/
def dlField (b : Bytes) (r c o n : Nat) : Nat := le b (48 + 32 * (1024 * r + c) + o) n
/-- DOWNLINK: QUEUE_POOL_MIB of a region. -/
def State.poolMib (s : State) (r : Region) : Nat := le (s.sec 9) (16 * r.ix) 4
/-- DOWNLINK: SAMPLE_MS of a region. -/
def State.sampleMs (s : State) (r : Region) : Nat := le (s.sec 9) (16 * r.ix + 4) 2

/-- JOBS: GROUP_WEIGHT (R50). -/
def State.groupWeight (s : State) (g : Nat) : Nat := byteAt (s.sec 10) g
/-- JOBS: the group and the level of a job type. -/
def State.typeMap (s : State) (t : Nat) : Nat × Nat := (byteAt (s.sec 10) (16 + 2 * t), byteAt (s.sec 10) (17 + 2 * t))

/-- HOST: FASTPATH, PAUSE_EN, PFC_EN (R51). -/
def State.fastpath (s : State) (p : Nat) : Bool := bit (byteAt (s.sec 11) 0) p
def State.pauseEn (s : State) (p : Nat) : Bool := bit (byteAt (s.sec 11) 1) p
def State.pfcEn (s : State) (n : Nat) : Bool := bit (byteAt (s.sec 11) 2) n
/-- HOST: a field of ring record `k` in section order. -/
def State.ringF (s : State) (k o n : Nat) : Nat := le (s.sec 11) (8 + 8 * k + o) n

/-- TIME: a field of a pin record (R52). -/
def State.pinF (s : State) (p o n : Nat) : Nat := le (s.sec 12) (16 * p + o) n
/-- TIME: BEACON_PERIOD_MS. -/
def State.beaconMs (s : State) (r : Region) : Nat := le (s.sec 12) (128 + 4 * r.ix) 4

/-- IRQ: a byte of a source record (R53). -/
def State.irqF (s : State) (n o : Nat) : Nat := byteAt (s.sec 13) (4 * n + o)

/-- The code of a mode (R79). -/
def Mode.code : Mode → Nat
  | .off => 0 | .hearth => 1 | .recovery => 2 | .configure => 3 | .active => 4 | .quiet => 5 | .degraded => 6
  | .standby => 7 | .handover => 8 | .safe => 9 | .maintenance => 10 | .returned => 11

/-- POWERPOLICY: the domain mask of a mode (R54). With no image active the domains R80 requires (log entry 12).
[log 12: PRESUMED] -/
def State.modeMask (s : State) (m : Mode) : BitVec 16 :=
  match s.str.active with
  | some im => BitVec.ofNat 16 (le (im.sec 14) (4 * m.code) 2)
  | none =>
    match m with
    | .off => 0x0001
    | .hearth => 0x0001
    | .recovery => 0x6A03
    | .returned => 0x4A03
    | _ => 0xDF03
/-- POWERPOLICY: Pantry retention in a mode. -/
def State.retain (s : State) (m : Mode) : Bool := bit (le (s.sec 14) (4 * m.code + 2) 2) 0

/-- SAFETY: a field (R55). -/
def State.safF (s : State) (o n : Nat) : Nat := le (s.sec 15) o n

/-- TWIN: a field (R56). -/
def State.twnF (s : State) (o n : Nat) : Nat := le (s.sec 16) o n
/-- TWIN_MODE 1. -/
def State.twinMode (s : State) : Bool := s.twnF 0 1 == 1
/-- Whether this package is package B of the pair (R56). -/
def State.isB (s : State) : Bool := slice (s.sec 16) 0x18 16 == s.key.deviceId

/-- The pair digest of an image (R56). -/
def Image.pairDigest (im : Image) : Bytes :=
  Config.sha256 (im.sec 16 ++ im.sec 1 ++ im.sec 3 ++ im.sec 9 ++ im.sec 15)

/-! The regulatory profile (R123, R124). -/

/-- The KDF of R397: `n` bytes. [log 78: DEDUCED] -/
def kdf (k : Bytes) (label ctx : Bytes) (n : Nat) : Bytes :=
  (((List.range (ceilDiv n 16)).map (fun i =>
    Config.cmac k (toBE 4 (i + 1) ++ label ++ [0] ++ ctx ++ toBE 4 (8 * n)))).flatten).take n

/-- ASCII of the labels of R398. -/
def labelKS : Bytes := [0x45, 0x56, 0x4B, 0x53]
def labelKM : Bytes := [0x45, 0x56, 0x4B, 0x4D]
def labelDP : Bytes := [0x45, 0x56, 0x44, 0x50]
def labelMS : Bytes := [0x45, 0x56, 0x4D, 0x53]
def labelTK : Bytes := [0x45, 0x56, 0x54, 0x4B]
def labelTL : Bytes := [0x45, 0x56, 0x54, 0x4C]
def labelIM : Bytes := [0x45, 0x56, 0x49, 0x4D]

/-- The derivation roots of R400. -/
inductive Root
  | device (key : Bytes)
  | test
  deriving DecidableEq, Repr

/-- The bytes of a derivation root. -/
def Root.bytes : Root → Bytes
  | .device k => k
  | .test => Config.testRoot

/-- The derivation root in force (R400): K_root, and in FIELD_DEBUG the test root; none: K_root erased. -/
def Key.derivRoot (k : Key) : Option Root :=
  if k.debugLatch ∧ k.lifecycle = .field then some .test else k.root.map .device

/-- A key of `n` bytes derived from the root in force (R398). -/
def Key.derive (k : Key) (label : Bytes) (n : Nat) : Option Bytes := k.derivRoot.map fun r => kdf r.bytes label k.deviceId n

/-- K_S, K_M, the seal of the device private key and the key cells' scramble and mask seed, as derived now (R398). -/
def Key.sealKey (k : Key) : Option Bytes := k.derive labelKS 32
def Key.macKey (k : Key) : Option Bytes := k.derive labelKM 32
def Key.privKey (k : Key) : Option Bytes := k.derive labelDP 32
def Key.cellSeed (k : Key) : Option Bytes := k.derive labelMS 16

/-- A mask stream XORed over a secret, or over its share (R396). -/
def masked (seed : Bytes) (i : Nat) (x : Bytes) : Bytes := x.zipIdx.map fun b => b.1 ^^^ Config.maskByte seed i b.2

/-- A key sealed under the root in force; nothing is sealed under the test root (R400). -/
def Key.wrap (k : Key) (x : Bytes) : Option Sealed := k.root.map fun r => ⟨r, x⟩

/-- What a sealed key opens to: nothing under another root than its own (R400). [log 200: DESIGN CHOICE] -/
def Key.unwrap (k : Key) (x : Sealed) : Option Bytes := if k.derivRoot = some (.device x.root) then some x.key else none

/-- The bytes MRAM holds for a sealed key: KW under the key that `label` derives from its root (R392, R398). -/
def Key.sealedBytes (k : Key) (label : Bytes) (x : Sealed) : Bytes := Config.kwWrap (kdf x.root label k.deviceId 32) x.key

/-- The device's secrets in key cells (R380, R396, R398): K_root, and the device private key sealed. -/
def Key.secrets (k : Key) : List Bytes := k.root.toList ++ (k.devPriv.map (k.sealedBytes labelDP)).toList

/-- The lines of the key cells (R396): each secret is two shares in lines of their own, at the positions the permutation of K_root's seed
gives them, the mask stream of that seed and the secret XORed with it. -/
def Key.cells (k : Key) : List (Nat × Bytes) :=
  match k.root with
  | none => []
  | some r =>
    let seed := kdf r labelMS k.deviceId 16
    k.secrets.zipIdx.flatMap fun x =>
      [(Config.scramble seed (2 * x.2), masked seed x.2 (zeros x.1.length)), (Config.scramble seed (2 * x.2 + 1), masked seed x.2 x.1)]

/-- The Strongroom's key port (R396): the two shares of a secret, found by the seed in force, recombined. -/
def Key.port (k : Key) (i : Nat) : Option Bytes :=
  match k.cellSeed with
  | none => none
  | some seed =>
    match k.cells.lookup (Config.scramble seed (2 * i)), k.cells.lookup (Config.scramble seed (2 * i + 1)) with
    | some a, some b => some ((a.zip b).map fun x => x.1 ^^^ x.2)
    | _, _ => none

/-- The content of a slot as its SEAL covers it: in the order of R392. [log 200: DESIGN CHOICE] -/
def Key.slotBytes (k : Key) (y : KeyStore) : Bytes :=
  let opt (x : Option Bytes) : Bytes := match x with | some b => 1 :: b | none => [0]
  let gen (x : Option (Nat × Sealed)) : Bytes := opt (x.map fun g => toLE 2 g.1 ++ k.sealedBytes labelKS g.2)
  toLE 4 y.gen ++ opt y.owner ++ opt y.profile ++ gen y.kek ++ gen y.prev ++ toLE 4 y.rolloverS ++
    opt (y.twin.map (k.sealedBytes labelKS)) ++ opt (y.image.map (k.sealedBytes labelKS)) ++ [BitVec.ofNat 8 y.armed.toNat]

/-- The SEAL a slot of this part carries: AES-CMAC over it under K_M (R392). -/
def Key.slotSeal (k : Key) (x : KeySlot) : Option Bytes :=
  x.store.map fun y => Config.cmac (kdf x.root labelKM k.deviceId 32) (k.slotBytes y)

/-- Whether a slot is intact: its SEAL verifies under K_M of the root in force (R392, R400). [log 200: DESIGN CHOICE] -/
def Key.intact (k : Key) (x : KeySlot) : Bool := x.store.isSome && x.kept && k.derivRoot == some (.device x.root)

/-- The commit record's line without its CRC (R392). [log 200: DESIGN CHOICE] -/
def Key.commitLine (k : Key) : Bytes := toLE 4 k.commitLive.toNat ++ toLE 4 k.commitGen ++ toLE 8 k.counter ++ zeros 12

/-- Whether the commit record's CRC-32C holds (R392). -/
def Key.commitOk (k : Key) : Bool := k.commitCrc == crc32c k.commitLine

/-- The slot the commit record names (R392). -/
def Key.liveSlot (k : Key) : KeySlot := if k.commitLive then k.slotB else k.slotA

/-- The stores that take part in judging agreement (R395): intact, and at the commit record's STORE_GEN while its CRC
holds. -/
def Key.parties (k : Key) : List KeyStore :=
  [k.slotA, k.slotB].filterMap (fun x =>
    match x.store with
    | some y => if k.intact x && (! k.commitOk || y.gen == k.commitGen) then some y else none
    | none => none)

/-- A datum that every party holds, and all hold equal. -/
def agreed {α : Type} [DecidableEq α] (l : List (Option α)) : Option α :=
  match l with
  | [] => none
  | x :: xs => if xs.all (fun y => decide (y = x)) then x else none

/-- What an empty store holds. -/
def KeyStore.empty : KeyStore := ⟨0, none, none, none, none, 0, none, none, false⟩

/-- The agreed data of a store under an integrity failure (R395). -/
def Key.agreedStore (k : Key) : KeyStore :=
  let p := k.parties
  { gen := k.commitGen, owner := agreed (p.map (·.owner)), profile := agreed (p.map (·.profile)),
    kek := agreed (p.map (·.kek)), prev := agreed (p.map (·.prev)), rolloverS := (agreed (p.map (fun x => some x.rolloverS))).getD 0,
    twin := agreed (p.map (·.twin)),
    image := agreed (p.map (·.image)), armed := (agreed (p.map (fun x => some x.armed))).getD false }

/-- The store in force: nothing before the check of R394 and in FIELD_DEBUG, where the SEALs fail (R400), the agreed data
under an integrity failure (R395), else the live slot; an empty store where that is erased. -/
def Key.live (k : Key) : Option KeyStore :=
  if k.checked = false ∨ k.debugLatch then none
  else if k.integrity then some k.agreedStore
  else some (k.liveSlot.store.getD KeyStore.empty)

/-- The installed profile. -/
def State.profile (s : State) : Option Bytes := s.key.live.bind (·.profile)

/-- MAX_POWER_INDEX of a region. -/
def profMax (p : Bytes) (r : Nat) : Nat := byteAt p (64 + 1552 * r)
/-- SUBBAND_COUNT of a region. -/
def profSubs (p : Bytes) (r : Nat) : Nat := byteAt p (64 + 1552 * r + 1)
/-- A field of a sub-band record. -/
def profSb (p : Bytes) (r sb o n : Nat) : Nat := le p (64 + 1552 * r + 16 + 96 * sb + o) n
/-- Whether a sub-band's SLOT_MASK holds a slot. -/
def profSlot (p : Bytes) (r sb i : Nat) : Bool := bit (byteAt p (64 + 1552 * r + 16 + 96 * sb + 0x20 + i / 8)) (i % 8)

/-- Whether an enabled slot breaks rule 0x33 under a profile: outside the edges of the sub-band its SUBBAND names, not in
that sub-band's mask, or TX_POWER_INDEX too high. With no profile every enabled slot does (R126). -/
def breaks33 (prof : Option Bytes) (b1 b3 : Bytes) (r i : Nat) : Bool :=
  match prof with
  | none => true
  | some p =>
    let sb := slotField b3 r i 0xB 1
    let f0 : Int := secRegion b1 r 4 4
    let lo : Int := f0 + ((slotField b3 r i 0 2 : Int) - 512) * 200 - 100
    let hi : Int := lo + (slotField b3 r i 2 1 : Int) * 200
    decide (profSubs p r ≤ sb) || decide (lo < (profSb p r sb 0 4 : Int)) || decide ((profSb p r sb 4 4 : Int) < hi) ||
      ! profSlot p r sb i || decide (min (profMax p r) (profSb p r sb 0x10 1) < slotField b3 r i 0x13 1)

/-! Interrupt sources (R362, R420, R447, R475, R492). -/

/-- The kind of a source. -/
inductive SrcKind | reserved | edge | level | ext
  deriving DecidableEq, Repr

/-- The kind of each source. -/
def srcKind (n : Nat) : SrcKind :=
  if n ≤ 0x02 then .edge else if n = 0x03 then .ext else if n ≤ 0x07 then .edge else if n ≤ 0x0F then .ext
  else if n = 0x10 then .edge else if n ≤ 0x16 then .level
  else if n = 0x20 then .edge else if n = 0x21 then .level
  else if 0x40 ≤ n ∧ n < 0x70 then (if n % 16 ≤ 4 then .level else .reserved)
  else if 0x70 ≤ n ∧ n ≤ 0x7A then .level
  else if 0x80 ≤ n ∧ n ≤ 0x82 then .level
  else if 0x83 ≤ n ∧ n ≤ 0x85 then .edge
  else if 0x90 ≤ n ∧ n ≤ 0x94 then .level
  else if 0xA0 ≤ n ∧ n ≤ 0xA4 then .level
  else if n = 0xA5 ∨ (0xA8 ≤ n ∧ n ≤ 0xAC) ∨ (0xB8 ≤ n ∧ n ≤ 0xBC) then .edge
  else if 0xC0 ≤ n ∧ n ≤ 0xC6 then .level
  else if 0xD0 ≤ n ∧ n ≤ 0xD5 then .level
  else if n = 0xE3 ∨ n = 0xE8 then .edge
  else if 0xE0 ≤ n ∧ n ≤ 0xE7 then .level
  else if 0xF0 ≤ n ∧ n ≤ 0xFF then .edge
  else if n = 0x102 ∨ n = 0x106 then .edge
  else if 0x100 ≤ n ∧ n ≤ 0x107 then .level
  else if n = 0x110 ∨ n = 0x111 ∨ n = 0x116 ∨ n = 0x117 then .edge
  else if 0x112 ≤ n ∧ n ≤ 0x115 then .level
  else if n = 0x120 ∨ n = 0x122 ∨ n = 0x123 ∨ n = 0x126 then .edge
  else if n = 0x121 ∨ n = 0x124 ∨ n = 0x125 then .level
  else if n = 0x132 then .edge
  else if 0x130 ≤ n ∧ n ≤ 0x135 then .level
  else if n = 0x142 ∨ n = 0x144 then .edge
  else if 0x140 ≤ n ∧ n ≤ 0x145 then .level
  else if n = 0x150 then .edge
  else if 0x1E0 ≤ n ∧ n ≤ 0x1FF then .edge
  else .reserved

/-- Whether a source is wake-capable (R373). -/
def wakeCapable (n : Nat) : Bool := decide (n < 16)

/-! Broken rules. -/

/-- A broken rule and its place (R58, R519). -/
structure Broken where
  rule : Nat
  level : Nat
  sec : Nat
  region : Nat
  index : Nat
  deriving DecidableEq, Repr

/-- INDEX for a place that is not an indexed entry (R519). -/
def noIx : Nat := 0x3FF

/-- A fault of the container or the directory. -/
def Broken.pkg (rule ix : Nat) : Broken := ⟨rule, 5, 0, 0, ix⟩

/-- `STR.RESULT` for a broken rule: STATUS REFUSED (R62). -/
def Broken.word (b : Broken) : Nat :=
  b.rule * 2 ^ 24 + b.level * 2 ^ 21 + b.sec * 2 ^ 16 + b.region * 2 ^ 14 + b.index * 2 ^ 4 + 5

/-- The first of a list of checks that finds a broken rule. -/
def firstBroken : List (Unit → Option Broken) → Option Broken
  | [] => none
  | f :: fs =>
    match f () with
    | some b => some b
    | none => firstBroken fs

/-- A check of a list of entries in order. -/
def scan (n : Nat) (f : Nat → Option Broken) : Option Broken := (List.range n).findSome? f

/-- A rule broken where a condition holds. -/
def breakIf (c : Bool) (b : Broken) : Option Broken := if c then some b else none

/-! The container (R32–R36, R421). -/

/-- What a container of a type must satisfy: its TYPE, the range of LENGTH, the container length stated by its source,
the device ID, the counters accepted and the public keys of which one must have signed it (R34, R384). -/
structure ContainerRule where
  type : Nat
  minLen : Nat
  maxLen : Nat
  stated : Option Nat
  deviceId : Bytes
  minCounter : Nat
  keys : List Bytes
  deriving DecidableEq, Repr

/-- COUNTER of a container. -/
def conCounter (c : Bytes) : Nat := le c 0x10 8
/-- LENGTH of a container's payload. -/
def conLength (c : Bytes) : Nat := le c 0x28 8
/-- BLOCK_COUNT of a container. -/
def conBlocks (c : Bytes) : Nat := le c 0x34 4
/-- The digest of a container's header and block table. -/
def conDigest (c : Bytes) : Bytes := Config.sha256 (slice c 0 (64 + 32 * conBlocks c))
/-- Block `i` of a container, 4,096 bytes. -/
def conBlock (c : Bytes) (i : Nat) : Bytes := slice c (128 + 32 * conBlocks c + 4100 * i) 4096
/-- The payload: the blocks joined and cut to LENGTH. -/
def conPayload (c : Bytes) : Bytes :=
  (((List.range (conBlocks c)).map (conBlock c)).flatten).take (conLength c)
/-- Whether the unused tail of the last block is zero (R32). -/
def conTailZero (c : Bytes) : Bool :=
  (((List.range (conBlocks c)).map (conBlock c)).flatten.drop (conLength c)).all (· == 0)

/-- The check of the container header, up to and including the signature (R35 steps 1–5). -/
def checkHeader (k : ContainerRule) (c : Bytes) : Option Broken :=
  if c.length < 64 ∨ slice c 0 4 ≠ [0x45, 0x56, 0x53, 0x49] ∨ le c 4 2 ≠ k.type ∨ le c 6 2 ≠ 1 ∨ le c 0x30 4 ≠ 4096 then
    some (Broken.pkg 0x01 noIx)
  else if le c 0x38 4 ≠ (crc32c (slice c 0 0x38)).toNat then some (Broken.pkg 0x02 noIx)
  else if le c 0x0C 4 / 2 ≠ 0 ∨ le c 0x3C 4 ≠ 0 ∨
      (bit (le c 0x0C 4) 0 = false ∧ slice c 0x18 16 ≠ zeros 16) ∨
      conLength c < k.minLen ∨ k.maxLen < conLength c ∨ conBlocks c ≠ ceilDiv (conLength c) 4096 ∨
      (match k.stated with | some n => decide (n ≠ 128 + 4132 * conBlocks c) | none => false) = true then
    some (Broken.pkg 0x01 noIx)
  else if bit (le c 0x0C 4) 0 = true ∧ slice c 0x18 16 ≠ k.deviceId then some (Broken.pkg 0x03 noIx)
  else if conCounter c < k.minCounter then some (Broken.pkg 0x04 noIx)
  else if k.keys.any (fun pub => Config.ecdsaVerify pub (conDigest c) (slice c (64 + 32 * conBlocks c) 64)) then none
  else some (Broken.pkg 0x05 noIx)

/-- The check of one block: its CRC, then its digest (R35 step 6). -/
def checkBlock (c : Bytes) (i : Nat) : Option Broken :=
  let b := conBlock c i
  if b.length ≠ 4096 ∨ le c (128 + 32 * conBlocks c + 4100 * i + 4096) 4 ≠ (crc32c b).toNat then some (Broken.pkg 0x06 i)
  else if Config.sha256 b ≠ slice c (64 + 32 * i) 32 then some (Broken.pkg 0x07 i)
  else none

/-- The check of a container (R35). -/
def checkContainer (k : ContainerRule) (c : Bytes) : Option Broken :=
  match checkHeader k c with
  | some b => some b
  | none => scan (conBlocks c) (checkBlock c)

/-! The payload header and directory (R37, R38). -/

/-- Offset of a section. -/
def dirOff (p : Bytes) (i : Nat) : Nat := le p (0x14 + 12 * i) 4
/-- Length of a section. -/
def dirLen (p : Bytes) (i : Nat) : Nat := le p (0x18 + 12 * i) 4

/-- The size R38 gives section `i` (from 0); SLOTS by its own SLOT_COUNT fields. -/
def secSize (p : Bytes) : Nat → Nat
  | 0 => 72 | 1 => 16
  | 2 => let b := slice p (dirOff p 2) 8
         8 + 32 * (slotCountOf b 0 + slotCountOf b 1 + slotCountOf b 2)
  | 3 => 24576 | 4 => 384 | 5 => 1536 | 6 => 240 | 7 => 72 | 8 => 98352 | 9 => 32 | 10 => 552 | 11 => 144
  | 12 => 2048 | 13 => 48 | 14 => 16 | _ => 48

/-- The check of the payload header and directory: rule 0x08. The padding and the header come first, then the entries.
[log 164: DESIGN CHOICE] -/
def checkDirectory (c : Bytes) : Option Broken :=
  let p := conPayload c
  if ! conTailZero c ∨ p.length < 0xD0 ∨ le p 0 2 ≠ 1 ∨ le p 2 2 ≠ 16 ∨ le p 0xC 4 ≠ 0 then some (Broken.pkg 0x08 noIx)
  else scan 16 fun i =>
    breakIf (decide (le p (0x10 + 12 * i) 2 ≠ i + 1) || decide (le p (0x12 + 12 * i) 2 ≠ 1) ||
      decide (dirOff p i % 8 ≠ 0) || decide (dirOff p i < 0xD0) || decide (p.length < dirOff p i + dirLen p i) ||
      decide (dirLen p i ≠ secSize p i) ||
      (List.range i).any (fun j => decide (dirOff p j < dirOff p i + dirLen p i) &&
        decide (dirOff p i < dirOff p j + dirLen p j))) (Broken.pkg 0x08 i)

/-- The image a container holds. -/
def parseImage (c : Bytes) (source : Nat) : Image :=
  let p := conPayload c
  { sections := (List.range 16).map (fun i => slice p (dirOff p i) (dirLen p i)), digest := conDigest c,
    counter := conCounter c, source := source, tag := slice p 4 8 }

/-! The levels (R57, R58). -/

/-- What the validator looks at beside the image: the profile, the device ID, the fitted Loft in MiB (0: unavailable). -/
structure ValEnv where
  profile : Option Bytes
  deviceId : Bytes
  loftMib : Nat
  deriving DecidableEq, Repr

def outside (lo hi x : Nat) : Bool := decide (x < lo) || decide (hi < x)
def nonzero (b : Bytes) (o n : Nat) : Bool := decide (le b o n ≠ 0)

def unitRegions (b : Bytes) : Option Broken :=
  scan 3 fun r =>
    let f := secRegion b r
    breakIf (outside 0 1 (f 0 1) || outside 1 4 (f 1 1) || outside 0 2 (f 2 1) || outside 0 31 (f 3 1) ||
      (List.range 4).any (fun k => decide (f 1 1 ≤ k) && decide (f (4 + 4 * k) 4 ≠ 0)) || decide (f 0x14 4 ≠ 0))
      ⟨0x10, 1, 1, r + 1, noIx⟩

def unitClusters (b : Bytes) : Option Broken :=
  (scan 12 fun c => breakIf (outside 0 3 (byteAt b c)) ⟨0x10, 1, 2, 0, c⟩).or
    (breakIf (nonzero b 12 4) ⟨0x10, 1, 2, 0, noIx⟩)

def unitSlots (b : Bytes) : Option Broken :=
  ((scan 3 fun r => breakIf (decide (512 < slotCountOf b r)) ⟨0x10, 1, 3, r + 1, noIx⟩).or
    (breakIf (nonzero b 6 2) ⟨0x10, 1, 3, 0, noIx⟩)).or
  (scan 3 fun r => scan (slotCountOf b r) fun i =>
    let f := slotField b r i
    breakIf (outside 112 911 (f 0 2) || outside 1 8 (f 2 1) || decide (7 < f 3 1) || decide (255 < f 4 2) ||
      decide (6 < f 6 1 % 16) || decide (4 < f 6 1 / 16) || decide (40 < f 7 1) || decide (32 < f 0xA 1) ||
      decide (15 < f 0xB 1) || outside 160 10000 (f 0xE 2) || outside 3 8 (f 0x10 1) ||
      outside (f 0x10 1) 8 (f 0x11 1) || decide (5 < f 0x12 1) || decide (63 < f 0x13 1) || decide (f 0x14 12 ≠ 0))
      ⟨0x10, 1, 3, r + 1, i⟩)

def unitLofdm (b : Bytes) : Option Broken :=
  scan 3 fun r => scan 256 fun m =>
    breakIf ((List.range 8).any fun w =>
      let x := le b ((r * 256 + m) * 32 + 4 * w) 4
      decide (2 ^ 18 ≤ x) || (List.range 6).any (fun j => decide (4 < bits x (3 * j) 3)))
      ⟨0x11, 1, 4, r + 1, m⟩

def unitGain (b : Bytes) : Option Broken :=
  scan 3 fun r => scan 32 fun i =>
    let o := (r * 32 + i) * 4
    (breakIf (decide (7 < byteAt b o) || decide (63 < byteAt b (o + 1))) ⟨0x10, 1, 5, r + 1, i⟩).or
      (breakIf (decide (0 < i) && decide (sgn 16 (le b (o + 2) 2) < sgn 16 (le b (o - 2) 2))) ⟨0x12, 1, 5, r + 1, i⟩)

def unitPower (b : Bytes) : Option Broken :=
  scan 3 fun r => scan 64 fun i =>
    let o := (r * 64 + i) * 8
    (breakIf (decide (2 ^ 18 ≤ le b o 4) || decide (byteAt b (o + 5) % 2 ≠ 1) || decide (3 < byteAt b (o + 5)) ||
      nonzero b (o + 6) 2) ⟨0x10, 1, 6, r + 1, i⟩).or
      (breakIf (decide (0 < i) && decide (le b o 4 < le b (o - 8) 4)) ⟨0x12, 1, 6, r + 1, i⟩)

def unitCalib (b : Bytes) : Option Broken :=
  scan 3 fun r =>
    let o := 80 * r
    (scan 4 fun k => breakIf (nonzero b (o + 16 * k + 5) 11) ⟨0x10, 1, 7, r + 1, k⟩).or
      (breakIf (outside 60 86400 (le b (o + 0x40) 4) || outside 1 40 (byteAt b (o + 0x44)) ||
        decide (1 < byteAt b (o + 0x45)) || nonzero b (o + 0x46) 10) ⟨0x10, 1, 7, r + 1, noIx⟩)

def unitTables (b : Bytes) : Option Broken :=
  let at' (r : Nat) : Broken := ⟨0x10, 1, 8, r, noIx⟩
  firstBroken [
    fun _ => scan 3 fun r => breakIf (outside 4096 327680 (le b (4 * r) 4) || decide (le b (4 * r) 4 % 4 ≠ 0)) (at' (r + 1)),
    fun _ => breakIf (outside 1024 131072 (le b 0xC 4)) (at' 0),
    fun _ => scan 3 fun r => breakIf (decide (le b (0x10 + 8 * r) 4 = 0) || decide (le b (0x14 + 8 * r) 4 = 0) ||
      decide (le b (0x10 + 8 * r) 4 = le b (0x14 + 8 * r) 4)) (at' (r + 1)),
    fun _ => breakIf (decide (le b 0x28 4 = 0) || decide (le b 0x2C 4 = 0) || decide (le b 0x30 4 = 0) ||
      decide (le b 0x34 4 = 0) || decide (le b 0x2C 4 = le b 0x30 4) || decide (le b 0x2C 4 = le b 0x34 4) ||
      decide (le b 0x30 4 = le b 0x34 4)) (at' 0),
    fun _ => scan 3 fun r => breakIf (decide (1024 < le b (0x38 + 2 * r) 2)) (at' (r + 1)),
    fun _ => breakIf (nonzero b 0x3E 2 || decide (60000 < le b 0x40 2) || decide (40 < byteAt b 0x42) ||
      nonzero b 0x43 5) (at' 0)]

/-- DOWNLINK: the region headers, then the classes (R57). [log 205: DESIGN CHOICE] -/
def unitDownlink (b : Bytes) : Option Broken :=
  (scan 3 fun r => breakIf (outside 16 4096 (le b (16 * r) 4) || outside 10 10000 (le b (16 * r + 4) 2) ||
    nonzero b (16 * r + 6) 10) ⟨0x10, 1, 9, r + 1, noIx⟩).or
  (scan 3 fun r => scan 1024 fun c =>
    let f := dlField b r c
    breakIf (decide (7 < f 0 1) || decide (f 1 1 ≠ 0) || decide (f 2 2 = 0) || decide (1000000 < f 4 4) ||
      outside 1 1024 (f 0x18 2) || decide (f 0x1A 6 ≠ 0)) ⟨0x10, 1, 9, r + 1, c⟩)

def unitJobs (b : Bytes) : Option Broken :=
  (scan 16 fun g => breakIf (decide (byteAt b g = 0)) ⟨0x10, 1, 10, 0, g⟩).or
  (scan 8 fun t => breakIf (decide (15 < byteAt b (16 + 2 * t)) || decide (15 < byteAt b (17 + 2 * t)) ||
    (decide (t = 7) && nonzero b 30 2)) ⟨0x10, 1, 10, 0, 16 + t⟩)

def unitHost (b : Bytes) : Option Broken :=
  (breakIf (decide (3 < byteAt b 0) || decide (3 < byteAt b 1) || nonzero b 3 5) ⟨0x10, 1, 11, 0, noIx⟩).or
  (scan 68 fun k =>
    let o := 8 + 8 * k
    breakIf (outside 6 16 (byteAt b o) || decide (63 < byteAt b (o + 1)) || decide (le b (o + 2) 2 = 0) ||
      decide (1 < byteAt b (o + 6)) || nonzero b (o + 7) 1) ⟨0x10, 1, 11, 0, k⟩)

def unitTime (b : Bytes) : Option Broken :=
  firstBroken [
    fun _ => scan 8 fun p =>
      let o := 16 * p
      let fn := byteAt b o
      let w := le b (o + 4) 4
      breakIf (decide (4 < fn) || decide (1 < byteAt b (o + 1)) ||
        (if fn = 4 then decide (3 < byteAt b (o + 2)) else nonzero b (o + 2) 1) || nonzero b (o + 3) 1 ||
        (if fn = 1 ∨ fn = 2 ∨ fn = 4 then outside 10 500000000 w else decide (w ≠ 0)) ||
        (if fn = 2 then decide (le b (o + 8) 4 < 2 * w) else nonzero b (o + 8) 4) || nonzero b (o + 12) 4)
        ⟨0x10, 1, 12, 0, p⟩,
    fun _ => scan 3 fun r => breakIf (decide (le b (128 + 4 * r) 4 ≠ 0) && outside 100 60000 (le b (128 + 4 * r) 4))
      ⟨0x10, 1, 12, r + 1, noIx⟩,
    fun _ => breakIf (nonzero b 140 4) ⟨0x10, 1, 12, 0, noIx⟩]

def unitIrq (b : Bytes) : Option Broken :=
  scan 512 fun n =>
    let o := 4 * n
    let fl := byteAt b (o + 3)
    (breakIf (decide (15 < byteAt b o) || decide (1 < byteAt b (o + 1)) || decide (63 < byteAt b (o + 2)) ||
      (decide (byteAt b (o + 1) = 1) && nonzero b (o + 2) 1) || decide (7 < fl)) ⟨0x10, 1, 13, 0, n⟩).or
    (breakIf ((srcKind n == .edge && ! bit fl 1) || (srcKind n == .level && bit fl 1) ||
      (bit fl 2 && ! wakeCapable n)) ⟨0x13, 1, 13, 0, n⟩)

def unitPolicy (b : Bytes) : Option Broken :=
  scan 12 fun m => breakIf (decide (1 < le b (4 * m + 2) 2)) ⟨0x10, 1, 14, 0, m⟩

def unitSafety (b : Bytes) : Option Broken :=
  (scan 3 fun r => breakIf (decide (byteAt b r = 0)) ⟨0x10, 1, 15, r + 1, noIx⟩).or
  (breakIf (nonzero b 3 1 || outside 1 400 (le b 4 2) || outside 10 50 (le b 6 2) || outside 1 24 (byteAt b 8) ||
    outside 100 115 (byteAt b 9) || decide (le b 0xA 2 ≠ 100) || decide (le b 0xC 4 = 0)) ⟨0x10, 1, 15, 0, noIx⟩)

def unitTwin (b : Bytes) : Option Broken :=
  breakIf (decide (1 < byteAt b 0) || decide (1 < byteAt b 1) || nonzero b 2 2 ||
    (decide (byteAt b 0 = 1) && decide (le b 4 4 = 0)) ||
    (decide (byteAt b 0 = 0) && decide (slice b 0x18 16 ≠ zeros 16)) || decide (le b 0x28 2 ≠ 100) ||
    outside 5 1000 (le b 0x2A 2) || outside 1 20 (le b 0x2C 2) || outside 100 1000 (le b 0x2E 2))
    ⟨0x10, 1, 16, 0, noIx⟩

/-- The fewest bins each mode needs (R43). -/
def minBins : Nat → Nat
  | 0 => 6 | 1 => 4 | 2 => 2 | 3 => 1 | 4 => 4 | 5 => 1 | 6 => 1 | _ => 2

/-- The fewest bins a mask of modes needs. -/
def maskBins (m : Nat) : Nat := ((List.range 8).map (fun i => if bit m i then minBins i else 0)).foldl max 0

/-- Cluster level: rules 0x20 and 0x21. -/
def clusterLevel (b1 b2 b3 : Bytes) : Option Broken :=
  let pow r := secRegion b1 r 0 1 == 1
  (scan 12 fun c => breakIf (decide (byteAt b2 c ≠ 0) && ! pow (byteAt b2 c - 1)) ⟨0x20, 2, 2, 0, c⟩).or
  (scan 3 fun r =>
    let half := 16 * ((List.range 12).filter (fun c => byteAt b2 c == r + 1)).length
    scan (slotCountOf b3 r) fun i =>
      breakIf (decide (half < ((List.range (i + 1)).map (fun j => slotField b3 r j 0xA 1)).sum)) ⟨0x21, 2, 3, r + 1, i⟩)

/-- Whether two slots share a bin. -/
def slotsMeet (b : Bytes) (r i j : Nat) : Bool :=
  decide (slotField b r i 0 2 < slotField b r j 0 2 + slotField b r j 2 1) &&
    decide (slotField b r j 0 2 < slotField b r i 0 2 + slotField b r i 2 1)

/-- The finding at the lower entry: entries are checked in ascending index (R57). -/
def lowerEntry (x y : Option Broken) : Option Broken :=
  match x, y with
  | some a, some b => if b.index < a.index then y else x
  | _, _ => x.or y

/-- Region level: rules 0x30–0x35. -/
def regionLevel (e : ValEnv) (b1 b2 b3 b4 b9 : Bytes) : Option Broken :=
  let pow r := secRegion b1 r 0 1 == 1
  let on r i := bit (slotField b3 r i 3 1) 0
  firstBroken [
    fun _ => scan 3 fun r => breakIf (pow r && (List.range 12).all (fun c => decide (byteAt b2 c ≠ r + 1)))
      ⟨0x30, 3, 1, r + 1, noIx⟩,
    fun _ => scan 3 fun r => scan (slotCountOf b3 r) fun i =>
      ((breakIf (on r i && (! pow r || decide (911 < slotField b3 r i 0 2 + slotField b3 r i 2 1 - 1) ||
        (List.range i).any (fun j => on r j && slotsMeet b3 r i j))) ⟨0x31, 3, 3, r + 1, i⟩).or
      (breakIf (decide (slotField b3 r i 2 1 < maskBins (slotField b3 r i 4 2))) ⟨0x32, 3, 3, r + 1, i⟩)).or
      (breakIf (on r i && breaks33 e.profile b1 b3 r i) ⟨0x33, 3, 3, r + 1, i⟩),
    fun _ => scan 3 fun r => breakIf (pow r && decide (imgMap b4 r 0 = 0)) ⟨0x34, 3, 4, r + 1, 0⟩,
    fun _ => scan 3 fun r =>
      let on c := bit (dlField b9 r c 0 1) 0
      let floods := (List.range 1024).filter (fun c => on c && bit (dlField b9 r c 0 1) 2)
      lowerEntry (breakIf (pow r && decide (floods.length ≠ 1)) ⟨0x35, 3, 9, r + 1, floods.getD 1 noIx⟩)
        ((List.range 1024).foldl (fun (a : Nat × Option Broken) c =>
          let sum := if on c then a.1 + dlField b9 r c 4 4 else a.1
          (sum, a.2.or (breakIf (on c && decide (1000000 < sum)) ⟨0x35, 3, 9, r + 1, c⟩))) (0, none)).2]

/-- The domain mask of a mode in POWERPOLICY. -/
def polMask (b : Bytes) (m : Nat) : Nat := le b (4 * m) 2

/-- Die level: rules 0x41 and 0x40. -/
def dieLevel (b1 b7 b14 : Bytes) : Option Broken :=
  (scan 3 fun r => scan (secRegion b1 r 1 1) fun k =>
    breakIf (! Config.seedInRange (secRegion b1 r (4 + 4 * k) 4) (BitVec.ofNat 32 (le b7 (80 * r + 16 * k) 4)))
      ⟨0x41, 4, 7, r + 1, k⟩).or
  (scan 12 fun m => scan 3 fun r =>
    breakIf ((bit (polMask b14 m) (2 + r) != bit (polMask b14 m) (5 + r)) ||
      (bit (polMask b14 m) (2 + r) && ! bit (polMask b14 m) 1)) ⟨0x40, 4, 14, r + 1, m⟩)

/-- Whether a mode's mask breaks R80. -/
def maskBad (b1 b11 b14 b16 : Bytes) (m : Nat) : Bool :=
  let x := polMask b14 m
  let need := 0xDF03 ||| (if byteAt b16 0 = 1 ∨ byteAt b11 0 ≠ 0 then 0x2000 else 0)
  let rad := ((List.range 3).map (fun r => if secRegion b1 r 0 1 = 1 then 2 ^ (2 + r) + 2 ^ (5 + r) else 0)).sum
  match m with
  | 0 => decide (x ≠ 0x0001)
  | 1 => decide (x ≠ 0x0001)
  | 2 => decide (x ≠ 0x6A03)
  | 11 => decide (x ≠ 0x4A03)
  | 3 => decide (x &&& need ≠ need)
  | _ => decide (x &&& (need ||| rad) ≠ (need ||| rad))

/-- Package level: rules 0x50, 0x51, 0x54, 0x52, 0x53 in the order of their sections. -/
def packageLevel (e : ValEnv) (b1 b8 b9 b11 b13 b14 b15 b16 : Bytes) : Option Broken :=
  firstBroken [
    fun _ => breakIf (decide (20971520 < 16 * (le b8 0 4 + le b8 4 4 + le b8 8 4) + 32 * le b8 0xC 4 + 528416))
      ⟨0x50, 5, 8, 0, noIx⟩,
    fun _ => breakIf (decide (e.loftMib < 64 + (le b9 0 4 + le b9 16 4 + le b9 32 4) +
      (le b8 0x38 2 + le b8 0x3A 2 + le b8 0x3C 2))) ⟨0x51, 5, 8, 0, noIx⟩,
    fun _ => scan 512 fun n => breakIf (decide (1 < n) && bit (byteAt b13 (4 * n + 3)) 2 && ! bit (byteAt b13 (4 * n + 3)) 0)
      ⟨0x54, 5, 13, 0, n⟩,
    fun _ => scan 12 fun m => breakIf (maskBad b1 b11 b14 b16 m) ⟨0x52, 5, 14, 0, m⟩,
    fun _ => match e.profile with
      | some p => breakIf (decide (le p 0x20 2 < le b15 4 2)) ⟨0x53, 5, 15, 0, noIx⟩
      | none => none]

/-- System level: rule 0x60. -/
def systemLevel (e : ValEnv) (b16 : Bytes) : Option Broken :=
  let a := slice b16 8 16
  breakIf (if byteAt b16 0 = 1 then decide (a ≠ e.deviceId) && decide (slice b16 0x18 16 ≠ e.deviceId)
    else decide (a ≠ zeros 16) && decide (a ≠ e.deviceId)) ⟨0x60, 6, 16, 0, noIx⟩

/-- All levels from unit to system, but for the peer's digest (R57, R58). -/
def checkLevels (e : ValEnv) (im : Image) : Option Broken :=
  let b := im.sec
  firstBroken [
    fun _ => unitRegions (b 1), fun _ => unitClusters (b 2), fun _ => unitSlots (b 3), fun _ => unitLofdm (b 4),
    fun _ => unitGain (b 5), fun _ => unitPower (b 6), fun _ => unitCalib (b 7), fun _ => unitTables (b 8),
    fun _ => unitDownlink (b 9), fun _ => unitJobs (b 10), fun _ => unitHost (b 11), fun _ => unitTime (b 12),
    fun _ => unitIrq (b 13), fun _ => unitPolicy (b 14), fun _ => unitSafety (b 15), fun _ => unitTwin (b 16),
    fun _ => clusterLevel (b 1) (b 2) (b 3),
    fun _ => regionLevel e (b 1) (b 2) (b 3) (b 4) (b 9),
    fun _ => dieLevel (b 1) (b 7) (b 14),
    fun _ => packageLevel e (b 1) (b 8) (b 9) (b 11) (b 13) (b 14) (b 15) (b 16),
    fun _ => systemLevel e (b 16)]

/-- The outcome of validation: the image, and whether the peer went unchecked. -/
inductive Verdict
  | broken (b : Broken)
  | good (im : Image) (peerUnchecked : Bool)
  deriving DecidableEq, Repr

/-- Validate a structure image (R57, R59): container, directory, levels, then the peer's pair digest. -/
def validate (e : ValEnv) (k : ContainerRule) (c : Bytes) (source : Nat) (peer : Option Bytes) : Verdict :=
  match checkContainer k c with
  | some b => .broken b
  | none =>
    match checkDirectory c with
    | some b => .broken b
    | none =>
      let im := parseImage c source
      match checkLevels e im with
      | some b => .broken b
      | none =>
        if byteAt (im.sec 16) 0 ≠ 1 then .good im false
        else match peer with
          | none => .good im true
          | some d => if d = im.pairDigest then .good im false else .broken ⟨0x61, 6, 16, 0, noIx⟩

end Sys2Proof.Machine
end

