-- ==== Sys2Proof/Machine/Flags.lean ====
section
/-! DEFINITION. Machine/Flags.lean: the conditions of the level interrupt sources (R362, R420, R447, R475, R492) and
`SYS.TROUBLE` (R486), computed from the sticky fields. -/

namespace Sys2Proof.Machine

/-- Whether any bit of a mask is set in a register. -/
def State.anyBit (s : State) (a : Nat) (m : Word) : Bool := (s.rg a) &&& m != 0

/-- The status registers of the 68 host rings, in the order delivery, submission, command. -/
def ringStatusAddr (k : Nat) : Nat :=
  if k < 32 then Reg.hifDeliveryStatus k else if k < 64 then Reg.hifSubmissionStatus (k - 32)
  else Reg.hifCommandStatus (k - 64)

/-- Whether any `DLS.CLASS_STATUS` holds a sticky field: only words written are looked at. -/
def State.anyClassSticky (s : State) : Bool :=
  s.regs.any (fun kv => decide (0x248000 ≤ kv.1) && decide (kv.1 < 0x270000) && decide (0x8000 ≤ kv.1 % 0x10000) &&
    decide (kv.1 % 32 = 0) && (kv.2 &&& 7 != 0))

/-- The registers of R486 that feed one bit of `SYS.TROUBLE`, with their sticky fields; a bit of a block whose domain is
off reads 0 (R487). -/
def State.troubleBit (s : State) : Nat → Bool
  | 0 => s.anyBit Reg.clkStatus 0xE0 || s.anyBit Reg.clkDlinkStatus 0xC || s.anyBit Reg.pwrDomainState 0xFFFF0000
  | 1 => s.domOn 12 && s.anyBit Reg.strState 2
  | 2 => s.domOn 3 && s.anyBit (Reg.rfcStatus 0) 0xF800
  | 3 => s.domOn 4 && s.anyBit (Reg.rfcStatus 1) 0xF800
  | 4 => s.domOn 5 && s.anyBit (Reg.rfcStatus 2) 0xF800
  | 5 => (s.domOn 9 && s.anyBit Reg.rxpTrouble 0x30777) ||
      allRegions.any (fun r => s.domOn r.dspDom && s.anyBit (Reg.rxpGainStatus r.ix) 6)
  | 6 => s.domOn 9 && s.anyBit Reg.macTrouble 7
  | 7 => s.domOn 9 && s.anyBit Reg.rdvTrouble 3
  | 8 => s.domOn 9 && (s.anyBit Reg.fwdTrouble 0xFF ||
      (List.range 5).any (fun i => s.anyBit (Reg.fwdCmd i) 0x20000000 || s.anyBit (Reg.fwdSupCmd i) 0x20000000))
  | 9 => s.anyBit Reg.jobTrouble 3
  | 10 => s.anyBit Reg.hifTrouble 7 || s.anyBit Reg.hifHostSleep 2 ||
      (List.range 68).any (fun k => s.anyBit (ringStatusAddr k) 0x38000000)
  | 11 => s.domOn 9 && (s.anyBit Reg.dlsTrouble 0x77 || s.anyClassSticky)
  | 12 => s.anyBit Reg.tsuStatus 0xF8 || (List.range 8).any (fun n => s.anyBit (Reg.tsuPinStatus n) 0x1E) ||
      s.anyBit Reg.tsuSnapStatus 0x770
  | 13 => s.anyBit Reg.tmrStatus 2 || (List.range 16).any (fun c => s.anyBit (Reg.tmrChStatus c) 0xE)
  | 14 => s.anyBit Reg.irqTrouble 7 || s.irq.srcs.any (fun kv => kv.2.storm || kv.2.merged)
  | 15 => s.domOn 11 && s.anyBit Reg.keyTrouble 0x3F
  | 16 => s.domOn 11 && s.anyBit Reg.cryTrouble 1
  | 17 => s.domOn 12 && s.anyBit Reg.updStatus 0x7C
  | 18 => s.domOn 12 && s.anyBit Reg.twnStatus 0xFF
  | 19 => s.domOn 12 && s.anyBit Reg.safTrouble 0x3F
  | 20 => s.domOn 12 && s.anyBit Reg.recStatus 0xE
  | 21 => s.anyBit Reg.sysAccessErr 7 || s.anyBit Reg.sysModeCmd 0x20000000
  | _ => false

/-- `SYS.TROUBLE` (R486). -/
def State.trouble (s : State) : Nat := ((List.range 22).map (fun i => (s.troubleBit i).toNat * 2 ^ i)).sum

/-- The condition of a level source that one or more bits of a register state. -/
def condRow : Nat → Option (Nat × Word)
  | 0x11 => some (Reg.sysAccessErr, 7)
  | 0x12 => some (Reg.clkStatus, 0xE0)
  | 0x13 => some (Reg.pwrDomainState, 0xFFFF0000)
  | 0x14 => some (Reg.clkDlinkStatus, 0xC)
  | 0x15 => some (Reg.sysModeCmd, 0x20000000)
  | 0x21 => some (Reg.strState, 2)
  | 0x70 => some (Reg.rxpTrouble, 1) | 0x71 => some (Reg.rxpTrouble, 2) | 0x72 => some (Reg.rxpTrouble, 4)
  | 0x73 => some (Reg.rxpTrouble, 0x10) | 0x74 => some (Reg.rxpTrouble, 0x20) | 0x75 => some (Reg.rxpTrouble, 0x40)
  | 0x76 => some (Reg.rxpTrouble, 0x100) | 0x77 => some (Reg.rxpTrouble, 0x200) | 0x78 => some (Reg.rxpTrouble, 0x400)
  | 0x79 => some (Reg.rxpTrouble, 0x10000)
  | 0x7A => some (Reg.rxpTrouble, 0x20000)
  | 0x80 => some (Reg.rxpGainStatus 0, 6) | 0x81 => some (Reg.rxpGainStatus 1, 6) | 0x82 => some (Reg.rxpGainStatus 2, 6)
  | 0x90 => some (Reg.macTrouble, 1) | 0x91 => some (Reg.macTrouble, 2) | 0x92 => some (Reg.macTrouble, 4)
  | 0x93 => some (Reg.rdvTrouble, 1) | 0x94 => some (Reg.rdvTrouble, 2)
  | 0xA0 => some (Reg.fwdTrouble, 0xF) | 0xA1 => some (Reg.fwdTrouble, 0x10) | 0xA2 => some (Reg.fwdTrouble, 0x20)
  | 0xA3 => some (Reg.fwdTrouble, 0x40) | 0xA4 => some (Reg.fwdTrouble, 0x80)
  | 0xC0 => some (Reg.jobTrouble, 1) | 0xC1 => some (Reg.jobTrouble, 2)
  | 0xC2 => some (Reg.hifTrouble, 1) | 0xC3 => some (Reg.hifTrouble, 2) | 0xC4 => some (Reg.hifTrouble, 4)
  | 0xC5 => some (Reg.hifHostSleep, 2)
  | 0xD0 => some (Reg.dlsTrouble, 1) | 0xD1 => some (Reg.dlsTrouble, 2) | 0xD2 => some (Reg.dlsTrouble, 4)
  | 0xD3 => some (Reg.dlsTrouble, 0x10) | 0xD4 => some (Reg.dlsTrouble, 0x20) | 0xD5 => some (Reg.dlsTrouble, 0x40)
  | 0xE0 => some (Reg.tsuStatus, 0x40) | 0xE1 => some (Reg.tsuStatus, 0x20) | 0xE2 => some (Reg.tsuStatus, 0x18)
  | 0xE4 => some (Reg.tsuStatus, 0x80)
  | 0xE5 => some (Reg.tsuSnapStatus, 1) | 0xE6 => some (Reg.tsuSnapStatus, 2) | 0xE7 => some (Reg.tsuSnapStatus, 4)
  | 0x100 => some (Reg.keyTrouble, 0x20) | 0x101 => some (Reg.keyTrouble, 0x10) | 0x103 => some (Reg.keyTrouble, 8)
  | 0x104 => some (Reg.keyTrouble, 1) | 0x105 => some (Reg.keyTrouble, 4) | 0x107 => some (Reg.cryTrouble, 1)
  | 0x112 => some (Reg.updStatus, 0x10) | 0x113 => some (Reg.updStatus, 0x60) | 0x114 => some (Reg.updStatus, 4)
  | 0x115 => some (Reg.updStatus, 8)
  | 0x121 => some (Reg.twnStatus, 0xC0) | 0x124 => some (Reg.twnStatus, 0x38) | 0x125 => some (Reg.twnStatus, 4)
  | 0x130 => some (Reg.safTrouble, 1) | 0x131 => some (Reg.safTrouble, 2) | 0x133 => some (Reg.safTrouble, 4)
  | 0x134 => some (Reg.safTrouble, 0x10) | 0x135 => some (Reg.safTrouble, 8)
  | 0x141 => some (Reg.recStatus, 4) | 0x143 => some (Reg.recStatus, 8) | 0x145 => some (Reg.recStatus, 2)
  | _ => none

/-- The `RFC.STATUS` bit of source 0x040 + 16 r + i. -/
def rfcCondBit : Nat → Nat
  | 0 => 12 | 1 => 13 | 2 => 11 | 3 => 14 | _ => 15

/-- Whether the condition of a level source holds. -/
def State.levelCond (s : State) (n : Nat) : Bool :=
  match condRow n with
  | some (a, m) => s.anyBit a m
  | none =>
    if n = 0x16 then decide (s.trouble ≠ 0)
    else if 0x40 ≤ n ∧ n < 0x70 then decide (n % 16 ≤ 4) && s.rb (Reg.rfcStatus ((n - 0x40) / 16)) (rfcCondBit (n % 16))
    else if n = 0xC6 then (List.range 68).any (fun k => s.anyBit (ringStatusAddr k) 0x30000000)
    else if n = 0x140 then decide (s.cellar.next ≥ returnIx)
    else false

end Sys2Proof.Machine
end

