-- ==== Sys2Proof/Machine/IrqOps.lean ====
section
/-! DEFINITION. Machine/IrqOps.lean: the interrupt controller (chapter 12): priorities, pending and active states,
storms, the host's MSI-X message. -/

namespace Sys2Proof.Machine

/-- A source as the controller holds it. -/
def State.src (s : State) (n : Nat) : IrqSrc := sget IrqSrc.reset s.irq.srcs n

/-- Store a source. -/
def State.setSrc (s : State) (n : Nat) (x : IrqSrc) : State :=
  { s with irq := { s.irq with srcs := sput IrqSrc.reset s.irq.srcs n x } }

/-- The stack of a context: its levels, highest first. -/
def State.irqStack (s : State) (c : IrqCtx) : List Nat :=
  match c with
  | .host => s.irq.hostStack
  | .supervisor => s.irq.supStack

/-- Replace the stack of a context. -/
def State.setIrqStack (s : State) (c : IrqCtx) (l : List Nat) : State :=
  match c with
  | .host => { s with irq := { s.irq with hostStack := l } }
  | .supervisor => { s with irq := { s.irq with supStack := l } }

/-- The context a source is routed to (R364). -/
def IrqSrc.ctx (x : IrqSrc) : IrqCtx := if x.target then .supervisor else .host

/-- Whether a source is eligible in a context (R365). -/
def State.eligible (s : State) (c : IrqCtx) (x : IrqSrc) : Bool :=
  x.pending && x.enabled && ! x.active && (x.ctx == c) &&
    (match (s.irqStack c).head? with
     | some l => decide (l < x.level)
     | none => true)

/-- The top eligible source of a context: highest level, then lowest number (R365). -/
def State.topEligible (s : State) (c : IrqCtx) : Option Nat :=
  (s.irq.srcs.foldl (fun (best : Option (Nat × Nat)) kv =>
    if s.eligible c kv.2 then
      match best with
      | some (_, l) => if l < kv.2.level then some (kv.1, kv.2.level) else best
      | none => some (kv.1, kv.2.level)
    else best) none).map (·.1)

/-- Whether the function can send an MSI-X message (R296): domain 10 and the link are up, the function is in D0, bus mastering and MSI-X are enabled. -/
def State.msixReady (s : State) : Bool :=
  s.domOn 10 && s.hif.linkUp && (s.hif.power == .d0) && s.hif.busMaster && s.hif.msix

/-- An entry of the MSI-X table after reset: its vector masked. [log 181: PRESUMED] -/
def msixReset : BitVec 128 := 2 ^ 96
/-- Whether a vector is masked, by its entry of the table or with the whole function. [log 181: PRESUMED] -/
def State.msixMasked (s : State) (vector : Nat) : Bool := s.hif.msixMask || getBit (sget msixReset s.hif.msixTable vector) 96

/-- An MSI-X message leaves, and a link in L1 leaves it (R297); a masked vector sets its pending bit instead (R296). -/
def State.msixOut (s : State) (vector : Nat) : State :=
  if s.msixMasked vector then { s with hif := { s.hif with msixPending := setBits s.hif.msixPending vector 1 1 } }
  else
    let s := if s.hif.l1 then ({ s with hif := { s.hif with l1 := false } } : State).out .leaveL1 else s
    s.out (.msix vector)

/-- The messages that were pending and whose vectors are masked no longer. -/
def State.msixRelease (s : State) : State :=
  (List.range 64).foldl (fun s v =>
    if getBit s.hif.msixPending v && s.msixReady && ! s.msixMasked v then
      ({ s with hif := { s.hif with msixPending := setBits s.hif.msixPending v 1 0 } } : State).msixOut v
    else s) s

/-- Send the messages that are due, when they can be sent (R366). -/
def State.irqSend (s : State) : State :=
  if s.msixReady then s.irq.due.foldl (fun s v => s.msixOut v) { s with irq := { s.irq with due := [] } } else s

/-- Whether a core of the active pair that waits for an interrupt resumes (R372): a source ENABLED, PENDING and routed to the supervisor
stands, eligible or not. -/
def State.supWakes (s : State) : Bool := s.irq.srcs.any fun kv => kv.2.enabled && kv.2.pending && kv.2.ctx == .supervisor

/-- One message falls due whenever the host's top eligible source changes to a source; the supervisor's line is high while an eligible
source exists (R366, R372). -/
def State.irqTell (s : State) : State :=
  let top := s.topEligible .host
  let due := if top = s.irq.told then [] else (top.map fun n => (s.src n).vector).toList
  let line := (s.topEligible .supervisor).isSome
  ({ s with irq := { s.irq with told := top, due := s.irq.due ++ due, supLine := line, supWoken := s.supWakes } } : State).irqSend

/-- The events of sources that are no longer ENABLED are not kept (R364). -/
def State.eventsPrune (s : State) : State :=
  { s with irq := { s.irq with events := s.irq.events.filter s.hears } }

/-- The number of the 1 ms storm window, from reset (R371). -/
def State.stormWindow (s : State) : Nat := (s.now - s.sys.startTick) / 819200

/-- A new storm window clears the counts of changes. -/
def State.irqRoll (s : State) : State :=
  if s.irq.window = s.stormWindow then s
  else { s with irq := { s.irq with window := s.stormWindow,
                                    srcs := smap IrqSrc.reset (fun x => { x with changes := 0 }) s.irq.srcs } }

/-- Store a source whose PENDING may have risen: a 0-to-1 change is counted, and the 65th in a window masks the source
(R371). [log 185: DESIGN CHOICE] -/
def State.setPending (s : State) (n : Nat) (x : IrqSrc) (p : Bool) : State :=
  let p := p && x.enabled
  if p && ! x.pending then
    let s := s.irqRoll
    let k := (s.src n).changes + 1
    if 65 ≤ k then
      ((((s.setSrc n { x with enabled := false, pending := false, storm := true, changes := k }).setMark (Reg.irqSrc n) 3).stk Reg.irqTrouble 1).cnt
        Reg.irqStormCnt).cell 0x35 n s.stormWindow 0
    else s.setSrc n { x with pending := true, changes := k }
  else s.setSrc n { x with pending := p }

/-- Whether an edge that meets a pending source merges and is counted (R363: the inputs with a glitch filter).
[log 50: DEDUCED] -/
def mergesEdge (n : Nat) : Bool := decide (n ≤ 4) || srcKind n == .ext

/-- A source's MERGED_STK and its count (R363). -/
def State.irqMerged (s : State) (n : Nat) : State :=
  (((s.setSrc n { s.src n with merged := true }).setMark (Reg.irqSrc n) 2).stk Reg.irqTrouble 2).cnt Reg.irqMergeCnt

/-- An edge event of a source (R363, R364). [log 50: DEDUCED] -/
def State.irqEdge (s : State) (n : Nat) : State :=
  let x := s.src n
  if x.enabled = false then s
  else if x.pending then
    if mergesEdge n then s.irqMerged n else s
  else s.setPending n x true

/-- A source that the Hearth recorded during sleep is set PENDING, ENABLED or not (R373). [log 53: DEDUCED] -/
def State.pendSeen (s : State) (n : Nat) : State :=
  let x := s.src n
  if x.enabled then s.setPending n x true else s.setSrc n { x with pending := true }

/-- A level source's condition as it stands (R364): PENDING follows it while the source is not ACTIVE. -/
def State.irqLevel (s : State) (n : Nat) (cond : Bool) : State :=
  let x := { s.src n with raw := cond }
  if x.active then s.setSrc n { x with pending := false } else s.setPending n x cond

/-- Whether an external source's pin carries its FIRED or LATE condition instead of its pad (R362). -/
def State.pinDriven (s : State) (n : Nat) : Bool :=
  decide (8 ≤ n) && (s.pinF (n - 8) 0 1 == 1 || s.pinF (n - 8) 0 1 == 2 || s.pinF (n - 8) 0 1 == 4)

/-- An external input as the controller sees it: the pin at its active level, by POLARITY for a time pin, or FIRED_STK or LATE_STK. -/
def State.extLevel (s : State) (n : Nat) (pin : Bool) : Bool :=
  if s.pinDriven n then s.anyBit (Reg.tsuPinStatus (n - 8)) 6
  else if 8 ≤ n then pin != (s.pinF (n - 8) 1 1 != 0)
  else pin

/-- The pad's level: the pin level after the filter, with the transitions since. -/
def IrqSrc.pad (x : IrqSrc) : Bool := x.pin != (x.moves.length % 2 == 1)

/-- The 10 ns glitch filter (R363): once the pad has been at rest as long as the filter, an odd number of transitions makes one filtered
edge, which stands for more than one where there were three or more; a shorter pulse has left no edge. -/
def IrqSrc.settle (x : IrqSrc) (now : Nat) : IrqSrc × Bool :=
  if x.moves.getLast?.all (fun k => decide (k + nsTicks 10 ≤ now)) then
    ({ x with pin := x.pad, moves := [] }, x.moves.length % 2 == 1 && decide (3 ≤ x.moves.length))
  else (x, false)

/-- The pad of an external input stands at a level now. -/
def IrqSrc.padAt (x : IrqSrc) (level : Bool) (now : Nat) : IrqSrc :=
  if x.pad = level then x else { x with moves := x.moves ++ [now] }

/-- What a claim returns and does (R367). -/
def State.irqClaimCtx (s : State) (c : IrqCtx) : State :=
  match s.topEligible c with
  | none => { s with readData := 0 }
  | some n =>
    let x := s.src n
    let s := (s.setSrc n { x with pending := false, active := true }).setIrqStack c (x.level :: s.irqStack c)
    { s with readData := BitVec.ofNat 64 (2 ^ 31 + x.level * 2 ^ 24 + n) }

/-- What an end of interrupt does (R368–R370). -/
def State.irqEoiCtx (s : State) (c : IrqCtx) (n : Nat) (empty : Bool) : State :=
  let x := s.src n
  if x.active && (x.ctx == c) && (s.irqStack c).head? == some x.level then
    let s := s.setIrqStack c (s.irqStack c).tail
    let y := match x.heldLevel with
      | some (l, t) => { x with active := false, level := l, target := t, heldLevel := none }
      | none => { x with active := false }
    let s := s.setSrc n y
    let s := if srcKind n = .edge ∨ y.edge then s
      else s.setPending n y (if srcKind n == .level then s.levelCond n else s.extLevel n y.pin)
    if empty then s.cnt Reg.irqClaimEmptyCnt else s
  else (s.stk Reg.irqTrouble 0).cnt Reg.irqEoiErrCnt

/-- The configuration of a source in the active image, with its ENABLED (R379). [log 51: DEDUCED] -/
def State.srcOfImage (s : State) (n : Nat) (x : IrqSrc) : IrqSrc :=
  let fl := s.irqF n 3
  let en := bit fl 0 && srcKind n != .reserved
  let lv := s.irqF n 0
  let tg := s.irqF n 1 == 1
  if x.active then
    { x with enabled := en, edge := bit fl 1, wake := bit fl 2, vector := s.irqF n 2, heldLevel := some (lv, tg),
             pending := x.pending && en }
  else
    { x with enabled := en, edge := bit fl 1, wake := bit fl 2, vector := s.irqF n 2, level := lv, target := tg,
             pending := x.pending && en }

/-- Whether the condition of a source that is a level holds (R362): of an external one at the pin level last seen. -/
def State.levelNow (s : State) (n : Nat) (x : IrqSrc) : Bool :=
  match srcKind n with
  | .level => s.levelCond n
  | .ext => ! x.edge && s.extLevel n x.pin
  | _ => false

/-- The IRQ section applied (R370), or withdrawn with its image (R379); a level source enabled while its condition holds pends (R364). -/
def State.irqApply (s : State) : State :=
  ((List.range 512).foldl (fun s n =>
    let y := s.srcOfImage n (s.src n)
    s.setPending n y (y.pending || (s.levelNow n y && ! y.active))) s).eventsPrune.irqTell

/-- The controller after its domain has been off: nothing pending, active or counted; the pads and their filters are the Hearth's. -/
def Irq.cleared (i : Irq) : Irq :=
  { i with srcs := smap IrqSrc.reset (fun x => { IrqSrc.reset with pin := x.pin, moves := x.moves }) i.srcs
           hostStack := [], supStack := [], events := [], told := none, due := [], window := 0, supLine := false, supWoken := false }

end Sys2Proof.Machine
end

