-- ==== Sys2Proof/Machine/JobOps.lean ====
section
/-! DEFINITION. Machine/JobOps.lean: the job dispatcher (R276–R278): requests, the pool, deficit round robin. -/

namespace Sys2Proof.Machine

/-- GROUP_WEIGHT of a group; 1 while no image is active (log entry 20). [log 20: DEDUCED] -/
def State.weight (s : State) (g : Nat) : Nat := if s.str.active.isSome then s.groupWeight g else 1

/-- A job of a type, in the group and at the level TYPE_MAP assigns (R276). -/
def State.newJob (s : State) (kind : Fin 7) (cost arg : Nat) : Job :=
  let (g, l) := s.typeMap kind.val
  ⟨kind, g, l, cost, arg⟩

/-- The pool a type may draw on besides the remainder: 0 receive, 1 acknowledgement and management, 2 none. -/
def poolOf (kind : Fin 7) : Nat := if kind = 0 then 0 else if kind = 4 ∨ kind = 6 then 1 else 2

/-- Whether a type may take a job now (R278): its own reserve, or the remainder of the 4,096, which are all there are (R276). -/
def State.jobRoom (s : State) (kind : Fin 7) : Bool :=
  let rx := s.rf Reg.jobReserve 0 12
  let am := s.rf Reg.jobReserve 16 12
  let j := s.jobs
  let shared := (j.rxIn - rx) + (j.ackIn - am) + (j.inFlight - j.rxIn - j.ackIn)
  decide (j.inFlight < 4096) && (decide (shared < 4096 - rx - am) || (poolOf kind == 0 && decide (j.rxIn < rx)) ||
    (poolOf kind == 1 && decide (j.ackIn < am)))

/-- A job allocated: it joins its group's queue and the high-water mark follows (R277, R280). -/
def State.jobTake (s : State) (x : Job) : State :=
  let j := s.jobs
  let s : State :=
    { s with jobs := { j with queued := j.queued ++ [x], inFlight := j.inFlight + 1,
                              rxIn := j.rxIn + (poolOf x.kind == 0).toNat,
                              ackIn := j.ackIn + (poolOf x.kind == 1).toNat } }
  if s.rf Reg.jobHwm 0 13 < s.jobs.inFlight then s.setRf Reg.jobHwm 0 13 s.jobs.inFlight else s

/-- Receive requests of a region that wait for a job. -/
def State.rxWaiting (s : State) (r : Nat) : Nat :=
  (s.jobs.waiting.filter (fun x => x.kind == 0 && x.arg == r)).length

/-- Whether a job's source already has a request waiting ahead of it. -/
def Job.sameSource (a b : Job) : Bool := a.kind == b.kind && (a.kind != 0 || a.arg == b.arg)

/-- A job request (R278): allocated, or waiting in the FIFO of its source. -/
def State.jobRequest (s : State) (x : Job) : State :=
  if s.jobRoom x.kind && ! s.jobs.waiting.any x.sameSource then s.jobTake x
  else ({ s with jobs := { s.jobs with waiting := s.jobs.waiting ++ [x] } } : State).stk Reg.jobTrouble 1

/-- Whether a receive request of a region would find its 512-entry FIFO full (R278). -/
def State.rxFifoFull (s : State) (r : Nat) : Bool :=
  (! s.jobRoom 0 || decide (0 < s.rxWaiting r)) && decide (512 ≤ s.rxWaiting r)

/-- The first waiting request that may take a job, oldest first (log entry 20), is allocated. [log 20: DEDUCED] -/
def State.jobServeWaiting (s : State) : State :=
  match s.jobs.waiting.find? (fun x => s.jobRoom x.kind) with
  | some x => ({ s with jobs := { s.jobs with waiting := s.jobs.waiting.erase x } } : State).jobTake x
  | none => s

/-- Every waiting request that may now take a job is allocated: a reserve was made smaller (R278). -/
def State.jobServeAll (s : State) : State := s.jobs.waiting.foldl (fun s _ => s.jobServeWaiting) s

/-- A job done: it leaves the pool. -/
def State.jobFree (s : State) (kind : Fin 7) : State :=
  let j := s.jobs
  ({ s with jobs := { j with inFlight := j.inFlight - 1, rxIn := j.rxIn - (poolOf kind == 0).toNat,
                             ackIn := j.ackIn - (poolOf kind == 1).toNat } } : State).jobServeWaiting

/-- The handed job of a type and subject, if an engine holds one. [log 141: DEDUCED] -/
def State.handedJob (s : State) (kind : Fin 7) (arg : Nat) : Option Job :=
  s.jobs.handed.find? (fun x => x.kind == kind && x.arg == arg)

/-- An engine finishes the job it holds. -/
def State.jobDone (s : State) (x : Job) : State :=
  ({ s with jobs := { s.jobs with handed := s.jobs.handed.erase x } } : State).jobFree x.kind

/-- A job handed to its engine. A timer event raises its channel's source at once (R351); the MAC stage's transmitter takes an
acknowledgement, formed when its frame was judged, and an AES engine its frame at once, so these jobs are done; the others stay with
their engine until their work is. [log 141: DEDUCED] -/
def State.jobHand (s : State) (x : Job) : State :=
  match x.kind with
  | 1 => s.jobFree x.kind
  | 4 => s.jobFree x.kind
  | 5 => (s.event (0xF0 + x.arg % 16)).jobFree x.kind
  | _ => { s with jobs := { s.jobs with handed := s.jobs.handed ++ [x] } }

/-- The head job of the highest level of a group whose engine accepts: FIFO within the level (R277). -/
def groupHead (q : List Job) (g : Nat) (accepts : List (Fin 7)) : Option Job :=
  let mine := q.filter (fun x => x.group == g)
  (List.range 16).reverse.findSome? (fun l =>
    match mine.find? (fun x => x.level == l) with
    | some x => if accepts.contains x.kind then some x else none
    | none => none)

/-- The jobs of one visit, while the deficit is positive; at most `n`. -/
def State.groupServe (s : State) (g : Nat) (accepts : List (Fin 7)) : Nat → State
  | 0 => s
  | n + 1 =>
    let d := sget 0 s.jobs.deficit g
    match groupHead s.jobs.queued g accepts with
    | some x =>
      if 0 < d then
        let s : State := { s with jobs := { s.jobs with queued := s.jobs.queued.erase x,
                                                        deficit := sput 0 s.jobs.deficit g (d - x.cost) } }
        ((s.cnt (Reg.jobGroupServedCnt g)).jobHand x).groupServe g accepts n
      else s
    | none => s

/-- The types whose engines accept: an AES job needs an AES engine in service, a learning job a table engine of a learning table
(R20). [log 189: DESIGN CHOICE] -/
def State.acceptable (s : State) (accepts : List (Fin 7)) : List (Fin 7) :=
  accepts.filter (fun k => ! (k == 1 && s.aesOut) && ! (k == 2 && s.tableOut 0 && s.tableOut 1 && s.tableOut 2))

/-- One visit to a group (R277): a group whose engines accept none of its head jobs is passed over with its deficit
kept; a group that empties loses its deficit. -/
def State.groupVisit (s : State) (g : Nat) (accepts : List (Fin 7)) : State :=
  match groupHead s.jobs.queued g accepts with
  | none => s
  | some _ =>
    let s : State :=
      { s with jobs := { s.jobs with deficit := sput 0 s.jobs.deficit g (sget 0 s.jobs.deficit g + s.weight g * 4) } }
    let s := s.groupServe g accepts s.jobs.queued.length
    if s.jobs.queued.any (fun x => x.group == g) then s
    else { s with jobs := { s.jobs with deficit := sput 0 s.jobs.deficit g 0 } }

/-- The next group that holds jobs, from the one whose turn it is. -/
def State.nextGroup (s : State) : Option Nat :=
  ((List.range 16).map (fun i => (s.jobs.next + i) % 16)).find? (fun g => s.jobs.queued.any (fun x => x.group == g))

end Sys2Proof.Machine
end

