-- ==== Sys2Proof/Machine/TimeOps.lean ====
section
/-! DEFINITION. Machine/TimeOps.lean: the timebase and the fix scale (R329–R337), pins (R346–R350) and one-shot timers
(R351–R353). -/

namespace Sys2Proof.Machine

/-- The timebase in 2^−32 ns: it advances by the increment on every tick while domain 10 is on (R329, R355). -/
def State.tbRaw (s : State) : Nat :=
  if s.domOn 10 then s.tsu.base + (s.now - s.tsu.start) * s.tsu.incr else s.tsu.base
/-- The timebase in ns. -/
def State.tbNs (s : State) : Nat := s.tbRaw / 2 ^ 32
/-- SEC. -/
def State.tbSec (s : State) : Nat := s.tbNs / 1000000000
/-- NS. -/
def State.tbNsPart (s : State) : Nat := s.tbNs % 1000000000
/-- FRAC. -/
def State.tbFrac (s : State) : Nat := s.tbRaw % 2 ^ 32
/-- The course of the timebase that was in force at a tick: its first tick, its value then and its increment. -/
def Tsu.courseAt (x : Tsu) (tick : Nat) : Nat × Nat × Nat :=
  let present := (x.start, x.base, x.incr)
  if x.start ≤ tick then present
  else (x.past.find? (fun c => decide (c.1 ≤ tick))).getD (x.past.getLast?.getD present)

/-- The timebase at another tick, under the course in force at it: a step or an increment commit since then alters nothing that was
timed before it (R336). -/
def State.tbRawAt (s : State) (tick : Nat) : Nat :=
  let c := s.tsu.courseAt tick
  ((c.2.1 : Int) + ((tick : Int) - c.1) * c.2.2).toNat

/-- The timebase takes a value and an increment; its course before is kept as long as a second. -/
def State.tbCourse (s : State) (v incr : Nat) : State :=
  let x := s.tsu
  let all := (x.start, x.base, x.incr) :: x.past
  let n := 1 + all.countP (fun c => decide (s.now < c.1 + secTicks 1))
  { s with tsu := { x with base := v, start := s.now, incr := incr, past := all.take n } }

/-- Load the timebase. -/
def State.setTb (s : State) (v : Nat) : State := s.tbCourse v s.tsu.incr

/-- The present time on the fix scale, in ns (R337). -/
def State.fixNow (s : State) : Int := (s.tbNs : Int) - s.tsu.accum

/-- The first fabric tick at which the timebase reaches an instant in ns. -/
def State.tbTick (s : State) (i : Int) : Nat := s.now + ceilDiv (i * 2 ^ 32 - s.tbRaw).toNat s.tsu.incr

/-- Whether TIME_SET holds. -/
def State.timeSet (s : State) : Bool := s.rb Reg.tsuStatus 0

/-- Whether a boundary of an interval of the timebase has come at least half an interval after the previous event
(R336). -/
def State.boundaryDue (s : State) (interval : Nat) (last : Option Nat) : Bool :=
  match last with
  | none => true
  | some l => decide (interval + 2 * (s.tbNs % interval) ≤ 2 * ticksNs (s.now - l))

/-- An instant of 48-bit seconds, in ns. -/
def instant (lo hi ns : Nat) : Nat := (hi % 65536 * 2 ^ 32 + lo) * 1000000000 + ns

/-- An instant held with 32-bit seconds: the one nearest the present with those seconds bits, in ns (R335). -/
def State.instant32 (s : State) (sec ns : Nat) : Int :=
  let d := sgn 32 ((sec + 2 ^ 32 - s.tbSec % 2 ^ 32) % 2 ^ 32)
  ((s.tbSec : Int) + d) * 1000000000 + ns

/-! Steps. -/

/-- The instant of `TSU.STEP_AT_*`, in ns. -/
def StepPend.instant (p : StepPend) : Nat := p.atSec * 1000000000 + p.atNs

/-- The offset of an OFFSET step, in ns: signed seconds and ns always added (R332). -/
def StepPend.offset (p : StepPend) : Int := sgn 48 p.sec * 1000000000 + p.ns

/-- The step the registers describe. -/
def State.stepWritten (s : State) (set timed : Bool) : StepPend :=
  { since := s.now, set := set, timed := timed, ns := (s.rg Reg.tsuStepNs).toNat,
    sec := s.rf Reg.tsuStepSecHi 0 16 * 2 ^ 32 + (s.rg Reg.tsuStepSecLo).toNat,
    atSec := s.rf Reg.tsuStepAtSecHi 0 16 * 2 ^ 32 + (s.rg Reg.tsuStepAtSecLo).toNat,
    atNs := (s.rg Reg.tsuStepAtNs).toNat }

/-- A GO of `TSU.STEP_CTRL` (R332). -/
def State.stepIssue (s : State) (set timed : Bool) : State :=
  let s := (s.setb Reg.tsuStepCtrl 30 timed).setb Reg.tsuStepCtrl 29 set
  let p := s.stepWritten set timed
  if 999999999 < p.ns then s.stk Reg.tsuStatus 3
  else
    let s := s.when s.tsu.step.isSome (·.stk Reg.tsuStatus 4)
    let late := timed && decide (p.instant * 2 ^ 32 < s.tbRaw)
    let s := s.when late (·.stk Reg.tsuStatus 3)
    { s with tsu := { s.tsu with step := some { p with timed := timed && ! late } } }

/-- Whether a pending step applies at this tick. -/
def State.stepDue (s : State) (p : StepPend) : Bool :=
  decide (p.since < s.now) && (! p.timed || decide (p.instant ≤ s.tbNs))

/-- The timebase a step gives, in 2^−32 ns. -/
def State.stepResult (s : State) (p : StepPend) : Int :=
  if p.set then ((p.sec * 1000000000 + p.ns : Nat) : Int) * 2 ^ 32 else (s.tbRaw : Int) + p.offset * 2 ^ 32

/-- Whether a time in 2^−32 ns lies in the timebase's range. -/
def tbInRange (v : Int) : Bool := decide (0 ≤ v) && decide (v < (2 ^ 48 * 1000000000 * 2 ^ 32 : Int))

/-- The next accumulated offset; a sum outside 64 bits is a value the spec does not state, a free value (log entry 21).
[log 21: DESIGN CHOICE] -/
def State.accumNext (s : State) (d : Int) : Int :=
  let x := s.tsu.accum + d
  if -(2 : Int) ^ 63 ≤ x ∧ x < (2 : Int) ^ 63 then x
  else sgn 64 (s.free.toNat + 2 ^ 32 * (Config.freeWord (s.freeCtr + 1)).toNat)

/-! Pins. -/

/-- A pin. -/
def State.pin (s : State) (n : Nat) : Pin := sget Pin.reset s.tsu.pins n
/-- Store a pin. -/
def State.setPin (s : State) (n : Nat) (p : Pin) : State :=
  { s with tsu := { s.tsu with pins := sput Pin.reset s.tsu.pins n p } }
/-- FUNCTION of a pin. -/
def State.pinFn (s : State) (n : Nat) : Nat := s.pinF n 0 1
/-- The instant in a pin's AT registers, in ns. -/
def State.pinAt (s : State) (n : Nat) : Nat :=
  instant (s.rg (Reg.tsuPinAtSecLo n)).toNat (s.rf (Reg.tsuPinAtSecHi n) 0 16) (s.rg (Reg.tsuPinAtNs n)).toNat

/-- The first grid point of a train at or after a time (R347). -/
def gridNext (start period time : Nat) : Nat :=
  if time ≤ start ∨ period = 0 then start else start + ceilDiv (time - start) period * period

/-- The last fixed instant before the present: an instant of `next` ns lies in the past. -/
def State.nsPast (s : State) (ns : Nat) : Bool := decide (ns * 2 ^ 32 < s.tbRaw)

/-- Smallest whole ns not before the present. -/
def State.tbCeilNs (s : State) : Nat := ceilDiv s.tbRaw (2 ^ 32)

/-- What a jump of the timebase from `old` ns does to an armed pin (R336, R350): a train realigns to its grid, an
instant passed fires late. `stepped` says that a step caused it. -/
def State.pinJump (s : State) (old : Nat) (stepped : Bool) (n : Nat) : State :=
  let p := s.pin n
  if p.armed then
    let s := s.when stepped (·.stk (Reg.tsuPinStatus n) 4)
    if s.pinFn n = 2 then s.setPin n { p with next := gridNext (s.pinAt n) (s.pinF n 8 4) s.tbCeilNs }
    else s.when (p.pulseEnd.isNone && decide (old ≤ p.next) && s.nsPast p.next) (·.stk (Reg.tsuPinStatus n) 2)
  else s

/-- A capture of a time in ns into a pin's current buffer (R348). -/
def State.pinCapture (s : State) (n ns : Nat) (coarse : Bool) : State :=
  let p := s.pin n
  (s.setPin n { p with curSec := ns / 1000000000, curNs := ns % 1000000000, curCoarse := coarse,
                       seq := (p.seq + 1) % 65536, fresh := true, capAt := s.now, oldSec := p.curSec, oldNs := p.curNs,
                       oldCoarse := p.curCoarse, oldSeq := p.seq, oldFresh := p.fresh
                       oldOverrun := s.rb (Reg.tsuPinStatus n) 3 }).when p.fresh
    (·.stk (Reg.tsuPinStatus n) 3)

/-- A pin as a status read of the present cycle meets it: before a capture of that cycle (R348). -/
def State.pinSeen (s : State) (n : Nat) : Pin :=
  let p := s.pin n
  if p.fresh ∧ p.capAt = s.now then
    { p with curSec := p.oldSec, curNs := p.oldNs, curCoarse := p.oldCoarse, seq := p.oldSeq, fresh := p.oldFresh }
  else p

/-- A status read in the cycle of a capture: the capture follows the read, so it has overrun nothing (R348). -/
def State.pinRead (s : State) (n : Nat) : State :=
  let p := s.pin n
  s.when (p.fresh && decide (p.capAt = s.now) && ! p.oldOverrun) (·.clrb (Reg.tsuPinStatus n) 3)

/-- The level at a pin's pad (R345, R350): an output drives its inactive level except while it pulses. -/
def State.pinLevel (s : State) (n : Nat) : Bool :=
  let f := s.pinFn n
  if f = 1 ∨ f = 2 ∨ f = 4 then (s.pin n).pulseEnd.isSome == (s.pinF n 1 1 == 0) else (s.src (8 + n)).pad

/-- What the Hearth keeps of a pin through HEARTH (R350): armed with its instant. A one-shot caught in its pulse is over.
[log 184: DESIGN CHOICE] -/
def State.pinHeld (s : State) (n : Nat) : Pin :=
  let p := s.pin n
  { Pin.reset with armed := p.armed && (p.pulseEnd.isNone || (s.pinFn n == 2 && ! p.stopping)), next := p.next }

/-- A pending step applies, or is refused at its tick (R332, R334, R336, R337). [log 21: DESIGN CHOICE] -/
def State.stepRun (s : State) (p : StepPend) : State :=
  let v := s.stepResult p
  let s0 : State := { s with tsu := { s.tsu with step := none } }
  if tbInRange v then
    let old := s.tbNs
    let s1 := (s0.setTb v.toNat).cnt Reg.tsuStepCnt
    let s1 : State := { s1 with tsu := { s1.tsu with holdFrom := s.now } }
    let s2 :=
      if p.set then (s1.stk Reg.tsuStatus 0).clrb Reg.tsuCtrl 31
      else
        let a := s.accumNext p.offset
        ({ s1 with tsu := { s1.tsu with accum := a } } : State).when (decide (a ≠ s.tsu.accum + p.offset))
          (fun s => s.used.used)
    ((List.range 8).foldl (fun s n => s.pinJump old true n) s2).event 0x0E3
  else s0.stk Reg.tsuStatus 3

/-! Timers. -/

/-- A timer channel. -/
def State.timer (s : State) (c : Nat) : TimerCh := sget TimerCh.reset s.timers c
/-- Store a timer channel. -/
def State.setTimer (s : State) (c : Nat) (x : TimerCh) : State :=
  { s with timers := sput TimerCh.reset s.timers c x }
/-- COUNT of a channel (R351): a channel that a commit has shortened stands. -/
def State.timerCount (s : State) (c : Nat) : Nat :=
  let x := s.timer c
  if x.running && ! x.shortened && s.domOn 10 then min x.terminal (x.base + (s.now - x.start)) else x.base

/-- The tick at which a running channel expires (R351, R352): never the tick it was armed or committed in. -/
def TimerCh.due (x : TimerCh) : Nat := if x.shortened then x.start + 1 else x.start + max 1 (x.terminal - x.base)

/-- Start a channel from a COUNT with a TERMINAL. -/
def State.timerStart (s : State) (c count terminal : Nat) (group : Bool) : State :=
  (s.setTimer c { s.timer c with running := true, base := count, start := s.now, terminal := terminal,
                                 shortened := false }).setb (Reg.tmrChStatus c) 30 group

/-- A channel stops at its expiry (R351). -/
def State.timerStops (s : State) (c : Nat) (count : Nat) : State :=
  (s.setTimer c { s.timer c with running := false, base := count, shortened := false }).stk (Reg.tmrChStatus c) 1

/-- A channel stops at its expiry and its timer-event job is requested (R351). -/
def State.timerExpire (s : State) (c : Nat) (count : Nat) : State :=
  let s := s.timerStops c count
  s.jobRequest (s.newJob 5 1 c)

/-- The channels that reached TERMINAL during sleep stop there, and their jobs are issued one a tick from a tick on, in ascending
channel order (R355). -/
def State.timersLate (s : State) (cs : List Nat) (from_ : Nat) : State :=
  cs.zipIdx.foldl (fun s x =>
    let s := (s.timerStops x.1 (s.timer x.1).terminal).stk (Reg.tmrChStatus x.1) 3
    s.setTimer x.1 { s.timer x.1 with jobAt := some (from_ + x.2) }) s

end Sys2Proof.Machine
end

