-- ==== Sys2Proof/Machine/HostOps.lean ====
section
/-! DEFINITION. Machine/HostOps.lean: the Pantry (R281, R282), the host rings (R285–R287, R295, R296), the wake of a
sleeping host (R297), completions (R289) and the mailbox (R294). Rings are numbered 0–31 delivery, 32–63 submission,
64–67 command. -/

namespace Sys2Proof.Machine

/-! The Pantry. -/

/-- SAFETY_RESERVE. -/
def State.reserve (s : State) : Nat := s.rf Reg.hifPantryCtrl 0 16
/-- Free cells of the receive pool (R281). -/
def State.rxFree (s : State) : Nat := 31744 - s.hif.safetySize - s.hif.rxUsed
/-- Free cells of the safety reserve. -/
def State.safetyFree (s : State) : Nat := s.hif.safetySize - s.hif.safetyUsed
/-- `SAFETY_RESERVE` applied as far as free cells let it: a pool gives up only cells that are free (R301).
[log 22: DEDUCED] -/
def State.reserveSettle (s : State) : State :=
  let want := min 8192 s.reserve
  let h := s.hif
  let size := if want ≤ h.safetySize then max want (min h.safetySize h.safetyUsed) else max h.safetySize (min want (31744 - h.rxUsed))
  { s with hif := { h with safetySize := size } }
/-- Cells a record of so many body octets takes (R282). -/
def cellsFor (octets : Nat) : Nat := ceilDiv (64 + octets) 256

/-- Reserve cells (R282): from the receive pool, or for a safety slot from the safety reserve where the receive pool cannot supply
them. The answer is the cells taken of each, none when there are too few. -/
def State.pantryReserve (s : State) (n : Nat) (safety : Bool) : Option (Nat × Nat) :=
  if n ≤ s.rxFree then some (n, 0)
  else if safety ∧ n ≤ s.safetyFree then some (0, n)
  else none

/-- Take cells. -/
def State.pantryTake (s : State) (rx safety : Nat) : State :=
  { s with hif := { s.hif with rxUsed := s.hif.rxUsed + rx, safetyUsed := s.hif.safetyUsed + safety } }

/-- Free cells of each pool; what `SAFETY_RESERVE` still asks for applies. -/
def State.pantryFree (s : State) (rx safety : Nat) : State :=
  ({ s with hif := { s.hif with rxUsed := s.hif.rxUsed - rx, safetyUsed := s.hif.safetyUsed - safety } } : State).reserveSettle

/-! Ethernet ports. -/

/-- A port. -/
def State.port (s : State) (p : Nat) : EthPort := sget EthPort.reset s.hif.ports p
/-- Store a port. -/
def State.setPort (s : State) (p : Nat) (x : EthPort) : State :=
  { s with hif := { s.hif with ports := sput EthPort.reset s.hif.ports p x } }

/-- PAUSE by ingress occupancy (R300): quanta when it reaches XOFF, 0 when it falls to XON. -/
def State.pauseCheck (s : State) (p : Nat) : State :=
  let x := s.port p
  let bytes := x.ingress * 256
  if ! s.pauseEn p then s
  else
    match x.sentPause with
    | none =>
      if s.rf Reg.hifEthPause 8 8 * 1024 ≤ bytes then
        (s.setPort p { x with sentPause := some s.now }).out (.pauseFrame p (s.rf Reg.hifEthPause 16 16))
      else s
    | some _ =>
      if bytes ≤ s.rf Reg.hifEthPause 0 8 * 1024 then
        (s.setPort p { x with sentPause := none }).out (.pauseFrame p 0)
      else s

/-- Ingress cells of a port freed. -/
def State.ingressFree (s : State) (p n : Nat) : State :=
  let x := s.port p
  (s.setPort p { x with ingress := x.ingress - n }).pauseCheck p

/-- The cells a record held are freed. -/
def State.recFree (s : State) (x : HostRec) : State :=
  match x.port with
  | none => s.pantryFree (x.cells - x.safe) x.safe
  | some p => s.ingressFree p x.cells

/-! Rings. -/

/-- A ring. -/
def State.ring (s : State) (k : Nat) : Ring := sget Ring.reset s.hif.rings k
/-- Store a ring. -/
def State.setRing (s : State) (k : Nat) (x : Ring) : State :=
  { s with hif := { s.hif with rings := sput Ring.reset s.hif.rings k x } }

/-- The BAR0 address of a ring's block (R301, R302). -/
def ringBase (k : Nat) : Nat :=
  if k < 32 then 0x201000 + 0x40 * k else if k < 64 then 0x201800 + 0x40 * (k - 32) else 0x202000 + 0x40 * (k - 64)

/-- The number of a ring. -/
def ringNo : RingKind → Nat → Nat
  | .delivery, i => i
  | .submission, i => 32 + i
  | .command, i => 64 + i % 4

/-- CONFIGURED (R302, R303). -/
def State.ringConf (s : State) (k : Nat) : Bool :=
  if s.str.active.isSome then bit (s.ringF k 6 1) 0 else k == 64
/-- ENTRIES_LOG2. -/
def State.ringLog2 (s : State) (k : Nat) : Nat :=
  if s.str.active.isSome then (if s.ringConf k then s.ringF k 0 1 else 0) else if k = 64 then 6 else 0
/-- The number of entries. -/
def State.ringSize (s : State) (k : Nat) : Nat := 2 ^ s.ringLog2 k
/-- VECTOR. -/
def State.ringVec (s : State) (k : Nat) : Nat := s.ringF k 1 1
/-- MOD_COUNT. -/
def State.modCount (s : State) (k : Nat) : Nat := if s.str.active.isSome then s.ringF k 2 2 else 1
/-- MOD_TIMER_US. -/
def State.modTimer (s : State) (k : Nat) : Nat := s.ringF k 4 2
/-- ENABLE. -/
def State.ringEn (s : State) (k : Nat) : Bool := s.rb (ringBase k + 0x10) 31
/-- RUNNING (R302, R295). -/
def State.ringRuns (s : State) (k : Nat) : Bool :=
  s.ringConf k && s.ringEn k && ! (s.ring k).stopped && s.domOn 10
/-- Whether the function can read and write host memory: in D0 on a link that is up, with bus mastering. -/
def State.canDma (s : State) : Bool := s.domOn 10 && s.hif.linkUp && (s.hif.power == .d0) && s.hif.busMaster
/-- Entries a record may take now: (HEAD − TAIL − 1) mod N (R286). -/
def State.ringRoom (s : State) (k : Nat) : Nat :=
  let n := s.ringSize k
  ((s.ring k).head + 2 * n - (s.ring k).tail % n - 1) % n
/-- Whether a submission or command ring holds a descriptor: TAIL, as host software wrote it, names an entry modulo the ring's size.
[log 48: DEDUCED] -/
def State.ringPending (s : State) (k : Nat) : Bool := (s.ring k).head != (s.ring k).tail % s.ringSize k
/-- Cells of the records held for a ring. -/
def Ring.heldCells (r : Ring) : Nat := (r.held.map (·.cells)).sum
/-- Whether a record of a kind counts towards moderation (R296). -/
def countsKind (kind : Nat) : Bool := kind == 0 || kind == 1 || kind == 4

/-- Entries a record takes from the tail: a PAD before it where it would wrap (R285). -/
def State.padFor (s : State) (k e : Nat) : Nat :=
  let n := s.ringSize k
  let t := (s.ring k).tail
  if n < t + e then n - t else 0

/-- Whether a record of so many entries can be written now (R286): the PAD record and the record each pass the test. -/
def State.ringFits (s : State) (k e : Nat) : Bool := decide (s.padFor k e + e ≤ s.ringRoom k)

/-- The slot of a record (R287). -/
def slotWord (kind entries flags status length : Nat) : Bytes :=
  toLE 8 (2 ^ 63 + kind * 2 ^ 60 + entries * 2 ^ 48 + flags * 2 ^ 40 + status * 2 ^ 32 + length % 65536)

/-- Whether an interrupt due may go: the slot writes of every record it covers are done (R296). [log 23: DEDUCED] -/
def State.ringSettled (s : State) (k : Nat) : Bool := (s.ring k).held.isEmpty

/-- Send a due ring interrupt when it can go (R296). -/
def State.ringSend (s : State) (k : Nat) : State :=
  let r := s.ring k
  if r.due && ! s.rb (ringBase k + 0x10) 30 && s.msixReady && s.ringSettled k then
    ((s.setRing k { r with p := 0, timer := none, due := false }).msixOut (s.ringVec k)).cnt (ringBase k + 0x28)
  else s

/-- One wake of the host for a ring (R297): PME in D3hot where PME_En allows it, WAKE# in D3cold. -/
def State.hostWake (s : State) (k : Nat) : State :=
  if s.rb Reg.hifHostSleep 31 && decide (k < 32) && s.rb Reg.hifWakeRings k && (s.ring k).due then
    match s.hif.power with
    | .d0 => s
    | .d3hot =>
      if s.hif.pmeEn then
        ((({ s with hif := { s.hif with pmeStatus := true } } : State).out .pme).stk Reg.hifHostSleep 1).cnt (ringBase k + 0x28)
      else s
    | .d3cold =>
      ((s.out .wakePin).stk Reg.hifHostSleep 0).stk Reg.hifHostSleep 1 |>.cnt (ringBase k + 0x28)
  else s

/-- A ring's interrupt falls due: sent, or a wake. -/
def State.ringDue (s : State) (k : Nat) : State :=
  if (s.ring k).due then s.ringSend k
  else ((s.setRing k { s.ring k with due := true }).ringSend k).hostWake k

/-- One more record or descriptor not yet signalled (R296). -/
def State.ringCount (s : State) (k : Nat) : State :=
  let r := s.ring k
  let s := s.setRing k { r with p := r.p + 1, timer := if r.p = 0 then some s.now else r.timer }
  if s.modCount k ≤ r.p + 1 ∨ s.modTimer k = 0 then s.ringDue k else s

/-- A record written (R285): its header from offset 0x08 on and its body, zero to the first 8 bytes of the entry that follows, and then
its slot. -/
def State.recordOut (s : State) (k t e : Nat) (b : Bytes) : State :=
  ((s.out (.hostWrite k t 8 (b.drop 8))).out (.hostWrite k ((t + e) % s.ringSize k) 0 (zeros 8))).out (.hostWrite k t 0 (b.take 8))

/-- A PAD record over the entries left before the end of the ring, where a record of `e` entries would wrap (R285,
R286). -/
def State.ringPad (s : State) (k e : Nat) : State :=
  let pad := s.padFor k e
  if pad ≠ 0 ∧ pad ≤ s.ringRoom k then
    let t := (s.ring k).tail
    (s.setRing k { s.ring k with tail := 0 }).recordOut k t pad (slotWord 2 pad 0 0 0 ++ zeros 56)
  else s

/-- Write one record at the tail of a delivery ring (R285). -/
def State.ringWrite (s : State) (k : Nat) (x : HostRec) : State :=
  let t := (s.ring k).tail
  ((s.setRing k { s.ring k with tail := (t + x.entries) % s.ringSize k }).recordOut k t x.entries x.bytes).cnt (ringBase k + 0x20)

/-- Write the records held for a ring while there is room, in order; at most `n`. -/
def State.ringPump (s : State) (k : Nat) : Nat → State
  | 0 => s
  | n + 1 =>
    match (s.ring k).held with
    | [] => s
    | x :: rest =>
      if s.ringRuns k && s.canDma then
        let s := s.ringPad k x.entries
        if s.padFor k x.entries = 0 ∧ x.entries ≤ s.ringRoom k then
          (((s.setRing k { s.ring k with held := rest }).ringWrite k x).recFree x).ringPump k n
        else s
      else s

/-- Write what a ring holds and send what is due. -/
def State.ringKick (s : State) (k : Nat) : State := (s.ringPump k (s.ring k).held.length).ringSend k

/-- Every ring, after something that let it run on. -/
def State.ringsKick (s : State) : State := (List.range 68).foldl (fun s k => s.ringKick k) s

/-- Whether a record can be written at once. -/
def State.ringNow (s : State) (k e : Nat) : Bool :=
  (s.ring k).held.isEmpty && s.ringRuns k && s.canDma && s.ringFits k e

/-- Whether a ring can take a record: written at once, or held within HOLD_MAX (R292, R295). -/
def State.ringTakes (s : State) (k e cells : Nat) : Bool :=
  s.ringNow k e || decide ((s.ring k).heldCells + cells ≤ s.rf (ringBase k + 0x1C) 0 16)

/-- A record refused by a ring's hold (R292). -/
def State.ringDrop (s : State) (k : Nat) : State := (s.cnt (ringBase k + 0x24)).stk (ringBase k + 0x14) 28

/-- A record delivered: held in the order it was made, and written as soon as there is room (R285, R295); it counts
towards moderation. -/
def State.deliver (s : State) (k : Nat) (x : HostRec) : State :=
  let s := (s.setRing k { s.ring k with held := (s.ring k).held ++ [x] }).ringPump k ((s.ring k).held.length + 1)
  if countsKind x.kind then s.ringCount k else s

/-- A DMA that ends in an error stops its ring (R295). [log 121: DEDUCED] -/
def State.ringStop (s : State) (k : Nat) : State :=
  let kind := if k < 32 then 0 else if k < 64 then 1 else 2
  let i := if k < 32 then k else if k < 64 then k - 32 else k - 64
  (((s.setRing k { s.ring k with stopped := true }).stk (ringBase k + 0x14) 27).stk Reg.hifTrouble 1).cell 0x33
    (kind * 256 + i) 0 0

/-! Records. -/

/-- A time in 2^−32 ns as TS_SEC and TS_NS. -/
def tsSec (raw : Nat) : Nat := raw / 2 ^ 32 / 1000000000
def tsNs (raw : Nat) : Nat := raw / 2 ^ 32 % 1000000000

/-- A TX_COMPLETION record (R289). `source` is SOURCE, `raw` the timestamp in 2^−32 ns. [log 124: DEDUCED] -/
def completionRec (status raw source : Nat) (cookie : BitVec 64) (attempts : Nat) : HostRec :=
  { kind := 1, entries := 1, cells := 0, port := none, safe := 0,
    bytes := slotWord 1 1 0 status 0 ++ toLE 6 (tsSec raw) ++ zeros 2 ++ toLE 4 (tsNs raw) ++ toLE 4 source ++
      toLE 8 cookie.toNat ++ toLE 1 (min attempts 255) ++ zeros 31 }

/-- A completion delivered to its ring. A held completion takes a cell; a ring that is not configured or cannot hold
it drops it, counted. -/
def State.completion (s : State) (ring status raw source : Nat) (cookie : BitVec 64) (attempts : Nat) : State :=
  let x := completionRec status raw source cookie attempts
  if ! s.ringConf ring then s.cnt Reg.hifSteerDropCnt
  else if s.ringNow ring 1 then s.deliver ring x
  else if s.ringTakes ring 1 1 ∧ 0 < s.rxFree then (s.pantryTake 1 0).deliver ring { x with cells := 1 }
  else s.ringDrop ring

/-- STATUS values of a completion (R289). -/
def Outcome.status : Outcome → Nat
  | .acked => 0 | .sent => 1 | .noAck => 2 | .noRoute => 3 | .tooLong => 4 | .expired => 5 | .queueFull => 6
  | .discarded => 7 | .late => 2 | .channelBusy => 2 | .coexDenied => 2 | .coexAbort => 2 | .lockLost => 2
  | .returned => 7

/-- The final outcome of a frame: a failure, or a success whose descriptor asked for it, gives a completion record;
frames from the backhaul are only counted (R289, R293, R320). -/
def State.completeFrame (s : State) (d : DlFrame) (status : Nat) : State :=
  match d.source with
  | .submission _ =>
    if decide (2 ≤ status) || d.complete then
      s.completion d.complRing status d.sentRaw d.sentSource d.cookie d.attempts
    else s
  | .ethernet _ => s

/-- An ETH_FRAME record (R290). -/
def ethRec (port raw : Nat) (frame : Bytes) (cells : Nat) : HostRec :=
  let e := cellsFor frame.length
  { kind := 4, entries := e, cells := cells, port := some port, safe := 0,
    bytes := slotWord 4 e 0 0 frame.length ++ toLE 6 (tsSec raw) ++ zeros 2 ++ toLE 4 (tsNs raw) ++ toLE 1 port ++
      zeros 43 ++ frame }

/-- An Ethernet frame for host software (R291, R292): its ring takes it, or it is dropped with its cells freed. -/
def State.ethToHost (s : State) (port raw : Nat) (frame : Bytes) (cells : Nat) : State :=
  let k := s.rf Reg.hifSteerMisc 24 5
  if ! s.ringConf k then (s.ingressFree port cells).cnt Reg.hifSteerDropCnt
  else if s.ringTakes k (cellsFor frame.length) cells then s.deliver k (ethRec port raw frame cells)
  else (s.ingressFree port cells).ringDrop k

/-! The mailbox (R294). -/

/-- The message types of R294. [log 140: DEDUCED] -/
def msgTypes : List Nat := [1, 2, 3, 4, 5, 0x10, 0x11, 0x20]

/-- Whether a handover runs, so that the active pair takes no new work and its interrupts are frozen (R431). -/
def State.supFrozen (s : State) : Bool := s.upd.handover.any (·.ready)

/-- Whether the active lockstep pair is halted by a debugger (R414). -/
def State.supHalted (s : State) : Bool := if s.pairs.active = 0 then s.pairs.halted0 else s.pairs.halted1

/-- Whether a command ring has a message to serve: it runs and holds a descriptor whose management job the supervisor has been handed
(R276), and is not held by an offer not yet answered. [log 180: DEDUCED] -/
def State.mailWaits (s : State) (i : Nat) : Bool :=
  s.ringRuns (64 + i) && s.ringPending (64 + i) && (s.handedJob 6 i).isSome &&
    (match s.upd.handover with | some h => h.ring != some i | none => true)

/-- The command ring served next: round robin over those with a message (R294). -/
def State.mailTurn (s : State) : Option Nat := ((List.range 4).map (fun j => (s.hif.cmdTurn + j) % 4)).find? (fun i => s.mailWaits i)

/-- Whether a message in a command ring can be served: it is its ring's turn, firmware runs (in RECOVERY only the mask ROM does; in
RETURNED the messages whose refusal the rules state are answered) and is not handing over (R431), and no clear of the Cellar is under way (R485). [log 66: DEDUCED] -/
def State.mailReady (s : State) (m : Msg) : Bool :=
  s.mailTurn == some m.ring.val && s.canDma && s.domOn 12 && s.sys.mode != .recovery && ! s.cellar.clearing &&
    (s.sys.mode != .returned || decide (m.desc.msgType ≤ 5)) && ! s.supHalted &&
    (match s.upd.handover with | some h => ! h.ready | none => true)

/-- A message is taken up: the turn passes to the next ring. -/
def State.mailTaken (s : State) (m : Msg) : State := { s with hif := { s.hif with cmdTurn := (m.ring.val + 1) % 4 } }

/-- The management job of a command ring's message is done. -/
def State.mailJobDone (s : State) (ring : Nat) : State :=
  match s.handedJob 6 ring with
  | some j => s.jobDone j
  | none => s

/-- Management jobs that a ring has no descriptor for, after a reset, are done with nothing to do. [log 180: DEDUCED] -/
def State.mailTrim (s : State) (ring : Nat) : State :=
  let n := s.ringSize (64 + ring)
  let left := ((s.ring (64 + ring)).tail % n + n - (s.ring (64 + ring)).head) % n
  ((s.jobs.handed.filter (fun x => x.kind == 6 && x.arg == ring)).drop left).foldl (fun s x => s.jobDone x) s

/-- The answer to the message at a command ring's HEAD: it leaves, HEAD advances, P counts the descriptor.
[log 156: DEDUCED] -/
def State.mailAnswer (s : State) (ring tag mailbox result : Nat) (rsp : Bytes) : State :=
  let k := 64 + ring
  let s := s.out (.answer ring tag mailbox result rsp)
  let r := s.ring k
  (((s.setRing k { r with head := (r.head + 1) % s.ringSize k }).cnt (ringBase k + 0x20)).ringCount k).mailJobDone ring

/-- A message done. -/
def State.mailDone (s : State) (m : Msg) (mailbox result : Nat) (rsp : Bytes) : State :=
  s.mailAnswer m.ring.val m.desc.tag mailbox result rsp

/-- A message of a type (R294): an unknown type, a wrong length and a failed read are answered with their mailbox
status; otherwise `f` acts on the request, and gives RESULT and the response or, with none, leaves it in progress.
[log 156: DEDUCED] -/
def State.mailLater (s : State) (m : Msg) (type : Nat) (lenOk : Nat → Bool) (rspMin : Nat)
    (f : Bytes → State → State × Option (Nat × Bytes)) : State :=
  if ! s.mailReady m then s
  else if ! msgTypes.contains m.desc.msgType then (s.mailTaken m).mailDone m 1 0 []
  else if m.desc.msgType ≠ type then s
  else if 65536 < m.desc.reqLen ∨ lenOk m.desc.reqLen = false ∨ m.desc.rspMax < rspMin then (s.mailTaken m).mailDone m 2 0 []
  else
    match m.req with
    | none => ((s.mailTaken m).mailDone m 3 0 []).ringStop (64 + m.ring.val)
    | some b =>
      match f (fit b m.desc.reqLen) (s.mailTaken m) with
      | (s, some (result, rsp)) => s.mailDone m 0 result rsp
      | (s, none) => s

/-- A message of a type, answered at once. [log 140: DEDUCED] -/
def State.mail (s : State) (m : Msg) (type : Nat) (lenOk : Nat → Bool) (rspMin : Nat)
    (f : Bytes → State → State × Nat × Bytes) : State :=
  s.mailLater m type lenOk rspMin fun b s =>
    let (s, result, rsp) := f b s
    (s, some (result, rsp))

/-- MSG_REFUSED (R128, R385, R480). -/
def State.msgRefused (s : State) (type result counter : Nat) : State := s.cell 0x40 type result (counter % 2 ^ 32)

end Sys2Proof.Machine
end

