-- ==== Sys2Proof/Machine/Node.lean ====
section
/-! DEFINITION. Machine/Node.lean: the node records, their engines and cache (R16, R243–R251), the mirroring of their
groups (R460, R461), and the learning and prefix tables (R252–R255, R264–R267). -/

namespace Sys2Proof.Machine

/-! Node records. A record is 256 bytes, offset 0 in bits [7:0]. -/

/-- A node record. -/
abbrev Rec := BitVec 2048

/-- The field of `n` bytes at offset `o` of a record. -/
def recF (x : Rec) (o n : Nat) : Nat := getBits x (8 * o) (8 * n)
/-- A record with a field replaced. -/
def recSet (x : Rec) (o n v : Nat) : Rec := setBits x (8 * o) (8 * n) v
/-- Bits `lo`, `n` long, of the word at offset `o`. -/
def recBits (x : Rec) (o lo n : Nat) : Nat := getBits x (8 * o + lo) n
/-- A record with those bits replaced. -/
def recSetBits (x : Rec) (o lo n v : Nat) : Rec := setBits x (8 * o + lo) n v
/-- A counter of a record, which saturates (R247). -/
def recCount (x : Rec) (o n : Nat) : Rec := recSet x o n (min (256 ^ n - 1) (recF x o n + 1))

/-- The CRC of a record: CRC-32C of bytes 0x00–0xFB (R248). -/
def recCrc (x : Rec) : Nat := (crc32c (bvBytes 252 x)).toNat
/-- A record with its CRC made valid. -/
def recSeal (x : Rec) : Rec := recSet x 0xFC 4 (recCrc x)
/-- A cleared record: zero, with FORMAT 0x0001 and a valid CRC (R251). -/
def blankRec : Rec := BitVec.ofNat 2048 (1 * 2 ^ (8 * 0xF0) + 0x56978711 * 2 ^ (8 * 0xFC))

/-- PROVISIONED. -/
def recProv (x : Rec) : Bool := getBit x (8 * 0x0C + 31)
/-- REQUIRE_SECURITY. -/
def recSecure (x : Rec) : Bool := getBit x (8 * 0x0C + 30)
/-- SHORT_VALID. -/
def recShort (x : Rec) : Bool := getBit x (8 * 0x0C + 29)
/-- IS_RELAY. -/
def recRelay (x : Rec) : Bool := getBit x (8 * 0x0C + 28)
/-- NO_LEARN. -/
def recNoLearn (x : Rec) : Bool := getBit x (8 * 0x0C + 27)
/-- SAFETY_CLASS. -/
def recSafety (x : Rec) : Bool := getBit x (8 * 0x8A)
/-- Whether a record is pinned (R250). -/
def recPinned (x : Rec) : Bool := getBit x (8 * 0x0C + 26) || recSafety x
/-- DL_CLASS. -/
def recClass (x : Rec) : Nat := recBits x 0x88 0 10
/-- DEPTH of the queue. -/
def recDepth (x : Rec) : Nat := recF x 0x98 2

/-- The firmware header in force: a field of the running bank's payload (R423). -/
def State.fwField (s : State) (o n : Nat) : Nat := le s.upd.runHdr o n

/-- Whether a record read from the Loft can be used: its CRC holds and its FORMAT can be read (R251, R440). -/
def State.recIntact (s : State) (x : Rec) : Bool :=
  recF x 0xFC 4 == recCrc x && decide (s.fwField 0x12 2 ≤ recF x 0xF0 2)

/-- The record as its engine would hold it, without a fill; blank when no node-record engine is left. [log 189: DESIGN CHOICE] -/
def State.node (s : State) (h : Nat) : Rec :=
  if s.nodesOut then blankRec else
  match s.tab.cache.find? (fun kv => kv.1 == h) with
  | some kv => kv.2
  | none =>
    let x := sget blankRec s.tab.loft h
    if s.recIntact x then x else blankRec

/-- The set of a record in the cache. [log 150: DEDUCED] -/
def cacheSet (h : Nat) : Nat := h % 4096

/-- Room made in a set of 16 ways: the least recently used record that is not pinned is written back and leaves
(R249). [log 150: DEDUCED] -/
def State.cacheEvict (s : State) (set : Nat) : State :=
  if (s.tab.cache.filter (fun kv => cacheSet kv.1 == set)).length < 16 then s
  else
    match s.tab.cache.reverse.find? (fun kv => cacheSet kv.1 == set && ! recPinned kv.2) with
    | some kv =>
      { s with tab := { s.tab with cache := s.tab.cache.filter (fun x => x.1 != kv.1),
                                   loft := sput blankRec s.tab.loft kv.1 kv.2 } }
    | none => s

/-- The record of a handle in the cache, filled from the Loft on a miss and moved to the front (R249, R251). An operation of a
node-record engine that is out of service is the other's (R20); with both out there is none. -/
def State.nodeFill (s : State) (h : Nat) : State :=
  if s.nodesOut then s else
  match s.tab.cache.find? (fun kv => kv.1 == h) with
  | some kv => { s with tab := { s.tab with cache := kv :: s.tab.cache.filter (fun x => x.1 != h) } }
  | none =>
    let x := sget blankRec s.tab.loft h
    let s := (s.cnt Reg.fwdCacheMissCnt).cacheEvict (cacheSet h)
    if s.recIntact x then { s with tab := { s.tab with cache := (h, x) :: s.tab.cache } }
    else
      ((({ s with tab := { s.tab with cache := (h, blankRec) :: s.tab.cache } } : State).cnt Reg.fwdCrcFailCnt).stk
        Reg.fwdTrouble 5).cell 0x31 h 0 0

/-- The mirrored groups: offset and size, in the order of MASK (R461). -/
def mirrorGroups : List (Nat × Nat) := [(0x00, 8), (0x08, 8), (0x30, 16), (0x40, 16), (0x50, 16), (0x60, 40), (0x88, 8)]

/-- A record with its fix moved by a number of ns: the stream carries fixes on the sender's timebase (R337). -/
def fixShift (x : Rec) (d : Int) : Rec :=
  let f : Int := ((recF x 0x30 6 * 1000000000 + recF x 0x36 4 : Nat) : Int) + d
  let n := (f % (2 ^ 48 * 1000000000 : Int)).toNat
  recSet (recSet x 0x30 6 (n / 1000000000)) 0x36 4 (n % 1000000000)

/-- The groups in which two records differ, as a MASK. -/
def mirrorMask (x y : Rec) : Nat :=
  ((mirrorGroups.zipIdx).map (fun gi => if recF x gi.1.1 gi.1.2 = recF y gi.1.1 gi.1.2 then 0 else 2 ^ gi.2)).sum

/-- The data of a record item: the groups named, in offset order, with DL_FC the reservation (R461, R462). -/
def mirrorData (x : Rec) (mask reservation : Nat) : Bytes :=
  ((mirrorGroups.zipIdx).map (fun gi =>
    if bit mask gi.2 then toLE gi.1.2 (recF (recSet x 0x54 4 reservation) gi.1.1 gi.1.2) else [])).flatten

/-- A record item of the mirroring stream. -/
def mirrorItem (h mask : Nat) (x : Rec) (reservation : Nat) : Bytes :=
  [1, BitVec.ofNat 8 mask, 0, 0] ++ toLE 4 h ++ mirrorData x mask reservation

/-- Whether this package sends mirror items for a handle: it holds the line, the link is up, and a stream in progress has
passed the handle (R461, R464). -/
def State.mirrors (s : State) (h : Nat) : Bool :=
  s.twinMode && s.twin.l.link == 3 && s.twin.ownDrive &&
    (match s.twin.cursor with | some c => decide (h < c) | none => true)

/-- The next counter of a record: DL_FC, raised by the K of the last claim where it is still held (R463). -/
def State.nextFc (s : State) (x : Rec) : Nat :=
  if recBits x 0x59 6 1 = 1 then
    match s.twin.raise with
    | some (.by k) => min 0xFFFFFFFF (recF x 0x54 4 + k)
    | some .exhaust => 0xFFFFFFFF
    | none => recF x 0x54 4
  else recF x 0x54 4

/-- The reservation a record item for a handle carries (R462): unchanged while the next counter lies below it. -/
def State.reservation (s : State) (h : Nat) (x : Rec) : Nat :=
  let r := sget 0 s.twin.offered h
  if s.nextFc x < r then r else min 0xFFFFFFFF (max r (s.nextFc x) + 16)

/-- Queue a record item for the groups that changed. -/
def State.mirrorRec (s : State) (h : Nat) (old new : Rec) : State :=
  let mask := mirrorMask old new
  if mask ≠ 0 && s.mirrors h then
    let r := s.reservation h new
    let item := mirrorItem h mask (fixShift new s.tsu.accum) r
    { s with twin := { s.twin with mirror := s.twin.mirror ++ [item],
                                   offered := if bit mask 4 then sput 0 s.twin.offered h r else s.twin.offered } }
  else s

/-- One engine operation on a record: the change and the CRC in one step, in the FORMAT that the firmware in force writes (R248, R249,
R423, R440), mirrored when a mirrored group changed (R461). -/
def State.nodeUpd (s : State) (h : Nat) (f : Rec → Rec) : State :=
  if s.nodesOut then s else
  let s := s.nodeFill h
  let old := s.node h
  let y := f old
  let new := recSeal (recSet y 0xF0 2 s.upd.recordFormat)
  ({ s with tab := { s.tab with cache := (h, new) :: s.tab.cache.filter (fun x => x.1 != h) } } : State).mirrorRec h old new

/-- Pinned records of a set besides one handle (R250). -/
def State.pinnedInSet (s : State) (set except : Nat) : Nat :=
  (s.tab.cache.filter (fun kv => cacheSet kv.1 == set && kv.1 != except && recPinned kv.2)).length +
    (s.tab.loft.filter (fun kv => cacheSet kv.1 == set && kv.1 != except && recPinned kv.2 &&
      ! s.tab.cache.any (fun c => c.1 == kv.1))).length

/-- Every record that is not blank: those cached, then those the Loft alone holds. -/
def State.allRecs (s : State) : List (Nat × Rec) :=
  s.tab.cache ++ s.tab.loft.filter (fun kv => ! s.tab.cache.any (fun c => c.1 == kv.1) && s.recIntact kv.2)

/-- Write every cached record back to the Loft. -/
def State.cacheFlush (s : State) : State :=
  { s with tab := { s.tab with loft := s.tab.cache.foldl (fun m kv => sput blankRec m kv.1 kv.2) s.tab.loft } }

/-! Hash tables of buckets of four positions (R252–R254, R265). -/

/-- How a table's entries are laid out: where VALID and VERSION lie, and the two buckets of an entry's key. -/
structure Tbl (k : Nat) where
  valid : Nat
  ver : Nat
  buckets : BitVec k → Nat × Nat

/-- Whether an entry is in use. -/
def Tbl.used {k : Nat} (t : Tbl k) (e : BitVec k) : Bool := getBit e t.valid

/-- Write a position: its VERSION advances modulo 64, on clearing too (R252). -/
def Tbl.write {k : Nat} (t : Tbl k) (m : Sparse (BitVec k)) (p : Nat) (e : BitVec k) : Sparse (BitVec k) :=
  sput 0 m p (setBits e t.ver 6 (getBits (sget 0 m p) t.ver 6 + 1))

/-- The positions of a bucket. -/
def bucketPos (b : Nat) : List Nat := (List.range 4).map (fun j => 4 * b + j)

/-- The first free position of a bucket. -/
def Tbl.free {k : Nat} (t : Tbl k) (m : Sparse (BitVec k)) (b : Nat) : Option Nat :=
  (bucketPos b).find? (fun p => ! t.used (sget 0 m p))

/-- The bucket of an entry that is not the given one. -/
def Tbl.other {k : Nat} (t : Tbl k) (e : BitVec k) (b : Nat) : Nat :=
  let (b0, b1) := t.buckets e
  if b = b0 then b1 else b0

/-- An insertion in progress: the table, what each written position held, the entry carried and the bucket it came
from, moves made, draws used. -/
structure Chain (k : Nat) where
  m : Sparse (BitVec k)
  log : List (Nat × BitVec k)
  carried : Option (BitVec k)
  fromB : Nat
  moves : Nat
  draws : Nat

/-- The moves of R254 step 3, at most `n`. -/
def Tbl.relocate {k : Nat} (t : Tbl k) (draw : Nat → Nat) : Nat → Chain k → Chain k
  | 0, c => c
  | n + 1, c =>
    match c.carried with
    | none => c
    | some e =>
      let b := t.other e c.fromB
      match t.free c.m b with
      | some p => { c with m := t.write c.m p e, log := (p, sget 0 c.m p) :: c.log, carried := none, moves := c.moves + 1 }
      | none =>
        match (bucketPos b).filter (fun p => ! c.log.any (fun l => l.1 == p)) with
        | [] => c
        | p0 :: ps =>
          let p := (p0 :: ps).getD (draw c.draws % (ps.length + 1)) p0
          let old := sget 0 c.m p
          t.relocate draw n
            { m := t.write c.m p e, log := (p, old) :: c.log, carried := some old, fromB := b, moves := c.moves + 1,
              draws := c.draws + 1 }

/-- The chain reversed: every moved entry back in its former place (R254 step 5), each a write of its position. -/
def Tbl.undo {k : Nat} (t : Tbl k) (c : Chain k) : Sparse (BitVec k) := c.log.foldl (fun m l => t.write m l.1 l.2) c.m

/-- The start of a relocation: the new entry in a drawn position of its first bucket. -/
def Tbl.chain {k : Nat} (t : Tbl k) (m : Sparse (BitVec k)) (e : BitVec k) (draw : Nat → Nat) : Chain k :=
  let b0 := (t.buckets e).1
  let p := 4 * b0 + draw 0 % 4
  let old := sget 0 m p
  t.relocate draw 64 { m := t.write m p e, log := [(p, old)], carried := some old, fromB := b0, moves := 0, draws := 1 }

/-- Where a relocation put the new entry. -/
def Chain.place {k : Nat} (c : Chain k) : Nat := (c.log.getLast?.getD (0, 0)).1

/-! Learning tables: 0 L, 1 M, 2 H. -/

/-- A learning entry: KEY in bits [63:0], the word at 0x08 in [95:64], the word at 0x0C in [127:96] (R252). -/
abbrev LEnt := BitVec 128

def leKey (e : LEnt) : Nat := getBits e 0 64
def leType (e : LEnt) : Nat := getBits e 94 1
def leRouteValid (e : LEnt) : Bool := getBit e 82
def leHandle (e : LEnt) : Nat := getBits e 64 18
def leVia (e : LEnt) : Bool := getBit e 127
def leSlot (e : LEnt) : Nat := getBits e 115 9
def leParent (e : LEnt) : Nat := getBits e 96 18
/-- The route word of an entry: VIA, SLOT, PARENT. -/
def leRoute (e : LEnt) : Nat := getBits e 96 32
/-- A valid entry without a route. -/
def leNew (key type handle : Nat) : LEnt :=
  BitVec.ofNat 128 (key + (handle + type * 2 ^ 30 + 2 ^ 31) * 2 ^ 64)
/-- An entry with a route. -/
def leWithRoute (e : LEnt) (route : Nat) : LEnt := setBits (setBits e 82 1 1) 96 32 route

/-- A CRC-32C with a given initial value (R253). -/
def crcSeed (seed : Nat) (b : Bytes) : Nat := (~~~ (b.foldl crc32cByte (BitVec.ofNat 32 seed))).toNat

/-- The bytes hashed for a key of a type. -/
def keyBytes (key type : Nat) : Bytes := toLE 8 key ++ toLE 1 type

/-- Two buckets of `nb` from two hashes (R253). -/
def twoBuckets (nb h0 h1 : Nat) : Nat × Nat :=
  let b0 := h0 * nb / 2 ^ 32
  let b1 := h1 * nb / 2 ^ 32
  (b0, if b1 = b0 then (b0 + 1) % nb else b1)

/-- The entries of a learning table. -/
def State.learnN (s : State) (r : Nat) : Nat := s.tabF (4 * r) 4
/-- The spill buckets of a table. -/
def State.spillB (s : State) (r : Nat) : Nat := s.tabF (0x38 + 2 * r) 2 * 16384
/-- The first hash of a key. -/
def State.hash0 (s : State) (r key type : Nat) : Nat := crcSeed (s.tabF (0x10 + 8 * r) 4) (keyBytes key type)
/-- The buckets of a key in a learning table. -/
def State.learnBuckets (s : State) (r key type : Nat) : Nat × Nat :=
  twoBuckets (s.learnN r / 4) (s.hash0 r key type) (crcSeed (s.tabF (0x14 + 8 * r) 4) (keyBytes key type))
/-- The spill bucket of a key. -/
def State.spillBucket (s : State) (r key type : Nat) : Nat := s.hash0 r key type * s.spillB r / 2 ^ 32
/-- A learning table's layout. -/
def State.learnTbl (s : State) (r : Nat) : Tbl 128 :=
  { valid := 95, ver := 88, buckets := fun e => s.learnBuckets r (leKey e) (leType e) }

/-- A learning table. -/
def State.learnTab (s : State) (r : Nat) : Sparse LEnt := s.tab.learn.get (Region.ofIx r)
/-- Its spill. -/
def State.spillTab (s : State) (r : Nat) : Sparse LEnt := s.tab.spill.get (Region.ofIx r)
/-- Store a table. -/
def State.setLearn (s : State) (r : Nat) (m : Sparse LEnt) : State :=
  { s with tab := { s.tab with learn := s.tab.learn.set (Region.ofIx r) m } }
/-- Store a spill. -/
def State.setSpill (s : State) (r : Nat) (m : Sparse LEnt) : State :=
  { s with tab := { s.tab with spill := s.tab.spill.set (Region.ofIx r) m } }
/-- Entries in a table's spill (R273). -/
def State.spillCount (s : State) (r : Nat) : Nat := (s.spillTab r).countP (fun kv => getBit kv.2 95)
/-- Valid entries of a table, spill included (R273). [log 115: DEDUCED] -/
def State.learnCount (s : State) (r : Nat) : Nat :=
  (s.learnTab r).countP (fun kv => getBit kv.2 95) + s.spillCount r

/-- Where a key lies in a learning table (R255): in the spill or not, and its position; a table whose engine is out of service
finds nothing (R20). [log 189: DESIGN CHOICE] -/
def State.learnFind (s : State) (r key type : Nat) : Option (Bool × Nat) :=
  if s.learnN r = 0 ∨ s.tableOut r then none
  else
    let (b0, b1) := s.learnBuckets r key type
    let here (m : Sparse LEnt) (p : Nat) : Bool :=
      let e := sget 0 m p
      getBit e 95 && leKey e == key && leType e == type
    match (bucketPos b0 ++ bucketPos b1).find? (here (s.learnTab r)) with
    | some p => some (false, p)
    | none =>
      if s.spillCount r = 0 then none
      else ((bucketPos (s.spillBucket r key type)).find? (here (s.spillTab r))).map (fun p => (true, p))

/-- The entry at a place. -/
def State.learnAt (s : State) (r : Nat) (w : Bool × Nat) : LEnt := sget 0 (if w.1 then s.spillTab r else s.learnTab r) w.2

/-- Write the entry at a place. -/
def State.learnPut (s : State) (r : Nat) (w : Bool × Nat) (e : LEnt) : State :=
  if w.1 then s.setSpill r ((s.learnTbl r).write (s.spillTab r) w.2 e)
  else s.setLearn r ((s.learnTbl r).write (s.learnTab r) w.2 e)

/-- A lookup of a table counted, with its miss (R273). [log 115: DEDUCED] -/
def State.countLookup (s : State) (t : Nat) (hit : Bool) : State :=
  let s := s.cnt (Reg.fwdLookupCnt t)
  if hit then s else s.cnt (Reg.fwdMissCnt t)

/-- The positions of a table that relocations still in progress write. -/
def State.moved (s : State) (t : Nat) : List Nat :=
  ((sget [] s.tab.moving t).filter (fun x => decide (s.now < x.2))).map (·.1)

/-- The writes of a relocation noted: they fall within 20 µs. [log 24: DEDUCED] -/
def State.relocated (s : State) (t : Nat) (ps : List Nat) : State :=
  let l := (sget [] s.tab.moving t).filter (fun x => decide (s.now < x.2))
  { s with tab := { s.tab with moving := sput [] s.tab.moving t (l ++ ps.map (·, s.now + usTicks 20)) } }

/-- The retries of a lookup that relocations in progress may cross (R255), `ps` the positions of its two buckets and `at_` where it
found its key. A key is never lost, since the carry register is searched too, and one insertion moves it once at most; a lookup of an
absent key may start again once for each write among its positions, and after 4 retries ends in a race. How many of these cross it is
free. [log 24: DEDUCED] -/
def State.crossed (s : State) (t : Nat) (ps : List Nat) (at_ : Option Nat) : State :=
  let most := match at_ with
    | some p => if (s.moved t).contains p then 1 else 0
    | none => min 5 ((s.moved t).countP ps.contains)
  if most = 0 then s
  else
    let n := s.free.toNat % (most + 1)
    (s.used.cntBy (Reg.fwdRetryCnt t) n).when (n == 5) (fun s => (s.cnt (Reg.fwdRaceCnt t)).stk Reg.fwdTrouble 4)

/-- The result of an insertion: RESULT, where the entry is, relocations made. -/
structure InsRes where
  result : Nat
  spill : Bool
  index : Nat
  moves : Nat

/-- Draws used. -/
def State.drew (s : State) (n : Nat) : State := { s with freeCtr := s.freeCtr + n }

/-- INSERT into a learning table (R254). With the table's engine out of service the work is lost and counted (R20).
[log 189: DESIGN CHOICE] -/
def State.learnInsert (s : State) (r : Nat) (e : LEnt) : State × InsRes :=
  if s.tableOut r then (s.cnt (Reg.fwdInsertFailCnt r), ⟨3, false, 0, 0⟩) else
  let e := setBits e 95 1 1
  let t := s.learnTbl r
  match s.learnFind r (leKey e) (leType e) with
  | some w => (s, ⟨2, w.1, w.2, 0⟩)
  | none =>
    let m := s.learnTab r
    let (b0, b1) := t.buckets e
    match (t.free m b0).or (t.free m b1) with
    | some p => ((s.setLearn r (t.write m p e)).cnt (Reg.fwdInsertCnt r), ⟨0, false, p, 0⟩)
    | none =>
      let c := t.chain m e (fun i => Config.draw (s.freeCtr + i))
      let s := ((s.drew c.draws).cntBy (Reg.fwdRelocateCnt r) c.moves).relocated r (c.log.map (·.1))
      match c.carried with
      | none => ((s.setLearn r c.m).cnt (Reg.fwdInsertCnt r), ⟨0, false, c.place, c.moves⟩)
      | some x =>
        let sp := if s.spillB r = 0 then none else t.free (s.spillTab r) (s.spillBucket r (leKey x) (leType x))
        match sp with
        | some p =>
          (((s.setLearn r c.m).setSpill r (t.write (s.spillTab r) p x)).cnt (Reg.fwdInsertCnt r),
            ⟨0, false, c.place, c.moves⟩)
        | none =>
          ((((s.setLearn r (t.undo c)).relocated r (c.log.map (·.1))).cnt (Reg.fwdInsertFailCnt r)).stk Reg.fwdTrouble r,
            ⟨3, false, 0, c.moves⟩)

/-- The key of a node's EUI-64. -/
def recEui (x : Rec) : Nat := recF x 0 8
/-- The key of a PAN and a short address. [log 113: DEDUCED] -/
def shortKey (pan short : Nat) : Nat := short + pan * 65536
/-- The key of a node's short address. -/
def recShortKey (x : Rec) : Nat := shortKey (recF x 8 2) (recF x 0xA 2)

/-- The entries of both key forms of a node removed from every table (R269): an entry is the node's when it names its
handle. [log 113: DEDUCED] -/
def State.learnForget (s : State) (h : Nat) (x : Rec) : State :=
  let keys := (recEui x, 0) :: (if recShort x then [(recShortKey x, 1)] else [])
  (List.range 3).foldl (fun s r => keys.foldl (fun s kt =>
    match s.learnFind r kt.1 kt.2 with
    | some w => if leHandle (s.learnAt r w) = h then s.learnPut r w 0 else s
    | none => s) s) s

/-! The prefix table. -/

/-- A prefix entry: PREFIX in bits [127:0], byte 0 lowest; LENGTH, ACTION, PAN_ID, WORD at bit 160, CONTEXT (R264). -/
abbrev PEnt := BitVec 256

def pePrefix (e : PEnt) : Nat := getBits e 0 128
def peLength (e : PEnt) : Nat := getBits e 128 8
def peAction (e : PEnt) : Nat := getBits e 136 8
def pePan (e : PEnt) : Nat := getBits e 144 16
def peHandle (e : PEnt) : Nat := getBits e 160 18
def peContext (e : PEnt) : Nat := getBits e 192 8

/-- The bytes hashed for a prefix. -/
def prefixBytes (prefix_ length : Nat) : Bytes := toLE 16 prefix_ ++ toLE 1 length

/-- The buckets of a prefix (R265). -/
def State.prefixBuckets (s : State) (pre length : Nat) : Nat × Nat :=
  let seed := s.tabF 0x28 4
  let b := prefixBytes pre length
  twoBuckets (s.tabF 0x0C 4 / 4) (crcSeed seed b) (crcSeed (Nat.xor seed 0xA5A5A5A5) b)

/-- The prefix table's layout. -/
def State.prefixTbl (s : State) : Tbl 256 :=
  { valid := 191, ver := 184, buckets := fun e => s.prefixBuckets (pePrefix e) (peLength e) }

/-- The filter bits of a prefix, keyed by length × 32,768 + bit (R265). -/
def State.bloomBits (s : State) (pre length : Nat) : List Nat :=
  (List.range 3).map (fun i => length * 32768 + crcSeed (s.tabF (0x2C + 4 * i) 4) (prefixBytes pre length) / 2 ^ 17)

/-- Whether an entry of a length exists (R265). -/
def State.lengthPresent (s : State) (l : Nat) : Bool :=
  s.tab.prefixes.any (fun kv => getBit kv.2 191 && peLength kv.2 == l)

/-- A destination with only its first `l` bits kept; bit 0 of an address is the top bit of its first byte. -/
def maskPrefix (d : Bytes) (l : Nat) : Nat :=
  leNat (d.zipIdx.map (fun bi =>
    let k := min 8 (l - 8 * bi.2)
    BitVec.ofNat 8 (bi.1.toNat / 2 ^ (8 - k) * 2 ^ (8 - k))))

/-- The position of a prefix; none while the prefix table's engine is out of service. [log 189: DESIGN CHOICE] -/
def State.prefixFind (s : State) (pre length : Nat) : Option Nat :=
  if s.tabF 0x0C 4 = 0 ∨ s.tableOut 3 then none
  else
    let (b0, b1) := s.prefixBuckets pre length
    (bucketPos b0 ++ bucketPos b1).find? (fun p =>
      let e := sget 0 s.tab.prefixes p
      getBit e 191 && pePrefix e == pre && peLength e == length)

/-- A prefix's filter bits set. -/
def State.bloomAdd (s : State) (pre length : Nat) : State :=
  { s with tab := { s.tab with bloom := (s.bloomBits pre length).foldl (fun m k => sput false m k true) s.tab.bloom } }

/-- INSERT into the prefix table (R265): no spill. -/
def State.prefixInsert (s : State) (e : PEnt) : State × InsRes :=
  if s.tableOut 3 then (s.cnt (Reg.fwdInsertFailCnt 3), ⟨3, false, 0, 0⟩) else
  let e := setBits e 191 1 1
  let t := s.prefixTbl
  match s.prefixFind (pePrefix e) (peLength e) with
  | some p => (s, ⟨2, false, p, 0⟩)
  | none =>
    let m := s.tab.prefixes
    let put (s : State) (m : Sparse PEnt) : State :=
      (({ s with tab := { s.tab with prefixes := m } } : State).bloomAdd (pePrefix e) (peLength e)).cnt (Reg.fwdInsertCnt 3)
    let (b0, b1) := t.buckets e
    match (t.free m b0).or (t.free m b1) with
    | some p => (put s (t.write m p e), ⟨0, false, p, 0⟩)
    | none =>
      let c := t.chain m e (fun i => Config.draw (s.freeCtr + i))
      let s := ((s.drew c.draws).cntBy (Reg.fwdRelocateCnt 3) c.moves).relocated 3 (c.log.map (·.1))
      match c.carried with
      | none => (put s c.m, ⟨0, false, c.place, c.moves⟩)
      | some _ =>
        (((({ s with tab := { s.tab with prefixes := t.undo c } } : State).relocated 3 (c.log.map (·.1))).cnt
          (Reg.fwdInsertFailCnt 3)).stk Reg.fwdTrouble 3,
          ⟨3, false, 0, c.moves⟩)

/-- The lookup of a destination (R265): lengths from `l` − 1 down; the first hit. -/
def State.prefixWalk (s : State) (d : Bytes) : Nat → State × Option PEnt
  | 0 => (s, none)
  | l + 1 =>
    if s.lengthPresent l then
      let pre := maskPrefix d l
      if s.tab.rebuilding.contains l || (s.bloomBits pre l).all (fun k => sget false s.tab.bloom k) then
        let b := s.prefixBuckets pre l
        let p := s.prefixFind pre l
        let s := s.crossed 3 (bucketPos b.1 ++ bucketPos b.2) p
        match p with
        | some p => (s, some (sget 0 s.tab.prefixes p))
        | none => (s.cnt Reg.fwdFilterFpCnt).prefixWalk d l
      else s.prefixWalk d l
    else s.prefixWalk d l

/-- The prefix entry of a destination, counted. -/
def State.prefixLookup (s : State) (d : Bytes) : State × Option PEnt :=
  let (s, e) := s.prefixWalk d 129
  (s.countLookup 3 e.isSome, e)

/-- A length's filter rebuilt from the table (R267). -/
def State.bloomRebuild (s : State) (l : Nat) : State :=
  let s : State :=
    { s with tab := { s.tab with bloom := s.tab.bloom.filter (fun kv => kv.1 / 32768 != l),
                                 deletes := sput 0 s.tab.deletes l 0,
                                 rebuilding := s.tab.rebuilding.erase l } }
  (s.tab.prefixes.filter (fun kv => getBit kv.2 191 && peLength kv.2 == l)).foldl
    (fun s kv => s.bloomAdd (pePrefix kv.2) (peLength kv.2)) s

/-- A rebuild of a length begins. -/
def State.rebuildStart (s : State) (l : Nat) : State :=
  if s.tab.rebuilding.contains l then s else { s with tab := { s.tab with rebuilding := s.tab.rebuilding ++ [l] } }

/-- A deletion counted for its length: the 256th since the last rebuild starts one (R267). -/
def State.prefixDeleted (s : State) (l : Nat) : State :=
  let k := sget 0 s.tab.deletes l + 1
  let s : State := { s with tab := { s.tab with deletes := sput 0 s.tab.deletes l k } }
  if 256 ≤ k then s.rebuildStart l else s

end Sys2Proof.Machine
end

