-- ==== Sys2Proof/Machine/Waveform.lean ====
section
/-! DEFINITION. Machine/Waveform.lean: the waveforms (chapter 6): numerology (R170, R173), the coding and the tones of LOFDM
(R176–R184), MR-FSK framing (R173, R174), what a carrier emits, and what a lane makes of a reception (R181, R192, R193). -/

namespace Sys2Proof.Machine

/-! Modes, by PHY_MASK bit: 0–3 SUN MR-OFDM options 1–4, 4 LOFDM, 5–7 MR-FSK at 50, 100 and 200 kb/s (R169). -/

/-- The numerology of an OFDM mode (R170). -/
structure Ofdm where
  fft : Nat
  active : Nat
  data : Nat
  pilots : Nat
  deriving DecidableEq, Repr

/-- The row of R170 of a mode; of the FSK modes none. -/
def ofdmOf : Nat → Option Ofdm
  | 0 => some ⟨128, 104, 96, 8⟩
  | 1 => some ⟨64, 52, 48, 4⟩
  | 2 => some ⟨32, 26, 24, 2⟩
  | 3 => some ⟨16, 14, 12, 2⟩
  | 4 => some ⟨64, 52, 48, 4⟩
  | _ => none

/-- Three times the subcarrier spacing in Hz: 10.41667 kHz. -/
def spacing3 : Nat := 31250
/-- Three times the sample rate of an OFDM mode in Hz: one body is an FFT long. -/
def Ofdm.rate3 (o : Ofdm) : Nat := o.fft * spacing3
/-- The cyclic prefix and the body of a symbol in µs. -/
def prefixUs : Nat := 24
def bodyUs : Nat := 96
/-- A symbol in µs. -/
def symbolUs : Nat := prefixUs + bodyUs

/-- The parameters of an MR-FSK mode (R173): bit rate in b/s, twice the modulation index, deviation in Hz. -/
structure Fsk where
  rate : Nat
  index2 : Nat
  deviation : Nat
  deriving DecidableEq, Repr

/-- The row of R173 of a mode; of the OFDM modes none. -/
def fskOf : Nat → Option Fsk
  | 5 => some ⟨50000, 2, 25000⟩
  | 6 => some ⟨100000, 1, 25000⟩
  | 7 => some ⟨200000, 1, 50000⟩
  | _ => none

/-- The Carson bandwidth in Hz: twice the deviation and half the bit rate. -/
def Fsk.carson (f : Fsk) : Nat := 2 * f.deviation + f.rate

/-- Three times the occupied bandwidth in Hz (R170), or three times the Carson bandwidth (R173). -/
def occ3 (mode : Nat) : Nat :=
  match ofdmOf mode with
  | some o => (o.active + 1) * spacing3
  | none => 3 * ((fskOf mode).map Fsk.carson).getD 300000

/-! Codes and maps (R44, R180, R182). -/

/-- The code of data subcarrier `d` of a map (R44, R185). -/
def mapCode (codes : BitVec 144) (d : Nat) : Nat := getBits codes (3 * d) 3
/-- Bits of a code (R182). -/
def codeBits : Nat → Nat
  | 1 => 1 | 2 => 2 | 3 => 4 | 4 => 6 | _ => 0
/-- N_CBPS of a map (R182). -/
def mapBits (codes : BitVec 144) : Nat := ((List.range 48).map (fun d => codeBits (mapCode codes d))).sum
/-- Twelve times the coding rate of a RATE (R180). -/
def rate12 : Nat → Nat
  | 0 => 6 | 1 => 8 | _ => 9
/-- The map with every data subcarrier set to BPSK, as SYNC and HEADER use it (R179, R180). -/
def bpskMap : BitVec 144 := BitVec.ofNat 144 (((List.range 48).map (fun d => 2 ^ (3 * d))).sum)

/-- More symbols than any transmit timeout allows: a form with no data bits cannot be sent (log entry 25).
[log 25: DEDUCED] -/
def neverSymbols : Nat := 2 ^ 20

/-- N_SYM of R182. [log 25: DEDUCED] -/
def nSym (octets rate cbps : Nat) : Nat :=
  if cbps = 0 then neverSymbols else ceilDiv (12 * (8 * octets + 6)) (rate12 rate * cbps)

/-! Bits (R178, R182). A bit string is sent first bit first, an octet least significant bit first. [log 171: DEDUCED] -/

/-- The bits of octets in the order they are sent. -/
def sentBits (b : Bytes) : List Bool := b.flatMap (fun x => (List.range 8).map x.getLsbD)

/-- The octets of bits in the order they are sent. -/
def octetsOf : Nat → List Bool → Bytes
  | 0, _ => []
  | n + 1, l => BitVec.ofNat 8 (((l.take 8).zipIdx.map (fun b => b.1.toNat * 2 ^ b.2)).sum) :: octetsOf n (l.drop 8)

/-- The next state of the generator x^9 + x^5 + 1, its newest bit in bit 0. [log 171: DEDUCED] -/
def pnNext (w : BitVec 9) : BitVec 9 := (w <<< 1) ||| BitVec.ofNat 9 (w.getLsbD 8 != w.getLsbD 3).toNat

/-- The first bits of the generator's output from a state. [log 171: DEDUCED] -/
def pnFrom : Nat → BitVec 9 → List Bool
  | 0, _ => []
  | n + 1, w => (pnNext w).getLsbD 0 :: pnFrom n (pnNext w)

/-- The PN sequence c (R178), of period 511. -/
def pnSeq : List Bool := pnFrom 511 0x1FF
/-- 1 − 2c of the PN sequence. -/
def pnSign (i : Nat) : Int := if pnSeq.getD (i % 511) false then -1 else 1

/-- The scrambler's start for a SEED (R182). -/
def seedState : Nat → BitVec 9
  | 0 => 0x17F | 1 => 0x1FF | 2 => 0x0B8 | _ => 0x1B8

/-- Bits scrambled, or descrambled, from a state. -/
def scrambleBits (w : BitVec 9) (l : List Bool) : List Bool := (l.zip (pnFrom l.length w)).map (fun x => x.1 != x.2)

/-! The convolutional code, K = 7, generators 133 and 171 octal, the 133 output first (R182). -/

/-- The parity of some taps of a register. -/
def parity7 (w taps : BitVec 7) : Bool := (List.range 7).foldl (fun a i => a != (w &&& taps).getLsbD i) false

/-- The two outputs for an input bit, with the six bits before it, the newest in bit 5. -/
def convOut (state : BitVec 6) (b : Bool) : Bool × Bool :=
  let w : BitVec 7 := (BitVec.ofBool b ++ state)
  (parity7 w 0x5B, parity7 w 0x79)

/-- The six bits after an input bit. -/
def convNext (state : BitVec 6) (b : Bool) : BitVec 6 := (BitVec.ofBool b ++ state).extractLsb' 1 6

/-- The output pairs of bits coded from a state. -/
def convCode : BitVec 6 → List Bool → List (Bool × Bool)
  | _, [] => []
  | st, b :: l => convOut st b :: convCode (convNext st b) l

/-- Which outputs of the pairs of one period a rate keeps (R182). -/
def punctures : Nat → List (Bool × Bool)
  | 0 => [(true, true)]
  | 1 => [(true, true), (true, false)]
  | _ => [(true, true), (true, false), (false, true)]

/-- The coded bits of output pairs at a rate; the patterns run on. -/
def puncture (rate : Nat) (l : List (Bool × Bool)) : List Bool :=
  let p := punctures rate
  l.zipIdx.flatMap (fun x =>
    let k := p.getD (x.2 % p.length) (true, true)
    (if k.1 then [x.1.1] else []) ++ (if k.2 then [x.1.2] else []))

/-! Placement and constellations (R182–R184). -/

/-- The position list of a map: data subcarrier and layer, in the order coded bits take them. -/
def positions (codes : BitVec 144) : List (Nat × Nat) :=
  (List.range 6).flatMap (fun j => (List.range 48).filterMap (fun i =>
    let d := 13 * i % 48
    if j < codeBits (mapCode codes d) then some (d, j) else none))

/-- The 52 active tones in ascending order (R177). -/
def activeTones : List Int := ((List.range 26).map (fun i => Int.ofNat i - 26)) ++ (List.range 26).map (fun i => Int.ofNat i + 1)
/-- The pilot tones (R177). -/
def pilotTones : List Int := [-21, -7, 7, 21]
/-- The tones of the data subcarriers, in the order of their numbers (R177). -/
def dataTones : List Int := activeTones.filter (fun k => ! pilotTones.contains k)
/-- The place of a tone among the active tones. -/
def toneIx (k : Int) : Nat := activeTones.findIdx (· == k)

/-- A level on one axis of a code from its axis bits, the sign first: 0 positive (R183). -/
def axisLevel : List Bool → Int
  | [] => 0
  | s :: rest =>
    let m : Int := match rest with
      | [] => 1
      | [m] => if m then 3 else 1
      | m :: l :: _ => if m then (if l then 5 else 7) else (if l then 3 else 1)
    if s then -m else m

/-- The point of a code for its bits in layer order: even layers on I, odd ones on Q (R183). -/
def codePoint (code : Nat) (b : List Bool) : Gauss :=
  let axis (q : Nat) : List Bool := ((List.range (codeBits code)).filter (fun j => j % 2 == q)).map (fun j => b.getD j false)
  ⟨axisLevel (axis 0), axisLevel (axis 1)⟩

/-- The reciprocal of the square of a code's scale (R183). -/
def codeNorm : Nat → Nat
  | 2 => 2 | 3 => 10 | 4 => 42 | _ => 1

/-- N_on: the data subcarriers a map turns on (R184). -/
def mapOn (codes : BitVec 144) : Nat := (List.range 48).countP (fun d => decide (codeBits (mapCode codes d) ≠ 0))

/-- The square of a symbol's tone scale, as a fraction: min(2, 52 / (N_on + 4)) (R184). -/
def toneScale2 (codes : BitVec 144) : Nat × Nat :=
  let n := mapOn codes + 4
  if 2 * n < 52 then (2, 1) else (52, n)

/-- A tone that is on: it carries `point` × √(num / den). -/
structure Tone where
  tone : Int
  point : Gauss
  num : Nat
  den : Nat
  deriving DecidableEq, Repr

/-- An OFDM symbol as it is sent: the tones that are on, its cyclic prefix in µs and the number of its bodies. -/
structure Symbol where
  tones : List Tone
  cpUs : Nat
  bodies : Nat
  deriving DecidableEq, Repr

/-- The STF symbol (R178). -/
def stfSymbol : Symbol :=
  let ks := activeTones.filter (fun k => decide (k % 4 = 0) && decide (k.natAbs ≤ 24))
  ⟨ks.zipIdx.map (fun x => ⟨x.1, ⟨pnSign (52 + x.2), pnSign (52 + x.2)⟩, 13, 6⟩), prefixUs, 1⟩

/-- The LTF value of an active tone by its place (R178). -/
def ltfSign (i : Nat) : Int := pnSign i

/-- The LTF: a double cyclic prefix and two bodies (R176, R178). -/
def ltfSymbol : Symbol := ⟨activeTones.zipIdx.map (fun x => ⟨x.1, ⟨ltfSign x.2, 0⟩, 1, 1⟩), 48, 2⟩

/-- The pilots of the `n`-th symbol from SYNC: p(n) × (+1, +1, +1, −1) (R178). -/
def pilotPoint (n : Nat) (k : Int) : Int := (if k = 21 then -1 else 1) * pnSign (64 + n % 447)

/-- The `n`-th symbol from SYNC with the coded bits of a map, placed by R182 and scaled by R184. -/
def dataSymbol (n : Nat) (codes : BitVec 144) (coded : List Bool) : Symbol :=
  let placed := (positions codes).zip coded
  let (num, den) := toneScale2 codes
  let data := (List.range 48).filterMap (fun d =>
    let c := mapCode codes d
    if codeBits c = 0 then none
    else
      let b := (List.range (codeBits c)).map (fun j => (placed.any (fun x => x.1 == (d, j) && x.2)))
      some (⟨dataTones.getD d 0, codePoint c b, num, den * codeNorm c⟩ : Tone))
  ⟨data ++ pilotTones.map (fun k => ⟨k, ⟨pilotPoint n k, 0⟩, num, den⟩), prefixUs, 1⟩

/-! The LOFDM frame (R176, R179, R180, R182). -/

/-- The sync words (R179). -/
def syncUp : BitVec 24 := 0x9A3E5B
def syncDown : BitVec 24 := 0x65C1A4

/-- SYNC: bit `i`, the most significant first, on data subcarriers `i` and `i + 24`, uncoded. -/
def syncSymbol (w : BitVec 24) : Symbol :=
  let data := (List.range 48).map (fun d =>
    (⟨dataTones.getD d 0, ⟨if w.getLsbD (23 - d % 24) then -1 else 1, 0⟩, 1, 1⟩ : Tone))
  ⟨data ++ pilotTones.map (fun k => ⟨k, ⟨pilotPoint 0 k, 0⟩, 1, 1⟩), prefixUs, 1⟩

/-- One bit of the header's CRC-8 (R180). -/
def hcsBit (c : Byte) (b : Bool) : Byte := if c.getLsbD 7 != b then (c <<< 1) ^^^ 0x07 else c <<< 1
/-- The HCS of a header: bits 0–33 in the order they are sent. [log 103: DEDUCED] -/
def hcs (h : BitVec 48) : Byte := (List.range 34).foldl (fun c i => hcsBit c (h.getLsbD i)) 0xFF

/-- The header of a downlink frame: DL_HELD 0, VERSION 0, its HCS, tail 0 (R180). -/
def lofdmHead (length rate map : Nat) (fcs2 : Bool) (seed : Nat) : BitVec 48 :=
  let h := BitVec.ofNat 48 (length % 2048 + rate % 4 * 2 ^ 11 + map % 256 * 2 ^ 13 + fcs2.toNat * 2 ^ 21 + seed % 4 * 2 ^ 22)
  h ||| BitVec.ofNat 48 ((hcs h).toNat * 2 ^ 34)

/-- The two symbols of a header: coded at rate 1/2 from the zero state, unscrambled, placed in BPSK (R180). -/
def headSymbols (h : BitVec 48) : List Symbol :=
  let coded := puncture 0 (convCode 0 ((List.range 48).map h.getLsbD))
  [dataSymbol 1 bpskMap (coded.take 48), dataSymbol 2 bpskMap (coded.drop 48)]

/-- The coded bits of a PSDU: scrambled, six zero tail bits, pad bits, coded, punctured, cut to N_SYM × N_CBPS (R182). The value of
the pad bits is open. [log 172: DESIGN CHOICE] -/
def payloadBits (psdu : Bytes) (rate seed cbps pick : Nat) : List Bool :=
  let total := nSym psdu.length rate cbps * cbps
  let data := scrambleBits (seedState seed) (sentBits psdu) ++ List.replicate 6 false
  let pads := (List.range (total - data.length)).map (fun i => Config.padBit pick i)
  (puncture rate (convCode 0 (data ++ pads))).take total

/-- Lists of `k` elements cut from a list. -/
def chunks {α : Type} (k : Nat) : Nat → List α → List (List α)
  | 0, _ => []
  | n + 1, l => l.take k :: chunks k n (l.drop k)

/-- The symbols of a downlink LOFDM frame (R176). -/
def lofdmFrame (ext length rate map : Nat) (codes : BitVec 144) (fcs2 : Bool) (seed pick : Nat) (psdu : Bytes) : List Symbol :=
  let cbps := mapBits codes
  let payload := chunks cbps (nSym length rate cbps) (payloadBits psdu rate seed cbps pick)
  List.replicate (ext + 1) stfSymbol ++ [ltfSymbol, syncSymbol syncDown] ++ headSymbols (lofdmHead length rate map fcs2 seed) ++
    payload.zipIdx.map (fun x => dataSymbol (3 + x.2) codes x.1)

/-! MR-FSK (R173, R174). -/

/-- The SFD of a group (R174). -/
def fskSfd (group : Bool) : BitVec 16 := if group then 0x7A0E else 0x904E

/-- Whitening: the PN sequence of the standard. [log 173: PRESUMED] -/
def whiten (b : Bytes) : Bytes := octetsOf b.length (scrambleBits 0x1FF (sentBits b))

/-- The PHR of a frame: MS and the reserved bits 0, FCS type, DW, length most significant bit first. [log 173: PRESUMED] -/
def fskPhr (fcs2 dw : Bool) (length : Nat) : List Bool :=
  [false, false, false, fcs2, dw] ++ (List.range 11).map (fun i => bit length (10 - i))

/-- The bits of an MR-FSK frame: preamble octets of 0x55, SFD, PHR, PSDU, whitened as DW says. -/
def fskBits (octets : Nat) (group fcs2 dw : Bool) (psdu : Bytes) : List Bool :=
  sentBits (List.replicate octets 0x55) ++ (List.range 16).map (fun i => (fskSfd group).getLsbD (15 - i)) ++
    fskPhr fcs2 dw psdu.length ++ sentBits (if dw then whiten psdu else psdu)

/-! The frame check sequence (R172, R180). [log 173: PRESUMED] -/

/-- The remainder of a reflected CRC of `k` bits. -/
def crcRefl {k : Nat} (poly init : BitVec k) (b : Bytes) : BitVec k :=
  b.foldl (fun c x => (List.range 8).foldl (fun (c : BitVec k) _ => if c.getLsbD 0 then (c >>> 1) ^^^ poly else c >>> 1)
    (c ^^^ x.zeroExtend k)) init

/-- The FCS of octets: two octets or four. -/
def fcsOf (two : Bool) (b : Bytes) : Bytes :=
  if two then toLE 2 (crcRefl (0x8408 : BitVec 16) 0 b).toNat
  else toLE 4 (~~~ crcRefl (0xEDB88320 : BitVec 32) 0xFFFFFFFF b).toNat

/-- Octets with their FCS, and the octets before it. -/
def withFcs (two : Bool) (b : Bytes) : Bytes := b ++ fcsOf two b
def beforeFcs (two : Bool) (psdu : Bytes) : Bytes := psdu.take (psdu.length - (if two then 2 else 4))

/-- Whether a PSDU ends in the FCS of what stands before it. -/
def fcsGood (two : Bool) (psdu : Bytes) : Bool :=
  decide ((if two then 2 else 4) ≤ psdu.length) && withFcs two (beforeFcs two psdu) == psdu

/-! What a carrier emits. -/

/-- The waveform of a frame: the symbols of LOFDM, the bits of MR-FSK with its filter, or SUN MR-OFDM, whose symbols the standard
gives, behind `ext` extension symbols. -/
inductive Wave
  | lofdm (symbols : List Symbol)
  | fsk (form : Fsk) (gaussian : Bool) (bits : List Bool)
  | sun (option mcs ext : Nat) (symbols : List Bytes)
  deriving DecidableEq, Repr

/-- The octets a job's carrier sends: the frame with its FCS (R172, R180). -/
def TxJob.psdu (j : TxJob) : Bytes := withFcs (Config.fcs2 j.mode) j.frame

/-- What the router may choose in a frame it sends: the scrambler SEED and DW. No rule chooses them.
[log 172: DESIGN CHOICE] -/
def TxJob.seed (j : TxJob) : Nat := getBits (Config.freeWord j.air.pick) 1 2
def TxJob.dw (j : TxJob) : Bool := (Config.freeWord j.air.pick).getLsbD 3

/-- What a job's carrier emits from its first symbol on: at the job's amplitude, its NCO at the slot's centre plus its offset, its
symbol clock scaled by its correction (R114, R198). -/
def TxJob.wave (j : TxJob) : Wave :=
  match fskOf j.mode with
  | some f => .fsk f (! j.air.fsk.getLsbD 0) (fskBits (8 + j.ext) (j.air.fsk.getLsbD 1) (Config.fcs2 j.mode) j.dw j.psdu)
  | none =>
    if j.mode = 4 then
      .lofdm (lofdmFrame j.ext j.psdu.length j.rate j.map j.air.codes (Config.fcs2 j.mode) j.seed j.air.pick j.psdu)
    else .sun j.mode j.rate j.ext (Config.sunSymbols j.mode j.rate j.psdu)

/-! Powers and decibels (R187, R192). A level in steps of 0.25 dB is rounded to the nearest, halves up. -/

/-- Whether num / den is at least 10^(q / 80), for a power num / den: q eighths of a decibel. -/
def dbAtLeast (num den : Nat) (q : Int) : Bool :=
  if 0 ≤ q then decide (10 ^ q.toNat * den ^ 80 ≤ num ^ 80) else decide (den ^ 80 ≤ num ^ 80 * 10 ^ (-q).toNat)

/-- A power ratio in steps of 0.25 dB, clamped to −32.00 to +31.75 dB; a ratio without noise is the greatest. -/
def quarterDb (num den : Nat) : Int :=
  (((List.range 256).map (fun i => 127 - Int.ofNat i)).find? (fun q => dbAtLeast num den (2 * q - 1))).getD (-128)

/-- The greatest number below 2^n whose k-th power does not exceed v. -/
def rootBelow (k v : Nat) : Nat → Nat
  | 0 => 0
  | n + 1 => let a := rootBelow k (v / 2 ^ k) n
             if (2 * a + 1) ^ k ≤ v then 2 * a + 1 else 2 * a

/-- 2^32 × 10^(q / 40), rounded down, for −136 ≤ q: q steps of 0.25 dB as a power. -/
def linearQ (q : Int) : Nat := rootBelow 40 (2 ^ (40 * 32) * 10 ^ (q + 136).toNat / 10 ^ 136) 38

/-- 10 log10 of the mean of the powers of four SNRs in 0.25 dB, in 0.5 dB steps from 0 to 63, halves up (R187).
[log 46: DEDUCED] -/
def meanHalfDb (l : List Int) : Int :=
  let sum := (l.map (fun q => linearQ (clampI (-128) 127 q))).sum
  (((List.range 63).map (fun i => 63 - Int.ofNat i)).find? (fun h => decide (l.length * linearQ (2 * h - 1) ≤ sum))).getD 0

end Sys2Proof.Machine

namespace Sys2Proof

open Machine

/-! What a lane makes of LOFDM tones (R181, R192, R193). -/

/-- 2 H of an active tone by its place: the sum of the LTF bodies over the known value (R192). -/
def LaneTones.h2 (x : LaneTones) (i : Nat) : Gauss :=
  ((x.y1.getD i ⟨0, 0⟩).add (x.y2.getD i ⟨0, 0⟩)).scale (ltfSign i)

/-- 104 σ²: the sum of |Y1 − Y2|² over the 52 active tones (R192). -/
def LaneTones.noise104 (x : LaneTones) : Nat :=
  ((List.range 52).map (fun i => ((x.y1.getD i ⟨0, 0⟩).sub (x.y2.getD i ⟨0, 0⟩)).norm2)).sum

/-- Of `n` active tones of a reception, which are the data tones of an option: 8 |H|² and 2 n σ², whatever the known value ±1, and the
48 SNRs (R192): one per data tone, or of option 1 one per pair of adjacent data tones, their mean; the rest 0. [log 214: DESIGN CHOICE] -/
def LaneTones.h8 (x : LaneTones) (i : Nat) : Nat := 2 * ((x.y1.getD i ⟨0, 0⟩).add (x.y2.getD i ⟨0, 0⟩)).norm2
def LaneTones.noise2 (x : LaneTones) (n : Nat) : Nat :=
  ((List.range n).map (fun i => ((x.y1.getD i ⟨0, 0⟩).sub (x.y2.getD i ⟨0, 0⟩)).norm2)).sum
def LaneTones.sunSnrs (x : LaneTones) (option n : Nat) : List Int :=
  let pair := if option = 0 then 2 else 1
  let data := Config.sunDataTones option
  ((List.range 48).map (fun d =>
    let own := (data.drop (pair * d)).take pair
    if own.isEmpty then 0 else quarterDb (n * (own.map x.h8).sum) (4 * own.length * x.noise2 n)))
def LaneTones.sunSnr (x : LaneTones) (n : Nat) : Int := quarterDb (((List.range n).map x.h8).sum) (4 * x.noise2 n)

/-- The SNRs of the 48 data tones (R192): |H|² / σ². -/
def LaneTones.snrs (x : LaneTones) : List Int :=
  dataTones.map (fun k => quarterDb (26 * (x.h2 (toneIx k)).norm2) x.noise104)

/-- The frame's SNR: the mean over the active tones (R192). -/
def LaneTones.snr (x : LaneTones) : Int :=
  quarterDb (26 * ((List.range 52).map (fun i => (x.h2 i).norm2)).sum) (52 * x.noise104)

/-! Phases, in 2^−32 turns: the resolution is the model's. [log 174: DESIGN CHOICE] -/

/-- The rotation by a quarter turn halved `n` times, in units of 2^−60. -/
def turnOf : Nat → Gauss
  | 0 => ⟨0, 2 ^ 60⟩
  | n + 1 =>
    let z := turnOf n
    let c := rootBelow 2 ((2 ^ 60 + z.re).toNat * 2 ^ 59) 61
    ⟨c, roundDiv (z.im * 2 ^ 59) c⟩

/-- A product of rotations in units of 2^−60. -/
def turnMul (a b : Gauss) : Gauss :=
  let z := a.mul b
  ⟨roundDiv z.re (2 ^ 60), roundDiv z.im (2 ^ 60)⟩

/-- The rotation by a phase, times 2^30. -/
def rotor (p : Int) : Gauss :=
  let w := (p % 2 ^ 32).toNat
  let z := (List.range 31).foldl (fun z n => if bit w (30 - n) then turnMul z (turnOf n) else z)
    (⟨if bit w 31 then -(2 ^ 60) else 2 ^ 60, 0⟩ : Gauss)
  ⟨roundDiv z.re (2 ^ 30), roundDiv z.im (2 ^ 30)⟩

/-- The phase of a complex number: the greatest multiple of 2^−32 turns, from −1/2 turn on, whose rotation does not pass it. -/
def phaseOf (z : Gauss) : Int :=
  let past (q : Int) : Bool := decide (0 ≤ (z.mul (rotor q).conj).im)
  (List.range 31).foldl (fun p n => if past (p + 2 ^ (30 - n)) then p + 2 ^ (30 - n) else p)
    (if 0 ≤ z.im then 0 else -(2 ^ 31))

/-- The phase in 2^−32 turns that a pilot of the `n`-th symbol has turned by. -/
def LaneTones.pilotTurn (x : LaneTones) (n : Nat) (k : Int) : Int :=
  let y := (x.syms.getD n []).getD (toneIx k) ⟨0, 0⟩
  phaseOf (y.mul ((x.h2 (toneIx k)).scale (pilotPoint n k)).conj)

/-- The least-squares fit to the pilots of a symbol: four times the common phase, and 980 times the slope across tones (R193). -/
def LaneTones.fit (x : LaneTones) (n : Nat) : Int × Int :=
  ((pilotTones.map (x.pilotTurn n)).sum, (pilotTones.map (fun k => k * x.pilotTurn n k)).sum)

/-- A tone of the `n`-th symbol with phase and slope removed, times 2^30 (R193). [log 174: DESIGN CHOICE] -/
def LaneTones.turned (x : LaneTones) (n : Nat) (k : Int) : Gauss :=
  let (p, q) := x.fit n
  ((x.syms.getD n []).getD (toneIx k) ⟨0, 0⟩).mul (rotor (-(roundDiv p 4 + roundDiv (k * q) 980)))

/-- The points of a code with the bit of a layer set or clear. -/
def codePoints (code j : Nat) (v : Bool) : List Gauss :=
  ((List.range (2 ^ codeBits code)).filter (fun w => bit w j == v)).map (fun w =>
    codePoint code ((List.range (codeBits code)).map (bit w)))

/-- The least squared distance of a tone to some points, at the tone scale the transmitter used (R184): the tone times 2^51 against
2H × 2^50 × the point's scale. -/
def LaneTones.distance (x : LaneTones) (n : Nat) (codes : BitVec 144) (d : Nat) (pts : List Gauss) : Nat :=
  let k := dataTones.getD d 0
  let (num, den) := toneScale2 codes
  let unit := rootBelow 2 (num * 2 ^ 40 / (den * codeNorm (mapCode codes d))) 22
  let z := (x.turned n k).scale (2 ^ 21)
  ((pts.map (fun p => (z.sub (((x.h2 (toneIx k)).mul p).scale (2 ^ 30 * unit))).norm2)).min?).getD 0

/-- A metric over σ², in steps of a soft bit: `m` in units of 2^−102, `noise` 104 σ²; without noise the sign decides.
[log 174: DESIGN CHOICE] -/
def softStep (m : Int) (noise : Nat) : Int :=
  if noise = 0 then m.sign * 32 else roundDiv (m * 104 * Config.softScale) (2 ^ 118 * noise)

/-- The 6-bit max-log soft bit of a position of the `n`-th symbol, positive for 0, weighted by |H|² / σ² (R193): the distance of the
equalised tone to the nearest point with the bit set, less that with it clear. [log 174: DESIGN CHOICE] -/
def LaneTones.soft (x : LaneTones) (n : Nat) (codes : BitVec 144) (pos : Nat × Nat) : Int :=
  let c := mapCode codes pos.1
  let m : Int := (x.distance n codes pos.1 (codePoints c pos.2 true) : Int) - x.distance n codes pos.1 (codePoints c pos.2 false)
  clampI (-32) 31 (softStep m x.noise104)

/-- The soft bits of the `n`-th symbol in the order of the position list; a subcarrier that is off gives none. -/
def LaneTones.softSymbol (x : LaneTones) (n : Nat) (codes : BitVec 144) : List Int := (positions codes).map (x.soft n codes)

end Sys2Proof

namespace Sys2Proof.Machine

/-! The Viterbi decoder. -/

/-- The soft pairs of soft bits at a rate, 0 where an output was not sent. -/
def depuncture (p : List (Bool × Bool)) : Nat → Nat → List Int → List (Int × Int)
  | 0, _, _ => []
  | n + 1, i, l =>
    let k := p.getD (i % p.length) (true, true)
    match l with
    | [] => []
    | a :: rest =>
      if k.1 && k.2 then (a, rest.headD 0) :: depuncture p n (i + 1) (rest.drop 1)
      else (if k.1 then (a, 0) else (0, a)) :: depuncture p n (i + 1) rest

/-- A path: its metric and its bits, the newest first. -/
structure VPath where
  metric : Int
  bits : List Bool
  deriving DecidableEq, Repr

/-- How well a soft value agrees with a bit. -/
def agree (v : Int) (b : Bool) : Int := if b then -v else v

/-- One step of the decoder over the paths of the 64 states: into each state the better of two predecessors, the first on a tie. -/
def viterbiStep (paths : List (Option VPath)) (y : Int × Int) : List (Option VPath) :=
  (List.range 64).map (fun st =>
    let b := bit st 5
    let cand (old : Nat) : Option VPath :=
      (paths.getD old none).map (fun p =>
        let o := convOut (BitVec.ofNat 6 old) b
        ⟨p.metric + agree y.1 o.1 + agree y.2 o.2, b :: p.bits⟩)
    let lo := cand (st % 32 * 2)
    let hi := cand (st % 32 * 2 + 1)
    match lo, hi with
    | some p, some q => if p.metric < q.metric then some q else some p
    | some p, none => some p
    | none, q => q)

/-- The bits of the best path from the zero state. -/
def viterbi (l : List (Int × Int)) : List Bool :=
  let start : List (Option VPath) := some ⟨0, []⟩ :: List.replicate 63 none
  let last := (l.foldl viterbiStep start).filterMap id
  match last with
  | [] => []
  | p :: rest => (rest.foldl (fun b q => if b.metric < q.metric then q else b) p).bits.reverse

end Sys2Proof.Machine

namespace Sys2Proof

open Machine

/-- The sync word a lane reads: each bit from its two subcarriers, soft-combined (R194). -/
def LaneTones.sync (x : LaneTones) : BitVec 24 :=
  BitVec.ofNat 24 (((List.range 24).map (fun i =>
    (decide (x.soft 0 bpskMap (i, 0) + x.soft 0 bpskMap (i + 24, 0) < 0)).toNat * 2 ^ (23 - i))).sum)

/-- The header bits a lane decodes (R180). -/
def LaneTones.head (x : LaneTones) : BitVec 48 :=
  let soft := x.softSymbol 1 bpskMap ++ x.softSymbol 2 bpskMap
  BitVec.ofNat 48 (((viterbi (depuncture (punctures 0) 48 0 soft)).zipIdx.map (fun b => b.1.toNat * 2 ^ b.2)).sum)

/-- The PSDU a lane decodes with the content of a map (R181, R182, R193). -/
def LaneTones.psdu (x : LaneTones) (length rate seed : Nat) (codes : BitVec 144) : Bytes :=
  let n := nSym length rate (mapBits codes)
  let soft := (List.range n).flatMap (fun i => x.softSymbol (3 + i) codes)
  let bits_ := viterbi (depuncture (punctures rate) soft.length 0 soft)
  octetsOf length (scrambleBits (seedState seed) (bits_.take (8 * length)))

/-- The PSDU of a lane's reception. -/
def RxAir.psdu (x : RxAir) (l : Lane) : Bytes :=
  match x with
  | .lofdm y => y.psdu l.length l.rate l.seed l.codes
  | .sun _ b => b.take l.length
  | .fsk _ b => if l.dw then whiten (b.take l.length) else b.take l.length

/-- The active tones of a SUN MR-OFDM option (R170). -/
def sunActive (mode : Nat) : Nat := ((ofdmOf mode).map (·.active)).getD 0

/-- The 48 tone SNRs of a receive job, and the frame's (R192). -/
def RxAir.tones (x : RxAir) (mode : Nat) : List Int :=
  match x with
  | .lofdm y => y.snrs
  | .sun y _ => y.sunSnrs mode (sunActive mode)
  | .fsk _ _ => List.replicate 48 0
def RxAir.snr (x : RxAir) (mode : Nat) : Int :=
  match x with
  | .lofdm y => y.snr
  | .sun y _ => y.sunSnr (sunActive mode)
  | .fsk v _ => v

/-- Whether a report is of a mode. -/
def RxAir.ofMode (x : RxAir) (mode : Nat) : Bool :=
  match x with
  | .lofdm _ => mode == 4
  | .sun y _ => decide (mode < 4) && y.y1.length == sunActive mode
  | .fsk _ _ => decide (5 ≤ mode)

end Sys2Proof
end

