-- ==== Sys2Proof/Machine/PhyOps.lean ====
section
/-! DEFINITION. Machine/PhyOps.lean: the waveforms' figures (R169–R184), the forms of downlink frames (R191), loading
maps (R185–R190), the frequency pre-correction (R198), the profile's limits (R125, R130), and routes (R257, R260). -/

namespace Sys2Proof.Machine

/-! Modes and forms. -/

/-- Data rate in kb/s of an option and MCS; 0 where the pair is not supported (R171). -/
def mcsRate : Nat → Nat → Nat
  | 0, 0 => 100 | 0, 1 => 200 | 0, 2 => 400 | 0, 3 => 800
  | 1, 0 => 50 | 1, 1 => 100 | 1, 2 => 200 | 1, 3 => 400 | 1, 4 => 600 | 1, 5 => 800
  | 2, 1 => 50 | 2, 2 => 100 | 2, 3 => 200 | 2, 4 => 300 | 2, 5 => 400 | 2, 6 => 600
  | 3, 2 => 50 | 3, 3 => 100 | 3, 4 => 150 | 3, 5 => 200 | 3, 6 => 300
  | _, _ => 0

/-- Whether a mode is MR-FSK. -/
def isFsk (mode : Nat) : Bool := decide (5 ≤ mode)
/-- µs of an MR-FSK octet. -/
def fskOctet : Nat → Nat
  | 5 => 160 | 6 => 80 | _ => 40
/-- The extension unit in µs (R222): a symbol, or one preamble octet. -/
def extUnit (mode : Nat) : Nat := if isFsk mode then fskOctet mode else 120
/-- The base preamble in µs (R222). -/
def basePre (mode : Nat) : Nat := if isFsk mode then 8 * fskOctet mode else 120
/-- The detection allowance in µs (R216, R222). -/
def detAllow (mode : Nat) : Nat := if isFsk mode then 4 * fskOctet mode else 120

/-- A loading map of a region. -/
def State.lmap (s : State) (r : Region) (m : Nat) : LoadMap := sget ⟨0, none⟩ (s.tx.get r).maps m
/-- Store a map. -/
def State.setLmap (s : State) (r : Region) (m : Nat) (x : LoadMap) : State :=
  { s with tx := s.tx.upd r (fun t => { t with maps := sput ⟨0, none⟩ t.maps m x }) }

/-- A map's content as its eight words (R44). -/
def mapWords (codes : BitVec 144) : List Nat := (List.range 8).map (fun w => getBits codes (18 * w) 18)

/-- A map written: an item of the mirroring stream carries it (R461). -/
def State.mapWrite (s : State) (r : Region) (m : Nat) (codes : BitVec 144) : State :=
  let s := s.setLmap r m ⟨codes, none⟩
  if s.twinMode && s.twin.l.link == 3 && s.twin.ownDrive then
    { s with twin := { s.twin with mirror := s.twin.mirror ++
      [[2, BitVec.ofNat 8 r.ix, BitVec.ofNat 8 m, 0] ++ ((mapWords codes).map (toLE 4)).flatten] } }
  else s

/-- Airtime in µs of a frame in a form, with `ext` extension units (R176, R308). `rate` is RATE for LOFDM and the MCS for
SUN MR-OFDM. -/
def State.airtime (s : State) (r : Region) (mode map rate octets ext : Nat) : Nat :=
  if isFsk mode then (8 + ext + 4 + octets) * fskOctet mode
  else if mode = 4 then (6 + ext + nSym octets rate (mapBits (s.lmap r map).codes)) * symbolUs
  else
    let dbps := mcsRate mode rate * 12 / 100
    let n := if dbps = 0 then neverSymbols else ceilDiv (8 * octets + 6) dbps
    (Config.sunHeaderSymbols mode rate + ext + n) * symbolUs

/-! The loading group of a record (R186). -/

def recMode (x : Rec) : Nat := recBits x 0x44 11 3
def recRegion (x : Rec) : Nat := recBits x 0x44 9 2
def recLoadSlot (x : Rec) : Nat := recBits x 0x44 0 9
def recDlPend (x : Rec) : Bool := recBits x 0x44 15 1 == 1
def recUlPend (x : Rec) : Bool := recBits x 0x44 14 1 == 1
def recUlMap (x : Rec) : Nat := recF x 0x40 1
def recDlMap (x : Rec) : Nat := recF x 0x42 1
def recGroupSnr (x : Rec) (g : Nat) : Nat := recBits x 0x47 (6 * g) 6

/-- The form of a downlink transmission to a node on a slot (R191): mode, map, rate or MCS. -/
def txForm (x : Rec) (r : Region) (slot : Nat) : Nat × Nat × Nat :=
  if recMode x = 4 then
    if recRegion x = r.ix + 1 ∧ recLoadSlot x = slot then (4, recDlMap x, recBits x 0x46 2 2) else (4, 0, 0)
  else (recMode x, 0, recBits x 0x46 0 3)

/-- MAC.SELF_EUI, and the router's extended address and PAN. -/
def State.selfEui (s : State) : Nat := (s.rg Reg.macSelfEuiLo).toNat + 2 ^ 32 * (s.rg Reg.macSelfEuiHi).toNat
def State.selfExt (s : State) : MacAddr := .ext (BitVec.ofNat 64 s.selfEui)
def State.selfPan (s : State) : Nat := s.rf Reg.macSelfAddr 16 16

/-- The mesh-addressing header of a via route: the router, the final address, Hops Left (R261). Hops Left of 15 stand in an octet of
their own behind the field's 0xF (RFC 4944). -/
def State.meshHeader (s : State) (key keyType : Nat) : Bytes :=
  let hops := max 1 (s.rf Reg.fwdRouteCtrl 0 4)
  [BitVec.ofNat 8 (0x80 + 16 * keyType + hops)] ++ (if hops = 15 then toLE 1 hops else []) ++ toBE 8 s.selfEui ++
    (if keyType = 0 then toBE 8 key else toBE 2 (key % 65536))

/-- The octets of a frame's FCS in a mode: FCS_TYPE of a mode is the implementation's. [log 172: DESIGN CHOICE] -/
def fcsLen (mode : Nat) : Nat := if Config.fcs2 mode then 2 else 4

/-- The octets of a data frame with a MAC payload, to a node or over a relay to a key of a type: MHR, auxiliary security header,
mesh-addressing header, payload, MIC and FCS (R308). -/
def State.frameOctets (s : State) (x : Rec) (payload mode : Nat) (hop : Option (Nat × Nat)) : Nat :=
  dataMhrOctets + (hop.map (fun v => (s.meshHeader 0 v.2).length)).getD 0 + payload + micLen (recBits x 0x63 0 3) + fcsLen mode

/-! Reference counts and replacement (R190). -/

/-- The record fields that name a map. [log 129: DEDUCED] -/
def recMapRefs (x : Rec) (r : Region) (m : Nat) : Nat :=
  if recRegion x = r.ix + 1 then
    (decide (recUlMap x = m)).toNat + (decide (recDlMap x = m)).toNat +
      (recUlPend x && decide (recF x 0x41 1 = m)).toNat + (recDlPend x && decide (recF x 0x43 1 = m)).toNat
  else 0

/-- Whether a transmit command uses a map: a carrier's, or the one put aside for an acknowledgement (R208). -/
def Carrier.usesMap (c : Carrier) (m : Nat) : Bool :=
  let uses (j : TxJob) : Bool := j.mode == 4 && j.map == m
  c.job.any uses || c.aside.any uses

/-- The reference count of a map (R190). [log 129: DEDUCED] -/
def State.mapCount (s : State) (r : Region) (m : Nat) : Nat :=
  (s.allRecs.map (fun kv => recMapRefs kv.2 r m)).sum +
    ((s.radio.get r).carriers.countP (fun kv => kv.2.usesMap m))

/-- Whether a map is in REPLACE_PENDING. -/
def State.mapPending (s : State) (r : Region) (m : Nat) : Bool := (s.lmap r m).held.isSome

/-- Maps whose count reached 0 take their held content and become FREE (R190). -/
def State.mapSettle (s : State) (r : Region) : State :=
  (s.tx.get r).maps.foldl (fun s kv =>
    match kv.2.held with
    | some c => if s.mapCount r kv.1 = 0 then s.mapWrite r kv.1 c else s
    | none => s) s

/-- The maps of every region settled. -/
def State.mapsSettle (s : State) : State := allRegions.foldl (fun s r => s.mapSettle r) s

/-! Computation of maps (R187, R188). -/

/-- The target codes of the twelve groups at a rate. -/
def State.mapTarget (s : State) (r : Region) (x : Rec) (offset : Int) (rate : Nat) : List Nat :=
  let q := Reg.txpLoadReq r.ix
  let margin := s.rf (Reg.txpLoadCtrl r.ix) 4 4
  let step := if rate = 0 then 0 else s.rf (Reg.txpLoadRateStep r.ix) (8 * (rate - 1)) 8
  (List.range 12).map (fun g =>
    (([4, 3, 2, 1] : List Nat).find? (fun c =>
      decide (((s.rf q (8 * (c - 1)) 8 + margin + step : Nat) : Int) ≤ (recGroupSnr x g : Int) + offset))).getD 0)

/-- Twelve times the data bits a symbol of a target. -/
def targetBits (rate : Nat) (t : List Nat) : Nat := rate12 rate * (t.map (fun c => 4 * codeBits c)).sum
/-- The map of a target: one code per group. -/
def targetMap (t : List Nat) : BitVec 144 :=
  BitVec.ofNat 144 ((t.zipIdx.map (fun cg => cg.1 * 585 * 2 ^ (12 * cg.2))).sum)
/-- Whether a map is admissible for a target: no code above its group's; never one in REPLACE_PENDING (R188, R190). -/
def State.admissible (s : State) (r : Region) (m : Nat) (t : List Nat) : Bool :=
  ! s.mapPending r m && (List.range 48).all (fun d => decide (mapCode (s.lmap r m).codes d ≤ t.getD (d / 4) 0))

/-- The best admissible existing map over the three rates: most data bits, ties to the lower rate, then the lower index. -/
def State.bestExisting (s : State) (r : Region) (x : Rec) (offset : Int) : Option (Nat × Nat) :=
  (((List.range 3).flatMap (fun rate =>
      let t := s.mapTarget r x offset rate
      ((List.range 256).filter (fun m => s.admissible r m t)).map (fun m =>
        (rate12 rate * mapBits (s.lmap r m).codes, m, rate)))).foldl
    (fun (best : Option (Nat × Nat × Nat)) c =>
      match best with
      | none => some c
      | some b => if b.1 < c.1 then some c else some b) none).map (·.2)

/-- The best of the three targets: a tie keeps the lower rate. -/
def State.bestTarget (s : State) (r : Region) (x : Rec) (offset : Int) : Nat × List Nat :=
  let t0 := s.mapTarget r x offset 0
  ([1, 2] : List Nat).foldl (fun b rate =>
    let t := s.mapTarget r x offset rate
    if targetBits b.1 b.2 < targetBits rate t then (rate, t) else b) (0, t0)

/-- POOL_BASE; 0 acts as 1. -/
def State.poolBase (s : State) (r : Region) : Nat := max 1 (s.rf (Reg.txpLoadCtrl r.ix) 16 8)

/-- update_map of R188 for one direction: uplink or downlink. [log 210: DESIGN CHOICE] -/
def State.updateMap (s : State) (r : Region) (h : Nat) (down : Bool) : State :=
  let x := s.node h
  let offset := if down then sgn 8 (s.rf (Reg.txpLoadCtrl r.ix) 8 8) else 0
  if (if down then recDlPend x else recUlPend x) then s
  else
    let (rate, t) := s.bestTarget r x offset
    let cm := if down then recDlMap x else recUlMap x
    let cr := recBits x 0x46 (if down then 2 else 0) 2
    let hyst := s.rf (Reg.txpLoadCtrl r.ix) 0 4
    if s.admissible r cm (s.mapTarget r x offset cr) ∧
        targetBits rate t * 64 ≤ rate12 cr * mapBits (s.lmap r cm).codes * (64 + hyst) then s
    else
      let same := (List.range 256).find? (fun m => (s.lmap r m).codes == targetMap t && ! s.mapPending r m)
      let spare := (List.range 256).find? (fun m => decide (s.poolBase r ≤ m) && ! s.mapPending r m && s.mapCount r m == 0)
      let (s, pick) := match same with
        | some m => (s, some (m, rate))
        | none =>
          match spare with
          | some m => (s.mapWrite r m (targetMap t), some (m, rate))
          | none => (s, s.bestExisting r x offset)
      let none_ := pick.isNone || targetBits rate t == 0
      let (m, q) := if none_ then (0, 0) else pick.getD (0, 0)
      let s := if none_ then s.cnt (Reg.txpMapNoneCnt r.ix) else s
      if (m, q) = (cm, cr) then s
      else
        (s.nodeUpd h (fun x => recSetBits (recSetBits (recSet x (if down then 0x43 else 0x41) 1 m) 0x44
          (if down then 15 else 14) 1 1) 0x46 (if down then 2 else 0) 2 q)).cnt (Reg.txpMapChangeCnt r.ix)

/-! Link figures and pre-correction (R196, R198). -/

def recCfoRegion (x : Rec) : Nat := recBits x 0x28 30 2
def recCfoSlot (x : Rec) : Nat := recBits x 0x28 18 9
def recCfo (x : Rec) : Int := sgn 18 (recBits x 0x28 0 18)
def recTiming (x : Rec) : Option Int := if recBits x 0x2C 31 1 = 1 then some (sgn 18 (recBits x 0x2C 0 18)) else none

/-- Twice the centre in kHz of the slot a record's CFO was measured on. -/
def State.cfoCentre2 (s : State) (x : Rec) : Int := s.slotCentre2 (Region.ofIx (recCfoRegion x - 1)) (recCfoSlot x)

/-- A frequency in Hz scaled from one centre to another. -/
def scaleHz (hz fNew fOld : Int) : Int := roundDiv (hz * fNew) (max 1 fOld.toNat)

/-- The carrier offset in Hz for a node on a slot (R198). -/
def State.txOffset (s : State) (x : Rec) (r : Region) (slot : Nat) : Int :=
  if recCfoRegion x = 0 then 0 else scaleHz (recCfo x) (s.slotCentre2 r slot) (s.cfoCentre2 x)

/-- The symbol-rate correction in 0.01 ppm (R198). [log 176: DESIGN CHOICE] -/
def State.txScale (s : State) (x : Rec) : Int :=
  match recTiming x with
  | some t => t
  | none => if recCfoRegion x = 0 then 0 else scaleHz (recCfo x) 200000 (s.cfoCentre2 x)

/-! The profile's limits. -/

/-- A field of the sub-band record of a slot; 0 with no profile. -/
def State.sbF (s : State) (r : Region) (slot o n : Nat) : Nat :=
  match s.profile with
  | some p => profSb p r.ix (s.slotSub r slot) o n
  | none => 0

/-- The effective CCA duration in µs (R125). -/
def State.ccaDur (s : State) (r : Region) (slot : Nat) : Nat := max (s.slotF r slot 0xE 2) (s.sbF r slot 0xE 2)
/-- The effective CCA threshold in 0.5 dBm steps (R125). -/
def State.ccaThresh (s : State) (r : Region) (slot : Nat) : Int :=
  let own := sgn 16 (s.slotF r slot 0xC 2)
  match s.profile with
  | some p => min own (sgn 16 (profSb p r.ix (s.slotSub r slot) 0xC 2))
  | none => own
/-- LBT_REQUIRED. -/
def State.lbtRequired (s : State) (r : Region) (slot : Nat) : Bool := bit (s.sbF r slot 0x11 1) 0
/-- DUTY_MS_PER_H of a sub-band. -/
def State.dutyMs (s : State) (r : Region) (sb : Nat) : Nat :=
  match s.profile with
  | some p => profSb p r.ix sb 8 4
  | none => 0

/-- Whether a transmission is allowed by the profile (R125, R126). -/
def State.profAllows (s : State) (r : Region) (slot mode : Nat) (offset : Int) : Bool :=
  match s.profile with
  | none => false
  | some p =>
    let sb := s.slotSub r slot
    let f := s.slotCentre2 r slot * 3000 + offset * 6
    bit (byteAt p 6) r.ix && decide (sb < profSubs p r.ix) && bit (profSb p r.ix sb 0x11 1) 1 && profSlot p r.ix sb slot &&
      decide ((profSb p r.ix sb 0 4 : Int) * 6000 ≤ f - occ3 mode) &&
      decide (f + occ3 mode ≤ (profSb p r.ix sb 4 4 : Int) * 6000)

/-- The effective transmit timeout in ms (R130); with no profile SAFETY's own figure (log entry 26).
[log 26: DEDUCED] -/
def State.txLimitMs (s : State) : Nat :=
  match s.profile with
  | some p => min (s.safF 4 2) (le p 0x20 2)
  | none => s.safF 4 2

/-- Whether a slot is enabled and not barred (R129, R260). -/
def State.slotUsable (s : State) (r : Region) (slot : Nat) : Bool :=
  s.slotOn r slot && ! (s.radio.get r).barred.contains slot

/-! Routes. -/

/-- A chosen route: region, slot, relay parent, and the node's key in the chosen entry. -/
structure Route where
  region : Region
  slot : Nat
  via : Option Nat
  key : Nat
  keyType : Nat
  deriving DecidableEq, Repr

/-- The record of a handle as an engine operation reads it: filled on a miss (R249). -/
def State.nodeGet (s : State) (h : Nat) : State × Rec :=
  let s := s.nodeFill h
  (s, s.node h)

/-- A lookup of a key in one region's table, counted (R255). -/
def State.learnLookup (s : State) (r key type : Nat) : State × Option (Bool × Nat) :=
  let w := s.learnFind r key type
  let b := s.learnBuckets r key type
  let s := match w with
    | some (true, _) => s
    | _ => s.crossed r (bucketPos b.1 ++ bucketPos b.2) (w.map Prod.snd)
  (s.countLookup r w.isSome, w)

/-- LAST_MS and ROUTE_SNR of a record's route in a region (R244). -/
def recLastMs (x : Rec) (r : Nat) : Nat := recF x (0x11 + 5 * r) 4
def recRouteSnr (x : Rec) (r : Nat) : Int := sgn 8 (recF x (0x10 + 5 * r) 1)
def recLearned (x : Rec) (r : Nat) : Bool := recBits x 0x1F r 1 == 1

/-- The timebase in ms. -/
def State.nowMs (s : State) : Nat := s.tbNs / 1000000

/-- The entry of a node in a region's table: the EUI-64 entry where both key forms hit (R260). -/
def State.routeEntry (s : State) (r : Nat) (x : Rec) : State × Option LEnt :=
  let (s, a) := s.learnLookup r (recEui x) 0
  let (s, b) := if recShort x then s.learnLookup r (recShortKey x) 1 else (s, none)
  (s, (a.or b).map (fun w => s.learnAt r w))

/-- Whether an entry is a candidate in its region (R260). -/
def State.candidate (s : State) (r : Region) (e : LEnt) : State × Bool :=
  let base := (s.radio.get r).inService && leRouteValid e && s.slotUsable r (leSlot e)
  if base && leVia e then
    let (s, p) := s.nodeGet (leParent e)
    (s, recProv p && recRelay p)
  else (s, base)

/-- The order of candidates: fresh first, then the metric, then L, M, H. -/
def State.routeKey (s : State) (r : Region) (x : Rec) : Int :=
  let staleMs := max 1 (s.rf Reg.fwdLearnCtrl 0 16) * 1000
  let stale := ! recLearned x r.ix || decide (staleMs < (s.nowMs + 2 ^ 32 - recLastMs x r.ix) % 2 ^ 32)
  let snr := if recLearned x r.ix then recRouteSnr x r.ix else -128
  stale.toNat * 10000 + (128 - snr) * 3 + r.ix

/-- Route selection (R260). -/
def State.selectRoute (s : State) (x : Rec) : State × Option Route :=
  let (s, best) := allRegions.foldl (fun (a : State × Option (Int × Route)) r =>
    let (s, e) := a.1.routeEntry r.ix x
    match e with
    | none => (s, a.2)
    | some e =>
      let (s, ok) := s.candidate r e
      let k := s.routeKey r x
      if ok && (match a.2 with | none => true | some b => decide (k < b.1)) then
        (s, some (k, ⟨r, leSlot e, if leVia e then some (leParent e) else none, leKey e, leType e⟩))
      else (s, a.2)) (s, none)
  (s, best.map (·.2))

/-- The flooding regions that are in service, lowest first (R263, R306). -/
def State.floodRegions (s : State) : List Region :=
  allRegions.filter (fun r => s.rb Reg.fwdFloodCtrl r.ix && (s.radio.get r).inService)
/-- FLOOD_SLOT of a region. -/
def State.floodSlot (s : State) (r : Region) : Nat := s.rf Reg.fwdFloodSlot (9 * r.ix) 9

/-- The metric and time of a learned or confirmed route (R244, R257). [log 213: DESIGN CHOICE] -/
def State.routeRecord (s : State) (h : Nat) (r : Nat) (m : Int) : State :=
  let ms := s.nowMs % 2 ^ 32
  s.nodeUpd h (fun x => recSetBits (recSet (recSet x (0x10 + 5 * r) 1 (unsgn 8 (clampI (-128) 127 m))) (0x11 + 5 * r) 4 ms)
    0x1F r 1 1)

/-- A route written to every entry of the node in a region (R257). -/
def State.writeRoute (s : State) (r : Nat) (x : Rec) (w : Bool × Nat) (route : Nat) : State :=
  let s := s.learnPut r w (leWithRoute (s.learnAt r w) route)
  let other := if leType (s.learnAt r w) = 0 then (if recShort x then s.learnFind r (recShortKey x) 1 else none)
    else s.learnFind r (recEui x) 0
  match other with
  | some v => s.learnPut r v (leWithRoute (s.learnAt r v) route)
  | none => s

/-- Learning of one reception (R257). `route` is the route word offered, `m` its metric. -/
def State.learn (s : State) (r : Nat) (key type h route : Nat) (m : Int) : State :=
  let x := s.node h
  let (s, w) := s.learnLookup r key type
  match w with
  | none =>
    let (s, res) := s.learnInsert r (leWithRoute (leNew key type h) route)
    if res.result = 0 then s.routeRecord h r m else s
  | some w =>
    let e := s.learnAt r w
    if leRouteValid e = false ∨ leRoute e = route then (s.writeRoute r x w route).routeRecord h r m
    else
      let held := (s.nowMs + 2 ^ 32 - recLastMs x r) % 2 ^ 32
      if recRouteSnr x r + 2 * (s.tabF 0x42 1 : Int) ≤ m ∨ s.tabF 0x40 2 ≤ held then
        (((s.writeRoute r x w route).routeRecord h r m).nodeUpd h (fun x => recCount x 0xB8 2)).cnt
          (Reg.fwdRouteChangeCnt r)
      else (s.nodeUpd h (fun x => recCount x 0xBA 2)).cnt (Reg.fwdContestedCnt r)

end Sys2Proof.Machine
end

