-- ==== Sys2Proof/Machine/DlsOps.lean ====
section
/-! DEFINITION. Machine/DlsOps.lean: the downlink scheduler's queues, virtual finish times, buckets, choice of a booking
and records of broken guarantees (chapter 10). -/

namespace Sys2Proof.Machine

/-- One region of the scheduler. -/
def State.dlsR (s : State) (r : Region) : DlsRegion := s.dls.regions.get r
/-- Change one region of the scheduler. -/
def State.dlsUpd (s : State) (r : Region) (f : DlsRegion → DlsRegion) : State :=
  { s with dls := { s.dls with regions := s.dls.regions.upd r f } }

/-! Class records in effect (R49, R317). -/

/-- A field of a class record in effect. -/
def State.clsF (s : State) (r : Region) (c o n : Nat) : Nat := dlField s.dls.records r.ix c o n
def State.clsOn (s : State) (r : Region) (c : Nat) : Bool := bit (s.clsF r c 0 1) 0
def State.clsSafety (s : State) (r : Region) (c : Nat) : Bool := bit (s.clsF r c 0 1) 1
def State.clsFlood (s : State) (r : Region) (c : Nat) : Bool := bit (s.clsF r c 0 1) 2
def State.clsWeight (s : State) (r : Region) (c : Nat) : Nat := s.clsF r c 2 2
def State.minRate (s : State) (r : Region) (c : Nat) : Nat := s.clsF r c 4 4
def State.shapeRate (s : State) (r : Region) (c : Nat) : Nat := s.clsF r c 8 4
/-- The FLOOD class of a region. -/
def State.floodClass (s : State) (r : Region) : Nat :=
  ((List.range 1024).find? (fun c => s.clsOn r c && s.clsFlood r c)).getD 0
/-- The four overheads of a class in µs (R308). -/
def State.clsOverhead (s : State) (r : Region) (c : Nat) : Nat :=
  s.clsF r c 0x10 2 + s.clsF r c 0x12 2 + s.clsF r c 0x14 2 + s.clsF r c 0x16 2

/-! Queues and pools (R246, R305). -/

/-- The queue of a node. -/
def State.queue (s : State) (h : Nat) : List DlFrame := sget [] s.dls.queues h
/-- The units a frame occupies. -/
def unitsFor (octets : Nat) : Nat := 1 + ceilDiv octets 64
/-- The units of a region's pool. -/
def poolUnits (mib : Nat) : Nat := mib * 16384
/-- The first unit of a region's pool. -/
def State.poolStart (s : State) (r : Region) : Nat :=
  ((allRegions.filter (fun q => decide (q.ix < r.ix))).map (fun q => poolUnits (s.poolMib q))).sum
/-- The units in use in a region's pool. -/
def State.poolUsed (s : State) (r : Region) : Nat :=
  ((s.dls.queues.flatMap (·.2)).map (fun f => if f.pool = r then f.units else 0)).sum
/-- Whether a pool has room. -/
def State.poolRoom (s : State) (r : Region) (units : Nat) : Bool :=
  decide (s.poolUsed r + units ≤ poolUnits (s.poolMib r))
/-- The offset of a new frame's header in a region's pool (R305): a unit of the pool, counted from the start of L's, that
no queued frame's header holds, and otherwise free. [log 95: DESIGN CHOICE] -/
def State.poolPick (s : State) (r : Region) : Nat :=
  let held := (((s.dls.queues.flatMap (·.2)).filter (fun f => f.pool == r)).map (fun f => f.offset - s.poolStart r)).mergeSort
  let pick := s.free.toNat % max 1 (poolUnits (s.poolMib r) - held.length)
  s.poolStart r + held.foldl (fun n u => if u ≤ n then n + 1 else n) pick
/-- Frames queued in a class of a region. -/
def State.classQueued (s : State) (r : Region) (c : Nat) : Nat :=
  (s.dls.queues.flatMap (·.2)).countP (fun f => f.region == r && f.cls == c)

/-- A queue stored, with the HEAD, TAIL and DEPTH of the record (R246). Offsets are those of the frames. -/
def State.setQueue (s : State) (h : Nat) (q : List DlFrame) : State :=
  let s : State := { s with dls := { s.dls with queues := sput [] s.dls.queues h q } }
  s.nodeUpd h (fun x =>
    let x := recSet x 0x98 2 q.length
    match q with
    | [] => x
    | f :: _ => recSet (recSet x 0x90 4 f.offset) 0x94 4 ((q.getLast?.map (·.offset)).getD 0))

/-- The queues after the pools of the image have moved: every frame keeps its place in its pool (R305, R321).
[log 95: DESIGN CHOICE] -/
def State.poolsMove (s old : State) : State :=
  (s.dls.queues.map (·.1)).foldl (fun s h =>
    s.setQueue h ((s.queue h).map (fun f =>
      { f with offset := f.offset - old.poolStart f.pool + s.poolStart f.pool }))) s

/-- The head frame of a queue changed in place. -/
def State.setHead (s : State) (h : Nat) (f : DlFrame → DlFrame) : State :=
  match s.queue h with
  | [] => s
  | x :: q => { s with dls := { s.dls with queues := sput [] s.dls.queues h (f x :: q) } }

/-! Virtual finish times (R309, R310). -/

/-- `x` precedes `y` modulo 2^32. -/
def precedes (x y : Nat) : Bool :=
  let d := (y + 2 ^ 32 - x % 2 ^ 32) % 2 ^ 32
  decide (1 ≤ d) && decide (d < 2 ^ 31)
/-- The later of two tags. -/
def laterOf (x y : Nat) : Nat := if precedes x y then y else x
/-- V_r. -/
def State.vtime (s : State) (r : Region) : Nat := (s.rg (Reg.dlsVtime r.ix)).toNat
/-- V_r becomes the later of itself and a finish time. -/
def State.vtimeUp (s : State) (r : Region) (f : Nat) : State :=
  s.setRg (Reg.dlsVtime r.ix) (BitVec.ofNat 32 (laterOf (s.vtime r) f))
/-- LAST_FINISH of a class. -/
def State.lastFinish (s : State) (r : Region) (c : Nat) : Nat := (s.rg (Reg.dlsClassLastFinish r.ix c)).toNat

/-- The finish time of a frame of cost `a` µs in a class, from a start tag; the clamp of R309. -/
def State.finishFrom (s : State) (r : Region) (c a start : Nat) : Nat × Bool :=
  let f := (start + ceilDiv (a * 256) (max 1 (s.clsWeight r c))) % 2 ^ 32
  let top := (s.vtime r + 2 ^ 30) % 2 ^ 32
  if precedes top f then (top, true) else (f, false)

/-- The finish time stored for the class, with the count of clamped tags. -/
def State.classStamp (s : State) (r : Region) (c : Nat) (f : Nat × Bool) : State :=
  (s.setRg (Reg.dlsClassLastFinish r.ix c) (BitVec.ofNat 32 f.1)).when f.2 (·.cnt (Reg.dlsTagClampCnt r.ix))

/-- A frame for a node stamped in a class of a region (R309): its finish time and the queue group of the record. -/
def State.stamp (s : State) (h : Nat) (r : Region) (c a : Nat) : State × Nat :=
  let (s, x) := s.nodeGet h
  let s0 := laterOf (s.vtime r) (s.lastFinish r c)
  let s1 := if recF x 0x9A 1 = r.ix + 1 then laterOf s0 (recF x 0x9C 4) else s0
  let f := s.finishFrom r c a s1
  ((s.classStamp r c f).nodeUpd h (fun x => recSet (recSet x 0x9A 1 (r.ix + 1)) 0x9C 4 f.1), f.1)

/-- A flood copy stamped in the FLOOD class of its region (R311). -/
def State.stampFlood (s : State) (r : Region) (a : Nat) : State × Nat :=
  let c := s.floodClass r
  let f := s.finishFrom r c a (laterOf (s.vtime r) (s.lastFinish r c))
  (s.classStamp r c f, f.1)

/-- The airtime of a frame with the base preamble on a slot: to the node, or over the parent of a via route to a key of a type
(R308). -/
def State.baseAirtime (s : State) (h : Nat) (hop : Option (Nat × Nat)) (r : Region) (slot octets ext : Nat) : Nat :=
  let x := s.node ((hop.map (·.1)).getD h)
  let (mode, map, rate) := txForm x r slot
  s.airtime r mode map rate (s.frameOctets x octets mode hop) ext

/-- The cost of a frame (R308). -/
def State.frameCost (s : State) (h : Nat) (hop : Option (Nat × Nat)) (r : Region) (slot octets c : Nat) : Nat :=
  s.baseAirtime h hop r slot octets 0 + s.clsOverhead r c

/-! Buckets (R314–R318): levels in ns. -/

/-- DUTY_MS_PER_H of a sub-band under the profile in effect for the buckets. -/
def State.bucketDuty (s : State) (r : Region) (sb : Nat) : Nat :=
  match s.dls.prof with
  | some p => if sb < profSubs p r.ix then profSb p r.ix sb 8 4 else 0
  | none => 0
def State.sbUnshaped (s : State) (r : Region) (sb : Nat) : Bool := s.bucketDuty r sb == 3600000
/-- Refill per ms in ns; depth and floor in ns. [log 128: DEDUCED] -/
def State.sbRefill (s : State) (r : Region) (sb : Nat) : Int := (s.bucketDuty r sb * 1000 / 3600 : Nat)
def State.sbDepth (s : State) (r : Region) (sb : Nat) : Int :=
  (s.bucketDuty r sb * 1000000 / 3600 * max 1 (s.dls.burst.getD r.ix 60) : Nat)
def State.sbFloor (s : State) (r : Region) (sb : Nat) : Int := -(s.bucketDuty r sb * 1000000 : Nat)
/-- The level of a sub-band bucket. -/
def State.sbLevel (s : State) (r : Region) (sb : Nat) : Int :=
  (sget none (s.dlsR r).sbTokens sb).getD (s.sbDepth r sb)

def State.shapeRefill (s : State) (r : Region) (c : Nat) : Int := (max (s.shapeRate r c) (s.minRate r c) : Nat)
def State.shapeDepth (s : State) (r : Region) (c : Nat) : Int := (max (s.clsF r c 0xC 4) 1000 * 1000 : Nat)
/-- The level of a class shaper. -/
def State.shapeLevel (s : State) (r : Region) (c : Nat) : Int :=
  (sget none (s.dlsR r).shape c).getD (s.shapeDepth r c)

def State.minDepth (s : State) (r : Region) (c : Nat) : Int := (s.minRate r c * 100 : Nat)
/-- The level of a minimum-rate bucket. -/
def State.minLevel (s : State) (r : Region) (c : Nat) : Int :=
  (sget none (s.dlsR r).minRate c).getD (s.minDepth r c)

/-- A change of `ns` to the sub-band bucket. -/
def State.sbCharge (s : State) (r : Region) (sb : Nat) (ns : Int) : State :=
  let v := clampI (s.sbFloor r sb) (s.sbDepth r sb) (s.sbLevel r sb - ns)
  s.dlsUpd r (fun d => { d with sbTokens := sput none d.sbTokens sb (some v) })

/-- A change of `ns` to both buckets of a class, where present. -/
def State.clsCharge (s : State) (r : Region) (c : Nat) (ns : Int) : State :=
  let sv := clampI (-s.shapeDepth r c) (s.shapeDepth r c) (s.shapeLevel r c - ns)
  let mv := clampI (-s.minDepth r c) (s.minDepth r c) (s.minLevel r c - ns)
  s.dlsUpd r (fun d =>
    { d with shape := if s.shapeRate r c = 0 then d.shape else sput none d.shape c (some sv),
             minRate := if s.minRate r c = 0 then d.minRate else sput none d.minRate c (some mv) })

/-- Whether the sub-band and class tests of R313 hold. -/
def State.subbandOk (s : State) (r : Region) (sb : Nat) : Bool := s.sbUnshaped r sb || decide (0 < s.sbLevel r sb)
def State.classOk (s : State) (r : Region) (c : Nat) : Bool :=
  decide (s.shapeRate r c = 0) || decide (0 < s.shapeLevel r c)
/-- Whether a class is owed. -/
def State.owed (s : State) (r : Region) (c : Nat) : Bool := decide (s.minRate r c ≠ 0) && decide (0 < s.minLevel r c)

/-- One refill of a region's buckets (R317), under the records and profile now in effect, those of a class disabled since among
them. [log 128: DEDUCED] -/
def State.refillRegion (s : State) (r : Region) : State :=
  let subs := match s.dls.prof with | some p => profSubs p r.ix | none => 0
  let x := s.dlsR r
  let classes := (List.range 1024).filter (fun c =>
    s.clsOn r c || (sget none x.shape c).isSome || (sget none x.minRate c).isSome)
  s.dlsUpd r (fun d =>
    { d with
        sbTokens := (List.range subs).foldl (fun m sb => sput none m sb
          (some (clampI (s.sbFloor r sb) (s.sbDepth r sb) (s.sbLevel r sb + s.sbRefill r sb)))) d.sbTokens
        shape := classes.foldl (fun m c => if s.shapeRate r c = 0 then m else sput none m c
          (some (clampI (-s.shapeDepth r c) (s.shapeDepth r c) (s.shapeLevel r c + s.shapeRefill r c)))) d.shape
        minRate := classes.foldl (fun m c => if s.minRate r c = 0 then m else sput none m c
          (some (clampI (-s.minDepth r c) (s.minDepth r c) (s.minLevel r c + s.minRate r c)))) d.minRate })

/-- The class records, the profile and BURST_S written since take effect; a class newly enabled starts full (R317).
[log 128: DEDUCED] -/
def State.dlsTakeEffect (s : State) : State :=
  let old := s
  let s : State := { s with dls := { s.dls with records := s.sec 9, prof := s.profile,
                                                burst := allRegions.map (fun r => s.rf (Reg.dlsRegionCtrl r.ix) 0 12) } }
  allRegions.foldl (fun s r =>
    ((List.range 1024).filter (fun c => s.clsOn r c && ! old.clsOn r c)).foldl (fun s c =>
      s.dlsUpd r (fun d => { d with shape := sdel d.shape c, minRate := sdel d.minRate c })) s) s

/-- V_r and every LAST_FINISH after a structural application of DOWNLINK (R310); the buckets keep their levels and the records
take effect at the next refill (R317). [log 63: DEDUCED] -/
def State.dlsRestart (s : State) : State :=
  let regs := s.regs.filter (fun kv => ! (decide (0x248000 ≤ kv.1) && decide (kv.1 < 0x270000) &&
    decide (0x8000 ≤ kv.1 % 0x10000) && decide (kv.1 % 32 = 0xC)))
  allRegions.foldl (fun s r => s.setRg (Reg.dlsVtime r.ix) 0) ({ s with regs := regs } : State)

/-- The sub-band buckets start full at a profile commit (R315). -/
def State.sbFull (s : State) : State := allRegions.foldl (fun s r => s.dlsUpd r (fun d => { d with sbTokens := [] })) s

/-! Bookings and their choice (R313). A booking's key is 4 × handle, or 4 × handle + 1 + region for a flood copy. -/

/-- A booking. -/
def State.booking (s : State) (k : Nat) : Option Booking := sget none s.porch.bookings k
/-- Store a booking. -/
def State.setBooking (s : State) (k : Nat) (b : Option Booking) : State :=
  { s with porch := { s.porch with bookings := sput none s.porch.bookings k b } }

/-- The ready set of a region: released bookings that no carrier has; a flood's own booking stands for its copies. -/
def State.ready (s : State) (r : Region) : List (Nat × Booking) :=
  s.porch.bookings.filterMap (fun kv =>
    match kv.2 with
    | some b => if b.released && ! b.assigned && b.region == r && ! (b.flood && kv.1 % 4 == 0) then some (kv.1, b) else none
    | none => none)

/-- Whether a carrier's job, or the one put aside there (R208), is on air or on its way there on a slot (R209, R312). -/
def State.slotTaken (s : State) (r : Region) (slot : Nat) : Bool :=
  (s.radio.get r).carriers.any (fun kv =>
    (match kv.2.job with
     | some j => j.slot == slot && kv.2.phase != .idle
     | none => false) ||
    (match kv.2.aside with
     | some j => j.slot == slot
     | none => false))

/-- Whether a booking is safety traffic: its class or its node has SAFETY (R312). -/
def State.bookSafety (s : State) (k : Nat) (b : Booking) : Bool := s.clsSafety b.region b.cls || recSafety (s.node (k / 4))

/-- The earlier of two candidates by finish time, then class index, then handle. -/
def betterCand (a b : Nat × Booking) : Bool :=
  precedes a.2.finish b.2.finish || (a.2.finish == b.2.finish &&
    (decide (a.2.cls < b.2.cls) || (a.2.cls == b.2.cls && decide (a.1 < b.1))))
/-- The candidate of the earliest finish time. -/
def earliest : List (Nat × Booking) → Option (Nat × Booking)
  | [] => none
  | x :: xs =>
    match earliest xs with
    | none => some x
    | some y => if betterCand y x then some y else some x

/-- The sub-band of a booking. -/
def State.bookSb (s : State) (b : Booking) : Nat := s.slotSub b.region b.slot

/-- A REGULATORY or a SAFETY mark (R313, R319). -/
def State.mark (s : State) (k : Nat) (b : Booking) (reg : Bool) : State :=
  let first := ! b.markReg && ! b.markSafety
  let b := { b with markReg := b.markReg || reg, markSafety := b.markSafety || ! reg,
                    owedAtMark := if first then s.owed b.region b.cls else b.owedAtMark }
  (s.setBooking k (some b)).when reg (·.cnt (Reg.dlsSbHeldCnt b.region.ix (s.bookSb b)))

/-- The choice of R313: REGULATORY marks given, the pick and the step it was made at. -/
def State.choose (s : State) (r : Region) : State × Option (Nat × Booking × Nat) :=
  let cands := (s.ready r).filter (fun kb => ! s.slotTaken r kb.2.slot && s.clsOn r kb.2.cls)
  let s1 := cands.foldl (fun s kb => if s.subbandOk r (s.bookSb kb.2) then s else s.mark kb.1 kb.2 true) s
  let cands := cands.filter (fun kb => s.subbandOk r (s.bookSb kb.2))
  match earliest (cands.filter (fun kb => s.bookSafety kb.1 kb.2)) with
  | some p => (s1, some (p.1, p.2, 2))
  | none =>
    match earliest (cands.filter (fun kb => s.classOk r kb.2.cls && s.owed r kb.2.cls)) with
    | some p => (s1, some (p.1, p.2, 3))
    | none =>
      match earliest (cands.filter (fun kb => s.classOk r kb.2.cls)) with
      | some p => (s1, some (p.1, p.2, 4))
      | none => (s1, none)

/-- The SAFETY marks of a pick: candidates that passed the sub-band test, other than the pick, not safety traffic. -/
def State.safetyMarks (s : State) (r : Region) (pick : Nat) : State :=
  ((s.ready r).filter (fun kb => kb.1 != pick && ! s.slotTaken r kb.2.slot && s.clsOn r kb.2.cls &&
    s.subbandOk r (s.bookSb kb.2) && ! s.bookSafety kb.1 kb.2)).foldl (fun s kb => s.mark kb.1 kb.2 false) s

/-- The expected airtime in µs of a booking (R316). -/
def Booking.expected (b : Booking) : Nat := b.copies * (b.airtime + 4)

/-- The record of a broken guarantee for a marked booking that completes LATE (R319). -/
def State.guaranteeBroken (s : State) (k : Nat) (b : Booking) : State :=
  if (b.markReg || b.markSafety) && (b.owedAtMark || s.bookSafety k b) then
    let a := Reg.dlsClassStatus b.region.ix b.cls
    let s := ((s.stk a 0).when b.markReg (·.stk a 1)).when b.markSafety (·.stk a 2)
    ((s.cnt (Reg.dlsClassBrokenCnt b.region.ix b.cls)).stk Reg.dlsTrouble b.region.ix).cell 0x34 b.region.ix b.cls
      (b.markReg.toNat + 2 * b.markSafety.toNat)
  else s

/-! Histograms (R322). -/

/-- The bin of a count or of a delay in ms. -/
def histBin (n : Nat) : Nat := if n = 0 then 0 else min 15 (Nat.log2 n + 1)

/-- The key of a bin: class, kind (0 depth, 1 delay), bin. -/
def histKey (c kind b : Nat) : Nat := c * 32 + kind * 16 + b

/-- One sample of a region's enabled classes. -/
def State.dlsSample (s : State) (r : Region) : State :=
  let frames := (s.dls.queues.flatMap (·.2)).filter (fun f => f.region == r)
  let bump (m : Sparse Word) (k : Nat) : Sparse Word :=
    sput 0 m k (BitVec.ofNat 32 (min 0xFFFFFFFF ((sget (0 : Word) m k).toNat + 1)))
  let add (m : Sparse Word) (c : Nat) : Sparse Word :=
    let mine := frames.filter (fun f => f.cls == c)
    let oldest := mine.foldl (fun a f => max a (ticksMs s.now - f.enqueued)) 0
    bump (bump m (histKey c 0 (histBin mine.length))) (histKey c 1 (histBin oldest))
  let classes := (List.range 1024).filter (fun c => s.clsOn r c)
  let clear := s.rb (Reg.dlsHistCtrl r.ix) 31
  ((s.dlsUpd r (fun d => { d with hist := classes.foldl add (if clear then [] else d.hist), lastSample := some s.now })).clrb
    (Reg.dlsHistCtrl r.ix) 31).cnt (Reg.dlsSampleCnt r.ix)

end Sys2Proof.Machine
end

