-- ==== Sys2Proof/Machine/KeyOps.lean ====
section
/-! DEFINITION. Machine/KeyOps.lean: the wrapped node keys (R401, R402), downlink frame counters (R404, R462, R463) and
the security of frames (R403). -/

namespace Sys2Proof.Machine

/-- The wrapped-key group of a record (R401). -/
def recGen (x : Rec) : Nat := recF x 0x60 2
def recKeyIndex (x : Rec) : Nat := recF x 0x62 1
def recKeyValid (x : Rec) : Bool := recBits x 0x63 7 1 == 1
def recDlLevel (x : Rec) : Nat := recBits x 0x63 0 3
def recWrapCtr (x : Rec) : Nat := recF x 0x64 4

/-- The nonce of a wrap. -/
def wrapNonce (h gen ctr : Nat) : Bytes := toLE 3 h ++ toLE 2 gen ++ toLE 4 ctr ++ zeros 4
/-- The associated data of a wrap. -/
def wrapAad (eui gen index flags : Nat) : Bytes := toLE 8 eui ++ toLE 2 gen ++ toLE 1 index ++ toLE 1 flags

/-- The network KEK of a generation in the working key register. -/
def State.kekOf (s : State) (gen : Nat) : Option Bytes :=
  match s.key.cur with
  | some (g, k) =>
    if g = gen then some k
    else
      match s.key.prev with
      | some (g, k) => if g = gen then some k else none
      | none => none
  | none => none

/-- What unwrapping a node's key gives. -/
inductive KeyRes
  | key (k : Bytes)
  | tagFail
  | noKey
  deriving DecidableEq, Repr

/-- The node key of a record (R402); with no AES engine left nothing unwraps it (R20). -/
def State.unwrap (s : State) (h : Nat) (x : Rec) : KeyRes :=
  if recKeyValid x = false ∨ s.aesOut then .noKey
  else
    match s.kekOf (recGen x) with
    | none => .noKey
    | some kek =>
      match Config.ccmOpen kek (wrapNonce h (recGen x) (recWrapCtr x))
          (wrapAad (recEui x) (recGen x) (recKeyIndex x) (recF x 0x63 1)) (toLE 32 (recF x 0x68 32)) 16 with
      | some k => .key k
      | none => .tagFail

/-- A STALE_GENERATION job raised for a record: the generation and counter it reads (R405, R406). -/
def State.raiseStale (s : State) (h : Nat) (x : Rec) : State :=
  if s.sys.mode = .standby then s
  else
    let s : State := { s with key := { s.key with staleJobs := s.key.staleJobs ++ [(h, recGen x, recWrapCtr x)] } }
    s.jobRequest (s.newJob 1 1 h)

/-- The unwrap of a node's key for a frame, with its counts and the stale-generation job (R402, R405).
[log 135: DEDUCED] -/
def State.frameKey (s : State) (h : Nat) : State × Option Bytes :=
  let (s, x) := s.nodeGet h
  match s.unwrap h x with
  | .key k =>
    match s.key.prev with
    | some (g, _) =>
      if s.key.windowEnd.isSome && recGen x == g then ((s.raiseStale h x).cnt Reg.keyStaleUseCnt, some k) else (s, some k)
    | none => (s, some k)
  | .tagFail => ((s.stk Reg.keyTrouble 3).cnt Reg.keyUnwrapFailCnt, none)
  | .noKey => (s, none)

/-- The CCM* nonce of IEEE 802.15.4: source EUI-64, frame counter, level. -/
def ccmNonce (eui fc level : Nat) : Bytes := toBE 8 eui ++ toBE 4 fc ++ toBE 1 level

/-- Protect a payload at a level (levels 1–3 authenticate only). -/
def ccmProtect (key : Bytes) (eui fc level : Nat) (hdr payload : Bytes) : Bytes :=
  if level ≤ 3 then payload ++ Config.ccmSeal key (ccmNonce eui fc level) (hdr ++ payload) [] (micLen level)
  else Config.ccmSeal key (ccmNonce eui fc level) hdr payload (micLen level)

/-- Check and decrypt a payload at a level; none: the MIC fails. -/
def ccmCheck (key : Bytes) (eui fc level : Nat) (hdr payload mic : Bytes) : Option Bytes :=
  if level ≤ 3 then (Config.ccmOpen key (ccmNonce eui fc level) (hdr ++ payload) mic (micLen level)).map (fun _ => payload)
  else Config.ccmOpen key (ccmNonce eui fc level) hdr (payload ++ mic) (micLen level)

/-- SEQ_FLAGS bits of a record (R218). -/
def recSeqValid (x : Rec) : Bool := recBits x 0x59 4 1 == 1
def recFcValid (x : Rec) : Bool := recBits x 0x59 5 1 == 1
def recFcHeld (x : Rec) : Bool := recBits x 0x59 6 1 == 1
def recDlFc (x : Rec) : Nat := recF x 0x54 4

/-- A held counter raised at the first secured frame after a claim (R463). -/
def State.fcRaise (s : State) (h : Nat) : State :=
  let x := s.node h
  if recFcHeld x then
    s.nodeUpd h (fun y => recSetBits (recSet y 0x54 4 (s.nextFc x)) 0x59 6 1 0)
  else s

/-- Secured frames formed to a node in the present second (R463). [log 135: DEDUCED] -/
def State.securedNow (s : State) (h : Nat) : Nat :=
  let (sec, n) := sget (0, 0) s.twin.secured h
  if sec = s.now / 819200000 then n else 0

/-- Whether the next counter may be used: below an acknowledged reservation while the twin link is up (R462). -/
def State.fcReserved (s : State) (h : Nat) (x : Rec) : Bool :=
  ! (s.twinMode && s.twin.l.link == 3 && s.twin.ownDrive) || decide (recDlFc x < sget 0 s.twin.acked h)

/-- The reservation asked for when a counter has reached it (R462). -/
def State.fcAsk (s : State) (h : Nat) (x : Rec) : State :=
  if sget 0 s.twin.offered h ≤ recDlFc x && s.mirrors h then
    let r := s.reservation h x
    { s with twin := { s.twin with mirror := s.twin.mirror ++ [mirrorItem h 0x10 x r],
                                   offered := sput 0 s.twin.offered h r } }
  else s

/-- A frame counter for a secured frame or acknowledgement to a node; none when it may not be formed now: exhausted
(R404), beyond 1,000 in the second (R463), or waiting for a reservation (R462). -/
def State.fcTake (s : State) (h : Nat) : State × Option Nat :=
  let s := (s.nodeFill h).fcRaise h
  let x := s.node h
  if recDlFc x = 0xFFFFFFFF then (s.stk Reg.keyTrouble 2, none)
  else if 1000 ≤ s.securedNow h then (s, none)
  else if s.fcReserved h x = false then (s.fcAsk h x, none)
  else
    let n := s.securedNow h + 1
    let s : State := { s with twin := { s.twin with secured := sput (0, 0) s.twin.secured h (s.now / 819200000, n) } }
    let s := s.nodeUpd h (fun x => recSet x 0x54 4 (recDlFc x + 1))
    (s.when (decide (recDlFc x + 1 = 0xFFFFFFFF)) (·.stk Reg.keyTrouble 2), some (recDlFc x))

/-- The header of a data frame to a node (R205, R235): version 2, between extended addresses, secured at DL_LEVEL.
[log 5: PRESUMED] -/
def State.dataMhr (s : State) (x : Rec) (seq : Nat) (wantAck more : Bool) (fc : Nat) : TxMhr :=
  { kind := 1, version := 2, seq := seq, pending := more, ackReq := wantAck, pan := s.selfPan, dst := .ext (BitVec.ofNat 64 (recEui x)),
    src := s.selfExt, sec := some (recDlLevel x, recKeyIndex x, fc), ies := [] }

/-- Form the MAC frame of a downlink data frame at its release (R261, R402, R403): the frame and its sequence number, or
none when the frame may not be emitted. `t` is the node it is addressed to: the node itself, or the relay parent.
[log 127: DEDUCED] [log 135: DEDUCED] -/
def State.formData (s : State) (t : Nat) (seq0 : Option Byte) (payload : Bytes) (wantAck more : Bool) :
    State × Option (Bytes × Byte) :=
  let (s, x) := s.nodeGet t
  let seq := (seq0.map (·.toNat)).getD (recF x 0x5A 1)
  let s := if seq0.isNone then s.nodeUpd t (fun x => recSet x 0x5A 1 (recF x 0x5A 1 + 1)) else s
  let (s, k) := s.frameKey t
  match k with
  | none => (s, none)
  | some k =>
    let (s, fc) := s.fcTake t
    match fc with
    | none => (s, none)
    | some fc =>
      let hdr := (s.dataMhr x seq wantAck more fc).octets
      (s, some (hdr ++ ccmProtect k s.selfEui fc (recDlLevel x) hdr payload, BitVec.ofNat 8 seq))

end Sys2Proof.Machine
end

