-- ==== Sys2Proof/Machine/PorchOps.lean ====
section
/-! DEFINITION. Machine/PorchOps.lean: the disposal of downlink frames (R305–R307, R320), the rendezvous group (R217,
R220) and the forming of bookings (R221–R229). -/

namespace Sys2Proof.Machine

/-! The rendezvous group (R217). -/

/-- The fix in ns of the fix scale. -/
def recFix (x : Rec) : Int := (recF x 0x30 6 * 1000000000 + recF x 0x36 4 : Nat)
def recMisses (x : Rec) : Nat := recBits x 0x3A 21 3
def recDriftCount (x : Rec) : Nat := recBits x 0x3A 18 3
def recDrift (x : Rec) : Int := sgn 18 (recBits x 0x3A 0 18)
def recNwFrac (x : Rec) : Nat := recF x 0x3D 1
/-- PHASE_STATE: 0 NONE, 1 VALID, 2 LOST. -/
def recPhase (x : Rec) : Nat := recBits x 0x3E 12 2
def recWindow (x : Rec) : Nat := recBits x 0x3E 4 8
def recWakeExp (x : Rec) : Nat := recBits x 0x3E 0 4

/-- W in ns of a WAKE_EXP. -/
def wakeNs (k : Nat) : Nat := 15625000 * 2 ^ k
/-- A number of slow ticks of 30.517578125 µs in ns, rounded down. -/
def slowNs (n : Nat) : Nat := n * 1000000000 / 32768
/-- The window length in ns. -/
def windowNs (x : Rec) : Nat := slowNs (4 * recWindow x)

/-! Times of the fix scale. -/

/-- A deadline that never comes. -/
def noDeadline : Nat := 2 ^ 80

/-- The fabric tick of an instant of the fix scale. -/
def State.fixTick (s : State) (i : Int) : Nat := s.tbTick (i + s.tsu.accum)

/-- The fabric tick of a booking's start instant: on the fix scale until its release, on the timebase from then on (R337). -/
def State.startTick (s : State) (b : Booking) : Nat := if b.released then s.tbTick b.start else s.fixTick b.start

/-- The fabric tick of a released booking's deadline. -/
def State.deadlineTick (s : State) (b : Booking) : Nat := match b.deadline with | some d => s.tbTick d | none => noDeadline

/-- The emission permission of the front die (R450): in twin mode this package's drive is on and the line reads held. -/
def State.emitAllowed (s : State) : Bool := ! s.twinMode || (s.twin.ownDrive && ! s.twin.released)

/-- Whether frames may be transmitted (R79, R118, R450): in ACTIVE or DEGRADED, with no transition in progress (R66, R88), and
in twin mode only while this package's drive is on and the line reads held. [log 102: DEDUCED] -/
def State.txMode (s : State) : Bool :=
  (s.sys.mode == .active || s.sys.mode == .degraded) && s.sys.transition.isNone && s.emitAllowed

/-! Disposal (R320). -/

/-- Whether a frame's lifetime has run (R307). -/
def State.expired (s : State) (f : DlFrame) : Bool :=
  decide (f.lifetime ≠ 0) && decide (f.enqueued + f.lifetime ≤ ticksMs s.now)

/-- SOURCE of a completion (R288, R289). -/
def txSource (r : Region) (slot mode handle : Nat) : Nat := (r.ix + 1) * 2 ^ 30 + slot * 2 ^ 21 + mode * 2 ^ 18 + handle

/-- Whether own receptions and transmissions may write the mirrored groups of a record: never in STANDBY (R206, R460). -/
def State.writesNode (s : State) : Bool := s.sys.mode != .standby

/-- An engine operation on a mirrored group by this package itself. -/
def State.macUpd (s : State) (h : Nat) (f : Rec → Rec) : State := if s.writesNode then s.nodeUpd h f else s

/-- The bookings of a node leave the calendar. -/
def State.unbook (s : State) (h : Nat) : State :=
  { s with porch := { s.porch with
      bookings := s.porch.bookings.filter (fun kv => kv.1 / 4 != h)
      waiting := s.porch.waiting.filter (· != h), floodOut := sdel s.porch.floodOut h } }

/-- The head frame of a queue ends with a final outcome: removed, its units free, DEPTH reduced (R320). -/
def State.frameOut (s : State) (h : Nat) (status : Nat) : State :=
  match s.queue h with
  | [] => s
  | f :: q => ((s.unbook h).setQueue h q).completeFrame f status

/-- A carrier's job without its frame, which has been discarded (R320). -/
def TxJob.orphan (j : TxJob) (h : Nat) : TxJob :=
  if (j.kind = .downlink ∨ j.kind = .flood) ∧ j.handle = some h then { j with handle := none } else j

/-- The jobs of a node's discarded frame, on the carriers and put aside there, belong to no frame any more (R320). -/
def State.jobsOrphan (s : State) (h : Nat) : State :=
  allRegions.foldl (fun s r => { s with radio := s.radio.upd r fun d => { d with carriers := d.carriers.map (fun kv =>
    (kv.1, { kv.2 with job := kv.2.job.map (·.orphan h), aside := kv.2.aside.map (·.orphan h) })) } }) s

/-- A whole queue discarded (R320, R321): each frame counted in its region; what a carrier has of its head goes on without it.
[log 192: DESIGN CHOICE] -/
def State.queueDiscard (s : State) (h : Nat) : State :=
  let q := s.queue h
  if q.isEmpty then s
  else
    q.foldl (fun s f => (s.cnt (Reg.dlsDiscardCnt f.region.ix)).completeFrame f 7) (((s.unbook h).jobsOrphan h).setQueue h [])

/-- An expired head frame completes EXPIRED (R307). -/
def State.frameExpire (s : State) (h : Nat) : State :=
  match s.queue h with
  | [] => s
  | f :: _ => (s.cnt (Reg.dlsExpiredCnt f.region.ix)).frameOut h 5

/-- A frame without a route completes NO_ROUTE (R263). -/
def State.noRoute (s : State) : State := (s.cnt Reg.fwdNoRouteCnt).stk Reg.fwdTrouble 6

/-! Forming a booking. -/

/-- The lead of R222 in ns, for a slot of a region. -/
def State.leadNs (s : State) (r : Region) (slot : Nat) : Nat :=
  (s.ccaDur r slot + (2 ^ s.slotF r slot 0x10 1 - 1) * 320 + s.rf (Reg.rdvLead r.ix) 16 16) * 1000

/-- The window a short-preamble booking takes, its guard, its early start and its extension (R222). -/
structure ShortPlan where
  tPred : Int
  g : Nat
  early : Nat
  ext : Nat
  deriving DecidableEq, Repr

/-- The short-preamble plan for a node's record (R222). -/
def State.shortPlan (s : State) (x : Rec) (r : Region) (slot mode : Nat) : ShortPlan :=
  let w := wakeNs (recWakeExp x)
  let win := windowNs x
  let since := s.fixNow + (s.leadNs r slot : Int) - recFix x
  let n := max 1 (ceilDiv since.toNat w)
  let elapsed := n * w + ceilDiv ((recNwFrac x + 1) * w) 256
  let g := s.rf (Reg.rdvGuard r.ix) 16 16 * 1000 + ceilDiv ((recDrift x).natAbs * elapsed) 100000000 +
    s.rf (Reg.rdvGuard r.ix) 0 16 * 1000
  let d := detAllow mode * 1000
  let early := g + d + s.rf (Reg.rdvLead r.ix) 0 16 * 1000 - win
  let ext := ceilDiv (g + early + d - basePre mode * 1000) (extUnit mode * 1000)
  ⟨recFix x + (n * w : Nat), g, early, ext⟩

/-- How a frame is preambled, with its extension and its copies (R225–R228). -/
structure Plan where
  pre : PreMode
  ext : Nat
  copies : Nat
  start : Int
  deadline : Option Int
  release : Int
  deriving DecidableEq, Repr

/-- The preamble mode of a frame for a record: the first row of R225 that holds. `air e` is the frame's airtime in µs with
`e` extension units. [log 98: DEDUCED] -/
def State.plan (s : State) (h : Nat) (x : Rec) (r : Region) (slot mode : Nat) (air : Nat → Nat) : Plan :=
  let lead : Int := s.leadNs r slot
  let limit := s.txLimitMs * 1000
  let p := s.shortPlan x r slot mode
  let w := wakeNs (recWakeExp x)
  let win := windowNs x
  let now := s.fixNow
  match (sget none s.porch.postAck h).filter (fun e => decide (now ≤ e + 4500000)) with
  | some e =>
    let start := e + s.rf (Reg.rdvPostack r.ix) 0 12 * 1000
    ⟨.postAck, 0, 1, start, some (e + 4500000), max now (start - lead)⟩
  | none =>
    if recPhase x = 1 ∧ 2 * p.g < w ∧ air p.ext ≤ limit then
      let start := p.tPred - p.early
      ⟨.short, p.ext, 1, start, some (p.tPred - p.g + win - detAllow mode * 1000), start - lead⟩
    else
      let gap := s.rf (Reg.rdvStrobeCtrl r.ix) 16 16
      let copy := air 0
      if isFsk mode = false ∧ recWakeExp x ≤ s.rf (Reg.rdvStrobeCtrl r.ix) 0 4 ∧
          (copy + gap) * 1000 + detAllow mode * 1000 ≤ win ∧ copy ≤ limit then
        ⟨.strobe, 0, ceilDiv (w + win) ((copy + gap) * 1000), now, none, now⟩
      else
        let pre := max 8 (ceilDiv (w + win) (fskOctet mode * 1000))
        if isFsk mode = true ∧ air (pre - 8) ≤ limit then ⟨.long, pre - 8, 1, now, none, now⟩
        else ⟨.parked, 0, 1, now, none, now⟩

/-- PREAMBLE_MODE and the counter of a preamble mode (R225). -/
def State.countPlan (s : State) (t : Nat) (r : Region) (pre : PreMode) : State :=
  match pre with
  | .short => (s.macUpd t (fun x => recSetBits x 0x3E 14 2 0)).cnt (Reg.rdvShortCnt r.ix)
  | .strobe =>
    ((s.macUpd t (fun x => recSetBits x 0x3E 14 2 1)).nodeUpd t (fun x => recCount x 0xB4 2)).cnt (Reg.rdvStrobeCnt r.ix)
  | .long => (s.macUpd t (fun x => recSetBits x 0x3E 14 2 2)).cnt (Reg.rdvLongCnt r.ix)
  | .parked => (s.macUpd t (fun x => recSetBits x 0x3E 14 2 3)).cnt (Reg.rdvParkedCnt r.ix)
  | .postAck => s.cnt (Reg.rdvPostackCnt r.ix)

/-- The number of bookings in the calendar; the copies of a flood are not bookings of their own. -/
def State.calCount (s : State) : Nat := s.porch.bookings.countP (fun kv => kv.1 % 4 == 0)

/-- A booking placed, with the calendar's high-water mark (R242); its node waits no longer. -/
def State.place (s : State) (k : Nat) (b : Booking) : State :=
  let s : State := { s with porch := { s.porch with waiting := s.porch.waiting.filter (· != k / 4) } }
  let s := s.setBooking k (some b)
  if s.rf Reg.rdvCalHwm 0 17 < s.calCount then s.setRf Reg.rdvCalHwm 0 17 s.calCount else s

/-- Whether a node may be booked now: there is room, and no node that asked before it waits (R221).
[log 170: DESIGN CHOICE] -/
def State.calRoom (s : State) (h : Nat) : Bool :=
  decide (s.calCount < 65536) && (s.porch.waiting.isEmpty || s.porch.waiting.head? == some h)

/-- A node waits for room in the calendar; one that finds it full is counted (R221). [log 170: DESIGN CHOICE] -/
def State.calFull (s : State) (h : Nat) : State :=
  if s.porch.waiting.contains h then s
  else
    let full := decide (65536 ≤ s.calCount)
    let s : State := { s with porch := { s.porch with waiting := s.porch.waiting ++ [h] } }
    s.when full (fun s => (s.cnt Reg.rdvCalFullCnt).stk Reg.rdvTrouble 1)

/-- A parked frame takes no place: its node waits no longer. -/
def State.park (s : State) (h : Nat) : State :=
  { s with porch := { s.porch with waiting := s.porch.waiting.filter (· != h) } }

/-- The relay of a route or of a booking, with the type of the key it leads to. -/
def Route.hop (rt : Route) : Option (Nat × Nat) := rt.via.map (fun v => (v, rt.keyType))
def Booking.hop (b : Booking) : Option (Nat × Nat) := b.via.map (fun v => (v, b.keyType))

/-- The head frame stamped again in the booking region when it differs from its stamping region (R311). -/
def State.restamp (s : State) (h : Nat) (f : DlFrame) (r : Region) (hop : Option (Nat × Nat)) (slot : Nat) : State :=
  if f.region = r then s
  else
    let (s, t) := s.stamp h r f.cls (s.frameCost h hop r slot f.payload.length f.cls)
    (s.setHead h (fun f => { f with region := r, finish := t })).cnt (Reg.dlsRestampCnt r.ix)

/-- The booking of a head frame on a route, or as a flood (R222, R225, R261, R263). A parked frame takes no place in the
calendar: it waits for the node's next uplink. [log 92: DEDUCED] -/
def State.bookHead (s : State) (h : Nat) (rt : Route) (flood : Bool) : State :=
  match s.queue h with
  | [] => s
  | f :: _ =>
    let r := rt.region
    let s := if flood then s else s.restamp h f r rt.hop rt.slot
    let f := (s.queue h).headD f
    let t := rt.via.getD h
    let x := s.node t
    let (mode, _, _) := txForm x r rt.slot
    let air := s.baseAirtime h rt.hop r rt.slot f.payload.length
    let p := s.plan t x r rt.slot mode air
    let s := s.countPlan t r p.pre
    if p.pre = .parked then s.park h
    else
      s.place (4 * h)
        { region := r, slot := rt.slot, via := rt.via, key := rt.key, keyType := rt.keyType, flood := flood,
          start := p.start, deadline := p.deadline, release := p.release, formed := s.now, mac := [], seq := 0,
          pre := p.pre, ext := p.ext, copies := p.copies, airtime := air p.ext, released := false, assigned := false,
          cls := f.cls, finish := f.finish, markReg := false,
          markSafety := false, owedAtMark := false, fixChanged := false,
          ackCtrl := s.rg (Reg.macAckCtrl r.ix), gapUs := s.rf (Reg.rdvStrobeCtrl r.ix) 16 16 }

/-- One try to book the head of a node's queue, never in STANDBY (R206); whether the queue is looked at again because its head left it. -/
def State.bookTry (s : State) (h : Nat) (f : DlFrame) : State × Bool :=
  if (s.booking (4 * h)).isSome ∨ s.timeSet = false ∨ s.domOn 9 = false ∨ s.writesNode = false then (s, false)
  else if s.expired f then (s.frameExpire h, true)
  else
    let (s, x) := s.nodeGet h
    let (s, rt) := s.selectRoute x
    match rt with
    | some rt => (if s.calRoom h then s.bookHead h rt false else s.calFull h, false)
    | none =>
      match s.floodRegions with
      | [] => (s.noRoute.frameOut h 3, true)
      | r :: _ =>
        (if s.calRoom h then s.bookHead h ⟨r, s.floodSlot r, none, recEui x, 0⟩ true else s.calFull h, false)

/-- The Porch books the head frame of a node's queue (R221, R225, R260, R263, R307, R337), disposing of at most `n` frames
that expire or find no route. -/
def State.book (s : State) (h : Nat) : Nat → State
  | 0 => s
  | n + 1 =>
    match s.queue h with
    | [] => s
    | f :: _ => if (s.bookTry h f).2 then (s.bookTry h f).1.book h n else (s.bookTry h f).1

/-- The Porch looks at a node's queue. -/
def State.porchBook (s : State) (h : Nat) : State := s.book h ((s.queue h).length + 1)

/-- A booking cancelled and formed again (R224). -/
def State.rebook (s : State) (h : Nat) : State :=
  ({ s with porch := { s.porch with bookings := sdel s.porch.bookings (4 * h) } } : State).porchBook h

/-- A frame returned to the scheduler: it stays at the head with its finish time, its attempts advance, and the Porch books it again (R223, R320).
[log 145: DEDUCED] -/
def State.frameReturn (s : State) (h : Nat) : State :=
  ((s.unbook h).setHead h (fun f => { f with tries := f.tries + 1 })).porchBook h

/-- The next frame of a queue after its head is removed. -/
def State.nextFrame (s : State) (h : Nat) : State := s.porchBook h

/-! Fixes and misses (R220, R229). -/

/-- What a valid uplink IE announces (R214). -/
structure UplinkIe where
  nextWindow : Nat
  wakeExp : Nat
  window : Nat
  deriving DecidableEq, Repr

/-- A phase fix (R220, R224): `ts` is the frame's timestamp in ns of the fix scale, `r` the receiving region. -/
def State.takeFix (s : State) (h : Nat) (r : Region) (ts : Int) (ie : UplinkIe) : State :=
  let x := s.node h
  let fNew : Int := ts + slowNs ie.nextWindow
  let w : Int := wakeNs ie.wakeExp
  let n := roundDiv (fNew - recFix x) w.toNat
  let e := fNew - (recFix x + n * w)
  let same := recPhase x ≠ 0 ∧ ie.wakeExp = recWakeExp x
  let jump := s.rf (Reg.rdvDriftCtrl r.ix) 16 16
  let shift := s.rf (Reg.rdvDriftCtrl r.ix) 0 2
  let good := decide (same ∧ 1 ≤ n ∧ 4 * e.natAbs < w.toNat)
  let ambig := decide (same ∧ 1 ≤ n) && ! good
  let meas := clampI (-131071) 131071 (roundDiv (e * 100000000) (fNew - recFix x).toNat)
  let fresh := decide (recDriftCount x = 0) || decide (jump < (meas - recDrift x).natAbs)
  let drift := if good then (if fresh then meas else recDrift x + roundDiv (meas - recDrift x) (2 ^ shift)) else recDrift x
  let count := if good then min 7 (recDriftCount x + 1) else if ambig then 0 else recDriftCount x
  let frac := ceilDiv (ie.nextWindow * 256) (512 * 2 ^ ie.wakeExp) - 1
  let fix := (fNew % (2 ^ 48 * 1000000000 : Int)).toNat
  let s := s.when (good && fresh && decide (recDriftCount x ≠ 0)) (·.cnt (Reg.rdvDriftJumpCnt r.ix))
  let s := s.when ambig (·.cnt (Reg.rdvFixAmbigCnt r.ix))
  let s := (s.macUpd h (fun x =>
    let x := recSet (recSet x 0x30 6 (fix / 1000000000)) 0x36 4 (fix % 1000000000)
    let x := recSetBits (recSetBits (recSetBits x 0x3A 0 18 (unsgn 18 drift)) 0x3A 18 3 count) 0x3A 21 3 0
    let x := recSet x 0x3D 1 frac
    recSetBits (recSetBits (recSetBits x 0x3E 0 4 ie.wakeExp) 0x3E 4 8 ie.window) 0x3E 12 2 1)).cnt (Reg.rdvFixCnt r.ix)
  let mine := s.porch.bookings.filter (fun kv =>
    match kv.2 with
    | some b => kv.1 % 4 == 0 && (b.via.getD (kv.1 / 4)) == h
    | none => false)
  mine.foldl (fun s kv =>
    match kv.2 with
    | some b => if b.released then s.setBooking kv.1 (some { b with fixChanged := true }) else s.rebook (kv.1 / 4)
    | none => s) s

/-- A NO_ACK of a SHORT transmission advances MISSES; MISS_LIMIT loses the phase (R229). -/
def State.missed (s : State) (t : Nat) (r : Region) : State :=
  let (s, x) := s.nodeGet t
  let m := min 7 (recMisses x + 1)
  let s := s.macUpd t (fun x => recSetBits x 0x3A 21 3 m)
  if max 1 (s.rf (Reg.rdvDriftCtrl r.ix) 8 4) ≤ m ∧ recPhase x ≠ 2 then
    (((s.macUpd t (fun x => recSetBits x 0x3E 12 2 2)).nodeUpd t (fun x => recCount x 0xB2 2)).stk Reg.rdvTrouble 0).cnt
      (Reg.rdvLostCnt r.ix)
  else s

end Sys2Proof.Machine
end

