-- ==== Sys2Proof/Machine/CarrierOps.lean ====
section
/-! DEFINITION. Machine/CarrierOps.lean: the transmit carriers: airtime accounting (R210, R211), listen-before-talk (R207),
the sequence of R116, coexistence (R131–R133), assignment (R312, R313) and the ends of jobs (R320). -/

namespace Sys2Proof.Machine

/-- The front end of a region. -/
def State.rad (s : State) (r : Region) : Radio := s.radio.get r
/-- Change the front end of a region. -/
def State.radUpd (s : State) (r : Region) (f : Radio → Radio) : State := { s with radio := s.radio.upd r f }
/-- A carrier. -/
def State.carrier (s : State) (r : Region) (c : Nat) : Carrier := sget Carrier.reset (s.rad r).carriers c
/-- Store a carrier. -/
def State.setCarrier (s : State) (r : Region) (c : Nat) (x : Carrier) : State :=
  s.radUpd r (fun d => { d with carriers := sput Carrier.reset d.carriers c x })
/-- Whether a carrier is in service. -/
def State.carrierOk (s : State) (r : Region) (c : Nat) : Bool :=
  ! s.oos.any (fun u => match u with | .carrier q n => q == r && n.val == c | _ => false)

/-- Whether a carrier is on air, or its PA settles. -/
def Carrier.onAir (x : Carrier) : Bool := x.phase == .onAir || x.phase == .settle
/-- The carriers of a region on air. -/
def State.carriersOn (s : State) (r : Region) : List Nat :=
  (List.range 4).filter (fun c => (s.carrier r c).onAir)

/-- The level of the T/R lines at a tick. -/
def Radio.trAt (d : Radio) (t : Nat) : BitVec 2 :=
  match d.trStep with
  | some (k, v) => if k ≤ t then v else d.tr
  | none => d.tr
/-- The level of `PAEN_x` at a tick. -/
def Radio.paAt (d : Radio) (t : Nat) : Bool := d.paEn && decide (d.paHighAt ≤ t)
/-- `PABIAS_x` and `PAMODE_x` at a tick (R114): the values of the entry in use while `PAEN_x` is high, 0 and low otherwise. -/
def Radio.biasAt (d : Radio) (t : Nat) : Byte × Bool := if d.paAt t then (d.paBias, d.paMode) else (0, false)
/-- The T/R lines take a level at once, and one more later where a step is given. -/
def Radio.lines (d : Radio) (v : BitVec 2) (step : Option (Nat × BitVec 2)) : Radio := { d with tr := v, trStep := step }

/-- `RFC.TIMING` in µs. -/
def State.paOnUs (s : State) (r : Region) : Nat := s.rf (Reg.rfcTiming r.ix) 8 8
def State.paOffUs (s : State) (r : Region) : Nat := s.rf (Reg.rfcTiming r.ix) 16 8
def State.rxSettleUs (s : State) (r : Region) : Nat := s.rf (Reg.rfcTiming r.ix) 0 8
/-- ANT_MODE SPLIT. -/
def State.split (s : State) (r : Region) : Bool := s.rb (Reg.rfcCtrl r.ix) 0

/-! Airtime against the sub-band budget (R210, R211). -/

/-- The key of a second of a sub-band. -/
def dutyKey (sb sec : Nat) : Nat := sb * 2 ^ 40 + sec
/-- The rolling-hour total of a sub-band in µs. -/
def State.dutyTotal (s : State) (r : Region) (sb : Nat) : Nat :=
  let m := s.mac.get r
  (m.duty.map (fun kv => if kv.1 / 2 ^ 40 = sb ∧ m.sec < kv.1 % 2 ^ 40 + 3600 then kv.2 else 0)).sum
/-- Airtime charged to the present second. -/
def State.dutyCharge (s : State) (r : Region) (sb us : Nat) : State :=
  { s with mac := s.mac.upd r (fun m =>
      { m with duty := sput 0 m.duty (dutyKey sb m.sec) (sget 0 m.duty (dutyKey sb m.sec) + us) }) }
/-- The test of R211. -/
def State.dutyOk (s : State) (r : Region) (sb us : Nat) : Bool :=
  s.dutyMs r sb == 3600000 || decide (s.dutyTotal r sb + us ≤ s.dutyMs r sb * 1000)
/-- A refusal under R211, counted. -/
def State.dutyRefused (s : State) (r : Region) (sb : Nat) : State :=
  (s.cnt (Reg.macDutyRefusedCnt r.ix sb)).stk Reg.macTrouble 0

/-! Jobs on carriers. -/

/-- Whether a job needs a CCA: all but acknowledgements and exempt strobe copies (R207, R226). -/
def State.jobCca (s : State) (r : Region) (j : TxJob) : Bool :=
  j.needCca && (! j.opened || s.lbtRequired r j.slot)

/-- Whether a new transmission is barred by the region: the LO is not locked, a recalibration runs or has passed its
deferral limit (R110, R119), or the arbiter's wires bar it (R133). -/
def State.regionBlocked (s : State) (r : Region) : Bool :=
  let d := s.rad r
  ! d.loLocked || d.recal.running.isSome || (d.recal.due && d.recal.forced) || d.isolated ||
    (s.coexRole r == 2 && (d.coex.gnt || (d.coex.wanted && d.coex.pri)))

/-- Whether a job waits under R119: the region is barred, or in SHARED a CCA must wait for the receive path (R117). -/
def State.jobBlocked (s : State) (r : Region) (j : TxJob) : Bool :=
  s.regionBlocked r ||
    (s.jobCca r j && ! s.split r && (! (s.carriersOn r).isEmpty || (s.rad r).invalid))

/-- The earliest tick at which t0 may fall for a start instant (R207): a carrier that finds `PAEN_x` high then puts it off
(`State.t0Wait`). -/
def State.t0For (s : State) (r : Region) (start : Nat) : Nat := max s.now (start - usTicks (4 + s.paOnUs r))

/-- The first symbol at full level of a transmission whose t0 is now (R116): with the digital ramp alone while `PAEN_x` is high, with the
first carrier of the region's transmission while its PA settles. -/
def State.firstAt (s : State) (r : Region) : Nat :=
  let d := s.rad r
  if d.paEn then max (s.now + usTicks 2) (d.paHighAt + usTicks (2 + s.paOnUs r)) else s.now + usTicks (4 + s.paOnUs r)

/-- Whether t0 is put off to the start instant less 2 µs (R116): `PAEN_x` is up and stays so until then. [log 191: DEDUCED] -/
def State.t0Wait (s : State) (r : Region) (start : Nat) : Bool :=
  let d := s.rad r
  d.paEn && decide (s.now + usTicks 2 < start) &&
    (match d.paOff with | some e => decide (start < e + usTicks 2) | none => true)

/-- A job enters BACKOFF with NB and BE: a draw of k units, placed before the start instant where `placed`, else begun at
once (R207). -/
def State.backoff (s : State) (r : Region) (c : Nat) (j : TxJob) (nb be : Nat) (placed : Bool) : State :=
  let k := s.draw % 2 ^ be
  let s := s.used
  let len := usTicks (k * 320)
  let last := j.start - usTicks (4 + s.paOnUs r) - usTicks (s.ccaDur r j.slot)
  s.setCarrier r c { s.carrier r c with phase := .backoff, job := some j, nb := nb, be := be,
                                        due := if placed then max (s.now + len) last else s.now + len }

/-- The level the T/R lines rest at (R118, R121): 01 in a region in service, 00 in one that is out, tripped or without power. -/
def State.trRest (s : State) (r : Region) : BitVec 2 :=
  if s.domOn r.frontDom && (s.rad r).inService && ! (s.rad r).tripped then 1 else 0

/-- The level of the requester's COEX_REQ at a tick, and of its COEX_PRI. -/
def Coex.reqUp (x : Coex) (t : Nat) : Bool := match x.reqAt with | some k => decide (k ≤ t) | none => false
def Coex.priUp (x : Coex) (t : Nat) : Bool := x.reqUp t && (match x.priAt with | some k => decide (k ≤ t) | none => false)
/-- LEAD_US in ticks. -/
def Coex.lead (x : Coex) : Nat := usTicks (getBits x.cfg 2 10)

/-- Whether a job raises COEX_PRI (R132). -/
def TxJob.coexPri (j : TxJob) (cfg : Word) : Bool := (j.kind == .ack && cfg.getLsbD 0) || j.safety

/-- The jobs of a carrier that ask for COEX_REQ under a content of `RFC.COEX`, each with the tick from which it does (R132): LEAD_US before
its start instant, at once from its CCA on and until `PAEN_x` has fallen, and with HOLD_ACK through the wait for its acknowledgement.
[log 130: DEDUCED] -/
def Carrier.coexWants (x : Carrier) (now : Nat) (cfg : Word) : List (Nat × TxJob) :=
  let soon (j : TxJob) : List (Nat × TxJob) := [(max now (j.start - usTicks (getBits cfg 2 10)), j)]
  let again (j : TxJob) : List (Nat × TxJob) := if x.nb = 0 then soon j else [(now, j)]
  let hold (j : TxJob) : Bool := cfg.getLsbD 1 && j.wantAck
  let own := match x.job with
    | none => []
    | some j =>
      match x.phase with
      | .idle => []
      | .assigned => soon j
      | .held => soon j
      | .wait => soon j
      | .backoff => again j
      | .cca => [(now, j)]
      | .starting => [(now, j)]
      | .settle => [(now, j)]
      | .onAir => [(now, j)]
      | .gap => if hold j then [(now, j)] else if j.copies = 0 then [] else soon j
      | .withheld => if hold j then [(now, j)] else if j.copies = 0 then [] else soon j
      | .ackWait => if hold j then [(now, j)] else []
  own ++ (match x.aside with | some j => again j | none => [])

/-- The jobs of a region that ask for COEX_REQ. -/
def State.coexWants (s : State) (r : Region) (cfg : Word) : List (Nat × TxJob) :=
  (List.range 4).flatMap (fun c => (s.carrier r c).coexWants s.now cfg)

/-- The earliest of the ticks, of the jobs that raise COEX_PRI. -/
def coexPriAt (w : List (Nat × TxJob)) (cfg : Word) : Option Nat := ((w.filter (fun k => k.2.coexPri cfg)).map (·.1)).min?

/-- The requester's wires, low now, as they are to rise under `RFC.COEX` as it stands (R132, R138). -/
def State.coexLow (s : State) (r : Region) (x : Coex) : Coex :=
  let cfg := s.rg (Reg.rfcCoex r.ix)
  let w := s.coexWants r cfg
  { x with cfg := cfg, reqAt := (w.map (·.1)).min?, priAt := coexPriAt w cfg }

/-- The requester's wires follow what the carriers ask for: COEX_REQ, once up, stays up while `PAEN_x` is high or a job asks for it, under
`RFC.COEX` as it stood at its rise (R132, R138). [log 130: DEDUCED] -/
def State.coexPlan (s : State) (r : Region) : State :=
  if s.coexRole r = 1 then
    s.radUpd r fun d =>
      let x := d.coex
      let w := s.coexWants r x.cfg
      if x.reqUp s.now && (d.paEn || w.any (fun k => decide (k.1 ≤ s.now))) then
        { d with coex := { x with priAt := (x.priAt.toList ++ (coexPriAt w x.cfg).toList).min? } }
      else { d with coex := s.coexLow r x }
  else s

/-! The arbiter (R133). -/

/-- The earliest tick at which a carrier's job may start, where it has one to start. -/
def Carrier.startsAt (x : Carrier) : Option Nat :=
  match x.job with
  | none => none
  | some j =>
    match x.phase with
    | .assigned => some j.start
    | .held => some j.start
    | .backoff => some (max j.start x.due)
    | .cca => some (max j.start x.due)
    | .wait => some x.due
    | .starting => some x.due
    | .gap => if j.copies = 0 then none else some j.start
    | _ => none

/-- Whether a transmission of the region starts within LEAD_US. -/
def State.txDueSoon (s : State) (r : Region) : Bool :=
  let by_ := s.now + (s.rad r).coex.lead
  (List.range 4).any (fun c => match (s.carrier r c).startsAt with | some k => decide (k ≤ by_) | none => false)

/-- The arbiter grants a request that may be granted. -/
def State.coexGrant (s : State) (r : Region) : State :=
  let d := s.rad r
  if s.coexRole r = 2 ∧ d.coex.wanted ∧ (s.carriersOn r).isEmpty ∧ (d.coex.pri || ! s.txDueSoon r) then
    s.radUpd r (fun d => { d with coex := { d.coex with gnt := true, since := s.now, wanted := false } })
  else s

/-- The carrier of a job ended; an acknowledgement gives it back to the job put aside, with a new draw (R207, R208). -/
def State.carrierFree (s : State) (r : Region) (c : Nat) : State :=
  let x := s.carrier r c
  match x.aside with
  | some j => (s.setCarrier r c { x with aside := none }).backoff r c j x.nb x.be false
  | none => s.setCarrier r c Carrier.reset

/-- µs from the first symbol to the timestamp point of a frame (R199). -/
def stampUs (j : TxJob) : Nat :=
  if isFsk j.mode then (8 + j.ext + 2) * fskOctet j.mode
  else if j.mode = 4 then (j.ext + 4) * 120
  else (Config.sunTrainSymbols j.mode + j.ext) * 120

/-- The tick of the timestamp point of a frame whose first symbol falls at a tick. -/
def TxJob.stampTick (j : TxJob) (first : Nat) : Nat := first + usTicks (stampUs j)

/-- The transmit timestamp in 2^−32 ns of a frame whose first symbol falls at a tick (R199), with `TXP.TS_TRIM_TX` as it stood at its
timestamp point (R201). -/
def State.txStamp (s : State) (r : Region) (j : TxJob) (first : Nat) : Nat :=
  let trim := sgn 24 (getBits (j.air.trim.getD (s.rg (Reg.txpTsTrimTx r.ix))) 0 24)
  ((s.tbRawAt (j.stampTick first) : Int) + 380 * 2 ^ 32 + trim * 2 ^ 28).toNat

/-- `TXP.TS_TRIM_TX` is to be written: transmissions whose timestamp point has passed keep its value (R201). -/
def State.trimTaken (s : State) (r : Region) : State :=
  s.radUpd r fun d => { d with carriers := d.carriers.map (fun kv => (kv.1,
    { kv.2 with job := kv.2.job.map (fun j =>
        if kv.2.phase = .onAir ∧ j.stampTick kv.2.first ≤ s.now ∧ j.air.trim = none then
          { j with air := { j.air with trim := some (s.rg (Reg.txpTsTrimTx r.ix)) } }
        else j) })) }

/-- A record with the acknowledgement's timestamp and flags (R238, R288). -/
def HostRec.acked (x : HostRec) (raw : Nat) (pending : Bool) : HostRec :=
  { x with bytes := splice x.bytes 0x2C (toLE 4 (tsNs raw) ++ toLE 6 (tsSec raw) ++ toLE 1 (1 + 2 * pending.toNat)) }

/-! Ends of jobs. -/

/-- The settlement of R316: the airtime charged against the airtime expected at assignment. -/
def State.settle (s : State) (r : Region) (j : TxJob) : State :=
  let d := ((j.charged : Int) - j.expected) * 1000
  ((s.sbCharge r (s.slotSub r j.slot) d).clsCharge r j.cls d).cntBy (Reg.dlsClassSentUs r.ix j.cls) j.charged

/-- Record of the last transmission in the head frame of a queue (R289). -/
def State.frameSent (s : State) (h raw source : Nat) : State :=
  s.setHead h (fun f => { f with sentRaw := raw, sentSource := source })
/-- A transmission of the head frame of a queue begins: each copy of a train or a flood is one (R289).
[log 124: DEDUCED] -/
def State.attempted (s : State) (j : TxJob) : State :=
  match j.kind, j.handle with
  | .ack, _ => s
  | _, some h => s.setHead h (fun f => { f with attempts := f.attempts + 1 })
  | _, none => s

/-- A booking that completes LATE or CHANNEL_BUSY is counted and the node's next window is booked (R223). -/
def State.windowLate (s : State) (h : Nat) (r : Region) : State :=
  ((s.cnt (Reg.rdvWindowLateCnt r.ix)).nodeUpd h (fun x => recCount x 0xB6 2)).frameReturn h

/-- A flood's copy in a region leaves the calendar; one that ends LATE under the marks of R319 is a guarantee broken (R319). -/
def State.floodEnd (s : State) (h : Nat) (r : Region) (o : Outcome) : State :=
  let k := 4 * h + 1 + r.ix
  let s := match s.booking k with
    | some b => if o = Outcome.late then s.guaranteeBroken k b else s
    | none => s
  s.setBooking k none

/-- One flood copy completes; the last decides the frame (R263). -/
def State.floodDone (s : State) (h : Nat) (sent : Bool) : State :=
  let (n, any) := sget (0, false) s.porch.floodOut h
  let any := any || sent
  if 1 < n then { s with porch := { s.porch with floodOut := sput (0, false) s.porch.floodOut h (n - 1, any) } }
  else if any then (s.frameOut h 1).nextFrame h
  else s.frameReturn h

/-- DL_RETRIES, TURNAROUND_US and TOL_US of a job (R241). -/
def TxJob.dlRetries (j : TxJob) : Nat := getBits j.ackCtrl 0 3
def TxJob.turnUs (j : TxJob) : Nat := getBits j.ackCtrl 16 11
def TxJob.tolUs (j : TxJob) : Nat := getBits j.ackCtrl 8 8

/-- A NO_ACK of a downlink frame (R229, R235, R320). -/
def State.frameNoAck (s : State) (h : Nat) (r : Region) (j : TxJob) (b : Option Booking) : State :=
  let s := (s.cnt (Reg.macNoAckCnt r.ix)).nodeUpd h (fun x => recCount x 0xB0 2)
  let s := match b with
    | some b => if b.pre = PreMode.short ∧ b.fixChanged = false then s.missed (b.via.getD h) r else s
    | none => s
  match s.queue h with
  | [] => s.unbook h
  | f :: _ =>
    if f.retries < j.dlRetries then
      (s.setHead h (fun f => { f with retries := f.retries + 1 })).frameReturn h
    else ((s.cnt (Reg.dlsNoAckFinalCnt r.ix)).frameOut h 2).nextFrame h

/-- The disposal of a downlink frame by its outcome (R320). [log 127: DEDUCED] -/
def State.dispose (s : State) (h : Nat) (r : Region) (j : TxJob) (o : Outcome) : State :=
  let b := s.booking (4 * h)
  match o with
  | .acked => ((s.nodeUpd h (fun x => recCount x 0xA4 4)).frameOut h 0).nextFrame h
  | .sent => (s.frameOut h 1).nextFrame h
  | .noAck => s.frameNoAck h r j b
  | .tooLong => (s.frameOut h 4).nextFrame h
  | .late =>
    let s := match b with | some b => s.guaranteeBroken (4 * h) b | none => s
    s.windowLate h r
  | .channelBusy => s.windowLate h r
  | .discarded => s
  | _ => s.frameReturn h

/-- The counters of an outcome (R120, R132, R207, R236, R312). -/
def State.countOutcome (s : State) (r : Region) (j : TxJob) (o : Outcome) : State :=
  let s := match o with
    | .late => s.cnt (Reg.rfcTxLateCnt r.ix)
    | .channelBusy => s.cnt (Reg.macChannelBusyCnt r.ix)
    | .coexDenied => s.cnt (Reg.rfcCoexDenyCnt r.ix)
    | .coexAbort => (s.stk (Reg.rfcStatus r.ix) 14).cnt (Reg.rfcCoexAbortCnt r.ix)
    | _ => s
  match j.kind, o with
  | .beacon, .sent => s.cnt (Reg.macBeaconSentCnt r.ix)
  | .beacon, .late => s.cnt (Reg.macBeaconSkipCnt r.ix)
  | .beacon, .channelBusy => s.cnt (Reg.macBeaconSkipCnt r.ix)
  | .ack, .sent => s.cnt (Reg.macAckSentCnt r.ix)
  | .ack, _ => (s.cnt (Reg.macAckMissedCnt r.ix)).stk Reg.macTrouble 2
  | _, _ => s

/-- The form of a job given to a carrier for a booking (R191, R198, R210). The requested power index is a free value (log
entry 28). [log 28: DESIGN CHOICE] -/
def State.jobOf (s : State) (k : Nat) (b : Booking) : TxJob :=
  let h := k / 4
  let x := s.node (b.via.getD h)
  let (mode, map, rate) := txForm x b.region b.slot
  let octets := ((s.queue h).head?.map (fun f => f.payload.length)).getD 0
  let air := s.baseAirtime h b.hop b.region b.slot octets b.ext
  { kind := if k % 4 = 0 then .downlink else .flood, slot := b.slot, handle := some h, pre := b.pre, ext := b.ext,
    mode := mode, map := map, rate := rate, frame := b.mac, seq := b.seq, airtime := air, needCca := true,
    wantAck := decide (k % 4 = 0), safety := s.clsSafety b.region b.cls,
    powerReq := (Config.powerReq s.freeCtr).toNat, power := 0, offset := s.txOffset x b.region b.slot,
    symScale := s.txScale x, start := s.startTick b, deadline := s.deadlineTick b,
    copies := b.copies, sentCopies := 0, opened := false, ackCtrl := b.ackCtrl, gapUs := b.gapUs, charged := 0, expected := b.copies * (air + 4), ackTo := b.via.getD h, cls := b.cls,
    answers := none, air := TxAir.reset }

/-- A flood's own booking once a copy of it has reached a carrier: its frame has been assigned (R307). -/
def State.frameGiven (s : State) (k : Nat) : State :=
  match s.booking (4 * (k / 4)) with
  | some b => if k % 4 = 0 then s else s.setBooking (4 * (k / 4)) (some { b with assigned := true })
  | none => s

/-- A booking given to a carrier: buckets debited, V_r advanced, counted (R310, R313, R316). [log 126: DESIGN CHOICE] -/
def State.give (s : State) (r : Region) (c k : Nat) (b : Booking) (step : Nat) : State :=
  let j := s.jobOf k b
  let ns : Int := (j.expected * 1000 : Nat)
  let s := (((s.used.sbCharge r (s.slotSub r b.slot) ns).clsCharge r b.cls ns).vtimeUp r b.finish).cnt (Reg.dlsAssignCnt r.ix)
  let s := (s.when (decide (step = 2)) (·.cnt (Reg.dlsSafetyFirstCnt r.ix))).when (decide (step = 3))
    (·.cnt (Reg.dlsMinFirstCnt r.ix))
  ((s.setBooking k (some { b with assigned := true })).frameGiven k).setCarrier r c
    { Carrier.reset with phase := .assigned, job := some j, due := s.now }

/-- A beacon that waits takes a free carrier, or past its deadline is skipped LATE (R236). [log 99: DEDUCED] -/
def State.beaconServe (s : State) (r : Region) : State :=
  match (s.mac.get r).beacon with
  | none => s
  | some j =>
    let v : State := { s with mac := s.mac.upd r fun m => { m with beacon := none } }
    if j.deadline < s.now then v.countOutcome r j .late
    else
      match (List.range 4).find? (fun c => s.carrierOk r c && (s.carrier r c).phase == .idle) with
      | some c => v.setCarrier r c { Carrier.reset with phase := .assigned, job := some j, due := s.now }
      | none => s

/-- An assignment round of a region: a waiting beacon, then every free carrier, one at a time (R236, R312, R313).
[log 126: DESIGN CHOICE] -/
def State.assign (s : State) (r : Region) : State :=
  if s.txMode && (s.rad r).inService then
    (List.range 4).foldl (fun s c =>
      if s.carrierOk r c && (s.carrier r c).phase == .idle then
        let (s, p) := s.choose r
        match p with
        | some (k, b, step) => (if s.bookSafety k b then s.safetyMarks r k else s).give r c k ((s.booking k).getD b) step
        | none => s
      else s) (s.beaconServe r)
  else s

/-- An acknowledgement that was sent stamps the record of the frame it answers; one that was not is counted in the node's
record (R231, R238), and the node's head frame waits no longer for it. Either way the record is delivered (R292). -/
def State.ackOver (s : State) (r : Region) (j : TxJob) (sent : Bool) (first : Nat) : State :=
  let s := if sent then s else (s.nodeUpd j.ackTo (fun x => recCount x 0xAE 2)).porchBook j.ackTo
  match j.answers with
  | some (k, x) => s.deliver k (if sent then x.acked (s.txStamp r j first) j.handle.isSome else x)
  | none => s

/-- What the end of a job means for its frame: settled and disposed of, or the acknowledgement's record delivered. -/
def State.jobOver (s : State) (r : Region) (j : TxJob) (o : Outcome) (first : Nat) : State :=
  match j.kind, j.handle with
  | .downlink, some h => (s.settle r j).dispose h r j o
  | .flood, some h => ((s.settle r j).floodEnd h r o).floodDone h (o == Outcome.sent)
  | .ack, _ => s.ackOver r j (o == Outcome.sent) first
  | .beacon, _ => s
  | _, none => s.settle r j

/-- After a job has left a carrier: maps held back are written, the coexistence wires follow, and the region assigns again. -/
def State.jobGone (s : State) (r : Region) : State := (((s.mapSettle r).coexPlan r).coexGrant r).assign r

/-- A job ends: the carrier frees, the frame is settled and disposed of, and the region assigns again.
[log 145: DEDUCED] -/
def State.jobEnd (s : State) (r : Region) (c : Nat) (o : Outcome) : State :=
  let x := s.carrier r c
  match x.job with
  | none => s
  | some j => (((s.countOutcome r j o).carrierFree r c).jobOver r j o x.first).jobGone r

/-- The job an acknowledgement has put aside (R208) ends with an outcome. -/
def State.asideEnd (s : State) (r : Region) (c : Nat) (o : Outcome) : State :=
  let x := s.carrier r c
  match x.aside with
  | none => s
  | some j => (((s.countOutcome r j o).setCarrier r c { x with aside := none }).jobOver r j o 0).jobGone r

/-! Listen-before-talk. -/

/-- The correction record of a slot (R111). -/
def State.corrRec (s : State) (r : Region) (slot : Nat) : BitVec 256 := sget 0 (s.rad r).corr slot
/-- STATE of a slot's correction record. -/
def State.corrState (s : State) (r : Region) (slot : Nat) : Nat := getBits (s.corrRec r slot) (8 * 0x1D) 8

/-- Whether another carrier is on air on a slot (R209). -/
def State.slotOnAir (s : State) (r : Region) (c slot : Nat) : Bool :=
  (List.range 4).any (fun d => d != c && (s.carrier r d).onAir &&
    (match (s.carrier r d).job with | some q => q.slot == slot | none => false))

/-- Why the region refuses a transmission now, whatever its budget: the mode transmits nothing (R118), the slot has no correction
record (R112), the profile refuses it (R125) or bars its slot (R129): LATE; its airtime exceeds the limit (R130): TOO_LONG. A frame
discarded meanwhile starts no more. [log 192: DESIGN CHOICE] -/
def State.txRefused (s : State) (r : Region) (j : TxJob) : Option Outcome :=
  if (j.kind = .downlink ∨ j.kind = .flood) ∧ j.handle = none then some .discarded
  else if s.txMode = false ∨ s.corrState r j.slot = 0 ∨ s.profAllows r j.slot j.mode j.offset = false ∨
      (s.rad r).barred.contains j.slot then some .late
  else if s.txLimitMs * 1000 < j.airtime then some .tooLong
  else none

/-- Whether an acknowledgement has no time left before its start instant (R207, R230). -/
def State.ackLate (s : State) (r : Region) (j : TxJob) : Bool :=
  j.kind == .ack && decide (j.start < s.firstAt r)

/-- A command begins the procedure of R207, or waits, or ends at once (R112, R118, R119, R125, R130, R209). -/
def State.lbtBegin (s : State) (r : Region) (c : Nat) : State :=
  let x := s.carrier r c
  match x.job with
  | none => s
  | some j =>
    match if s.ackLate r j then some .late else s.txRefused r j with
    | some o => s.jobEnd r c o
    | none =>
      let s :=
        if s.slotOnAir r c j.slot ∨ s.jobBlocked r j then s.setCarrier r c { x with phase := .held }
        else if s.jobCca r j then s.backoff r c j 0 (s.slotF r j.slot 0x10 1) true
        else s.setCarrier r c { x with phase := .wait, due := s.t0For r j.start }
      s.coexPlan r

/-- Commands held under R119, and those whose slot was taken, go on when nothing holds them any longer; `held` only.
[log 125: DEDUCED] -/
def State.unhold (s : State) (r : Region) : State :=
  (List.range 4).foldl (fun s c =>
    let x := s.carrier r c
    match x.job with
    | some j => if x.phase == .held && ! s.jobBlocked r j then s.lbtBegin r c else s
    | none => s) s

/-- The tick at which the procedure of R207 for a strobe copy begins: its start instant less the PA lead and, where it needs
a CCA, less the CCA and the longest first backoff. [log 146: DEDUCED] -/
def State.copyDue (s : State) (r : Region) (j : TxJob) : Nat :=
  let cca := if s.jobCca r j then s.ccaDur r j.slot + (2 ^ s.slotF r j.slot 0x10 1 - 1) * 320 else 0
  max s.now (j.start - usTicks (4 + s.paOnUs r + cca))

/-- How a train without a copy left ends: NO_ACK (R226), or for a flood copy, which asks for no acknowledgement, SENT where one
went out (R263). -/
def TxJob.trainEnd (j : TxJob) : Outcome :=
  if j.kind = .flood then (if j.sentCopies = 0 then .channelBusy else .sent) else .noAck

/-- The train waits for its next copy, or without one ends (R226). [log 146: DEDUCED] -/
def State.strobeWait (s : State) (r : Region) (c : Nat) (j : TxJob) : State :=
  if j.copies = 0 then (s.setCarrier r c { s.carrier r c with job := some j }).jobEnd r c j.trainEnd
  else (s.setCarrier r c { s.carrier r c with phase := .gap, job := some j, due := s.copyDue r j }).coexPlan r

/-- The period of a strobe train in ticks. -/
def TxJob.period (j : TxJob) : Nat := usTicks (j.airtime + j.gapUs)

/-- The copy whose turn it is is skipped or withheld: the train goes on with the one after it (R226).
[log 27: DEDUCED] -/
def State.strobeSkip (s : State) (r : Region) (c : Nat) (j : TxJob) : State :=
  s.strobeWait r c { j with copies := j.copies - 1, start := j.start + j.period, opened := true }

/-- A CCA that finds the channel busy (R207, R226). [log 27: DEDUCED] -/
def State.ccaBusy (s : State) (r : Region) (c : Nat) (j : TxJob) : State :=
  let x := s.carrier r c
  let s := s.cnt (Reg.macCcaBusyCnt r.ix)
  if x.nb < s.slotF r j.slot 0x12 1 then
    (s.backoff r c j (x.nb + 1) (min (x.be + 1) (s.slotF r j.slot 0x11 1)) false).coexPlan r
  else if j.pre = .strobe then
    (s.cnt (Reg.macChannelBusyCnt r.ix)).strobeSkip r c j
  else s.jobEnd r c .channelBusy

/-- The number of an acknowledgement's job: its instant, its region and its node. -/
def TxJob.ackJobNo (j : TxJob) (r : Region) : Nat := (j.start * 3 + r.ix) * 2 ^ 18 + j.ackTo
/-- Whether an acknowledgement's job is still to be dispatched (R278). -/
def State.ackUndispatched (s : State) (r : Region) (j : TxJob) : Bool :=
  j.kind == .ack && (s.jobs.waiting ++ s.jobs.queued).any (fun x => x.kind == 4 && x.arg == j.ackJobNo r)

/-- The admission at t0: what the region refuses, then an acknowledgement whose job is not dispatched yet (R231, R278), a die link that
brings no samples (R102), then the budget (R211); with the outcome of a job refused. -/
def State.admitTx (s : State) (r : Region) (j : TxJob) : State × Option Outcome :=
  match s.txRefused r j with
  | some o => (s, some o)
  | none =>
    let sb := s.slotSub r j.slot
    if s.ackUndispatched r j ∨ s.dieC2f.up = false then (s, some .late)
    else if s.dutyOk r sb (j.airtime + 4) then (s, none)
    else (s.dutyRefused r sb, some .late)

/-! Steps and increments (R335, R337). -/

/-- Whether a carrier's job has not reached its t0. -/
def CPhase.beforeAir (p : CPhase) : Bool :=
  p == .assigned || p == .held || p == .wait || p == .backoff || p == .cca || p == .starting

/-- The booking of a downlink job. -/
def State.jobBooking (s : State) (r : Region) (j : TxJob) : Option Booking :=
  match j.kind, j.handle with
  | .downlink, some h => s.booking (4 * h)
  | .flood, some h => s.booking (4 * h + 1 + r.ix)
  | _, _ => none

/-- A downlink job of which nothing has been sent, with the ticks at which the timebase as it stands reaches its instants
(R335, R337). -/
def State.jobTimed (s : State) (r : Region) (j : TxJob) : TxJob :=
  match s.jobBooking r j with
  | some b => if j.opened ∨ j.sentCopies ≠ 0 then j else { j with start := s.startTick b, deadline := s.deadlineTick b }
  | none => j

/-- The tick a phase of a carrier ends at, after its job's start instant has moved: a wait for the instant, and a first backoff placed
before it, move with it. -/
def State.dueTimed (s : State) (r : Region) (x : Carrier) (old new : TxJob) : Nat :=
  match x.phase with
  | .wait => s.t0For r new.start
  | .starting => if x.due ≤ s.now then x.due else s.t0For r new.start
  | .backoff => if x.nb = 0 then max s.now (x.due + new.start - old.start) else x.due
  | _ => x.due

/-- The carriers' jobs after a step of the timebase or of its increment: instants stay those of the timebase (R335, R337).
[log 193: DEDUCED] -/
def State.jobsTimed (s : State) (r : Region) : State :=
  ((List.range 4).foldl (fun s c =>
    let x := s.carrier r c
    let s := s.setCarrier r c { x with aside := x.aside.map (s.jobTimed r) }
    match x.job with
    | some j =>
      if x.phase.beforeAir then
        let y := s.jobTimed r j
        s.setCarrier r c { s.carrier r c with job := some y, due := s.dueTimed r x j y }
      else s
    | none => s) s).coexPlan r

/-! The sequence of R116. -/

/-- The lowest of the four indices (R115), with its counts. -/
def State.powerClamp (s : State) (r : Region) (j : TxJob) : State × Nat :=
  let slot := s.slotF r j.slot 0x13 1
  let (m, sb) := match s.profile with
    | some p => (profMax p r.ix, profSb p r.ix (s.slotSub r j.slot) 0x10 1)
    | none => (0, 0)
  let used := min (min j.powerReq slot) (min m sb)
  if used < j.powerReq then
    ((s.cnt (Reg.rfcTxClampCnt r.ix)).when (decide (used = m) || decide (used = sb)) (·.stk (Reg.rfcStatus r.ix) 15), used)
  else (s, used)

/-- The CCAs of a region meet a sample that is invalid: they find the channel busy (R207). -/
def State.ccaSpoil (s : State) (r : Region) : State :=
  s.radUpd r fun d => { d with
    carriers := d.carriers.map (fun kv => (kv.1, if kv.2.phase = .cca then { kv.2 with spoiled := true } else kv.2)) }

/-- Receive samples become invalid: the ring marks them (R141), lanes that decode across them flag their frames, a CCA they fall
into is busy (R106, R207). -/
def State.samplesBad (s : State) (r : Region) : State :=
  let s := (s.ccaSpoil r).radUpd r fun d =>
    { d with invalid := true, rxValidAt := none, bad := if d.invalid then d.bad else s.spansKept d.bad ++ [(s.now, none)] }
  { s with lanes := s.lanes.map (fun kv =>
      (kv.1, kv.2.map (fun l => if l.region = r then { l with blanked := some (l.blanked.getD s.now) } else l))) }

/-- Receive samples are valid again. -/
def State.samplesGood (s : State) (r : Region) : State :=
  s.radUpd r fun d => { d with invalid := false, validFrom := s.now, rxValidAt := none, bad := s.spansEnd d.bad }

/-- A blanked interval of a SHARED antenna begins as its T/R lines leave 01, counted (R106); one that lasts goes on. -/
def State.blank (s : State) (r : Region) : State :=
  if (s.rad r).invalid then s.radUpd r fun d => { d with rxValidAt := none } else (s.samplesBad r).cnt (Reg.rfcTxBlankCnt r.ix)

/-- The lines leave the receive state: in SHARED a blanked interval begins, in SPLIT the samples are invalid while both paths
are off (R105, R106). [log 166: DEDUCED] -/
def State.linesOff (s : State) (r : Region) : State :=
  (if s.split r then s.samplesBad r else s.blank r).radUpd r (·.lines 0 none)

/-- RX_SETTLE_US in force, in ticks. -/
def Radio.settle (d : Radio) : Nat := usTicks (getBits d.timing 0 8)

/-- The lines go to the level they rest at (R118), unless a recalibration holds them at 00 (R109). At 01 samples become valid again: at once in SPLIT, RX_SETTLE_US later in
SHARED (R106). [log 166: DEDUCED] -/
def State.linesRest (s : State) (r : Region) : State :=
  if (s.rad r).recal.running.isSome then s
  else if s.trRest r = 0 then s.linesOff r
  else if (s.rad r).invalid = false then s.radUpd r (·.lines 1 none)
  else if s.split r then
    (s.radUpd r (·.lines 1 none)).samplesGood r
  else s.radUpd r fun d => { d.lines 1 none with rxValidAt := some (d.rxValidAt.getD (s.now + d.settle)) }

/-- The entry of POWER a job on air uses (R46): PA_BIAS and PA_EN_MASK. -/
def TxJob.paBias (j : TxJob) : Byte := BitVec.ofNat 8 (getBits j.air.entry 32 8)
def TxJob.paMode (j : TxJob) : Bool := j.air.entry.getLsbD 41
/-- The digital amplitude of a job's carrier in units of 2^−17 of full scale, clipped to it (R114). -/
def TxJob.amplitude (j : TxJob) : Nat := min (getBits j.air.entry 0 32) 0x20000

/-- The job of highest power index, the first on a tie. -/
def strongest : List TxJob → Option TxJob
  | [] => none
  | x :: xs =>
    match strongest xs with
    | none => some x
    | some y => if x.power < y.power then some y else some x

/-- What `PABIAS_x` and `PAMODE_x` drive while `PAEN_x` is high follows the highest power index on air (R114). -/
def State.biasSet (s : State) (r : Region) : State :=
  match strongest ((s.carriersOn r).filterMap (fun c => (s.carrier r c).job)) with
  | some j => s.radUpd r fun d => { d with paBias := j.paBias, paMode := j.paMode }
  | none => s

/-- The lines at t0 (R105, R116): in SHARED T/R to 00 at once, in both to the transmit state 1 µs later, `PAEN_x` high 2 µs
later. -/
def State.linesUp (s : State) (r : Region) : State :=
  let at1 := s.now + usTicks 1
  let s := if s.split r then s else s.blank r
  s.radUpd r fun d =>
    { d.lines (if s.split r then d.trAt s.now else 0) (some (at1, if s.split r then 3 else 2)) with
      paEn := true, paHighAt := s.now + usTicks 2, paOff := none, rxValidAt := none }

/-- The lines when `PAEN_x` falls: bias and mode fall with it (R114); in SHARED T/R to 00, and to rest 1 µs later, samples valid
RX_SETTLE_US after that (R116); where the lines rest at 00, or the region is isolated, they stay there. -/
def State.linesDown (s : State) (r : Region) (isolate : Bool) : State :=
  let at1 := s.now + usTicks 1
  let s := s.radUpd r fun d =>
    { d with paEn := false, paLowAt := if d.paAt s.now then s.now else d.paLowAt, paOff := none, paBias := 0, paMode := false }
  let s :=
    if isolate ∨ s.trRest r = 0 then s.linesOff r
    else s.radUpd r fun d =>
      { d.lines (if s.split r then d.trAt s.now else 0) (some (at1, 1)) with
        rxValidAt := if d.invalid then some (at1 + d.settle) else none }
  s.coexPlan r

/-- A Vendor Specific Header IE: its descriptor, with the length, element ID 0x00 and type 0, then its content (R213). -/
def headerIe (content : Bytes) : Bytes := toLE 2 (content.length % 128) ++ content

/-- The content of a Vendor Specific Header IE, none where the octets are of another IE (R213). -/
def headerIeContent (ie : Bytes) : Option Bytes :=
  let d := le ie 0 2
  if 2 ≤ ie.length ∧ d / 128 = 0 ∧ d % 128 = ie.length - 2 then some (ie.drop 2) else none

/-- The frame of a beacon, an Enh-Beacon whose time IE carries the beacon's own timestamp (R205, R236, R237). [log 5: PRESUMED] -/
def State.beaconFrame (s : State) (seq : Byte) (raw : Nat) : Bytes :=
  let oui := s.rf Reg.macRdvOui 0 24
  let ie := if oui = 0 then [] else
    headerIe <| toLE 3 oui ++ [3] ++ toLE 6 (raw / 2 ^ 32 / 1000000000) ++ toLE 4 (raw / 2 ^ 32 % 1000000000) ++
      toLE 1 ((s.rb Reg.tsuCtrl 31).toNat * 128)
  ({ kind := 0, version := 2, seq := seq.toNat, pending := false, ackReq := false, pan := s.selfPan, dst := .none, src := s.selfExt,
     sec := none, ies := ie } : TxMhr).octets

/-- What a transmission takes at t0. -/
def State.txAir (s : State) (r : Region) (j : TxJob) (power : Nat) : TxAir :=
  { entry := BitVec.ofNat 64 (le (s.sec 6) ((r.ix * 64 + power) * 8) 8), corr := s.corrRec r j.slot, limitMs := s.txLimitMs,
    codes := if j.mode = 4 then (s.lmap r j.map).codes else 0, fsk := s.rg (Reg.txpFskCtrl r.ix), pick := s.freeCtr, trim := none, holes := [] }

/-- A transmission is without the front die's permission from one tick to another (R450). -/
def TxJob.hole (j : TxJob) (a b : Nat) : TxJob := { j with air := { j.air with holes := j.air.holes ++ [(a, b)] } }

/-- A transmission starts at t0: power index, airtime charge, lines (R115, R116, R210). A carrier that starts while the PA
settles ramps up with the first one, and none before its start instant less 2 µs. -/
def State.txBegin (s : State) (r : Region) (c : Nat) (j : TxJob) : State :=
  let (s, power) := s.powerClamp r j
  let us := j.airtime + 4
  let sb := s.slotSub r j.slot
  let s := s.dutyCharge r sb us
  let s := if j.kind = .ack ∨ j.kind = .beacon then s.sbCharge r sb (us * 1000 : Nat) else s
  let j := { j with power := power, charged := j.charged + us, air := s.txAir r j power }
  let s := s.used.attempted j
  let s := s.radUpd r fun d => { d with timing := s.rg (Reg.rfcTiming r.ix) }
  let x := s.carrier r c
  let d := s.rad r
  let first := max j.start (s.firstAt r)
  let j := if j.kind = .beacon then { j with frame := s.beaconFrame j.seq (s.txStamp r j first) } else j
  let settling : Carrier := { x with phase := .settle, job := some j, t0 := s.now, first := first, due := first - usTicks 2 }
  let s :=
    if d.paAt s.now ∧ first ≤ s.now + usTicks 2 then
      s.setCarrier r c { settling with phase := .onAir, due := first + usTicks j.airtime }
    else if d.paEn then s.setCarrier r c settling
    else (s.linesUp r).setCarrier r c settling
  (s.radUpd r fun d => { d with paOff := none }).biasSet r

/-- The carriers that had put t0 off decide again, now that `PAEN_x` is to fall: one whose start instant comes after the fall takes
t0 at once, or where there is still time as if the PA were off (R116). [log 191: DEDUCED] -/
def State.t0Again (s : State) (r : Region) : State :=
  (List.range 4).foldl (fun s c =>
    let x := s.carrier r c
    match x.job with
    | some j =>
      if x.phase == .starting && decide (s.now < x.due) && ! s.t0Wait r j.start then
        s.setCarrier r c { x with due := s.t0For r j.start }
      else s
    | none => s) s

/-- The ramp-down of the last carrier on air has begun: `PAEN_x` falls after a time; the bias of those left follows. -/
def State.airEnd (s : State) (r : Region) (us : Nat) : State :=
  if (s.carriersOn r).isEmpty then
    (s.radUpd r fun d => { d with paOff := if d.paEn && d.paOff.isNone then some (s.now + usTicks us) else d.paOff }).t0Again r
  else s.biasSet r

/-- Commands that waited go on and the arbiter looks again, after something on the region's air has changed. -/
def State.airMoved (s : State) (r : Region) : State := (s.unhold r).coexGrant r

/-- Every carrier of a region mutes (R120, R88): those on air end with one outcome, the rest of the jobs, those put aside among them, with
another.
[log 36: DEDUCED] -/
def State.muteRegion (s : State) (r : Region) (onAir other : Outcome) (isolate : Bool) : State :=
  let ids := (List.range 4).filter (fun c => (s.carrier r c).job.isSome)
  let air := s.carriersOn r
  let s := if (s.rad r).paEn then s.linesDown r isolate else if isolate then s.linesOff r else s.linesRest r
  let s := ids.foldl (fun s c => s.asideEnd r c other) s
  ids.foldl (fun s c => s.jobEnd r c (if air.contains c then onAir else other)) s

/-- The blind time B in µs of a region's recalibration (R109). -/
def State.blindUs (s : State) (r : Region) : Nat :=
  if s.loCount r ≤ 1 then 320 else s.loCount r * 20 + (s.loCount r - 1) * 300

/-- Of a recalibration of `n` centres, some µs in: the centre the LO is on or hopping to, and whether it is locked there. Each hop
takes 20 µs and each measurement 300 µs; the last hop leads back to centre 0 (R109). [log 167: DEDUCED] -/
def calCentre (n us : Nat) : Nat × Bool :=
  if n ≤ 1 then (0, decide (20 ≤ us))
  else if us / 320 < n - 1 then (us / 320 + 1, decide (20 ≤ us % 320))
  else (0, false)

/-- Whether two sections hold the same for a region: of REGIONS and CALIB its record, of SLOTS its slots (R66). -/
def State.ownSame (s : State) (im : Image) (r : Region) (i : Nat) : Bool :=
  match i with
  | 1 => slice (im.sec 1) (24 * r.ix) 24 == slice (s.sec 1) (24 * r.ix) 24
  | 3 => slotsOf (im.sec 3) r.ix == slotsOf (s.sec 3) r.ix
  | _ => slice (im.sec 7) (80 * r.ix) 80 == slice (s.sec 7) (80 * r.ix) 80

/-- Whether an application of an image calibrates a region: powered under it, its front domain in the image's mask of the mode, its
own REGIONS, SLOTS or CALIB content changed (R66 step 4). -/
def State.calWith (s : State) (im : Image) (r : Region) : Bool :=
  let u : State := { s with str := { s.str with active := some im } }
  u.powered r && (u.modeMask s.sys.mode).getLsbD (r.frontDom - 1) && ! ([1, 3, 7] : List Nat).all (s.ownSame im r)

/-- The region's step 4 of an application in progress has begun, at a free time within the 80 ms of R66. [log 167: DEDUCED] -/
def State.calibrating (s : State) (r : Region) : Bool :=
  match s.str.applying, s.sys.transition with
  | some (im, _), some x => s.calWith im r && decide (x.since + (Config.calFrom r.ix x.since).toNat % msTicks 80 ≤ s.now)
  | _, _ => false

/-- The centre a region's LO is on or hopping to, and LO_LOCK (R107, R136). While an application calibrates the region, its course
is not given. [log 167: DEDUCED] -/
def State.loAt (s : State) (r : Region) : Nat × Bool :=
  let d := s.rad r
  match d.recal.running with
  | some e => calCentre (s.loCount r) (ticksUs (s.now - (e - usTicks d.recal.blindUs)))
  | none =>
    if s.calibrating r ∧ s.domOn r.frontDom then
      let w := Config.calLo r.ix s.now
      (getBits w 1 2, w.getLsbD 0)
    else (d.centre.val, d.loLocked)

/-- Whether a carrier leaves a recalibration its time (R110): no acknowledgement awaited, which in a strobe train that asks for
one is each of its gaps, and no transmission due to start up to a tick. -/
def Carrier.clearTo (x : Carrier) (tick : Nat) : Bool :=
  match x.job with
  | none => true
  | some j =>
    match x.phase with
    | .idle => true
    | .ackWait => false
    | .withheld => false
    | .gap => ! j.wantAck && (decide (j.copies = 0) || decide (tick < j.start))
    | _ => decide (tick < j.start)

/-- Whether a booking that no carrier has yet starts by a tick. -/
def State.bookedBy (s : State) (r : Region) (tick : Nat) : Bool :=
  s.porch.bookings.any (fun kv => match kv.2 with
    | some b => b.region == r && ! b.assigned && decide (s.startTick b ≤ tick)
    | none => false)

/-- Whether a beacon waits for a carrier, or its instant comes by a tick (R236). -/
def State.beaconBy (s : State) (r : Region) (tick : Nat) : Bool :=
  let p := s.beaconMs r * 1000000 * 2 ^ 32
  (s.mac.get r).beacon.isSome || (p != 0 && s.txMode && decide (s.tbRawAt tick / p ≠ s.tbRaw / p))

/-- No carrier on air, and past the deferral limit or with nothing due or awaited within a time (R110). -/
def State.recalClear (s : State) (r : Region) (within : Nat) : Bool :=
  let by_ := s.now + within
  (s.carriersOn r).isEmpty && ((s.rad r).recal.forced ||
    ((List.range 4).all (fun c => (s.carrier r c).clearTo by_) && ! s.bookedBy r by_ && ! s.beaconBy r by_))

end Sys2Proof.Machine
end

