-- ==== Sys2Proof/Machine/Dls.lean ====
section
/-! DEFINITION. Machine/Dls.lean: the commands of downlink scheduling (chapter 10). -/

namespace Sys2Proof.Machine

/-- Nodes with a booking in a ready set of which no carrier has had any part. -/
def State.readyNodes (s : State) : List Nat :=
  (s.porch.bookings.filterMap (fun kv =>
    match kv.2 with
    | some b => if kv.1 % 4 = 0 ∧ b.released ∧ b.assigned = false then some (kv.1 / 4) else none
    | none => none))

/-- The frames of ready bookings whose lifetime has run expire (R307). -/
def State.expireReady (s : State) : State :=
  s.readyNodes.foldl (fun s h =>
    match s.queue h with
    | f :: _ => if s.expired f then (s.frameExpire h).nextFrame h else s
    | [] => s) s

/-- SHAPER_REFILL (R317): what was written since takes effect, every bucket refills, expiry is looked at, and the regions
assign. -/
def execShaperRefill (t : Nat) (s : State) : Host.Outcome State Fault Refusal :=
  s.act t fun s =>
    if s.domOn 9 ∧ s.boundaryDue 1000000 s.dls.lastRefill then
      let s := s.dlsTakeEffect
      let s : State := { s with dls := { s.dls with lastRefill := some s.now } }
      let s := allRegions.foldl (fun s r => s.refillRegion r) s
      allRegions.foldl (fun s r => s.assign r) s.expireReady
    else s

/-- DLS_HISTOGRAM_SAMPLE (R322). [log 101: DEDUCED] -/
def execDlsHistogramSample (r : Region) (t : Nat) (s : State) : Host.Outcome State Fault Refusal :=
  s.act t fun s =>
    if s.domOn 9 ∧ s.sampleMs r ≠ 0 ∧ s.boundaryDue (s.sampleMs r * 1000000) (s.dlsR r).lastSample then s.dlsSample r else s

/-- DLS_HIST_CLEAR (R322): CLEAR reads 1 until the next sample. -/
def execDlsHistClear (r : Region) (s : State) : Host.Outcome State Fault Refusal :=
  s.go fun s => if s.domOn 9 then s.stk (Reg.dlsHistCtrl r.ix) 31 else s.unmapped

/-- The sixteen bins of a histogram. -/
def State.histWords (s : State) (r : Region) (c kind : Nat) : List Word :=
  (List.range 16).map (fun b => sget 0 (s.dlsR r).hist (histKey c kind b))

/-- DLS_HIST_DATA_READ (R323): bin 0 latches the histogram; BIN advances. The latch holds the histogram's key before its
bins. -/
def execDlsHistDataRead (r : Region) (s : State) : Host.Outcome State Fault Refusal :=
  s.go fun s =>
    if s.domOn 9 then
      let a := Reg.dlsHistSel r.ix
      let b := s.rf a 0 4
      let key := histKey (s.rf a 16 10) (s.rf a 8 1) 0
      let live := s.histWords r (s.rf a 16 10) (s.rf a 8 1)
      let s := if b = 0 then s.dlsUpd r fun d => { d with latch := BitVec.ofNat 32 key :: live } else s
      let words := match (s.dlsR r).latch with
        | k :: l => if k.toNat = key then l else live
        | [] => live
      { s.setRf a 0 4 (b + 1) with readData := (words.getD b 0).zeroExtend 64 }
    else { s with readData := 0 }

end Sys2Proof.Machine
end

