-- ==== Sys2Proof/Machine/NvOps.lean ====
section
/-! DEFINITION. Machine/NvOps.lean: the NV settings (R437–R439), the update lock (R428) and the boot banks as the running
firmware sees them (R421–R423). -/

namespace Sys2Proof.Machine

/-! NV settings. -/

/-- The settings a set has before anything was written (log entry 29). [log 29: DEDUCED] -/
def NvCopy.blank : NvCopy := ⟨0, 3, 0, [], Trial.reset, 0⟩

/-- A record of the settings: ID, LEN, data padded to 4 bytes (R437). -/
def nvRecord (id : Nat) (data : Bytes) : Bytes := toLE 2 id ++ toLE 2 data.length ++ data ++ zeros (ceilDiv data.length 4 * 4 - data.length)

/-- The TRIAL record's data (R437). -/
def Trial.bytes (x : Trial) : Bytes :=
  toLE 1 x.bank.toNat ++ toLE 1 (x.active.toNat + 2 * x.rejectedA.toNat + 4 * x.rejectedB.toNat) ++ toLE 1 x.starts ++ [0] ++ toLE 4 x.left ++
    toLE 8 x.counter

/-- The records of a copy (R437). -/
def NvCopy.records (c : NvCopy) : Bytes :=
  nvRecord 1 (toLE 1 c.startMode) ++ nvRecord 2 (toLE 1 c.defaultSlot) ++
    nvRecord 3 ((List.range 48).flatMap fun k => toLE 4 (sget 0 c.duty k)) ++ nvRecord 4 c.trial.bytes

/-- The header of a copy up to its CRC (R437). -/
def NvCopy.header (c : NvCopy) (format : Nat) : Bytes :=
  [0x45, 0x56, 0x4E, 0x56] ++ toLE 2 format ++ zeros 2 ++ toLE 8 c.counter ++ toLE 4 c.records.length ++ zeros 8

/-- The CRC-32C over a copy's header and records (R437). -/
def NvCopy.crcOf (c : NvCopy) (format : Nat) : Word := crc32c (c.header format ++ c.records)

/-- A copy as it is written. -/
def NvCopy.sealed (c : NvCopy) (format : Nat) : NvCopy := { c with crc := c.crcOf format }

/-- A copy of a set that is written and whose CRC holds. -/
def NvSet.good (x : NvSet) (c : Option NvCopy) : Option NvCopy := c.filter fun y => y.crc == y.crcOf x.format

/-- The copy of a set that counts: the higher COUNTER, copy A between equals (R439). [log 29: DEDUCED] -/
def NvSet.pick (x : NvSet) : Option NvCopy :=
  match x.good x.a, x.good x.b with
  | some a, some b => if a.counter < b.counter then some b else some a
  | some a, none => some a
  | none, b => b

/-- A set of the NV settings: 0 or 1. -/
def State.nvSet (s : State) (i : Nat) : NvSet := if i = 0 then s.upd.nv0 else s.upd.nv1
/-- Store a set. -/
def State.setNvSet (s : State) (i : Nat) (x : NvSet) : State :=
  if i = 0 then { s with upd := { s.upd with nv0 := x } } else { s with upd := { s.upd with nv1 := x } }

/-- The NV_FORMAT of the running firmware; the one format this manual gives where no firmware has been started. -/
def State.nvFormat (s : State) : Nat := max 1 (s.fwField 0x14 2)

/-- The set whose NV_FORMAT is the running firmware's (R438). -/
def State.nvOwn (s : State) : Option Nat :=
  ([0, 1] : List Nat).find? (fun i => (s.nvSet i).format == s.nvFormat && (s.nvSet i).pick.isSome)

/-- The settings the running firmware reads. -/
def State.nv (s : State) : NvCopy :=
  match s.nvOwn with
  | some i => (s.nvSet i).pick.getD NvCopy.blank
  | none => NvCopy.blank

/-- A change of a set: copy B, then copy A, each at COUNTER + 1. -/
def NvSet.write (x : NvSet) (f : NvCopy → NvCopy) : NvSet :=
  let c := f (x.pick.getD NvCopy.blank)
  let c := { c with counter := c.counter + 1 }.sealed x.format
  { x with a := some c, b := some c }

/-- A record of the running firmware's own set changes. -/
def State.nvWrite (s : State) (f : NvCopy → NvCopy) : State :=
  match s.nvOwn with
  | some i => s.setNvSet i ((s.nvSet i).write f)
  | none => s

/-- A shared record changes, in both sets that exist (R438). -/
def State.nvShared (s : State) (f : NvCopy → NvCopy) : State :=
  ([0, 1] : List Nat).foldl (fun s i => if (s.nvSet i).pick.isSome then s.setNvSet i ((s.nvSet i).write f) else s) s

/-- The set a build starts from: that of the firmware the other pair has kept, which its fall-back needs, else the first there is. -/
def State.nvFrom (s : State) : Nat :=
  let old := (s.upd.oldFw.map fun x => max 1 (le x.2.2 0x14 2)).getD 0
  if (s.upd.nv1.pick.isSome && s.upd.nv1.format == old) || s.upd.nv0.pick.isNone then 1 else 0

/-- At a start the running firmware finds its set, or builds one from the other in the area that does not occupy (R438),
and resolves copies that differ at equal COUNTER (R439). -/
def State.nvStart (s : State) : State :=
  let s := match s.nvOwn with
    | some _ => s
    | none =>
      let c := ((s.nvSet s.nvFrom).pick.getD NvCopy.blank).sealed s.nvFormat
      s.setNvSet (1 - s.nvFrom) ⟨s.nvFormat, some c, some c⟩
  ([0, 1] : List Nat).foldl (fun s i =>
    match (s.nvSet i).good (s.nvSet i).a, (s.nvSet i).good (s.nvSet i).b with
    | some a, some b =>
      if a.counter = b.counter ∧ a ≠ b then
        ((s.setNvSet i { s.nvSet i with b := some a }).stk Reg.updStatus 5).cell 0x54 (0x80000 * i) 0 0
      else s
    | _, _ => s) s

/-- The sub-band totals as the DUTY record keeps them: ms, keyed by region × 16 + sub-band (R212). [log 73: DEDUCED] -/
def State.dutySave (s : State) : State :=
  let d := (List.range 48).foldl (fun m k =>
    sput 0 m k (ceilDiv (s.dutyTotal (Region.ofIx (k / 16)) (k % 16)) 1000)) ([] : Sparse Nat)
  let s := s.nvShared (fun c => { c with duty := d })
  { s with upd := { s.upd with dutyAt := s.now } }

/-- At a start the last saved totals are charged to the present second (R212). -/
def State.dutyLoad (s : State) : State :=
  s.nv.duty.foldl (fun s kv => s.dutyCharge (Region.ofIx (kv.1 / 16)) (kv.1 % 16) (kv.2 * 1000)) s

/-! The update lock (R428). Holders: 1 STR, 2 offer, 3 key update or profile, 4 and 5 Ethernet ports, 6 twin link, 7
recovery PCIe. -/

/-- The lock held by a holder from now on. [log 59: DEDUCED] -/
def State.lockTake (s : State) (h : Nat) : State :=
  { s with upd := { s.upd with lock := some h, lockAt := s.now } }
/-- The lock released, and its holder's session closed. -/
def State.lockFree (s : State) : State :=
  { s with upd := { s.upd with lock := none, sessions := match s.upd.lock with
                                                          | some h => sdel s.upd.sessions h
                                                          | none => s.upd.sessions } }

/-- A source answered SLOT_BUSY: the sticky field, the count, one record that names both sources. -/
def State.slotBusy (s : State) (source : Nat) : State :=
  match s.upd.lock with
  | some h => ((s.stk Reg.updStatus 2).cnt Reg.updSlotBusyCnt).cell 0x50 h source 0
  | none => s

/-- Result of a session or offer in `UPD.LAST_RESULT`. -/
def State.lastResult (s : State) (holder result : Nat) : State :=
  s.setRg Reg.updLastResult (BitVec.ofNat 32 (holder * 2 ^ 24 + result))

/-! The flash. -/

/-- What the flash holds at which address and in how many bytes (R422): the boot banks, then the structure-image slots. Nothing above
0x070_0000 is read or written. -/
def flashMap : List (Nat × Nat) := [(0x000000, 0x100000), (0x100000, 0x100000)] ++ (List.range 4).map fun k => (0x200000 + 0x140000 * k, 0x140000)

/-- Bytes laid over others from an offset on; what nothing has written reads 0xFF. [log 201: PRESUMED] -/
def flashLay (c : Bytes) (o : Nat) (x : Bytes) : Bytes := c.take o ++ List.replicate (o - c.length) 0xFF ++ x ++ c.drop (o + x.length)

/-- A programmer writes bytes to the flash from an address on: each area takes what falls in it (R422, R444). -/
def State.flashWrite (s : State) (a : Nat) (x : Bytes) : State :=
  flashMap.zipIdx.foldl (fun s m =>
    let lo := max a m.1.1
    let hi := min (a + x.length) (m.1.1 + m.1.2)
    let part := slice x (lo - a) (hi - lo)
    if hi ≤ lo then s
    else if m.2 < 2 then { s with upd := { s.upd with banks := sput [] s.upd.banks m.2 (flashLay (sget [] s.upd.banks m.2) (lo - m.1.1) part) } }
    else { s with upd := { s.upd with slots := sput [] s.upd.slots (m.2 - 2) (flashLay (sget [] s.upd.slots (m.2 - 2)) (lo - m.1.1) part) } }) s

/-! Boot banks. -/

/-- The container in a bank: empty where nothing whole was written. -/
def State.bank (s : State) (b : Nat) : Bytes := sget [] s.upd.banks b
/-- What a firmware container must satisfy (R421). -/
def State.fwRule (s : State) : ContainerRule :=
  { type := 2, minLen := 64, maxLen := 786496, stated := none, deviceId := s.key.deviceId, minCounter := s.upd.fwMin,
    keys := [Config.provisioningRoot] }
/-- What firmware asks of a firmware container: nothing verifies while the engines of a signature are out of service.
[log 189: DESIGN CHOICE] -/
def State.fwRuleNow (s : State) : ContainerRule := if s.canVerify then s.fwRule else { s.fwRule with keys := [] }
/-- COUNTER of a bank as its header gives it; 0 when the header fails. -/
def State.bankCounter (s : State) (b : Nat) : Nat :=
  if (s.bank b).length < 64 ∨ slice (s.bank b) 0 4 ≠ [0x45, 0x56, 0x53, 0x49] ∨
      le (s.bank b) 0x38 4 ≠ (crc32c (slice (s.bank b) 0 0x38)).toNat then 0
  else conCounter (s.bank b)
/-- COUNTER of the firmware that runs. -/
def State.runningCounter (s : State) : Nat := s.upd.running

end Sys2Proof.Machine
end

