-- ==== Sys2Proof/Machine/KeyStore.lean ====
section
/-! DEFINITION. Machine/KeyStore.lean: lifecycle (R381–R383), the two-slot key store (R392–R395), derivation (R397),
zeroisation of the keys (R410), and the checks of owner messages (R384–R387, R416). -/

namespace Sys2Proof.Machine

/-- The lifecycle in force: FIELD_DEBUG is a latch over FIELD (R383). [log 79: DEDUCED] -/
def State.lifecycle (s : State) : Lifecycle :=
  if s.key.debugLatch ∧ s.key.lifecycle = .field then .fieldDebug else s.key.lifecycle

/-- The code of a lifecycle state (R381). -/
def Lifecycle.code : Lifecycle → Nat
  | .blank => 0 | .field => 1 | .fieldDebug => 2 | .zeroized => 3 | .returned => 4

/-- Whether the tamper policy is armed: as the store in force or, before it is checked, the live slot says. -/
def State.armed (s : State) : Bool :=
  match s.key.live with
  | some x => x.armed
  | none => (s.key.liveSlot.store.map (·.armed)).getD false

/-- Change the Strongroom. -/
def State.keyUpd (s : State) (f : Key → Key) : State := { s with key := f s.key }

/-- A network KEK of a store in clear, as the working key register takes it (R399). -/
def Key.clear (k : Key) (x : Option (Nat × Sealed)) : Option (Nat × Bytes) := x.bind fun g => (k.unwrap g.2).map fun b => (g.1, b)

/-- Load the working key register from a store; a previous generation opens a window and restarts the sweep (R399,
R405, R408). -/
def State.keyLoad (s : State) (x : KeyStore) : State :=
  s.keyUpd fun k => { k with
    cur := k.clear x.kek, prev := k.clear x.prev,
    windowEnd := if x.prev.isSome then some (s.now + secTicks x.rolloverS) else none,
    sweep := if x.prev.isSome then some 0 else none, sweepAt := s.now }

/-- Clear the working key register (R399). -/
def State.keyClear (s : State) : State :=
  s.keyUpd fun k => { k with cur := none, prev := none, windowEnd := none, sweep := none }

/-- An event that the Hearth latched in OFF makes the part ZEROIZED at the next start (R410). -/
def State.offTamperTake (s : State) : State :=
  s.keyUpd fun k => { k with lifecycle := if k.offTamper ∧ k.lifecycle = .field then .zeroized else k.lifecycle, offTamper := false }

/-- A new root key and device key pair (R411). -/
def State.keyRegen (s : State) : State :=
  let root := Config.newRoot s.freeCtr
  let priv := Config.newDevPriv s.freeCtr
  s.used.keyUpd fun k =>
    { k with root := some root, devPriv := some ⟨root, priv⟩, devPub := Config.newDevPub s.freeCtr, regenDue := false }

/-- A line of the commit record written (R392, R393): LIVE, STORE_GEN and the counter with their CRC-32C. -/
def Key.commitWrite (k : Key) (live : Bool) (gen counter : Nat) : Key :=
  let x := { k with commitLive := live, commitGen := gen, counter := counter }
  { x with commitCrc := crc32c x.commitLine }

/-- Steps 1 to 4 and 6 of R393: the new image goes to the slot that LIVE does not name, the commit record names it, and the other slot
takes the copy. [log 81: DEDUCED] -/
def State.storeCommit (s : State) (x : KeyStore) (counter : Nat) : State :=
  let y := { x with gen := s.key.commitGen + 1 }
  let slot : KeySlot := ⟨some y, s.key.root.getD [], true⟩
  (s.keyUpd fun k => { k.commitWrite (! k.commitLive) y.gen counter with slotA := slot, slotB := slot }).event 0x106

/-- A change of the store committed (R393): the working key register is loaded (R399). A previous generation that an integrity failure
kept back opens its window now. [log 81: DEDUCED] -/
def State.keyCommit (s : State) (x : KeyStore) (counter : Nat) : State :=
  (s.storeCommit x counter).keyUpd fun k =>
    { k with integrity := false, engineOwner := x.owner, cur := k.clear x.kek, prev := k.clear x.prev
             windowEnd := if x.prev.isSome then some (k.windowEnd.getD (s.now + secTicks x.rolloverS)) else none
             sweep := if x.prev.isNone then none else if k.windowEnd.isSome then k.sweep else some 0 }

/-- A commit of the counter alone: step 4 of R393, which is the commit. -/
def State.counterCommit (s : State) (counter : Nat) : State :=
  (s.keyUpd fun k => k.commitWrite k.commitLive k.commitGen counter).event 0x106

/-- The store of a slot at the commit record's STORE_GEN, where the slot is intact (R394). -/
def Key.slotAt (k : Key) (x : KeySlot) : Option KeyStore :=
  match x.store with
  | some y => if k.intact x && y.gen == k.commitGen then some y else none
  | none => none

/-- The check of the store at a start or a wake (R394), with the lifecycle change an event in OFF left (R410) and the new keys of a
ZEROIZED part (R411). A repair is a change of the store (R393). -/
def State.keyCheck (s : State) : State :=
  let s := (s.when s.key.offTamper (·.stk Reg.keyTrouble 0)).offTamperTake
  let s := s.when (s.key.regenDue && s.key.lifecycle == .zeroized) (·.keyRegen)
  let s := s.keyUpd fun k => { k with checked := true, integrity := false }
  let k := s.key
  let bad (s : State) : State :=
    ((s.keyUpd fun k => { k with integrity := true, engineOwner := k.agreedStore.owner }).stk Reg.keyTrouble 5).cell 0x42
      k.commitGen 0 0
  let good (s : State) (x : KeyStore) : State := (s.keyUpd fun k => { k with engineOwner := x.owner }).keyLoad x
  let mend (s : State) (x : KeyStore) (slot : Nat) : State :=
    ((s.storeCommit x k.counter).stk Reg.keyTrouble 1).cell 0x41 slot k.commitGen 0
  if (k.lifecycle = .blank ∨ k.lifecycle = .zeroized) ∧ k.slotA.store = none ∧ k.slotB.store = none then s
  else if k.commitOk = false then bad s
  else
    match k.slotAt k.slotA, k.slotAt k.slotB with
    | some a, some b => if a = b then good s a else bad s
    | some a, none => good (mend s a 1) a
    | none, some b => good (mend s b 0) b
    | none, none => bad s

/-- Keys erased (R410): the working key register, the key cells, both slots. -/
def State.keyErase (s : State) : State :=
  (s.keyUpd fun k =>
    { k with cur := none, prev := none, windowEnd := none, sweep := none, slotA := KeySlot.erased, slotB := KeySlot.erased,
             root := none, devPriv := none, engineOwner := none, staleJobs := [], integrity := false })

/-! Owner messages. -/

/-- The fields of the envelope (R384). -/
def omCounter (b : Bytes) : Nat := le b 0x18 8
def omBodyLen (b : Bytes) : Nat := le b 0x20 4
def omSigner (b : Bytes) : Nat := byteAt b 0x24
def omBody (b : Bytes) : Bytes := slice b 0x40 (omBodyLen b)

/-- Whether the envelope is well formed: MAGIC, TYPE, FORMAT, BODY_LEN, reserved bytes (R385 value 1). -/
def omFormat (type : Nat) (bodyOk : Nat → Bool) (b : Bytes) : Bool :=
  (slice b 0 4 == [0x45, 0x56, 0x4F, 0x4D]) && le b 4 2 == type && le b 6 2 == 1 && bodyOk (omBodyLen b) &&
    decide (b.length = 0x40 + omBodyLen b + 64) && slice b 0x25 27 == zeros 27

/-- The key that a SIGNER names (R384, R400). -/
def State.signerKey (s : State) (signer : Nat) : Option Bytes :=
  if signer = 1 then some Config.provisioningRoot
  else if s.lifecycle = .fieldDebug then s.key.engineOwner
  else s.key.live.bind (·.owner)

/-- Whether the signature verifies. [log 189: DESIGN CHOICE] -/
def State.omSigned (s : State) (b : Bytes) : Bool :=
  match s.signerKey (omSigner b) with
  | some pub => s.canVerify && Config.ecdsaVerify pub (Config.sha256 (b.take (0x40 + omBodyLen b))) (slice b (0x40 + omBodyLen b) 64)
  | none => false

/-- Whether the store is INTEGRITY with no agreed owner authority key (R395). -/
def State.noOwner (s : State) : Bool := s.key.integrity && (s.key.live.bind (·.owner)).isNone

/-- Checks 1 to 5 of R385 in order: a DEVICE_ID of zero is not accepted (R384); `permitted` is the test of value 4, the SIGNER's
among it. None: all pass. -/
def State.omCheck (s : State) (format permitted : Bool) (b : Bytes) : Option Nat :=
  if format = false then some 1
  else if slice b 8 16 ≠ s.key.deviceId ∨ slice b 8 16 = zeros 16 then some 2
  else if omCounter b ≤ s.key.counter then some 3
  else if permitted = false then some 4
  else if s.omSigned b = false then some 5
  else none

/-- An owner message refused: counted, recorded, answered (R385). -/
def State.omRefuse (s : State) (type result : Nat) (b : Bytes) : State × Nat × Bytes :=
  ((s.cnt Reg.keyMsgRefusedCnt).msgRefused type result (omCounter b), result, [])


end Sys2Proof.Machine
end

