-- ==== Sys2Proof/Machine/TwinOps.lean ====
section
/-! DEFINITION. Machine/TwinOps.lean: the twin link's frames, delivery and state (R454–R458), the health word (R466), the
streams the active package sends (R461, R462, R464) and what the standby applies of them. -/

namespace Sys2Proof.Machine

/-- Change the twin state. -/
def State.twinUpd (s : State) (f : Twin → Twin) : State := { s with twin := f s.twin }
/-- Change the link. -/
def State.linkUpd (s : State) (f : TwinLink → TwinLink) : State := { s with twin := { s.twin with l := f s.twin.l } }

/-- A frame waits to be sent. -/
def State.twinSay (s : State) (type : Byte) (payload : Bytes) : State :=
  s.linkUpd fun l => { l with outQueue := l.outQueue ++ [(type, payload)] }

/-- LINK changes: source 0x120 (R475). -/
def State.setLink (s : State) (n : Nat) : State :=
  if s.twin.l.link = n then s else (s.linkUpd fun l => { l with link := n }).event 0x120

/-- The twin-link key (R389). -/
def State.twinKey (s : State) : Option Bytes := (s.key.live.bind (·.twin)).bind s.key.unwrap

/-- Whether the lane can run: twin mode, SerDes and Strongroom on, its reference present, a key held (R456). -/
def State.laneUp (s : State) : Bool :=
  s.twinMode && s.domOn 14 && s.domOn 11 && ! s.sys.ethRefBad && s.twinKey.isSome

/-- The response of an offer or confirmation (R426). -/
def offerRsp (counter place rule block : Nat) : Bytes := toLE 8 counter ++ toLE 1 place ++ toLE 1 rule ++ zeros 2 ++ toLE 4 block

/-- An offer made by the twin path is answered, where its ring still holds it (R426, R459). -/
def State.offerTold (s : State) (result : Nat) : State :=
  match s.twin.offer with
  | some x =>
    let s := ((s.twinUpd fun t => { t with offer := none }).lastResult 2 result).event 0x110
    if s.ringPending (64 + x.ring) then s.mailAnswer x.ring x.tag 0 result (offerRsp x.counter x.place 0 0) else s
  | none => s

/-- The link goes down (R458): it restarts at HELLO with a new nonce; frames, window and stream are gone; SYNC is LOST
after IN_SYNC. An offer whose transfer it ends is answered, with a RESULT that no rule names. [log 202: DESIGN CHOICE] -/
def State.linkDown (s : State) : State :=
  if s.twin.l.link = 0 then s
  else
    let was := s.twin.l.link
    let s := if s.twin.offer.isSome then s.used.offerTold (s.free.toNat % 256) else s
    let s : State :=
      { s.setLink 0 with twin := { (s.setLink 0).twin with
          l := s.twin.l.again
          cursor := none, mirror := [], offered := [], acked := [], probeAt := none, mirrorLost := true
          sync := if s.twin.sync = 2 then 3 else if s.twin.sync = 1 then 0 else s.twin.sync } }
    if was = 3 then (s.stk Reg.twnStatus 1).cnt Reg.twnLinkDownCnt else s

/-- Whether the window has room (R458). -/
def State.twinRoom (s : State) : Bool :=
  decide (s.twin.l.unacked.length < 512) && decide ((s.twin.l.unacked.map (fun u => u.raw.length)).sum + 2088 ≤ 524288)

/-! Health (R466). -/

/-- GOOD. -/
def State.good (s : State) : Bool :=
  s.str.active.isSome && allRegions.any (fun r => (s.radio.get r).inService) && s.key.checked && ! s.key.integrity &&
    ! s.saf.latentFailed && s.twin.lineReadback

/-- The cluster a unit belongs to (R18). -/
def unitCluster : UnitId → Option Nat
  | .lane n => some (n.val / 32)
  | .viterbi n => some (n.val / 8)
  | .resampler n => some (n.val / 4)
  | _ => none

/-- The units of a cluster that are in service: 32 lanes, 8 Viterbi decoders, 4 resamplers. -/
def State.clusterLeft (s : State) (c : Nat) : Nat :=
  44 - s.oos.countP (fun u => unitCluster u == some c)

/-- Units out of service: by themselves, and the rest of each cluster that is (R20, R466). -/
def State.unitsOos (s : State) : Nat := s.oos.length + (s.oosClusters.map s.clusterLeft).sum

/-- The health word without SEQ. -/
def State.healthBits (s : State) : Nat :=
  s.good.toNat * 2 ^ 31 + s.twin.ownDrive.toNat * 2 ^ 30 + s.twin.sync % 4 * 2 ^ 28 + s.timeSet.toNat * 2 ^ 27 +
    (s.rb Reg.tsuCtrl 31).toNat * 2 ^ 26 +
    ((s.radio.h.inService.toNat * 4 + s.radio.m.inService.toNat * 2 + s.radio.l.inService.toNat) * 2 ^ 23) +
    min 255 s.unitsOos * 2 ^ 12 + s.sys.mode.code * 2 ^ 8

/-- Whether a field other than SEQ has changed since the last health word sent. -/
def State.healthChanged (s : State) : Bool := s.healthBits != s.twin.lastHealth.toNat / 256 * 256

/-- The next health word goes out in a HEALTH frame and is written to `TWN.OWN_HEALTH`. [log 82: DEDUCED] -/
def State.healthSend (s : State) : State :=
  let w := s.healthBits + s.twin.healthSeq % 256
  let s := s.twinUpd fun t => { t with healthSeq := (t.healthSeq + 1) % 256, lastHealth := BitVec.ofNat 32 w }
  if s.twin.l.link = 3 then
    s.twinSay 0x10 (toLE 4 w ++ toLE 6 s.tbSec ++ toLE 4 s.tbNsPart ++ zeros 2)
  else s

/-- Fields of the peer's health word. -/
def State.peerHeld (s : State) : Bool := s.twin.l.peerHealth.getLsbD 30
/-- Whether the peer's health word allows a planned handover (R466). -/
def State.peerGood (s : State) : Bool :=
  let w := s.twin.l.peerHealth
  s.twin.l.link == 3 && w.getLsbD 31 && getBits w 28 2 == 2 &&
    decide (s.now < s.twin.l.peerAt + msTicks (s.twnF 0x28 2 + s.twnF 0x2A 2))

/-! Frames (R454). -/

/-- The sending keys: A's and B's halves of the session keys. -/
def State.ownKey (s : State) : Bytes := if s.isB then s.twin.l.keyB else s.twin.l.keyA
def State.peerKey (s : State) : Bytes := if s.isB then s.twin.l.keyA else s.twin.l.keyB
/-- The GCM initialisation vector: direction, three zero bytes, SEQ. -/
def twinIv (fromB : Bool) (seq : Nat) : Bytes := [BitVec.ofNat 8 fromB.toNat, 0, 0, 0] ++ toLE 8 seq

/-- The first 20 bytes of a frame. -/
def twinHead (type : Byte) (enc : Bool) (len seq ack : Nat) : Bytes :=
  [type, BitVec.ofNat 8 enc.toNat] ++ toLE 2 len ++ toLE 8 seq ++ toLE 8 ack

/-- A frame with its CRC. -/
def twinSealCrc (b : Bytes) : Bytes := b ++ toLE 4 (crc32c b).toNat

/-- An encrypted frame. -/
def State.twinEnc (s : State) (type : Byte) (payload : Bytes) : Bytes :=
  let l := s.twin.l
  let h := twinHead type true payload.length l.txSeq l.rxNext
  twinSealCrc (h ++ Config.gcmSeal s.ownKey (twinIv s.isB l.txSeq) h payload)

/-- A frame leaves and is kept until it is acknowledged. -/
def State.twinEmit (s : State) (type : Byte) (payload : Bytes) : State :=
  let raw := s.twinEnc type payload
  (s.linkUpd fun l =>
    { l with txSeq := l.txSeq + 1, unacked := l.unacked ++ [⟨l.txSeq, type, payload, raw, s.now⟩], lastTx := s.now,
             ackAt := if l.unacked.isEmpty then s.now else l.ackAt }).out (.twinFrame raw)

/-- A frame that leaves at once, or waits where the window has no room. -/
def State.twinNow (s : State) (type : Byte) (payload : Bytes) : State :=
  if s.laneUp && s.twin.l.link == 3 && s.twinRoom then s.twinEmit type payload else s.twinSay type payload

/-- A HELLO frame leaves: plaintext, SEQ 0, TAG 0 (R454–R456). -/
def State.helloEmit (s : State) : State :=
  let p : Bytes := [1, 1, BitVec.ofNat 8 s.isB.toNat, 0] ++ toLE 4 (s.twnF 4 4) ++ s.key.deviceId ++ s.twin.l.ownNonce
  (s.linkUpd fun l => { l with lastTx := s.now }).out
    (.twinFrame (twinSealCrc (twinHead 1 false 40 0 0 ++ p ++ zeros 16)))

/-- A link that was down starts at HELLO with a nonce of 16 random bytes. -/
def State.helloStart (s : State) : State :=
  if s.twin.l.link = 0 then
    let n := ((List.range 16).map (fun i => BitVec.ofNat 8 (Config.draw (s.freeCtr + i))))
    ((({ s with freeCtr := s.freeCtr + 16 } : State).linkUpd fun l => { l.again with ownNonce := n }).setLink 1)
  else s

/-- What a received frame holds. -/
structure TwinFrame where
  type : Byte
  seq : Nat
  ack : Nat
  payload : Bytes
  deriving DecidableEq, Repr

/-- LEN of a raw frame. -/
def rawLen (raw : Bytes) : Nat := le raw 2 2

/-- Whether a raw frame's length and CRC hold. -/
def twinCrcOk (raw : Bytes) : Bool :=
  decide (rawLen raw ≤ 2048) && decide (raw.length = 0x28 + rawLen raw) &&
    decide (le raw (0x24 + rawLen raw) 4 = (crc32c (raw.take (0x24 + rawLen raw))).toNat)

/-- Frame types of R455. -/
def twinTypes : List Nat := [1, 2, 3, 4, 0x10, 0x11, 0x12, 0x20, 0x22, 0x23, 0x24, 0x40, 0x41, 0x42, 0x43]

/-- Whether a command for one frame type takes a raw frame: it bears that type, or one R455 does not name.
[log 139: DEDUCED] -/
def takesType (type : Nat) (raw : Bytes) : Bool := byteAt raw 0 == type || ! twinTypes.contains (byteAt raw 0)

/-- An authentication failure (R458): the fourth within 1 s takes the link down. -/
def State.authFail (s : State) : State :=
  let recent := s.twin.l.authFails.filter (fun t => decide (s.now < t + secTicks 1))
  let s := ((s.linkUpd fun l => { l with authFails := recent ++ [s.now] }).cnt Reg.twnAuthFailCnt).stk Reg.twnStatus 5
  if 3 ≤ recent.length then s.linkDown else s

/-- The reservations that an acknowledged frame carried (R462): pairs of handle and DL_FC. -/
def mirrorReservations (fuel : Nat) (b : Bytes) : List (Nat × Nat) :=
  match fuel with
  | 0 => []
  | n + 1 =>
    match byteAt b 0 with
    | 1 =>
      let mask := byteAt b 1
      let size := ((mirrorGroups.zipIdx).map (fun gi => if bit mask gi.2 then gi.1.2 else 0)).sum
      let before := ((mirrorGroups.zipIdx).map (fun gi => if bit mask gi.2 && decide (gi.2 < 4) then gi.1.2 else 0)).sum
      let here := if bit mask 4 then [(le b 4 4, le b (8 + before + 4) 4)] else []
      here ++ mirrorReservations n (b.drop (8 + size))
    | 2 => mirrorReservations n (b.drop 36)
    | 3 => mirrorReservations n (b.drop 12)
    | _ => []

/-- The reservations of one frame sent. -/
def frameReservations (type : Byte) (p : Bytes) : List (Nat × Nat) :=
  if type = 0x20 then mirrorReservations (p.length + 1) p
  else if type = 0x23 then
    (List.range (le p 4 4)).map (fun i => (le p 0 4 + i, le p (8 + 256 * i + 0x54) 4))
  else []

/-- The peer acknowledges every frame below `ack`. -/
def State.twinAck (s : State) (ack : Nat) : State :=
  let (done, rest) := (s.twin.l.unacked.filter (fun u => decide (u.seq < ack)), s.twin.l.unacked.filter (fun u => decide (ack ≤ u.seq)))
  if done.isEmpty then s
  else
    let res := (done.map (fun u => frameReservations u.type u.payload)).flatten
    { s with twin := { s.twin with
        l := { s.twin.l with unacked := rest, ackAt := s.now }
        acked := res.foldl (fun m hr => sput 0 m hr.1 (max (sget 0 m hr.1) hr.2)) s.twin.acked } }

/-- Reception of an encrypted frame (R458): CRC, tag, order; then `f` acts on its payload. [log 139: DEDUCED] -/
def State.twinRecv (s : State) (type : Nat) (raw : Bytes) (f : Bytes → State → State) : State :=
  if s.laneUp = false ∨ s.twin.l.link < 2 ∨ takesType type raw = false then s
  else if twinCrcOk raw = false then s.cnt Reg.twnCrcFailCnt
  else if byteAt raw 0 ≠ type ∨ byteAt raw 1 ≠ 1 then s.authFail
  else
    let seq := le raw 4 8
    match Config.gcmOpen s.peerKey (twinIv (! s.isB) seq) (raw.take 20) (slice raw 20 (rawLen raw))
        (slice raw (20 + rawLen raw) 16) with
    | none => s.authFail
    | some p =>
      if seq ≠ s.twin.l.rxNext then (s.linkUpd fun l => { l with lastRx := s.now }).cnt Reg.twnRetransmitCnt
      else f p ((s.linkUpd fun l => { l with rxNext := l.rxNext + 1, lastRx := s.now }).twinAck (le raw 12 8))

/-- The session keys of two nonces (R456). -/
def State.twinKeys (s : State) (peerNonce : Bytes) : State :=
  match s.twinKey with
  | none => s
  | some k =>
    let own := s.twin.l.ownNonce
    let ctx := toLE 4 (s.twnF 4 4) ++ (if s.isB then peerNonce ++ own else own ++ peerNonce)
    let x := kdf k labelTL ctx 32
    s.linkUpd fun l => { l with peerNonce := peerNonce, keyA := x.take 16, keyB := x.drop 16, txSeq := 1, rxNext := 1,
                                unacked := [], peerConfirmed := false, lastRx := s.now }

/-- `SYS.MODE` as it reads (R83). -/
def State.modeWord (s : State) : Nat :=
  s.sys.transition.isSome.toNat * 2 ^ 31 + s.sys.previous.code * 2 ^ 24 + s.sys.safeCause.toNat * 2 ^ 16 + s.sys.mode.code

/-- The payload of a CONFIRM frame (R455). -/
def State.confirmBody (s : State) : Bytes :=
  ((s.str.active.map (·.pairDigest)).getD (zeros 32)) ++ toLE 8 s.upd.running ++ toLE 4 s.twin.lastHealth.toNat ++
    toLE 8 (unsgn 64 s.tsu.accum) ++ toLE 4 s.modeWord

/-! Sending (R461, R464). -/

/-- Mirror items that fit one frame, in order. -/
def takeItems : Nat → List Bytes → List Bytes × List Bytes
  | _, [] => ([], [])
  | room, x :: xs =>
    if x.length ≤ room then
      let (a, b) := takeItems (room - x.length) xs
      (x :: a, b)
    else ([], x :: xs)

/-- The record of a handle as RESYNC_DATA carries it: fix on the sender's timebase, DL_FC the next counter plus 16 (R462). -/
def State.resyncRec (s : State) (h : Nat) : Rec :=
  let x := s.node h
  recSet (fixShift x s.tsu.accum) 0x54 4 (min 0xFFFFFFFF (s.nextFc x + 16))

/-- Records read through the engines in handle order (R464). -/
def State.resyncFill (s : State) (c n : Nat) : State := (List.range n).foldl (fun s i => s.nodeFill (c + i)) s

/-- The map item of index `k` of the three regions' 768. -/
def State.mapItem (s : State) (k : Nat) : Bytes :=
  [2, BitVec.ofNat 8 (k / 256), BitVec.ofNat 8 k, 0] ++
    ((mapWords (s.lmap (Region.ofIx (k / 256)) (k % 256)).codes).map (toLE 4)).flatten

/-- The duty item of index `k`: 3 regions, 16 sub-bands, 3,600 seconds. [log 84: DEDUCED] -/
def State.dutyItem (s : State) (k : Nat) : Bytes :=
  let r := k / 57600
  let sb := k / 3600 % 16
  let age := k % 3600
  [3, BitVec.ofNat 8 r, BitVec.ofNat 8 sb, 0] ++ toLE 4 (s.tbSec + 2 ^ 32 - age) ++
    (let m := s.mac.get (Region.ofIx r)
     toLE 4 (if age ≤ m.sec then sget 0 m.duty (dutyKey sb (m.sec - age)) else 0))

/-- A tick, and the time of some bytes at a rate in MB/s, in 10⁻¹⁸ s. -/
def tickAs (t : Nat) : Nat := t * 1220703125
def bytesAs (bytes mbps : Nat) : Nat := bytes * 1000000000000 / mbps

/-- Whether the stream is not ahead of MIRROR_MBPS (R461). -/
def State.mirrorPaced (s : State) : Bool := decide (s.twin.mirrorAt ≤ tickAs s.now)

/-- Where the stream has come to (R461). -/
def State.mirrorTo (s : State) (k : Nat) : State := s.twinUpd fun t => { t with mirrorAt := k }

/-- Bytes of the stream sent at MIRROR_MBPS (R461, R464): records without their frame's header, and whole items.
[log 186: DEDUCED] -/
def State.mirrorPace (s : State) (bytes : Nat) : State :=
  s.mirrorTo (max s.twin.mirrorAt (tickAs s.now) + bytesAs bytes (s.twnF 0x2E 2))

/-- The stream has come to position `k`. -/
def State.streamTo (s : State) (k : Nat) : State := s.twinUpd fun t => { t with cursor := some k }

/-- The reservations that streamed records carry from handle `c` on (R462). -/
def State.streamOffer (s : State) (c : Nat) (recs : List Rec) : State :=
  s.twinUpd fun t => { t with offered := (recs.zipIdx).foldl (fun m xi => sput 0 m (c + xi.2) (recF xi.1 0x54 4)) t.offered }

/-- One frame of a resynchronisation: records, then maps, then duty seconds, then RESYNC_DONE. -/
def State.resyncNext (s : State) (c : Nat) : State :=
  let maps := 262144 + 768
  let duty := maps + 172800
  if c < 262144 then
    let n := min 7 (262144 - c)
    let s := s.resyncFill c n
    let recs := (List.range n).map (fun i => s.resyncRec (c + i))
    let s := s.twinEmit 0x23 (toLE 4 c ++ toLE 4 n ++ (recs.map (bvBytes 256)).flatten)
    ((s.mirrorPace (256 * n)).streamOffer c recs).streamTo (c + n)
  else if c < maps then
    let n := min 56 (maps - c)
    ((s.twinEmit 0x20 ((List.range n).map (fun i => s.mapItem (c + i - 262144))).flatten).mirrorPace (36 * n)).streamTo
      (c + n)
  else if c < duty then
    let n := min 170 (duty - c)
    ((s.twinEmit 0x20 ((List.range n).map (fun i => s.dutyItem (c + i - maps))).flatten).mirrorPace (12 * n)).streamTo
      (c + n)
  else (s.twinEmit 0x24 (toLE 4 262144)).twinUpd fun t => { t with cursor := none }

/-- The next frame of an offer made by the twin path (R459). -/
def State.offerNext (s : State) : State :=
  match s.twin.offer with
  | some x =>
    match x.left with
    | (type, p) :: rest => (s.twinUpd fun t => { t with offer := some { x with left := rest } }).twinEmit type p
    | [] => s
  | none => s

/-- The next frame sent: a changed health word is told first, then what waits, then mirror items, then the stream, then a transfer.
[log 202: DESIGN CHOICE] -/
def State.twinSendNext (s : State) : State :=
  if s.twin.l.link < 2 ∨ s.laneUp = false ∨ s.twinRoom = false then s
  else
    let s := if s.twin.l.link = 3 ∧ s.healthChanged then s.healthSend else s
    match s.twin.l.outQueue with
    | (type, p) :: rest => (s.linkUpd fun l => { l with outQueue := rest }).twinEmit type p
    | [] =>
      if s.twin.l.link < 3 ∨ s.mirrorPaced = false then s
      else if s.twin.mirror ≠ [] then
        let (now_, rest) := takeItems 2048 s.twin.mirror
        ((s.twinUpd fun t => { t with mirror := rest }).twinEmit 0x20 now_.flatten).mirrorPace now_.flatten.length
      else
        match s.twin.cursor with
        | some c => s.resyncNext c
        | none => s.offerNext

/-- Whether every mirror item of a wait of R467 has been acknowledged: the link has stayed up, nothing waits to be sent, and the
peer has acknowledged what was sent. -/
def State.mirrorDone (s : State) : Bool :=
  ! s.twin.mirrorLost && s.twin.mirror.isEmpty && s.twin.l.unacked.all (fun u => u.type != 0x20 && u.type != 0x23)

/-! What the standby applies (R461–R463). -/

/-- The mirrored groups of `y` written over `x`, for a MASK; FIX comes off the sender's timebase (R337), FC_HELD is set
with the reservation (R463). -/
def applyGroups (x y : Rec) (mask : Nat) : Rec :=
  let z := (mirrorGroups.zipIdx).foldl (fun x gi => if bit mask gi.2 then recSet x gi.1.1 gi.1.2 (recF y gi.1.1 gi.1.2) else x) x
  if bit mask 4 then recSetBits z 0x59 6 1 1 else z

/-- A record item or streamed record applied as one engine operation. -/
def State.mirrorApply (s : State) (h : Nat) (y : Rec) (mask : Nat) : State :=
  let y := if bit mask 2 then fixShift y (-s.tsu.accum) else y
  s.nodeUpd h (fun x => applyGroups x y mask)

/-- The groups of a record item laid over a blank record. -/
def itemRec (mask : Nat) : List ((Nat × Nat) × Nat) → Bytes → Rec → Rec
  | [], _, x => x
  | gi :: gs, b, x =>
    if bit mask gi.2 then itemRec mask gs (b.drop gi.1.2) (recSet x gi.1.1 gi.1.2 (le b 0 gi.1.2)) else itemRec mask gs b x

/-- The items of a MIRROR frame applied in order (R461); LAST_SYNC follows (R463). -/
def State.mirrorItems (s : State) : Nat → Bytes → State
  | 0, _ => s
  | n + 1, b =>
    match byteAt b 0 with
    | 1 =>
      let mask := byteAt b 1
      let size := ((mirrorGroups.zipIdx).map (fun gi => if bit mask gi.2 then gi.1.2 else 0)).sum
      (s.mirrorApply (le b 4 4 % 262144) (itemRec mask mirrorGroups.zipIdx (b.drop 8) 0) mask).mirrorItems n (b.drop (8 + size))
    | 2 =>
      let codes := BitVec.ofNat 144 (((List.range 8).map (fun w => le b (4 + 4 * w) 4 % 2 ^ 18 * 2 ^ (18 * w))).sum)
      (s.setLmap (Region.ofIx (byteAt b 1)) (byteAt b 2) ⟨codes, none⟩).mirrorItems n (b.drop 36)
    | 3 =>
      let sec := le b 4 4
      (s.twinUpd fun t => { t with
        peerDuty := (t.peerDuty.filter (fun d => ! (d.1 == byteAt b 1 && d.2.1 == byteAt b 2 && d.2.2.1 == sec))) ++
          (if le b 8 4 = 0 then [] else [(byteAt b 1, byteAt b 2, sec, le b 8 4)]) }).mirrorItems n (b.drop 12)
    | _ => s

/-- The mirrored duty seconds loaded into the accounting and the sub-band buckets (R452). [log 84: DEDUCED] -/
def State.peerDutyLoad (s : State) : State :=
  let s := s.twin.peerDuty.foldl (fun s d =>
    let r := Region.ofIx d.1
    let age := (s.tbSec + 2 ^ 32 - d.2.2.1) % 2 ^ 32
    if age < 3600 then
      let key := dutyKey d.2.1 ((s.mac.get r).sec - age)
      ({ s with mac := s.mac.upd r (fun m => { m with duty := sput 0 m.duty key (sget 0 m.duty key + d.2.2.2) }) } :
        State).sbCharge r d.2.1 (d.2.2.2 * 1000 : Nat)
    else s) s
  s.twinUpd fun t => { t with peerDuty := [] }

/-! The line (R449–R453, R463). -/

/-- The line is let go. -/
def State.lineRelease (s : State) : State :=
  s.twinUpd fun t => { t with ownDrive := false, claimFrom := none, probeAt := none, probeOk := false, gateFrom := none }

/-- D of R449 in ticks. -/
def State.claimDelay (s : State) : Nat := if (s.twnF 1 1 == 1) = s.isB then 0 else usTicks 2000

/-- The probe of a claim, where the link is up (R451). -/
def State.probe (s : State) : State :=
  if s.twin.l.link = 3 then (s.twinNow 0x12 []).twinUpd fun t => { t with probeAt := some s.now, probeOk := false } else s

/-- A claim begins while the line reads released: the probe goes out when the link is up (R449, R451). -/
def State.claimBegin (s : State) : State :=
  if s.twinMode && s.twin.released && ! s.twin.ownDrive && s.good then
    (s.twinUpd fun t => { t with claimFrom := some s.now, probeAt := none, probeOk := false }).probe
  else s

/-- Whether the peer has taken every probe sent: a health word that comes with it answers the probe (R451). -/
def State.probeSeen (s : State) : Bool :=
  ! s.twin.l.unacked.any (fun u => u.type == 0x12) && ! s.twin.l.outQueue.any (fun u => u.1 == 0x12)

/-- The raise fixed at a claim (R463). -/
def State.claimRaise (s : State) : RaiseK :=
  if s.twin.sync = 2 then .by 0
  else
    match s.twin.lastSync with
    | some k =>
      if s.twin.hearthKept then .by (16 + 1000 * (ceilDiv (s.now / slowTick - k) 32768 + 1)) else .exhaust
    | none => .exhaust

/-- A standby asks for resynchronisation (R464). -/
def State.resyncAsk (s : State) : State :=
  if s.sys.mode = .standby ∧ s.twin.l.link = 3 ∧ s.twin.sync ≠ 2 then
    (s.twinSay 0x22 []).twinUpd fun t => { t with sync := 1 }
  else s

end Sys2Proof.Machine
end

