-- ==== Sys2Proof/Machine/UpdOps.lean ====
section
/-! DEFINITION. Machine/UpdOps.lean: answers of offers and sessions (R426, R443), the end of a handover (R431, R433), and
the fall-back of a trial (R434). -/

namespace Sys2Proof.Machine

/-- The value of R426 for a broken rule of a container. -/
def Broken.result (b : Broken) : Nat := if 3 ≤ b.rule ∧ b.rule ≤ 7 then b.rule else 2

/-- The body of an Ethernet session frame (R443). -/
def State.sessBody (s : State) (op seq target status offset : Nat) (data : Bytes) : Bytes :=
  [1] ++ toLE 1 op ++ toLE 2 seq ++ s.key.deviceId ++ toLE 1 target ++ toLE 1 status ++ toLE 2 data.length ++ toLE 4 offset ++
    data

/-- The address of a port in sessions (R443): in RECOVERY one made of the device ID, otherwise the port's own. -/
def State.sessAddr (s : State) (p : Nat) : Bytes :=
  if s.sys.mode = .recovery then
    [2] ++ slice s.key.deviceId 1 4 ++ [((s.key.deviceId.getD 5 0) &&& 0xFE) ||| BitVec.ofNat 8 p]
  else Config.portMac p

/-- The Ethernet frame of an answer to a sender (R443). -/
def State.sessEth (s : State) (p : Nat) (peer body : Bytes) : Bytes := peer ++ s.sessAddr p ++ [0x88, 0xB5] ++ body

/-- A session of a holder. -/
def State.sess (s : State) (h : Nat) : Option Session := sget none s.upd.sessions h
/-- Store a session. -/
def State.setSess (s : State) (h : Nat) (x : Option Session) : State :=
  { s with upd := { s.upd with sessions := sput none s.upd.sessions h x } }

/-- An ACK of an Ethernet session (R443): the status and the next offset expected. -/
def State.sessAck (s : State) (h : Nat) (x : Session) (status : Nat) : State :=
  s.out (.sessionAnswer (h - 4) (s.sessEth (h - 4) x.peer (s.sessBody 5 x.lastSeq.toNat x.target status x.data.length [])))

/-- A repeat of the last SEQ is answered again with the same ACK, its session closed (R443). -/
def State.sessAgain (s : State) (h : Nat) (peer : Bytes) (seq : BitVec 16) : State :=
  match sget none s.upd.answered h with
  | some (q, target, status, offset) =>
    if q = seq then s.out (.sessionAnswer (h - 4) (s.sessEth (h - 4) peer (s.sessBody 5 seq.toNat target status offset []))) else s
  | none => s

/-- What a session that closes is answered with, kept for a repeat (R443). -/
def State.sessKeep (s : State) (h : Nat) (x : Session) (result : Nat) : State :=
  { s with upd := { s.upd with answered := sput none s.upd.answered h (some (x.lastSeq, x.target, result, x.data.length)) } }

/-- A session's answer of R426 (R442, R443, R459): it closes, and gives up the lock where it holds it. -/
def State.sessEnd (s : State) (h : Nat) (x : Session) (result : Nat) : State :=
  let s := (if s.upd.lock = some h then s.lockFree else s.setSess h none).lastResult h result
  if h = 7 then s.setRg Reg.updRecStatus (BitVec.ofNat 32 (result * 2 ^ 16 + s.rf Reg.updProgress 16 16))
  else if h = 6 then (s.twinSay 0x43 (toLE 1 result ++ zeros 3)).event 0x126
  else ((s.sessKeep h x result).sessAck h x result).event 0x110

/-! The state record (R432). -/

/-- The bytes of an area of a state record: R432 gives its place and size and what it holds, and not its layout.
[log 183: DESIGN CHOICE] -/
opaque Config.stateArea : Nat → StateContent → Bytes

/-- The areas of a state record from 0x010 on, by offset and size. -/
def stateAreas : List (Nat × Nat) :=
  [(0x010, 16), (0x020, 64), (0x060, 80), (0x0B0, 64), (0x0F0, 256), (0x1F0, 256), (0x2F0, 512), (0x4F0, 128), (0x570, 64),
   (0x5B0, 64)]

/-- A state record of a STATE_FORMAT from the firmware of a COUNTER. [log 183: DESIGN CHOICE] -/
def stateRecord (format counter : Nat) (c : StateContent) : Bytes :=
  let b := [0x45, 0x56, 0x53, 0x52] ++ toLE 2 format ++ zeros 2 ++ toLE 8 counter ++
    stateAreas.flatMap (fun a => fit (Config.stateArea a.1 c) a.2) ++ zeros 2572
  b ++ toLE 4 (crc32c b).toNat

/-- The new pair's check at 0.8 ms: MAGIC, a format it reads, CRC (R431). -/
def stateRecordOk (hdr b : Bytes) : Bool :=
  b.length == 4096 && slice b 0 4 == [0x45, 0x56, 0x53, 0x52] && decide (le hdr 0x18 2 ≤ le b 4 2) &&
    decide (le b 4 2 ≤ le hdr 0x16 2) && le b 0xFFC 4 == (crc32c (b.take 0xFFC)).toNat

/-- What a record formed now holds; `message` is the ring and tag of the message in progress. -/
def State.stateContent (s : State) (message : Option (Nat × Nat)) : StateContent :=
  { mode := s.modeWord, heldCmd := s.sys.heldCmd, lock := s.upd.lock, progress := s.rg Reg.updProgress
    image := s.str.active.map (fun im => (im.counter, im.source, s.rb Reg.strState 15, im.digest))
    supStack := s.irq.supStack
    supActive := (s.irq.srcs.filter (fun kv => kv.2.active && kv.2.target)).map (·.1)
    cal := let f (r : Region) :=
             let c := (s.rad r).recal
             (c.lastAt, c.lastTemp, if c.due then some c.dueAt else none)
           ⟨f .L, f .M, f .H⟩
    twin := s.twin, saf := s.saf
    detections := [Reg.safTrouble, Reg.safHbSentCnt, Reg.safHbFailCnt, Reg.safEccCorrCnt, Reg.safEccUncorrCnt, Reg.safLockstepCnt].map s.rg
    next := s.cellar.next, hold := s.cellar.hold, lostHold := s.cellar.lostHold
    buckets := s.cellar.buckets, heads := (List.range 4).map (fun k => (s.ring (64 + k)).head), message := message
    windowEnd := s.key.windowEnd, sweep := s.key.sweep, sweepAt := s.key.sweepAt, dutyAt := s.upd.dutyAt, trial := s.nv.trial }

/-- The record written into the idle pair's half (R431), in the receiving pair's STATE_FORMAT (R432). [log 183: DESIGN CHOICE] -/
def State.recordFor (s : State) (h : Handover) : StateContent × Bytes :=
  let c := s.stateContent (h.ring.map (fun k => (k, h.tag)))
  (c, stateRecord (le (conBlock (s.bank h.bank.toNat) 0) 0x16 2) s.upd.running c)

/-- A pair goes on from a record: what the record holds and the hardware does not. Mode, supervisor context, lock holder and ring
positions are read again (R434), NEXT in the MRAM (R477). [log 183: DESIGN CHOICE] -/
def State.contentTake (s : State) (c : StateContent) : State :=
  let s := allRegions.foldl (fun s r => s.radUpd r fun d =>
    let (at_, temp, due) := c.cal.get r
    { d with recal := { d.recal with lastAt := at_, lastTemp := temp, due := d.recal.due || due.isSome
                                     dueAt := if d.recal.due then d.recal.dueAt else due.getD d.recal.dueAt } }) s
  let s : State := { s with
    twin := { s.twin with l := { s.twin.l with txSeq := c.twin.l.txSeq, rxNext := c.twin.l.rxNext, unacked := c.twin.l.unacked }
                          sync := c.twin.sync, cursor := c.twin.cursor }
    saf := { s.saf with latentAt := c.saf.latentAt }
    cellar := { s.cellar with hold := c.hold, lostHold := c.lostHold, buckets := c.buckets }
    upd := { s.upd with dutyAt := c.dutyAt } }
  if s.key.windowEnd = c.windowEnd then s.keyUpd fun k => { k with sweep := c.sweep, sweepAt := c.sweepAt } else s

/-! Handover (R431). -/

/-- A handover ends with an answer: the lock is freed and source 0x110 pends. -/
def State.handoverAnswer (s : State) (result rule : Nat) : State :=
  match s.upd.handover with
  | none => s
  | some h =>
    let s : State := { s with upd := { s.upd with handover := none } }
    match h.ring with
    | some k => ((s.lockFree.lastResult h.holder result).event 0x110).mailAnswer k h.tag 0 result
        (offerRsp h.counter h.bank.toNat rule 0)
    | none =>
      match s.sess h.holder with
      | some x => s.sessEnd h.holder x result
      | none => (s.lockFree.lastResult h.holder result).event 0x110

/-- A SAFE cause or tamper meets a handover (R433): abandoned before 1.0 ms from the ready report. -/
def State.handoverEvent (s : State) : State :=
  match s.upd.handover with
  | none => s
  | some h => if h.ready ∧ h.since + msTicks 1 ≤ s.now then s else s.handoverAnswer 10 0

/-- The other lockstep pair. -/
def State.idlePair (s : State) : Fin 2 := if s.pairs.active = 0 then 1 else 0
/-- Whether a pair is in service. -/
def State.pairOk (s : State) (p : Fin 2) : Bool := if p = 0 then s.pairs.ok0 else s.pairs.ok1

/-- The half of a pair (R423). -/
def State.half (s : State) (p : Fin 2) : Option FwImage := if p = 0 then s.pairs.half0 else s.pairs.half1

/-- The firmware image that a bank holds: LOAD_LEN bytes after the header, and ENTRY (R423). -/
def State.bankImage (s : State) (b : Bool) : FwImage :=
  let p := conPayload (s.bank b.toNat)
  ⟨slice p 64 (le p 0xC 4), le p 8 4⟩

/-- The image of a bank is loaded into a pair's half (R429, R431). -/
def State.halfLoad (s : State) (pair : Fin 2) (b : Bool) : State :=
  let x := some (s.bankImage b)
  { s with pairs := if pair = 0 then { s.pairs with half0 := x } else { s.pairs with half1 := x } }

/-! The trial. -/

/-- Seconds left of a trial (R430). -/
def State.trialLeft (s : State) : Nat := s.nv.trial.left - (s.now - s.upd.trialAt) / 819200000

/-- The trial's remaining time as it stands is saved (R430). [log 73: DEDUCED] -/
def State.trialSave (s : State) : State :=
  if s.nv.trial.active then
    let n := s.trialLeft
    let s := s.nvShared fun c => { c with trial := { c.trial with left := n } }
    { s with upd := { s.upd with trialAt := s.now } }
  else s

/-- A bank's REJECTED mark set or cleared (R434). -/
def State.markBank (s : State) (b rejected : Bool) : State :=
  s.nvShared fun c => { c with trial := { c.trial with
    rejectedA := if b then c.trial.rejectedA else rejected
    rejectedB := if b then rejected else c.trial.rejectedB } }

/-- A pair goes on from the record it wrote at activation, where it is kept. -/
def State.keptTake (s : State) (kept : Option StateContent) : State :=
  match kept with
  | some c => s.contentTake c
  | none => s

/-- A trial falls back (R434): the old pair takes control, the trial bank is rejected. A pair that lost its image at a reset
loads the other bank. A trial pair that still runs, its window over, passes its state on in a record; otherwise the old pair goes on
from the one it wrote at activation. -/
def State.fallBack (s : State) (why : Nat) : State :=
  let x := s.nv.trial
  let kept := s.upd.kept
  if x.active then
    let (counter, bank, hdr) := s.upd.oldFw.getD
      (conCounter (s.bank (! x.bank).toNat), ! x.bank, (conBlock (s.bank (! x.bank).toNat) 0).take 64)
    let s := (s.nvShared (fun c => { c with trial := { c.trial with active := false } })).markBank x.bank true
    let s : State := { s with pairs := { s.pairs with active := s.idlePair }
                              sys := { s.sys with bank := bank }
                              upd := { s.upd with running := counter, runHdr := hdr, oldFw := none, kept := none } }
    let s := if (s.half s.pairs.active).isNone then s.halfLoad s.pairs.active bank else s
    let s := if why = 0 then s else s.keptTake kept
    (s.stk Reg.updStatus 4).cell 0x52 (x.counter % 2 ^ 32) why 0
  else s

end Sys2Proof.Machine
end

