-- ==== Sys2Proof/Machine/ModeOps.lean ====
section
/-! DEFINITION. Machine/ModeOps.lean: power domains (R75–R81, R487), units and regions going out of service (R20, R21, R155),
SAFE (R84, R88), mode commands (R85–R88), HEARTH (R90, R355) and resets (R91–R93). -/

namespace Sys2Proof.Machine

/-! Domains. -/

/-- The power domain that holds the block of a BAR0 address (R76). -/
def addrDom (a : Nat) : Nat :=
  if a < 0x20000 then 10
  else if a < 0x40000 then 12
  else if a < 0x80000 then 3 + min 2 ((a - 0x40000) / 0x4000)
  else if a < 0xB0000 then 6 + (a - 0x80000) / 0x10000
  else if a < 0xC0000 then 9
  else if a < 0x100000 then 6 + min 2 ((a - 0xC0000) / 0x10000)
  else if a < 0x1C0000 then 9
  else if a < 0x240000 then 10
  else if a < 0x280000 then 9
  else if a < 0x300000 then 10
  else if a < 0x340000 then 11
  else if a < 0x400000 then 12
  else if a < 0x3000000 then 9
  else 16

/-- Whether a domain holds a sticky field that is set (R487). -/
def State.stickyIn (s : State) (n : Nat) : Bool :=
  match n with
  | 3 => s.troubleBit 2 | 4 => s.troubleBit 3 | 5 => s.troubleBit 4
  | 6 => s.domOn 6 && s.anyBit (Reg.rxpGainStatus 0) 6
  | 7 => s.domOn 7 && s.anyBit (Reg.rxpGainStatus 1) 6
  | 8 => s.domOn 8 && s.anyBit (Reg.rxpGainStatus 2) 6
  | 9 => (s.domOn 9 && s.anyBit Reg.rxpTrouble 0x30777) || ([6, 7, 8, 11] : List Nat).any s.troubleBit
  | 10 => ([0, 9, 10, 12, 13, 14, 21] : List Nat).any s.troubleBit
  | 11 => ([15, 16] : List Nat).any s.troubleBit
  | 12 => ([1, 17, 18, 19, 20] : List Nat).any s.troubleBit
  | _ => false

/-! Receptions. -/

/-- The receive side of a region. -/
def State.rxr (s : State) (r : Region) : RxRegion := s.rx.get r
/-- Change the receive side of a region. -/
def State.rxUpd (s : State) (r : Region) (f : RxRegion → RxRegion) : State := { s with rx := s.rx.upd r f }
/-- A slot of which nothing is kept. -/
def SlotRx.reset : SlotRx := ⟨0, none, [], [], 0⟩
/-- What is kept of a slot. -/
def State.slotRx (s : State) (r : Region) (slot : Nat) : SlotRx := sget SlotRx.reset (s.rxr r).slots slot
/-- Change what is kept of a slot. -/
def State.slotRxUpd (s : State) (r : Region) (slot : Nat) (f : SlotRx → SlotRx) : State :=
  s.rxUpd r fun x => { x with slots := sput SlotRx.reset x.slots slot (f (s.slotRx r slot)) }

/-- A detection of a slot that ends neither failed nor expired breaks its run of failures (R149). -/
def State.slotBreak (s : State) (r : Region) (slot : Nat) : State := s.slotRxUpd r slot fun x => { x with fails := 0 }

/-- A lane. -/
def State.lane (s : State) (n : Nat) : Option Lane := sget none s.lanes n
/-- Store a lane. -/
def State.setLane (s : State) (n : Nat) (x : Option Lane) : State := { s with lanes := sput none s.lanes n x }

/-! Heartbeats (R290, R469). -/

/-- Whether a lane takes part in the heartbeats: in service, of a cluster in service that is attached to a region whose DSP
domain is on. -/
def State.hbLane (s : State) (n : Nat) : Bool :=
  let c := n / 32
  decide (n < 384) && decide (s.attach c ≠ 0) && s.domOn (6 + (s.attach c - 1)) && ! s.oosClusters.contains c &&
    ! s.oos.any (fun u => match u with | .lane i => i.val == n | _ => false)

/-- The payload of a heartbeat (R469). -/
def hbPayload (lane seq : Nat) : Bytes :=
  let b := toLE 2 lane ++ toLE 4 seq ++ (List.range 22).map (fun i => BitVec.ofNat 8 (Nat.xor 0x5A (i + 6)))
  b ++ toLE 4 (crc32c b).toNat

/-- The delivery rings that carry heartbeats. -/
def State.hbRings (s : State) : List Nat := (List.range 32).filter (fun k => bit (s.safF 0xC 4) k)

/-- A HEARTBEAT record goes to the next ring of the rotation; without room it is discarded, counted (R290). -/
def State.hbRecord (s : State) (lane seq : Nat) : State :=
  match s.hbRings with
  | [] => s
  | k0 :: ks =>
    let k := (k0 :: ks).getD (s.saf.hbRing % (ks.length + 1)) k0
    let s : State := { s with saf := { s.saf with hbRing := (s.saf.hbRing + 1) % (ks.length + 1) } }
    if s.ringConf k && s.ringNow k 1 then
      s.deliver k
        { kind := 3, entries := 1, cells := 0, port := none, safe := 0,
          bytes := slotWord 3 1 0 0 32 ++ zeros 16 ++ toLE 2 lane ++ zeros 14 ++ toLE 4 seq ++ zeros 20 ++ hbPayload lane seq }
    else s.cnt (ringBase k + 0x24)

/-- What a lane's heartbeat is when it reaches the host interface: what was sent, or what the lane makes of it in this period.
[log 71: DEDUCED] -/
def State.hbSeen (s : State) (n seq : Nat) : Bytes := ((s.hif.hbWrong.find? (fun x => x.1 == n)).map (·.2)).getD (hbPayload n seq)

/-- A FREE lane takes its heartbeat of the period. The host interface checks its payload and sequence before the ring write: the lane
passes, or its heartbeat is lost (R290, R469). [log 71: DEDUCED] -/
def State.hbInject (s : State) (n : Nat) : State :=
  if s.saf.hbAt = 0 ∨ s.hif.hbTaken.contains n ∨ s.hbLane n = false then s
  else
    let seq := sget 0 s.hif.hbSeq n
    let good := s.hbSeen n seq == hbPayload n seq
    let s : State :=
      { s with hif := { s.hif with hbTaken := s.hif.hbTaken ++ [n], hbSeq := sput 0 s.hif.hbSeq n ((seq + 1) % 2 ^ 32),
                                   hbPassed := if good then s.hif.hbPassed ++ [n] else s.hif.hbPassed } }
    (s.when (s.domOn 12) (·.cnt Reg.safHbSentCnt)).when good (·.hbRecord n seq)

/-- A lane becomes FREE. -/
def State.laneFree (s : State) (n : Nat) : State := (s.setLane n none).hbInject n

/-- A reception dropped (R155): its cells free, its slot counts it; the slot's noise block is left out (R147), its run of failures
broken (R149). -/
def State.laneDrop (s : State) (n : Nat) : State :=
  match s.lane n with
  | some l =>
    let s := ((s.laneFree n).pantryFree l.rxCells l.safetyCells).cnt (Reg.rxpSlotDroppedCnt l.region.ix l.slot)
    s.slotRxUpd l.region l.slot fun x => { x with fails := 0, lastBusy := s.now }
  | none => s

/-- Every reception of a region dropped, and its pending detections forgotten (R66). -/
def State.rxDrop (s : State) (r : Region) : State :=
  let s := (List.range 384).foldl (fun s n =>
    match s.lane n with
    | some l => if l.region = r then s.laneDrop n else s
    | none => s) s
  { s with rx := s.rx.upd r (fun x => { x with pending := [] }) }

/-- What is left of the host rings without domain 10, while the Pantry keeps the records held for them. -/
def heldOnly (rings : Sparse Ring) : Sparse Ring := smap Ring.reset (fun x => { Ring.reset with held := x.held }) rings

/-- What a domain that switches off forgets (R75: no retention but the Pantry's). [log 32: DEDUCED] [log 85: DEDUCED] -/
def State.domDrop (s : State) (n : Nat) : State :=
  if 3 ≤ n ∧ n ≤ 5 then
    s.radUpd (Region.ofIx (n - 3)) (fun d =>
      { Radio.reset with inService := d.inService, isolated := d.isolated, barred := d.barred })
  else if 6 ≤ n ∧ n ≤ 8 then
    let r := Region.ofIx (n - 6)
    let s := s.rxDrop r
    { s with rx := s.rx.set r RxRegion.reset, tx := s.tx.set r ⟨[], []⟩ }
  else
    match n with
    | 2 => { s with dieF2c := DieDir.reset, dieC2f := DieDir.reset }
    | 9 =>
      { s with tab := { s.tab with learn := ⟨[], [], []⟩, spill := ⟨[], [], []⟩, prefixes := [], bloom := [], rebuilding := [],
                                   deletes := [], cache := [], busy := [], moving := [] }
               mac := State.reset.mac, porch := State.reset.porch, dls := { State.reset.dls with queues := s.dls.queues } }
    | 10 =>
      { s with jobs := State.reset.jobs, irq := s.irq.cleared, timers := []
               hif := { s.hif with rings := heldOnly s.hif.rings, stalled := false, hbSeq := [], hbTaken := [], hbPassed := [], hbWrong := [],
                                   busyOk := [], cmdTurn := 0 }
               tsu := { State.reset.tsu with accum := s.tsu.accum, hearthCaps := s.tsu.hearthCaps, ratio := s.tsu.ratio
                                             pins := (List.range 8).foldl (fun m k => sput Pin.reset m k (s.pinHeld k)) [] } }
    | 11 => (s.keyClear).keyUpd fun k => { k with checked := false, integrity := false, engineOwner := none, staleJobs := [] }
    | 12 =>
      let c := s.cellar
      let s : State := { s with upd := { s.upd with lock := none, sessions := [], handover := none, kept := none, migrate := none, halves := [], answered := [] }
                                cellar := { c with buckets := [], frozenAt := none, hold := [], lostHold := 0, latch := 0, clearMsg := none } }
      { s with str := { s.str with applying := none }
               pairs := State.reset.pairs
               saf := { State.reset.saf with tempFront := s.saf.tempFront, tempCore := s.saf.tempCore }
               twin := { State.reset.twin with released := s.twin.released, lastSync := s.twin.lastSync
                                               hearthKept := s.twin.hearthKept, lineReadback := s.twin.lineReadback }
               dbg := { s.dbg with scopeTap := false, scopeBar := false, supMem := [] } }
    | 14 =>
      let ports := smap EthPort.reset (fun x => { EthPort.reset with ingress := x.ingress, waiting := x.waiting }) s.hif.ports
      ({ s with hif := { s.hif with ports := ports } } : State).linkDown
    | 15 =>
      { s with hif := { s.hif with linkUp := false, l1 := false, busMaster := false, msix := false, pmeEn := false, msixTable := []
                                   msixPending := 0, msixMask := false, pmeStatus := false } }
    | 16 =>
      { s with hif := { s.hif with rxUsed := 0, safetyUsed := 0, safetySize := min 8192 s.reserve, staging := [], stalled := false
                                   rxJobs := ⟨[], [], []⟩
                                   rings := smap Ring.reset (fun x => { x with held := [] }) s.hif.rings
                                   ports := smap EthPort.reset (fun x => { x with ingress := 0, egress := [], waiting := [] }) s.hif.ports } }
    | _ => s

/-- A domain switches off: TROUBLE_AT_OFF while its sticky fields still hold, its registers and contents lost (R487). The
latched reset causes are the Hearth's (R93). [log 32: DEDUCED] -/
def State.domOff (s : State) (n : Nat) : State :=
  if s.domOn n then
    let s := s.when (s.stickyIn n) (·.cell 0x17 s.trouble n 0)
    let s := s.domDrop n
    { s with regs := s.regs.filter (fun kv => addrDom kv.1 != n || kv.1 == Reg.sysResetCause)
             sys := { s.sys with domains := setBits s.sys.domains (n - 1) 1 0 } }
  else s

/-- The frames received and kept in a Pantry in retention ask for their jobs again (R90, R276). -/
def State.keptJobs (s : State) : State :=
  allRegions.foldl (fun s r => (s.hif.rxJobs.get r).foldl (fun s q => s.jobRequest (s.newJob 0 (q.rxCells + q.safetyCells) r.ix)) s) s

/-- A domain comes on: its `RFC` registers at their reset values, so in SHARED, a front domain's samples become valid RX_SETTLE_US after
its lines rest at 01 (R106); a DSP domain takes the maps and the INIT_GAIN of the active image (R159), a front domain of a powered region is due for a
calibration (log entry 30); the Pantry is in retention no longer (R78). [log 30: DEDUCED] -/
def State.domUp (s : State) (n : Nat) : State :=
  if s.domOn n then s
  else
    let s : State := { s with sys := { s.sys with domains := setBits s.sys.domains (n - 1) 1 1
                                                  retention := s.sys.retention && n != 16 } }
    let s := s.when (n == 10) (·.reserveSettle.keptJobs)
    let s : State := if 6 ≤ n ∧ n ≤ 8 then { s with rx := s.rx.upd (Region.ofIx (n - 6)) (fun x => { x with histFrom := s.now }) } else s
    if s.str.active.isNone then s
    else if 6 ≤ n ∧ n ≤ 8 then
      let r := Region.ofIx (n - 6)
      let s := s.setRf (Reg.rxpGainCtrl r.ix) 16 5 (s.initGain r)
      (List.range 256).foldl (fun s m => s.setLmap r m ⟨imgMap (s.sec 4) r.ix m, none⟩) s
    else if 3 ≤ n ∧ n ≤ 5 then
      let r := Region.ofIx (n - 3)
      if s.powered r then
        let rest := (s.rad r).inService && ! (s.rad r).tripped
        s.radUpd r fun d => { d with tr := if rest then 1 else 0, trStep := none, paLowAt := s.now,
                                     rxValidAt := if rest then some (s.now + d.settle) else none,
                                     recal := { d.recal with due := true, dueAt := s.now, lastAt := s.now } }
      else s
    else s

/-- The domains of a mode: its mask, less those of regions that are out until the next application (R81). -/
def State.maskFor (s : State) (m : Mode) : BitVec 16 :=
  allRegions.foldl (fun w r =>
    if (s.radio.get r).isolated then setBits (setBits w (r.frontDom - 1) 1 0) (r.dspDom - 1) 1 0 else w) (s.modeMask m)

/-- The mask applied (R77, R81): domains go off from the highest down, and come on in the order 2, front, DSP, 9–16. -/
def State.maskSet (s : State) (w : BitVec 16) : State :=
  let s := ((List.range 15).map (16 - ·)).foldl (fun s n => if w.getLsbD (n - 1) then s else s.domOff n) s
  ((List.range 15).map (· + 2)).foldl (fun s n => if w.getLsbD (n - 1) then s.domUp n else s) s

/-- The mask of a mode applied (R81). -/
def State.maskTake (s : State) (m : Mode) : State :=
  ({ s with sys := { s.sys with mask := s.modeMask m } } : State).maskSet (s.maskFor m)

/-- The domains of a region go off, highest first. -/
def State.regionDark (s : State) (r : Region) : State := (s.domOff r.dspDom).domOff r.frontDom

/-- The domains of a region come on where the mask in force has them, lowest first (R65, R77). -/
def State.regionLit (s : State) (r : Region) : State :=
  [r.frontDom, r.dspDom].foldl (fun s n => if s.sys.mask.getLsbD (n - 1) then s.domUp n else s) s

/-- The mode written: PREVIOUS, CURRENT, no transition in progress; stage 9 of R95. -/
def State.modeMark (s : State) (m : Mode) : State :=
  let radio := m == .active || m == .degraded || m == .quiet || m == .standby
  { s with sys := { s.sys with previous := s.sys.mode, mode := m, transition := none,
                               stage := if s.sys.stage = 8 ∧ radio then 9 else s.sys.stage } }

/-- The mode changes: PREVIOUS, CURRENT, source 0x010, the mask of the new mode (R81, R83). -/
def State.modeTo (s : State) (m : Mode) : State :=
  let s := s.modeMark m
  (s.maskTake m).event 0x010

/-! What keeps the package in SAFE, and what takes it there (R84). -/

/-- OVERTEMP_C; with no image active its default of R55. [log 70: DEDUCED] -/
def State.overtempC (s : State) : Int := if s.str.active.isSome then (s.safF 9 1 : Nat) else 110

/-- Whether either die is at or above a temperature. -/
def State.tempAt (s : State) (c : Int) : Bool := decide (c ≤ s.saf.tempFront.toInt) || decide (c ≤ s.saf.tempCore.toInt)

/-- Whether the fabric clock is as it must be: the root PLL locked and the TCXO not off. -/
def State.clockOk (s : State) : Bool := s.rb Reg.clkStatus 0 && ! s.sys.tcxoBad

/-- Whether no cause of R84 is present, as its last column judges. -/
def State.noCause (s : State) : Bool :=
  ! s.tempAt (s.overtempC - 5) && ! s.sys.supplyBad && s.clockOk && s.dieF2c.up && s.dieC2f.up

/-- The SAFE cause that already holds as a mode is entered that R88 lets it end, the lowest value first.
[log 157: DESIGN CHOICE] -/
def State.standingCause (s : State) : Option Nat :=
  if s.tempAt s.overtempC then some 0x03
  else if s.sys.supplyBad then some 0x04
  else if s.clockOk = false then some 0x05
  else if s.dieF2c.up = false ∨ s.dieC2f.up = false then some 0x06
  else if s.coreLost then some 0x08
  else none

/-! Service. -/

/-- Whether anything is out of service (R88: DEGRADED while units are out). -/
def State.unitsOut (s : State) : Bool :=
  ! s.oos.isEmpty || ! s.oosClusters.isEmpty || allRegions.any (fun r => s.powered r && ! (s.radio.get r).inService)
/-- ACTIVE, or DEGRADED while units are out. -/
def State.activeMode (s : State) : Mode := if s.unitsOut then .degraded else .active
/-- Whether a radio region is in service. -/
def State.anyRadio (s : State) : Bool := allRegions.any (fun r => (s.radio.get r).inService)

/-- Every queue discarded (R453). -/
def State.queuesDiscard (s : State) : State := (s.dls.queues.map (·.1)).foldl (fun s h => s.queueDiscard h) s

/-- Whether leaving a mode for SAFE, STANDBY or CONFIGURE discards the queues and lets the line go (R453). -/
def Mode.holds (m : Mode) : Bool := m == .active || m == .degraded || m == .quiet || m == .handover

/-- The queues and the line of a twin package that leaves the modes of R453. -/
def State.yieldLine (s : State) (left : Mode) : State :=
  if s.twinMode then (s.when left.holds (·.queuesDiscard)).lineRelease else s

/-- A structural application ended by SAFE (R67): ABANDONED, no image active. [log 56: DEDUCED] -/
def State.strAbandon (s : State) (cause : Nat) : State :=
  match s.str.applying with
  | none => s
  | some _ =>
    let s : State := { s with str := { s.str with active := none, applying := none } }
    let s := (((((s.setRg Reg.strResult 8).clrb Reg.strCmd 31).clrb Reg.strState 15).lockFree.event 0x020).cell 0x03 cause 0 0).irqApply
    allRegions.foldl (fun s r => s.radUpd r (fun d => { d with inService := false })) s

/-- SAFE and its cause written. -/
def State.safeMark (s : State) (cause : Nat) : State :=
  { s with sys := { s.sys with mode := .safe, previous := s.sys.mode, safeCause := BitVec.ofNat 8 cause,
                               transition := none, wake := none, latchedWake := [] } }

/-- Every region muted. [log 35: DEDUCED] -/
def State.muteAll (s : State) : State := allRegions.foldl (fun s r => s.muteRegion r .lockLost .late false) s

/-- SAFE entered with a cause (R72, R84, R88): carriers muted and PA enables low, the application in progress abandoned, the
line released. `p2` is the region or source where known. [log 35: DEDUCED] [log 57: DEDUCED] [log 69: DEDUCED] -/
def State.safeNow (s : State) (cause p2 : Nat) : State :=
  let left := s.sys.mode
  let s := (((s.handoverEvent.safeMark cause).muteAll.yieldLine left).strAbandon cause).cell 0x11 cause left.code p2
  (s.maskTake .safe).event 0x010

/-- Modes from which a SAFE cause leads to SAFE (R88). [log 149: DEDUCED] -/
def Mode.canSafe (m : Mode) : Bool :=
  match m with
  | .configure | .active | .quiet | .degraded | .standby | .handover | .maintenance => true
  | _ => false

/-- A SAFE cause of R84. [log 149: DEDUCED] -/
def State.safe (s : State) (cause p2 : Nat) : State := if s.sys.mode.canSafe then s.safeNow cause p2 else s

/-- The level and kind of a unit, and its index, for UNIT_OOS (R480). -/
def unitKind : UnitId → Nat
  | .lane _ => 0 | .watcher _ _ => 1 | .viterbi _ => 2 | .resampler _ => 3 | .carrier _ _ => 4 | .tableEngine _ => 5
  | .aes _ => 6 | .sha256 => 7 | .p256 => 8 | .timer _ => 9
def unitIndex : UnitId → Nat
  | .lane n => n.val | .watcher r c => r.ix * 512 + c.val | .viterbi n => n.val | .resampler n => n.val
  | .carrier r c => r.ix * 4 + c.val | .tableEngine n => n.val | .aes n => n.val | .sha256 => 0 | .p256 => 0
  | .timer n => n.val

/-- A UNIT_OOS record. [log 44: DESIGN CHOICE] -/
def State.oosRecord (s : State) (level kind index cause : Nat) : State :=
  s.cell 0x16 (Config.oosCode level kind).toNat index cause

/-- ACTIVE becomes DEGRADED when something goes out of service (R20). It is no event that ends a transition in progress
(R89): that goes on from DEGRADED. -/
def State.degrade (s : State) : State :=
  if s.sys.mode = .active then
    let u := s.modeTo .degraded
    { u with sys := { u.sys with transition := s.sys.transition } }
  else s

/-- What a unit that goes out of service was doing ends, and the loss is counted where its block is powered (R14, R20, R155,
R168, R415). -/
def State.unitDrop (s : State) (u : UnitId) : State :=
  let lossy (s : State) (c : Nat) : State := s.when (s.domOn 9) (·.cnt (Reg.rxpClusterLossCnt c))
  match u with
  | .lane n => lossy ((s.laneDrop n.val).when (s.domOn 9) (·.stk Reg.rxpTrouble 16)) (n.val / 32)
  | .watcher _ _ => s.when (s.domOn 9) (·.stk Reg.rxpTrouble 17)
  | .viterbi n => lossy s (n.val / 8)
  | .resampler n => lossy s (n.val / 4)
  | .carrier r c => (((s.asideEnd r c.val .returned).jobEnd r c.val .returned).airEnd r 3).airMoved r
  | .aes _ => s.when (s.domOn 11) (·.stk Reg.cryTrouble 0)
  | .sha256 => s.when (s.domOn 11) (·.stk Reg.cryTrouble 0)
  | .p256 => s.when (s.domOn 11) (·.stk Reg.cryTrouble 0)
  | .timer c =>
    s.setTimer c.val { s.timer c.val with running := false, base := s.timerCount c.val, shortened := false }
  | .tableEngine _ =>
    (s.tab.busy.map (·.1)).foldl (fun s src => s.when (s.fwdBusy src) (·.fwdStart src)) s

/-- Whether a unit is out of service, alone or with the whole of its cluster. -/
def State.isOut (s : State) (u : UnitId) : Bool :=
  s.oos.contains u || (match unitCluster u with | some c => s.oosClusters.contains c | none => false)

/-- A unit goes out of service (R20, R21), unless it already is. The loss of the last engine of a kind the network region or the
Strongroom cannot do without is a fault of that region. [log 189: DESIGN CHOICE] -/
def State.unitOut (s : State) (u : UnitId) (cause : Nat) : State :=
  if s.isOut u then s
  else
    let before := s.coreLost
    let s := (({ s with oos := s.oos ++ [u] } : State).unitDrop u).oosRecord 0 (unitKind u) (unitIndex u) cause
    if s.coreLost && ! before then s.safe 0x08 0 else s.degrade

/-- A cluster goes out of service as a whole (R20, R155). [log 38: DEDUCED] -/
def State.clusterOut (s : State) (c cause : Nat) : State :=
  if s.oosClusters.contains c then s
  else
    let left := s.clusterLeft c
    let s : State := { s with oosClusters := s.oosClusters ++ [c] }
    let s := ((List.range 32).foldl (fun s i => s.laneDrop (32 * c + i)) s).stk Reg.rxpTrouble 16
    ((s.cntBy (Reg.rxpClusterLossCnt c) left).oosRecord 1 0 c cause).degrade

/-- Modes in which the loss of the last radio region is a SAFE cause (R84 value 0x09). -/
def Mode.needsRadio (m : Mode) : Bool :=
  m == .active || m == .degraded || m == .quiet || m == .standby || m == .handover

/-- A radio region goes out of service (R20, R81): its carriers and receptions end, its domains stay off until the next
application; SAFE when it was the last. -/
def State.regionOut (s : State) (r : Region) (cause : Nat) : State :=
  if (s.radio.get r).inService then
    let s := s.radUpd r fun d => { d with inService := false, isolated := true }
    let s := (s.muteRegion r .lockLost .late false).rxDrop r
    let s := s.oosRecord 2 0 r.ix cause
    if s.sys.mode.needsRadio ∧ s.anyRadio = false then s.safe 0x09 r.ix
    else ((s.regionDark r).mapSettle r).degrade
  else s

/-- A fault of the network region, the Strongroom or the supervisor (R20, R84): SAFE, recorded as MODE_SAFE.
[log 69: DEDUCED] -/
def State.coreOut (s : State) (p : CorePart) : State :=
  match p with
  | .network => s.safe 0x08 0
  | .strongroom => s.safe 0x08 0
  | .supervisor => s.safe 0x07 0

/-! Zeroisation (R410). -/

/-- The image is withdrawn: no region has an image to run under, and the modes' masks are those without one. -/
def State.imageDrop (s : State) : State :=
  let s : State := { s with str := { s.str with active := none, applying := none } }
  let s := (s.clrb Reg.strState 15).irqApply
  let s := allRegions.foldl (fun s r => s.radUpd r (fun d => { d with inService := false })) s
  s.maskTake s.sys.mode

/-- Zeroisation of a part that is awake: keys erased, the record, the image withdrawn. -/
def State.zeroise (s : State) (cause : Nat) : State :=
  (s.keyErase.when (s.domOn 11) (·.stk Reg.keyTrouble 0)).cell 0x43 cause 0 0

/-! Mode commands. -/

/-- Whether every lock of R87 is set. -/
def State.locksSet (s : State) : Bool :=
  s.rb Reg.macLock 0 && allRegions.all (fun r => ! s.powered r || s.rb (Reg.rfcCtrl r.ix) 31)

/-- Where a command leads from the present mode, and how (R88); none: it has no row. A session in FIELD_DEBUG ends only at reset (R413), so
no command leads out of SAFE in it. [log 57: DEDUCED] -/
def State.commandRow (s : State) (target : Mode) : Option (Mode × TransKind) :=
  let m := s.sys.mode
  let twin := s.twinMode
  let ready := s.str.active.isSome && s.anyRadio
  match target with
  | .hearth =>
    if (m == .configure || m == .quiet || m == .standby || (m == .safe && ! s.key.debugLatch)) && s.rb Reg.clkStatus 1 && ! s.twin.ownDrive then
      some (.hearth, .hearthEntry)
    else none
  | .configure =>
    if m == .active || m == .quiet || m == .degraded || m == .standby || (m == .safe && s.noCause && ! s.key.debugLatch) then
      some (.configure, .command)
    else none
  | .active =>
    if m = .configure then
      if twin then some (if s.twin.released then .handover else .standby, .command)
      else if ready then some (.active, .command) else none
    else if m = .quiet ∧ (twin = false ∨ s.twin.ownDrive) then some (.active, .command)
    else none
  | .quiet =>
    if m = .configure then
      if twin then some (if s.twin.released then .handover else .standby, .command)
      else if ready then some (.quiet, .command) else none
    else if m = .active ∨ m = .degraded then some (.quiet, .command)
    else none
  | .standby =>
    if m = .configure ∧ twin then some (.standby, .command)
    else if (m = .active ∨ m = .degraded ∨ m = .quiet) ∧ twin ∧ s.peerGood then some (.standby, .yieldWait)
    else none
  | _ => none

/-- Jobs on carriers and not on air go back to the scheduler (R88). -/
def State.jobsReturn (s : State) : State :=
  allRegions.foldl (fun s r => (List.range 4).foldl (fun s c =>
    let x := s.carrier r c
    let s := s.asideEnd r c .returned
    if x.job.isSome && ! x.onAir && x.phase != .ackWait then s.jobEnd r c .returned else s) s) s

/-- A wait of R467 ends once nothing is on air and every mirror item is acknowledged: YIELD is sent, the line let go and STANDBY
entered (R467). -/
def State.yieldCheck (s : State) : State :=
  match s.sys.transition with
  | some ⟨_, .yieldWait, _⟩ =>
    if allRegions.all (fun r => (s.carriersOn r).isEmpty) ∧ s.mirrorDone then
      ((((s.twinNow 4 []).lineRelease).queuesDiscard).modeTo .standby).resyncAsk
    else s
  | _ => s

/-- A command begins its transition, or is refused (R85, R88, R467). -/
def State.commandRun (s : State) (target : Mode) : State :=
  match s.commandRow target with
  | none => s.stk Reg.sysModeCmd 29
  | some (m, kind) =>
    let s : State := { s with sys := { s.sys with transition := some ⟨m, kind, s.now⟩, quietClaim := target == .quiet },
                              twin := { s.twin with mirrorLost := false } }
    s.jobsReturn.yieldCheck

/-- Whether a command waits under R87. -/
def State.waitsLocks (s : State) (target : Mode) : Bool :=
  (target == .active || target == .quiet || target == .standby) && ! s.locksSet

/-- Whether the start-up still holds commands (R95). -/
def State.starting (s : State) : Bool := (s.sys.mode == .off || s.sys.mode == .configure) && ! s.sys.loadDone

/-- Whether a command to a target is held (R86, R87, R95). -/
def State.holdsCmd (s : State) (target : Mode) : Bool :=
  s.sys.transition.isSome || s.starting || s.waitsLocks target || (s.upd.handover.map (·.ready)) == some true

/-- A command accepted by R85: held under R86, R87 or R95, or run. [log 56: DEDUCED] -/
def State.commandTake (s : State) (target : Mode) : State :=
  if s.holdsCmd target then
    { s with sys := { s.sys with heldCmd := some target } }
  else ({ s with sys := { s.sys with heldCmd := none } } : State).commandRun target

/-- A command written by the host, refused or not, takes the place of START_MODE (R94). -/
def State.hostCmd (s : State) (byHost : Bool) : State :=
  { s with sys := { s.sys with hostCmdWritten := s.sys.hostCmdWritten || byHost } }

/-- A write of `SYS.MODE_CMD` with GO and a target of R85: discarded, TARGET as it was, where it has no row now, nothing
holds it and it replaces no command held (R86). [log 15: DEDUCED] -/
def State.modeCommand (s : State) (byHost : Bool) (target : Mode) : State :=
  if s.domOn 10 = false ∨ s.sys.stage < 3 then s
  else
    let s := s.hostCmd byHost
    if s.sys.heldCmd = none ∧ s.holdsCmd target = false ∧ s.commandRow target = none then s.stk Reg.sysModeCmd 29
    else (s.setRf Reg.sysModeCmd 0 4 target.code).commandTake target

/-- The transition of a command ends (R88, R453, R465). -/
def State.commandDone (s : State) (target : Mode) : State :=
  let left := s.sys.mode
  match target with
  | .active =>
    let s := s.modeTo s.activeMode
    (s.dls.queues.map (·.1)).foldl (fun s h => s.porchBook h) s
  | .configure =>
    let s := (s.yieldLine left).modeTo .configure
    let s := allRegions.foldl (fun s r => s.rxDrop r) s
    if left = .safe then
      allRegions.foldl (fun s r => if (s.radio.get r).inService then
        s.radUpd r fun d => { d with recal := { d.recal with due := true, dueAt := s.now } } else s) s
    else s
  | .standby => ((s.yieldLine left).modeTo .standby).resyncAsk
  | .handover => (s.modeTo .handover).claimBegin
  | m => s.modeTo m

/-! HEARTH (R82, R90, R355). -/

/-- The registers whose locked values the wake context keeps (R90): the `MAC` common page and each `RFC.CTRL`. -/
def lockedRegs : List Nat := [Reg.macSelfEuiLo, Reg.macSelfEuiHi, Reg.macSelfAddr, Reg.macRdvOui, Reg.macLock,
  Reg.rfcCtrl 0, Reg.rfcCtrl 1, Reg.rfcCtrl 2]

/-- The next edge of the slow clock, or one that falls now (R355). -/
def State.slowEdge (s : State) : Nat := ceilDiv s.now slowTick * slowTick

/-- The wake context (R90 step 2): the timebase and the timers freeze on the next slow-clock edge (R355). [log 53: DEDUCED] -/
def State.wakeCtx (s : State) : WakeCtx :=
  let s : State := { s with now := s.slowEdge }
  { mode := s.sys.mode, source := (s.str.active.map (·.source)).getD 7, counter := (s.str.active.map (·.counter)).getD 0
    timebase := s.tbRaw, incr := s.tsu.incr, slowCount := s.now / slowTick, ratio := s.tsu.ratio
    timers := (List.range 16).map (fun c => { s.timer c with base := s.timerCount c })
    staggered := (List.range 16).filter (fun c => s.rb (Reg.tmrChStatus c) 30)
    pinAts := ((List.range 8).filter (fun n => (s.pinHeld n).armed)).flatMap (fun n =>
      [Reg.tsuPinAtNs n, Reg.tsuPinAtSecLo n, Reg.tsuPinAtSecHi n].map (fun a => (a, s.rg a)))
    capPins := (List.range 8).filter (fun n => s.pinFn n == 3 && bit (s.irqF (8 + n) 3) 2)
    locked := lockedRegs.map (fun a => (a, s.rg a))
    watch := (List.range 16).filter (fun n => decide (n < 2) || ((s.src n).wake && (s.src n).enabled)) }

/-- What the Hearth's store takes as HEARTH is entered (R90), the core die's latch of
FIELD_DEBUG loses its supply (R383, R416). [log 58: DEDUCED] -/
def State.hearthStore (s : State) (w : WakeCtx) (keep : Bool) : State :=
  { s with sys := { s.sys with wake := some w, retention := keep, coreEn := keep, loadDone := false,
                               hostCmdWritten := false, heldCmd := none }
           key := { s.key with debugLatch := false }
           irq := { s.irq with wakeSeen := [], wakeSrc := none } }

/-- What the Pantry keeps through HEARTH with retention (R82), taken from the state before: the frames received and not yet
processed, the records held for the rings, the frames staged and those waiting at the ports. HEAD, TAIL and P of a ring are
domain 10's and are lost (R75). [log 31: DEDUCED] -/
def State.pantryKept (s : State) (before : State) : State :=
  { s with hif := { s.hif with rxUsed := before.hif.rxUsed, safetyUsed := before.hif.safetyUsed, safetySize := before.hif.safetySize
                               rxJobs := before.hif.rxJobs
                               staging := before.hif.staging, rings := heldOnly before.hif.rings
                               ports := smap EthPort.reset (fun x => { EthPort.reset with ingress := x.ingress, egress := x.egress, waiting := x.waiting })
                                 before.hif.ports } }

/-- The frames that deliveries leave in the Pantry at HEARTH entry without retention are discarded and counted (R90 step 1):
receive jobs, records held for a ring, frames staged or waiting at a port. [log 31: DEDUCED] [log 160: DESIGN CHOICE] -/
def State.pantryDiscard (s : State) : State :=
  let s := allRegions.foldl (fun s r => s.cntBy Reg.jobRxDropCnt (s.hif.rxJobs.get r).length) s
  let s := (List.range 68).foldl (fun s k => s.cntBy (ringBase k + 0x24) (s.ring k).held.length) s
  s.cntBy Reg.hifPantryDropCnt (s.hif.staging.length + (s.hif.ports.map (fun kv => kv.2.egress.length + kv.2.waiting.length)).sum)

/-- OP_TIME saved as domain 2 goes off (R478). -/
def State.opStop (s : State) (op : Nat) : State :=
  { s with cellar := { s.cellar with opBase := op, opFrom := none, opSaved := op } }

/-- HEARTH entered. [log 31: DEDUCED] -/
def State.hearthEnter (s : State) : State :=
  let s := allRegions.foldl (fun s r => s.rxDrop r) s
  let keep := s.retain .hearth
  let s := (s.when (! keep) (fun s => s.ringsKick.pantryDiscard)).dutySave.trialSave
  let w := s.wakeCtx
  let s := s.cacheFlush
  let u := ((s.hearthStore w keep).modeTo .hearth).opStop s.opTime
  if keep then u.pantryKept s else u

/-- The make-up of time at a wake (R350, R355), as domain 10 restarts on a slow-clock edge: until it the timebase and the timers stand.
[log 55: DEDUCED] -/
def State.timeMakeUp (s : State) (w : WakeCtx) : State :=
  let start := s.slowEdge
  let e := (start / slowTick - w.slowCount) * w.ratio / 2 ^ 16
  let old := w.timebase / 2 ^ 32
  let s : State := { s with tsu := { s.tsu with base := w.timebase + e * w.incr, start := start, incr := nominalIncr, past := [] } }
  let s := ((s.setRg Reg.tmrWakeElapsedLo (BitVec.ofNat 32 e)).setRg Reg.tmrWakeElapsedHi
    (BitVec.ofNat 32 (e / 2 ^ 32 % 65536))).stk Reg.tsuStatus 7
  let s := w.pinAts.foldl (fun s aw => s.setRg aw.1 aw.2) s
  let s := w.timers.zipIdx.foldl (fun s tc =>
    let t := tc.1
    let c := tc.2
    let s := ((s.setRg (Reg.tmrTerminalLo c) (BitVec.ofNat 32 t.terminal)).setRg (Reg.tmrTerminalHi c)
      (BitVec.ofNat 32 (t.terminal / 2 ^ 32 % 65536))).setb (Reg.tmrChStatus c) 30 (w.staggered.contains c)
    if t.running then s.setTimer c { t with base := t.base + e, start := start } else s.setTimer c t) s
  let s := s.timersLate ((List.range 16).filter fun c => (s.timer c).running && decide ((s.timer c).terminal ≤ (s.timer c).base)) start
  let s := (List.range 8).foldl (fun s n => s.pinJump old false n) s
  let s := s.tsu.hearthCaps.foldl (fun s kv =>
    match kv.2 with
    | some tick =>
      let d := (tick / slowTick - w.slowCount) * w.ratio / 2 ^ 16
      let ns := (w.timebase + d * w.incr) / 2 ^ 32
      s.pinCapture kv.1 ns true
    | none => s) s
  { s with tsu := { s.tsu with hearthCaps := [] } }

/-- A wake starts (R88, R91, R97): domains 2–16 start as from a reset; `PWR_CORE_EN` is asserted. [log 55: DEDUCED] -/
def State.wakeStart (s : State) : State :=
  let prev := match s.sys.wake with | some w => w.mode | none => s.sys.previous
  let s : State :=
    { s with sys := { s.sys with mode := .off, previous := prev, warm := true, stage := 0, startTries := 0, bank := false,
                                 startTick := s.now, coreEn := true, latchedWake := [], loadDone := false }
             str := { s.str with active := none, applying := none }
             loftReady := false }
  let s := allRegions.foldl (fun s r => s.radUpd r (fun d => { d with inService := false })) s
  s.stk Reg.sysResetCause 7

/-- A source of the wake subset pends in HEARTH: recorded, and the wake starts. -/
def State.wakeBy (s : State) (n : Nat) : State :=
  let s : State := { s with irq := { s.irq with
    wakeSrc := if s.irq.wakeSrc.isSome then s.irq.wakeSrc else some n
    wakeSeen := if s.irq.wakeSeen.contains n then s.irq.wakeSeen else s.irq.wakeSeen ++ [n] } }
  if s.sys.mode = .hearth then s.wakeStart else s

/-- A watched source pends for the Hearth (R89, R373): latched during HEARTH entry, a wake in HEARTH, recorded as seen until
domain 10 is back. -/
def State.hearthPend (s : State) (n : Nat) : State :=
  match s.sys.transition with
  | some ⟨_, .hearthEntry, _⟩ =>
    if (s.wakeCtx.watch.contains n) && ! s.sys.latchedWake.contains n then
      { s with sys := { s.sys with latchedWake := s.sys.latchedWake ++ [n] } }
    else s
  | _ =>
    match s.sys.wake with
    | some w => if (s.sys.mode = .hearth ∨ s.domOn 10 = false) ∧ w.watch.contains n then s.wakeBy n else s
    | none => s

/-- A source that the Hearth feeds: the controller takes it where it runs, and the Hearth where it watches (R362, R373). -/
def State.hearthSource (s : State) (n : Nat) : State := (s.when (s.domOn 10) (·.event n)).hearthPend n

/-! Resets (R91–R93). -/

/-- The state a package reset leaves: everything but the Hearth is reset; MRAM, flash and what the surroundings hold are
kept (R91). `por` says that it is a power-on reset: the Loft and `TSU.STEP_ACCUM` are lost too (R337).
[log 7: DEDUCED] -/
def State.packageReset (s : State) (por : Bool) (straps : Straps) : State :=
  let k := s.key
  let u := s.upd
  let returned := k.lifecycle == .returned
  { State.reset with
    now := s.now, pending := s.pending, outbox := s.outbox, freeCtr := s.freeCtr, readData := s.readData
    loftGiB := s.loftGiB
    regs := sput (regReset Reg.sysResetCause) [] Reg.sysResetCause (s.rg Reg.sysResetCause)
    sys :=
      { State.reset.sys with
        mode := if returned then .returned else .off, straps := straps, startTick := s.now, hearthOn := true
        onBackup := s.sys.onBackup, supplyBad := s.sys.supplyBad, tcxoBad := s.sys.tcxoBad, hot := s.sys.hot
        mainGood := s.sys.mainGood, coreGood := s.sys.coreGood, slowBad := s.sys.slowBad, ethRefBad := s.sys.ethRefBad
        pcieRefBad := s.sys.pcieRefBad }
    str := { State.reset.str with storedCounter := s.str.storedCounter }
    radio := ⟨{ Radio.reset with barred := s.radio.l.barred }, { Radio.reset with barred := s.radio.m.barred },
      { Radio.reset with barred := s.radio.h.barred }⟩
    tab := { State.reset.tab with loft := if por then [] else s.tab.loft }
    tsu := { State.reset.tsu with accum := if por then 0 else s.tsu.accum, ratio := s.tsu.ratio }
    irq := s.irq.cleared
    key := { State.reset.key with
      lifecycle := k.lifecycle, deviceId := k.deviceId, devPub := k.devPub, devPriv := k.devPriv, root := k.root
      slotA := k.slotA, slotB := k.slotB, commitLive := k.commitLive, commitGen := k.commitGen, commitCrc := k.commitCrc
      counter := k.counter, wrapCtr := k.wrapCtr, regenDue := k.regenDue, offTamper := k.offTamper }
    upd := { State.reset.upd with
      banks := u.banks, slots := u.slots, bundles := if por then [] else u.bundles, nv0 := u.nv0, nv1 := u.nv1
      fwMin := u.fwMin, bundleCounter := u.bundleCounter, recordFormat := u.recordFormat }
    twin := { State.reset.twin with released := s.twin.released, lastSync := s.twin.lastSync, hearthKept := s.twin.hearthKept }
    saf := { State.reset.saf with tempFront := s.saf.tempFront, tempCore := s.saf.tempCore }
    dbg := { State.reset.dbg with ir := s.dbg.ir, boundary := s.dbg.boundary, keyWords := s.dbg.keyWords }
    cellar := { State.reset.cellar with
      records := s.cellar.records, next := s.cellar.next, opBase := s.cellar.opSaved, opSaved := s.cellar.opSaved
      powerCycles := s.cellar.powerCycles + por.toNat, lostFull := s.cellar.lostFull, clearing := s.cellar.clearing
      unlearned := s.cellar.unlearned } }

/-- A power-on reset (R93): the other causes are cleared; a brown-out sets SUPPLY_STK too. -/
def State.powerOnReset (s : State) (brown : Bool) (straps : Straps) : State :=
  let s := s.packageReset true straps
  s.setRg Reg.sysResetCause (if brown then 0x5 else 0x1)

/-- Whether a package reset applies: in every mode but OFF, where the supplies are absent (R88). -/
def State.canReset (s : State) : Bool := s.sys.mainGood && s.domOn 1

/-- A reset of the scope of a pin reset, with its cause bit (R91, R93). -/
def State.pinScopeReset (s : State) (cause : Nat) (straps : Straps) : State :=
  if s.canReset then (s.packageReset false straps).stk Reg.sysResetCause cause else s

/-- A ring's share of a PCIe reset: HEAD, TAIL and its enable. -/
def State.pcieRingClear (s : State) (k : Nat) : State :=
  (((s.setRg (ringBase k) 0).setRg (ringBase k + 4) 0).clrb (ringBase k + 0x10) 31).setRing k
    { s.ring k with head := 0, tail := 0 }

/-- The function's share of a PCIe reset: bus mastering and MSI-X off, its table masked. [log 181: PRESUMED] -/
def State.pcieFunctionClear (s : State) : State :=
  { s with hif := { s.hif with busMaster := false, msix := false, stalled := false, msixTable := [], msixPending := 0
                               msixMask := false } }

/-- The function back in D0. -/
def State.pcieD0 (s : State) : State := { s with hif := { s.hif with power := .d0 } }
/-- The PCIe link down, and no longer in L1. -/
def State.pcieLinkDown (s : State) : State := { s with hif := { s.hif with linkUp := false, l1 := false } }
/-- The PCIe link out of L1. -/
def State.pcieAwake (s : State) : State := { s with hif := { s.hif with l1 := false } }

/-- A PCIe reset (R91, R295): ring and DMA state only; held records stay. -/
def State.pcieResetNow (s : State) : State :=
  (((List.range 68).foldl (fun s k => s.pcieRingClear k) s).stk Reg.sysResetCause 6).pcieFunctionClear

end Sys2Proof.Machine
end

