-- ==== Sys2Proof/Machine/Fwd.lean ====
section
/-! DEFINITION. Machine/Fwd.lean: the command blocks of forwarding and learning (R269–R271), the rebuild of prefix filters
(R267) and the node-record window (R272). A block's operation is one step, behind which GO reads 1 for a while (log
entry 40). -/

namespace Sys2Proof.Machine

/-! The registers of a block: the host's set and the supervisor's identical second set (R269, R273). -/

/-- The base of a command block. -/
def fwdBase (sup : Bool) (b : Nat) : Nat := (if sup then 0x1A0000 else 0x190000) + 0x400 * b
/-- `FWD.ARG` of a block. -/
def State.fwdArg (s : State) (sup : Bool) (b : Nat) : Nat := (s.rg (fwdBase sup b + 8)).toNat
/-- The first `n` words of the data registers of a block, as one number. -/
def State.fwdData (s : State) (sup : Bool) (b n : Nat) : Nat :=
  leNat ((List.range n).flatMap (fun j => toLE 4 (s.rg (fwdBase sup b + 0x100 + 4 * j)).toNat))
/-- The first `n` data registers written. -/
def State.setFwdData (s : State) (sup : Bool) (b n v : Nat) : State :=
  (List.range n).foldl (fun s j => s.setRg (fwdBase sup b + 0x100 + 4 * j) (BitVec.ofNat 32 (bits v (32 * j) 32))) s

/-- What an operation leaves in STATUS and the data registers (R271). -/
structure FwdRes where
  result : Nat
  index : Nat := 0
  spill : Bool := false
  moves : Option Nat := none
  out : Option (Nat × Nat) := none

/-- The word of `FWD.STATUS`, from what it held: RELOCATIONS stays what the last INSERT made. -/
def FwdRes.word (x : FwdRes) (old : Word) : Word :=
  BitVec.ofNat 32 (min 255 (x.moves.getD (getBits old 24 8)) * 2 ^ 24 + x.spill.toNat * 2 ^ 23 + x.index % 2 ^ 19 * 16 + x.result)

/-- Whether no engine is left to serve a block (R20): 0–2 the learning tables, 3 the prefix table, 4 the node records. -/
def State.blockOut (s : State) (b : Nat) : Bool := if b < 4 then s.tableOut b else s.nodesOut

/-- An operation of a block (R269): a block whose GO reads 1 rejects it. The operation takes effect as GO is written; GO reads 1 for a
free time of at most 20 µs, after which its completion event can be taken. A block that no engine serves answers as one without its domain.
[log 189: DESIGN CHOICE] [log 40: DESIGN CHOICE] [log 138: DEDUCED] -/
def State.fwdOp (s : State) (sup : Bool) (b op : Nat) (f : State → State × FwdRes) : State :=
  let status := fwdBase sup b + 4
  if sup && ! s.domOn 12 then s.unmapped
  else if ! s.domOn 9 then (if sup then s.setRg status (({ result := 7 } : FwdRes).word (s.rg status)) else s.unmapped)
  else if s.fwdBusy (fwdSource sup b) then s.stk (fwdBase sup b) 29
  else
    let s := s.setRf (fwdBase sup b) 0 4 op
    let (s, x) := if s.blockOut b then (s, { result := 7 }) else f s
    let s := match x.out with
      | some nv => s.setFwdData sup b nv.1 nv.2
      | none => s
    ((s.setRg status (x.word (s.rg status))).fwdStart (fwdSource sup b)).event (fwdSource sup b)

/-- Whether a request is the supervisor's. -/
def fromSup : FwdFrom → Bool
  | .host => false
  | .supervisor _ _ _ => true

/-- What the supervisor writes to ARG, MASK and the data registers of its set before an operation (R269); while GO reads 1 it is
discarded. -/
def State.fwdLoad (s : State) (x : FwdFrom) (b : Nat) : State :=
  match x with
  | .host => s
  | .supervisor arg mask data =>
    if s.domOn 12 ∧ s.fwdBusy (fwdSource true b) = false then
      let a := fwdBase true b
      ((data.take 64).zipIdx).foldl (fun s x => s.setRg (a + 0x100 + 4 * x.2) x.1) ((s.setRg (a + 8) arg).setRg (a + 0xC) mask)
    else s

/-! Learning tables. -/

/-- Whether an entry's reserved fields are 0, with PARENT 0 on a direct route and the upper key bytes 0 of a short key
(R252). [log 110: DEDUCED] -/
def leFieldsOk (e : LEnt) : Bool :=
  getBits e 83 5 == 0 && getBits e 124 3 == 0 && ! getBit e 114 && (leVia e || leParent e == 0) &&
    (leType e == 0 || getBits e 32 32 == 0)

/-- The entry the data registers hold. -/
def State.fwdEntry (s : State) (sup : Bool) (b : Nat) : LEnt := BitVec.ofNat 128 (s.fwdData sup b 4)

/-- Whether the records an entry names are provisioned (R269): its HANDLE, and PARENT for a route through one. -/
def State.leNamed (s : State) (e : LEnt) : State × Bool :=
  let (s, x) := s.nodeGet (leHandle e)
  if leVia e then
    let (s, y) := s.nodeGet (leParent e)
    (s, recProv x && recProv y)
  else (s, recProv x)

/-- A table the block serves exists and its entry is acceptable; otherwise BAD_ARG or NOT_PROVISIONED.
[log 112: DEDUCED] -/
def State.leGuard (s : State) (r : Nat) (e : LEnt) (f : State → State × FwdRes) : State × FwdRes :=
  if s.learnN r = 0 ∨ leFieldsOk e = false then (s, { result := 4 })
  else
    let (s, ok) := s.leNamed e
    if ok then f s else (s, { result := 6 })

/-- READ of a learning table by INDEX. -/
def State.learnRead (s : State) (r index : Nat) : State × FwdRes :=
  if s.learnN r ≤ index then (s, { result := 4 })
  else
    let e := sget 0 (s.learnTab r) index
    if getBit e 95 then (s, { result := 0, index := index, out := some (4, e.toNat) })
    else (s, { result := 1, index := index })

/-- The entry with a key, for WRITE, DELETE and SEARCH. -/
def State.learnKeyed (s : State) (r : Nat) (e : LEnt) (f : Bool × Nat → State) (out : Bool) : State × FwdRes :=
  if s.learnN r = 0 then (s, { result := 4 })
  else
    match s.learnFind r (leKey e) (leType e) with
    | some w =>
      (f w, { result := 0, index := w.2, spill := w.1, out := if out then some (4, (s.learnAt r w).toNat) else none })
    | none => (s, { result := 1 })

/-- WRITE of a learning table: the entry with the key replaced in place. -/
def State.learnWrite (s : State) (r : Nat) (e : LEnt) : State × FwdRes :=
  s.leGuard r e fun s => s.learnKeyed r e (fun w => s.learnPut r w (setBits e 95 1 1)) false

/-- INSERT into a learning table. -/
def State.learnAdd (s : State) (r : Nat) (e : LEnt) : State × FwdRes :=
  s.leGuard r e fun s =>
    let (s, x) := s.learnInsert r e
    (s, { result := x.result, index := x.index, spill := x.spill, moves := some x.moves })

/-! The prefix table. -/

/-- Whether a prefix entry's fields are as R264 and R266 allow. [log 110: DEDUCED] -/
def peFieldsOk (e : PEnt) : Bool :=
  decide (peLength e ≤ 128) && maskPrefix (toLE 16 (pePrefix e)) (peLength e) == pePrefix e && decide (peAction e ≤ 5) &&
    (decide (peContext e ≤ 15) || peContext e == 0xFF) && ! getBit e 190 && getBits e 178 6 == 0 && getBits e 200 56 == 0

/-- The prefix entry the data registers hold. -/
def State.fwdPrefix (s : State) (sup : Bool) : PEnt := BitVec.ofNat 256 (s.fwdData sup 3 8)

/-- A prefix entry is acceptable, and the record an ACTION of FIXED names is provisioned. [log 112: DEDUCED] -/
def State.peGuard (s : State) (e : PEnt) (f : State → State × FwdRes) : State × FwdRes :=
  if s.tabF 0x0C 4 = 0 ∨ peFieldsOk e = false then (s, { result := 4 })
  else if peAction e = 3 then
    let (s, x) := s.nodeGet (peHandle e)
    if recProv x then f s else (s, { result := 6 })
  else f s

/-- READ of the prefix table by INDEX. -/
def State.prefixRead (s : State) (index : Nat) : State × FwdRes :=
  if s.tabF 0x0C 4 ≤ index then (s, { result := 4 })
  else
    let e := sget 0 s.tab.prefixes index
    if getBit e 191 then (s, { result := 0, index := index, out := some (8, e.toNat) })
    else (s, { result := 1, index := index })

/-- The prefix entry with a key. -/
def State.prefixKeyed (s : State) (e : PEnt) (f : Nat → State) (out : Bool) : State × FwdRes :=
  if s.tabF 0x0C 4 = 0 then (s, { result := 4 })
  else
    match s.prefixFind (pePrefix e) (peLength e) with
    | some p =>
      (f p, { result := 0, index := p, out := if out then some (8, (sget 0 s.tab.prefixes p).toNat) else none })
    | none => (s, { result := 1 })

/-- A position of the prefix table written. -/
def State.prefixPut (s : State) (p : Nat) (e : PEnt) : State :=
  { s with tab := { s.tab with prefixes := s.prefixTbl.write s.tab.prefixes p e } }

/-- WRITE of the prefix table. -/
def State.prefixWrite (s : State) (e : PEnt) : State × FwdRes :=
  s.peGuard e fun s => s.prefixKeyed e (fun p => s.prefixPut p (setBits e 191 1 1)) false

/-- INSERT into the prefix table. -/
def State.prefixAdd (s : State) (e : PEnt) : State × FwdRes :=
  s.peGuard e fun s =>
    let (s, x) := s.prefixInsert e
    (s, { result := x.result, index := x.index, moves := some x.moves })

/-! Node records. -/

/-- The groups of R16 in offset order, with their sizes: GROUP_MASK bit n selects the n-th. -/
def recGroups : List (Nat × Nat) :=
  [(0x00, 8), (0x08, 8), (0x10, 16), (0x20, 16), (0x30, 16), (0x40, 16), (0x50, 16), (0x60, 40), (0x88, 8), (0x90, 16),
   (0xA0, 32), (0xC0, 48), (0xF0, 16)]

/-- GROUP_MASK bits that must be 0: the key, the queue and the trailer; in STANDBY also every mirrored group (R461). -/
def State.maskForbidden (s : State) (mask : Nat) : Bool :=
  bit mask 7 || bit mask 9 || bit mask 12 ||
    (s.sys.mode == .standby && (bit mask 0 || bit mask 1 || bit mask 4 || bit mask 5 || bit mask 6 || bit mask 8))

/-- The reserved fields of the groups a host may write, by the group's place in `recGroups`: byte offset, first bit, bits (R196, R218,
R243–R247). -/
def recReserved : List (Nat × Nat × Nat × Nat) :=
  [(1, 0x0C, 18, 4), (2, 0x1F, 3, 5), (3, 0x26, 0, 16), (3, 0x28, 27, 3), (3, 0x2C, 18, 13), (6, 0x59, 7, 1), (6, 0x5B, 0, 40),
   (8, 0x88, 10, 6), (8, 0x8A, 1, 7), (8, 0x8B, 0, 40), (10, 0xBC, 0, 32)]

/-- A record with the groups of a mask replaced from data, HEARD and HEARD_REGION kept, reserved fields 0 (R7), and the figures of a
node newly provisioned set to 0x80 (R196, R243, R269). -/
def recWrite (x d : Rec) (mask : Nat) : Rec :=
  let y := (recGroups.zipIdx).foldl (fun y gi => if bit mask gi.2 then recSet y gi.1.1 gi.1.2 (recF d gi.1.1 gi.1.2) else y) x
  let y := recReserved.foldl (fun y f => if bit mask f.1 then recSetBits y f.2.1 f.2.2.1 f.2.2.2 0 else y) y
  let y := if bit mask 1 then recSetBits y 0x0C 22 4 (recBits x 0x0C 22 4) else y
  if recProv y && ! recProv x && ! bit mask 3 then recSet y 0x20 6 0x808080808080 else y

/-- WRITE of a node record (R250, R269). -/
def State.recordWrite (s : State) (h mask : Nat) (d : Rec) : State × FwdRes :=
  let (s, x) := s.nodeGet h
  let y := recWrite x d mask
  if s.maskForbidden mask ∨ (bit mask 1 ∧ recBits d 0x0C 0 18 ≠ h) ∨ (bit mask 0 ∧ recProv x ∧ recEui d ≠ recEui x) then
    (s, { result := 4 })
  else if recPinned y ∧ recPinned x = false ∧ 8 ≤ s.pinnedInSet (cacheSet h) h then (s, { result := 5 })
  else
    let s := s.nodeUpd h (fun x => recWrite x d mask)
    (if bit mask 5 then allRegions.foldl (fun s r => s.mapSettle r) s else s, { result := 0 })

/-- A record cleared by command: everything but the bytes the host owns, which the device writes only when a CRC has
failed (R17, R251). [log 111: DEDUCED] -/
def recClear (x : Rec) : Rec := recSet blankRec 0xC0 48 (recF x 0xC0 48)

/-- DELETE of a node: its entries of both key forms, its queue, its record (R269). [log 111: DEDUCED] -/
def State.recordDelete (s : State) (h : Nat) : State × FwdRes :=
  if s.sys.mode = .standby then (s, { result := 4 })
  else
    let (s, x) := s.nodeGet h
    let s := ((s.learnForget h x).queueDiscard h).nodeUpd h recClear
    (allRegions.foldl (fun s r => s.mapSettle r) s, { result := 0 })

/-! The commands. -/

/-- FWD_READ. [log 40: DESIGN CHOICE] -/
def execFwdRead (by_ : FwdFrom) (block : Fin 5) (s : State) : Host.Outcome State Fault Refusal :=
  s.go fun s => (s.fwdLoad by_ block).fwdOp (fromSup by_) block 1 fun s =>
    let a := s.fwdArg (fromSup by_) block
    if block.val < 3 then s.learnRead block (a % 2 ^ 19)
    else if block.val = 3 then s.prefixRead (a % 2 ^ 19)
    else
      let (s, x) := s.nodeGet (a % 2 ^ 18)
      (s, { result := 0, out := some (64, x.toNat) })

/-- FWD_WRITE. -/
def execFwdWrite (by_ : FwdFrom) (block : Fin 5) (s : State) : Host.Outcome State Fault Refusal :=
  s.go fun s => (s.fwdLoad by_ block).fwdOp (fromSup by_) block 2 fun s =>
    let a := s.fwdArg (fromSup by_) block
    if block.val < 3 then s.learnWrite block (s.fwdEntry (fromSup by_) block)
    else if block.val = 3 then s.prefixWrite (s.fwdPrefix (fromSup by_))
    else s.recordWrite (a % 2 ^ 18) (bits a 19 13) (BitVec.ofNat 2048 (s.fwdData (fromSup by_) block 64))

/-- FWD_INSERT. -/
def execFwdInsert (by_ : FwdFrom) (block : Fin 5) (s : State) : Host.Outcome State Fault Refusal :=
  s.go fun s => (s.fwdLoad by_ block).fwdOp (fromSup by_) block 3 fun s =>
    let (s, x) :=
      if block.val < 3 then s.learnAdd block (s.fwdEntry (fromSup by_) block)
      else if block.val = 3 then s.prefixAdd (s.fwdPrefix (fromSup by_))
      else (s, { result := 4 })
    (s, { x with moves := some (x.moves.getD 0) })

/-- FWD_DELETE. -/
def execFwdDelete (by_ : FwdFrom) (block : Fin 5) (s : State) : Host.Outcome State Fault Refusal :=
  s.go fun s => (s.fwdLoad by_ block).fwdOp (fromSup by_) block 4 fun s =>
    if block.val < 3 then s.learnKeyed block (s.fwdEntry (fromSup by_) block) (fun w => s.learnPut block w 0) false
    else if block.val = 3 then
      let e := s.fwdPrefix (fromSup by_)
      s.prefixKeyed e (fun p => (s.prefixPut p 0).prefixDeleted (peLength e)) false
    else s.recordDelete (s.fwdArg (fromSup by_) block % 2 ^ 18)

/-- FWD_SEARCH. -/
def execFwdSearch (by_ : FwdFrom) (block : Fin 5) (s : State) : Host.Outcome State Fault Refusal :=
  s.go fun s => (s.fwdLoad by_ block).fwdOp (fromSup by_) block 5 fun s =>
    if block.val < 3 then s.learnKeyed block (s.fwdEntry (fromSup by_) block) (fun _ => s) true
    else if block.val = 3 then s.prefixKeyed (s.fwdPrefix (fromSup by_)) (fun _ => s) true
    else (s, { result := 4 })

/-- PREFIX_REBUILD: of one length, or of all with 255 (R267, R273). [log 114: DEDUCED] -/
def execPrefixRebuild (length : Byte) (s : State) : Host.Outcome State Fault Refusal :=
  s.go fun s =>
    if s.domOn 9 then
      let s := s.setRf Reg.fwdPfxRebuild 0 8 length.toNat
      if length = 255 then (List.range 129).foldl (fun s l => s.rebuildStart l) s
      else if length.toNat ≤ 128 then s.rebuildStart length.toNat
      else s
    else s.unmapped

/-- PREFIX_REBUILD_DONE: the length's probing without its filter ends. [log 114: DEDUCED] -/
def execPrefixRebuildDone (length : Nat) (t : Nat) (s : State) : Host.Outcome State Fault Refusal :=
  s.act t fun s =>
    if s.domOn 9 ∧ s.tab.rebuilding.contains length then ((s.bloomRebuild length).cnt Reg.fwdRebuildCnt).event 0xA5 else s

/-- A write through one of the windows of R13: accepted only to bytes 0xC0–0xEF of a node record, as one engine operation;
every other is discarded, in the windows of `FWD` (R272) and in the Pantry's (R283), and beyond them nothing is there. -/
def State.windowWrite (s : State) (addr size : Nat) (data : BitVec 64) : State :=
  let o := addr % 256
  if 0x3800000 ≤ addr then s.unmapped
  else if 0x3000000 ≤ addr then (if s.domOn 16 then s.stk Reg.hifTrouble 2 else s.unmapped)
  else if ! s.domOn 9 then s.unmapped
  else if addr < 0x2000000 ∧ 0xC0 ≤ o ∧ o + size ≤ 0xF0 then
    s.nodeUpd (s.rf Reg.fwdWinPage 0 2 * 65536 + (addr - 0x1000000) / 256) (fun x => recSet x o size data.toNat)
  else s.stk Reg.fwdTrouble 7

/-- NODE_WINDOW_WRITE. -/
def execNodeWindowWrite (addr : Nat) (size : Nat) (data : BitVec 64) (s : State) : Host.Outcome State Fault Refusal :=
  s.go fun s => s.windowWrite addr size data

end Sys2Proof.Machine
end

