-- ==== Sys2Proof/Machine/Iphc.lean ====
section
/-! DEFINITION. Machine/Iphc.lean: RFC 6282 header compression with contexts 0–15 and UDP next-header compression (R268). The
formats are the RFC's. [log 179: PRESUMED] -/

namespace Sys2Proof.Machine

/-- A context of `FWD.CTX0`–`FWD.CTX15`: its prefix as a number of 128 bits, most significant first. -/
structure IphcCtx where
  pre : Nat
  length : Nat
  valid : Bool
  compress : Bool
  deriving DecidableEq, Repr

/-- Whether a context can be used: VALID, with a LENGTH of 0–128 (R273). -/
def IphcCtx.ok (c : IphcCtx) : Bool := c.valid && decide (c.length ≤ 128)
/-- An address with the bits a context covers taken from it, and the rest from the bits carried. -/
def IphcCtx.fill (c : IphcCtx) (v : Nat) : Nat :=
  let rest := 2 ^ (128 - c.length)
  c.pre / rest * rest + v % rest
/-- Whether an address lies under a context. -/
def IphcCtx.covers (c : IphcCtx) (a : Nat) : Bool := c.ok && c.fill a == a

/-- The interface identifier of a short address, and of a link-layer address. -/
def shortIid (a : Nat) : Nat := 0xFFFE000000 + a % 65536
def linkIid : MacAddr → Option Nat
  | .none => none
  | .short _ a => some (shortIid a.toNat)
  | .ext e => some (Nat.xor e.toNat (2 ^ 57))
/-- The link-local prefix. -/
def linkLocal : Nat := 0xFE80 * 2 ^ 112

/-- The first `n` octets as a number, and the rest. -/
def cut (n : Nat) (b : Bytes) : Option (Nat × Bytes) := if b.length < n then none else some (be b 0 n, b.drop n)

/-! Compression. -/

/-- The context of an address: the prefix entry's, or the longest valid one with COMPRESS (R268). -/
def iphcPick (ctxs : List IphcCtx) (own a : Nat) : Option (Nat × IphcCtx) :=
  match ctxs[own]?.filter (·.covers a) with
  | some c => some (own, c)
  | none =>
    ctxs.zipIdx.foldl (fun best x =>
      if x.1.compress && x.1.covers a && (best.all (fun y => decide (y.2.length < x.1.length))) then some (x.2, x.1) else best) none

/-- A compressed address: whether a context serves it, which, the mode, and the octets carried. -/
structure IphcAddr where
  ac : Bool
  ci : Nat
  am : Nat
  octets : Bytes
  deriving DecidableEq, Repr

/-- A unicast address in the shortest form that needs no link-layer address. [log 179: PRESUMED] -/
def iphcUnicast (ctxs : List IphcCtx) (own a : Nat) : IphcAddr :=
  let plain : IphcAddr :=
    if linkLocal + shortIid a = a then ⟨false, 0, 2, toBE 2 (a % 2 ^ 16)⟩
    else if linkLocal + a % 2 ^ 64 = a then ⟨false, 0, 1, toBE 8 (a % 2 ^ 64)⟩
    else ⟨false, 0, 0, toBE 16 a⟩
  match iphcPick ctxs own a with
  | some (i, c) =>
    if c.fill (shortIid a) = a then ⟨true, i, 2, toBE 2 (a % 2 ^ 16)⟩
    else if c.fill (a % 2 ^ 64) = a then ⟨true, i, 1, toBE 8 (a % 2 ^ 64)⟩
    else plain
  | none => plain

/-- A source: the unspecified address has a form of its own. -/
def iphcSource (ctxs : List IphcCtx) (own a : Nat) : IphcAddr := if a = 0 then ⟨true, 0, 0, []⟩ else iphcUnicast ctxs own a

/-- A multicast destination. -/
def iphcMulticast (a : Nat) : IphcAddr :=
  let scope : Bytes := toBE 1 (bits a 112 8)
  if a / 2 ^ 8 = 0xFF02 * 2 ^ 104 then ⟨false, 0, 3, toBE 1 (a % 2 ^ 8)⟩
  else if bits a 24 88 = 0 then ⟨false, 0, 2, scope ++ toBE 3 (a % 2 ^ 24)⟩
  else if bits a 40 72 = 0 then ⟨false, 0, 1, scope ++ toBE 5 (a % 2 ^ 40)⟩
  else ⟨false, 0, 0, toBE 16 a⟩

/-- Traffic class and flow label: the mode, and the octets carried. -/
def iphcTf (w : Nat) : Nat × Bytes :=
  let flow := bits w 0 20
  let ecn := bits w 20 2
  let dscp := bits w 22 6
  if flow = 0 then (if ecn + dscp = 0 then (3, []) else (2, toBE 1 (ecn * 64 + dscp)))
  else if dscp = 0 then (1, toBE 3 (ecn * 2 ^ 22 + flow))
  else (0, toBE 4 (ecn * 2 ^ 30 + dscp * 2 ^ 24 + flow))

/-- The hop limits with a form of their own. -/
def iphcHops : Nat → Nat
  | 1 => 1 | 64 => 2 | 255 => 3 | _ => 0

/-- A UDP header compressed, its checksum carried. -/
def udpCompress (u : Bytes) : Bytes :=
  let s := be u 0 2
  let d := be u 2 2
  let ports : Bytes :=
    if s / 16 = 0xF0B ∧ d / 16 = 0xF0B then [0xF3] ++ toBE 1 (s % 16 * 16 + d % 16)
    else if d / 256 = 0xF0 then [0xF1] ++ toBE 2 s ++ toBE 1 (d % 256)
    else if s / 256 = 0xF0 then [0xF2] ++ toBE 1 (s % 256) ++ toBE 2 d
    else [0xF0] ++ toBE 2 s ++ toBE 2 d
  ports ++ slice u 6 2 ++ u.drop 8

/-- An IPv6 packet compressed, with the context of its prefix entry (15 < `own`: none); none of what is no IPv6 packet. Octets beyond
the packet's length are no part of it. [log 179: PRESUMED] -/
def iphcCompress (ctxs : List IphcCtx) (own : Nat) (ip : Bytes) : Option Bytes :=
  let size := be ip 4 2
  if ip.length < 40 + size ∨ byteAt ip 0 / 16 ≠ 6 then none
  else
    let body := slice ip 40 size
    let nh := byteAt ip 6
    let hl := byteAt ip 7
    let udp := decide (nh = 17) && decide (8 ≤ size) && be body 4 2 == size
    let src := iphcSource ctxs own (be ip 8 16)
    let da := be ip 24 16
    let multi := da / 2 ^ 120 == 0xFF
    let dst := if multi then iphcMulticast da else iphcUnicast ctxs own da
    let (tf, tfOctets) := iphcTf (be ip 0 4)
    let ci := src.ci * 16 + dst.ci
    let w := 3 * 2 ^ 13 + tf * 2 ^ 11 + udp.toNat * 2 ^ 10 + iphcHops hl * 2 ^ 8 + (decide (ci ≠ 0)).toNat * 2 ^ 7 +
      src.ac.toNat * 2 ^ 6 + src.am * 2 ^ 4 + multi.toNat * 2 ^ 3 + dst.ac.toNat * 2 ^ 2 + dst.am
    some (toBE 2 w ++ (if ci = 0 then [] else toBE 1 ci) ++ tfOctets ++ (if udp then [] else toBE 1 nh) ++
      (if iphcHops hl = 0 then toBE 1 hl else []) ++ src.octets ++ dst.octets ++ (if udp then udpCompress body else body))

/-! Decompression. -/

/-- The first word of an IPv6 header from the mode and the octets that carry it. -/
def iphcTfOpen (mode : Nat) (b : Bytes) : Option (Nat × Bytes) :=
  let word (ecn dscp flow : Nat) : Nat := 6 * 2 ^ 28 + dscp * 2 ^ 22 + ecn * 2 ^ 20 + flow
  match mode with
  | 0 => (cut 4 b).map (fun x => (word (x.1 / 2 ^ 30) (bits x.1 24 6) (x.1 % 2 ^ 20), x.2))
  | 1 => (cut 3 b).map (fun x => (word (x.1 / 2 ^ 22) 0 (x.1 % 2 ^ 20), x.2))
  | 2 => (cut 1 b).map (fun x => (word (x.1 / 64) (x.1 % 64) 0, x.2))
  | _ => some (word 0 0 0, b)

/-- A unicast address from its mode; a context that is not valid, or an address that the link layer does not give, fails. -/
def iphcUnicastOpen (ctx : Option IphcCtx) (am : Nat) (iid : Option Nat) (b : Bytes) : Option (Nat × Bytes) :=
  let whole (v : Nat) : Option Nat :=
    match ctx with
    | none => some (linkLocal + v)
    | some c => if c.ok then some (c.fill v) else none
  match am with
  | 0 => if ctx.isSome then none else cut 16 b
  | 1 => (cut 8 b).bind (fun x => (whole x.1).map (·, x.2))
  | 2 => (cut 2 b).bind (fun x => (whole (shortIid x.1)).map (·, x.2))
  | _ => (iid.bind whole).map (·, b)

/-- A multicast destination from its mode; under a context the prefix-based form of RFC 3306. -/
def iphcMulticastOpen (ctx : Option IphcCtx) (am : Nat) (b : Bytes) : Option (Nat × Bytes) :=
  let wide (n : Nat) (v : Nat) : Nat := 0xFF * 2 ^ 120 + v / 256 ^ n * 2 ^ 112 + v % 256 ^ n
  match ctx, am with
  | none, 0 => cut 16 b
  | none, 1 => (cut 6 b).map (fun x => (wide 5 x.1, x.2))
  | none, 2 => (cut 4 b).map (fun x => (wide 3 x.1, x.2))
  | none, _ => (cut 1 b).map (fun x => (0xFF02 * 2 ^ 112 + x.1, x.2))
  | some c, 0 =>
    (cut 6 b).bind (fun x =>
      if c.ok then
        some (0xFF * 2 ^ 120 + x.1 / 2 ^ 32 * 2 ^ 104 + c.length * 2 ^ 96 + c.pre / 2 ^ 64 * 2 ^ 32 + x.1 % 2 ^ 32, x.2)
      else none)
  | some _, _ => none

/-- The ones' complement sum of octets in words. -/
def onesSum : Bytes → Nat
  | [] => 0
  | [x] => x.toNat * 256
  | x :: y :: l => x.toNat * 256 + y.toNat + onesSum l
def onesFold (v : Nat) : Nat := let w := v % 65536 + v / 65536; w % 65536 + w / 65536

/-- The UDP checksum of a datagram with its own checksum field zero. -/
def udpSum (sa da : Nat) (u : Bytes) : Nat :=
  let c := 65535 - onesFold (onesFold (onesSum (toBE 16 sa ++ toBE 16 da ++ toBE 4 u.length ++ toBE 4 17 ++ u)))
  if c = 0 then 65535 else c

/-- A UDP datagram from its compressed header; next-header compression of anything else fails. -/
def udpOpen (sa da : Nat) (b : Bytes) : Option Bytes :=
  (cut 1 b).bind fun (h, b) =>
    if h / 8 ≠ 30 then none
    else
      let ports : Option (Nat × Nat × Bytes) :=
        match h % 4 with
        | 0 => (cut 4 b).map (fun x => (x.1 / 65536, x.1 % 65536, x.2))
        | 1 => (cut 3 b).map (fun x => (x.1 / 256, 0xF000 + x.1 % 256, x.2))
        | 2 => (cut 3 b).map (fun x => (0xF000 + x.1 / 65536, x.1 % 65536, x.2))
        | _ => (cut 1 b).map (fun x => (0xF0B0 + x.1 / 16, 0xF0B0 + x.1 % 16, x.2))
      ports.bind fun (s, d, b) =>
        let elided := bit h 2
        (if elided then some (0, b) else cut 2 b).map fun (c, data) =>
          let udp (c : Nat) : Bytes := toBE 2 s ++ toBE 2 d ++ toBE 2 (8 + data.length) ++ toBE 2 c ++ data
          udp (if elided then udpSum sa da (udp 0) else c)

/-- The IPv6 packet of a compressed one, with the interface identifiers the link layer gives; none where R268 has it fail.
[log 179: PRESUMED] -/
def iphcOpen (ctxs : List IphcCtx) (src dst : Option Nat) (b : Bytes) : Option Bytes :=
  (cut 2 b).bind fun (w, b) =>
  if w / 2 ^ 13 ≠ 3 then none
  else
    (if bit w 7 then cut 1 b else some (0, b)).bind fun (ci, b) =>
    (iphcTfOpen (bits w 11 2) b).bind fun (tf, b) =>
    let udp := bit w 10
    (if udp then some (17, b) else cut 1 b).bind fun (nh, b) =>
    (match bits w 8 2 with | 0 => cut 1 b | 1 => some (1, b) | 2 => some (64, b) | _ => some (255, b)).bind fun (hl, b) =>
    let sac := bit w 6
    let sam := bits w 4 2
    (if sac && sam == 0 then some (0, b)
      else iphcUnicastOpen (if sac then ctxs[ci / 16]? else none) sam src b).bind fun (sa, b) =>
    let dctx := if bit w 2 then ctxs[ci % 16]? else none
    (if bit w 3 then iphcMulticastOpen dctx (w % 4) b else iphcUnicastOpen dctx (w % 4) dst b).bind fun (da, b) =>
    (if udp then udpOpen sa da b else some b).map fun (body : Bytes) =>
      toBE 4 tf ++ toBE 2 body.length ++ toBE 1 nh ++ toBE 1 hl ++ toBE 16 sa ++ toBE 16 da ++ body

end Sys2Proof.Machine
end

