-- ==== Sys2Proof/Machine/StrOps.lean ====
section
/-! DEFINITION. Machine/StrOps.lean: structure-image operations (R57–R68): the verdict on a container, calibration
(R108), the installation of an image, live and structural application, and the images of a start-up. -/

namespace Sys2Proof.Machine

/-! Verdicts. -/

/-- What a structure-image container must satisfy (R34, R36, R421). [log 60: DEDUCED] -/
def State.strRule (s : State) (stated : Option Nat) : ContainerRule :=
  { type := 1, minLen := 1, maxLen := 1048576, stated := stated, deviceId := s.key.deviceId, minCounter := s.str.storedCounter,
    keys := if s.canVerify then ((s.key.live.bind (·.owner)).map (fun k => [k])).getD [] else [] }

/-- What the validator looks at beside the image. -/
def State.valEnv (s : State) : ValEnv :=
  { profile := s.profile, deviceId := s.key.deviceId, loftMib := if s.loftReady then s.loftGiB * 1024 else 0 }

/-- The verdict on the container in flash slot `i`. -/
def State.slotVerdict (s : State) (i : Nat) (peer : Option Bytes) : Verdict :=
  validate s.valEnv (s.strRule none) (sget [] s.upd.slots i) i peer

/-- The verdict on the container a SOURCE names (R60, R61): host memory, or a flash slot.
[log 60: DEDUCED] [log 62: DEDUCED] -/
def State.strVerdict (s : State) (w : StrWord) (e : StrEnv) : Verdict :=
  let n := (s.rg Reg.strSrcLen).toNat
  if w.source.val = 0 then
    if (s.rg Reg.strSrcAddrLo).toNat % 4 ≠ 0 then .broken (Broken.pkg 0x08 noIx)
    else
      match e.host with
      | some b => validate s.valEnv (s.strRule (some n)) (b.take n) 4 e.peer
      | none => .broken (Broken.pkg 0x01 noIx)
  else s.slotVerdict (w.source.val - 1) e.peer

/-! Completion of a command (R61, R62, R64). -/

/-- The fields written with GO. -/
def strFields (w : StrWord) (op : Nat) : Nat := op + w.source.val * 16 + w.dest.val * 256 + w.auto.toNat * 4096

/-- A command completes with a RESULT word. -/
def State.strResult (s : State) (word : Nat) : State := (s.setRg Reg.strResult (BitVec.ofNat 32 word)).event 0x020

/-- A write of `STR.CMD` with GO: it reaches the block when its domain is on (R14), is discarded while a command is in
progress (R64), and is served by the running firmware only. -/
def State.strGo (s : State) (w : StrWord) (op : Nat) (f : State → State) : State :=
  if s.domOn 12 = false then s.unmapped
  else if s.sys.mode = .recovery ∨ s.sys.mode = .returned then s
  else if s.rb Reg.strCmd 31 then s.stk Reg.strState 1
  else f (s.setRg Reg.strCmd (BitVec.ofNat 32 (strFields w op)))

/-- A command that takes the update lock (R64): SLOT_BUSY while another holds it. -/
def State.strLocked (s : State) (f : State → State) : State :=
  if s.upd.lock.isSome then (s.slotBusy 1).strResult 7 else f s

/-- A command that validates the container of its SOURCE; `f` acts on a good image. The lock is tested before the address of
SOURCE 0 (R60). [log 163: DESIGN CHOICE] -/
def State.strChecked (s : State) (w : StrWord) (e : StrEnv) (f : Image → Bool → State → State) : State :=
  if 5 ≤ w.source.val then s.strResult (Broken.pkg 0x08 noIx).word
  else s.strLocked fun s =>
    match s.strVerdict w e with
    | .broken b => s.strResult b.word
    | .good im un => f im un s

/-! Calibration (R108, R111). -/

/-- The results of a calibration of a region are stored; a correction record of STATE 0 replaces none (R112). The LO is back on
centre 0 and the lines go to rest. -/
def State.calStore (s : State) (r : Region) (cals : List CalResult) (corrs : List CorrResult) : State :=
  let s := (cals.filter (fun c => c.region == r && decide (c.centre.val < s.loCount r))).foldl (fun s c =>
    let k := c.centre.val
    let seeded := sget false (s.rad r).seededRun k
    ((s.setRg (Reg.rfcCentreCal r.ix k) c.codes).setRg (Reg.rfcCentreState r.ix k)
      (BitVec.ofNat 32 (c.temp.toNat * 256 + seeded.toNat * 2 + 1))).radUpd r (fun d =>
        { d with seededRun := sdel d.seededRun k, recal := { d.recal with lastTemp := c.temp } })) s
  let s := (corrs.filter (fun c => c.region == r && decide (getBits c.record (8 * 0x1D) 8 ≠ 0))).foldl (fun s c =>
    s.radUpd r (fun d => { d with corr := sput 0 d.corr c.slot.val c.record })) s
  ((s.clrb (Reg.rfcRecal r.ix) 31).radUpd r fun d =>
    { d with loLocked := true, centre := 0
             recal := { d.recal with due := false, forced := false, running := none, lastAt := s.now } }).linesRest r

/-! Application. -/

/-- The sections, by ID, in which an image differs from the active one: by SHA-256 (R65). -/
def State.changedSecs (s : State) (im : Image) : List Nat :=
  ((List.range 16).map (· + 1)).filter (fun i =>
    match s.str.active with
    | some old => decide (Config.sha256 (im.sec i) ≠ Config.sha256 (old.sec i))
    | none => true)

/-- Whether a region's QUEUE_POOL_MIB differs. -/
def State.poolChanged (s : State) (im : Image) (r : Region) : Bool :=
  decide (le (im.sec 9) (16 * r.ix) 4 ≠ s.poolMib r)

/-- Whether the changes are structural (R38). -/
def State.structural (s : State) (im : Image) : Bool :=
  s.str.active.isNone || (s.changedSecs im).any (fun i => ([1, 2, 3, 7, 8, 11, 12, 15, 16] : List Nat).contains i) ||
    allRegions.any (s.poolChanged im)

/-- Units whose self-test passes return (R21, R65); a cluster returns with a unit of it that passes, and a region
switched off by a fault is tried again. [log 37: DEDUCED] [log 38: DEDUCED] -/
def State.unitsBack (s : State) (passing : List UnitId) : State :=
  let inCluster (c : Nat) (u : UnitId) : Bool :=
    match u with
    | .lane n => n.val / 32 == c
    | .viterbi n => n.val / 8 == c
    | .resampler n => n.val / 4 == c
    | _ => false
  let s : State := { s with oos := s.oos.filter (fun u => ! passing.contains u)
                            oosClusters := s.oosClusters.filter (fun c => ! passing.any (inCluster c))
                            saf := { s.saf with latentFailed := false }
                            twin := { s.twin with lineReadback := true } }
  allRegions.foldl (fun s r => s.radUpd r (fun d =>
    { d with isolated := false, barred := [], inService := s.str.active.isSome && s.powered r })) s

/-- The maps of a changed LOFDM section (R190). [log 177: DESIGN CHOICE] -/
def State.mapsApply (s : State) (r : Region) : State :=
  if s.domOn r.dspDom then
    (List.range 256).foldl (fun s m =>
      let x := s.lmap r m
      let new := imgMap (s.sec 4) r.ix m
      if new = x.codes then s.setLmap r m { x with held := none }
      else if s.mapCount r m = 0 then s.mapWrite r m new
      else (s.when x.held.isNone (·.cnt (Reg.txpMapDeferCnt r.ix))).setLmap r m { x with held := some new }) s
  else s

/-- The queues of R321: of every node with a frame in a region's pool. -/
def State.poolDiscard (s : State) (r : Region) : State :=
  ((s.dls.queues.filter (fun kv => kv.2.any (fun f => f.pool == r))).map (·.1)).foldl (fun s h => s.queueDiscard h) s

/-- Every ring disabled, with HEAD and TAIL 0 (R303). [log 63: DEDUCED] -/
def State.ringsDisable (s : State) : State :=
  (List.range 68).foldl (fun s k =>
    (s.setRing k { s.ring k with head := 0, tail := 0, stopped := false }).clrb (ringBase k + 0x10) 31) s

/-- The counters of the slots of every region page cleared (R164). -/
def State.slotCountersClear (s : State) : State :=
  { s with regs := s.regs.filter (fun kv => ! (decide (0x80000 ≤ kv.1) && decide (kv.1 < 0xB0000) &&
      decide (0x8000 ≤ kv.1 % 0x10000) && decide (kv.1 % 64 ≠ 0))) }

/-- The record of an application, and the store of its COUNTER (R36). -/
def State.strCommit (s : State) (im : Image) : State :=
  ({ s with str := { s.str with storedCounter := im.counter } } : State).cell 0x01 (im.counter % 2 ^ 32) (le im.tag 0 4)
    (le im.tag 4 4)

/-- DEGRADED with everything back in service becomes ACTIVE (R88). -/
def State.undegrade (s : State) : State := if s.sys.mode = .degraded ∧ s.unitsOut = false then s.modeTo .active else s

/-- The domains of regions that return, under the mask in force. [log 37: DEDUCED] -/
def State.regionsBack (s : State) (before : State) : State :=
  allRegions.foldl (fun s r => if (before.rad r).isolated then s.regionLit r else s) s

/-- An application ends what a trip of the comparator holds (R121): the lines go to rest. -/
def State.tripClear (s : State) (r : Region) : State :=
  if (s.rad r).tripped then (s.radUpd r fun d => { d with tripped := false }).linesRest r else s

/-- APPLY that finds every section equal, and a live application (R65). -/
def State.applyLive (s : State) (im : Image) (un : Bool) (e : StrEnv) : State :=
  let ch := s.changedSecs im
  let y : State := { s with str := { s.str with active := some im } }
  let y := ((y.setb Reg.strState 15 un).unitsBack e.passing).regionsBack s
  let y := allRegions.foldl (fun y r => y.tripClear r) y
  let y := if ch.contains 4 then allRegions.foldl (fun s r => s.mapsApply r) y else y
  let y := if ch.contains 13 then y.irqApply else y
  (y.strCommit im).undegrade

/-- A region whose LO has lost lock three times within 10 s by the end of the search of an application goes out of service with it
(R120). [log 167: DEDUCED] -/
def State.searchOut (s : State) (r : Region) : State :=
  if 3 ≤ ((s.rad r).lockLost.filter (fun k => decide (s.now < k + secTicks 10))).length then s.regionOut r 0 else s

/-- Steps 3 and 4 of R66: every section applied, and with SLOTS its counters cleared (R164); the regions whose own REGIONS,
SLOTS or CALIB content changed are calibrated. `s` still has the old image. A region whose REGIONS content changed starts again
at INIT_GAIN (R159). [log 165: DESIGN CHOICE] -/
def State.applyAll (s : State) (im : Image) (e : StrEnv) : State :=
  let ch := s.changedSecs im
  let pools := allRegions.filter (fun r => s.str.active.isSome && s.poolChanged im r)
  let s := pools.foldl (fun s r => s.poolDiscard r) s
  let old := s
  let s : State := { s with str := { s.str with active := some im } }
  let s := if pools.isEmpty then s else s.poolsMove old
  let s := s.unitsBack e.passing
  let s := s.maskTake s.sys.mode
  let s := if ch.contains 4 then allRegions.foldl (fun s r => s.mapsApply r) s else s
  let s := if ch.contains 8 then
      { s with tab := { s.tab with learn := ⟨[], [], []⟩, spill := ⟨[], [], []⟩, prefixes := [], bloom := [], rebuilding := [],
                                   deletes := [], moving := [] } }
    else s
  let s := if ch.contains 9 then s.dlsRestart else s
  let s := if ch.contains 11 then s.ringsDisable else s
  let s := if ch.contains 13 then s.irqApply else s
  let s := s.slotCountersClear
  let s := if s.twinMode then s else s.lineRelease.linkDown
  allRegions.foldl (fun s r =>
    let regCh := ! old.ownSame im r 1
    let calCh := ! old.ownSame im r 7
    let slotCh := ! old.ownSame im r 3
    let s := if regCh ∨ calCh then
        s.radUpd r fun d => { d with seededRun := (List.range (s.loCount r)).foldl (fun m k =>
          sput false m k (s.calF r 0x45 1 == 1)) [] }
      else s
    let s := if regCh ∧ s.domOn r.dspDom then s.setRf (Reg.rxpGainCtrl r.ix) 16 5 (s.initGain r) else s
    let s := s.radUpd r fun d => { d with tripped := false
                                          coex := if s.coexRole r = old.coexRole r then d.coex else Coex.reset }
    if (regCh || calCh || slotCh) && s.powered r && s.domOn r.frontDom then (s.calStore r e.cals e.corrs).searchOut r
    else s.linesRest r) s

/-- The transition of a structural application; a transition in progress waits as a held command (R67),
unless a later command is held already (R86). -/
def State.applyMark (s : State) (im : Image) : State :=
  let held := s.sys.heldCmd.or (s.sys.transition.map (·.target))
  { s with str := { s.str with applying := some (im, s.sys.mode) }
           sys := { s.sys with transition := some ⟨s.sys.mode, .structural, s.now⟩, heldCmd := held } }

/-- A structural application begins (R66 steps 1 and 2): from the mark on nothing new is sent or received.
[log 36: DEDUCED] -/
def State.applyBegin (s : State) (im : Image) (un : Bool) : State :=
  let s := allRegions.foldl (fun s r => (s.muteRegion r .late .late true).rxDrop r) (s.applyMark im)
  (((s.setb Reg.strState 15 un).setRg Reg.strResult 1).stk Reg.strCmd 31).lockTake 1

/-- A structural application ends (R66 step 5): APPLIED_CONFIGURE, and the router goes on in the mode it left. -/
def State.applyEnd (s : State) (e : StrEnv) : State :=
  match s.str.applying with
  | none => s
  | some (im, _) =>
    let s := s.applyAll im e
    let s : State := { s with str := { s.str with applying := none }, sys := { s.sys with transition := none } }
    let s := (((s.strCommit im).clrb Reg.strCmd 31).lockFree.strResult 3).undegrade
    (s.dls.queues.map (·.1)).foldl (fun s h => s.porchBook h) s

/-- APPLY of a good image. -/
def State.strApplyImage (s : State) (w : StrWord) (e : StrEnv) (im : Image) (un : Bool) : State :=
  if s.changedSecs im = [] then (s.applyLive im un e).strResult 10
  else if s.structural im = false then (s.applyLive im un e).strResult 2
  else if w.auto = false ∧ s.sys.mode ≠ .configure then s.strResult 6
  else s.applyBegin im un

/-! The images of a start-up (R68, R97). -/

/-- Flash slots in the order of R68: the first, then the rest by descending COUNTER, the lower slot between equals. -/
def State.slotOrder (s : State) (first : Nat) : List Nat :=
  let ctr (i : Nat) : Int := if (sget [] s.upd.slots i).length < 64 then -1 else (conCounter (sget [] s.upd.slots i) : Int)
  let ins (l : List Nat) (i : Nat) : List Nat := (l.filter (fun j => ctr i ≤ ctr j)) ++ i :: l.filter (fun j => ctr j < ctr i)
  first :: ((List.range 4).filter (· != first)).foldl ins []

/-- The first of the slots whose image is accepted; each refusal is recorded. [log 39: DEDUCED] -/
def State.loadTry (s : State) (e : StrEnv) : List Nat → State × Option (Image × Bool)
  | [] => (s, none)
  | i :: rest =>
    match s.slotVerdict i e.peer with
    | .good im un => (s, some (im, un))
    | .broken b => (s.cell 0x02 b.word (i + 1) 0).loadTry e rest

/-- The stage reached at start-up. [log 33: DEDUCED] -/
def State.setStage (s : State) (n : Nat) : State := { s with sys := { s.sys with stage := n } }

/-- After the images: a warm start restores the locks and re-enters its mode (R90, R97); otherwise START_MODE is issued as
a command at stage 8, unless the host has written one or the straps say 10 (R94). A wake whose PREVIOUS is SAFE enters SAFE
again under its old cause, with its record. [log 159: DESIGN CHOICE] [log 206: DESIGN CHOICE] -/
def State.afterLoad (s : State) : State :=
  match s.sys.wake with
  | some w =>
    let s := w.locked.foldl (fun s aw => s.setRg aw.1 aw.2) s
    let s : State := { s with sys := { s.sys with wake := none, warm := false, previous := w.mode } }
    if w.mode = .safe then
      s.safeNow s.sys.safeCause.toNat 0
    else if w.mode = .configure then s
    else if s.sys.heldCmd.isSome then s
    else s.commandTake w.mode
  | none =>
    let m := s.nv.startMode
    if s.sys.stage ≠ 8 ∨ s.sys.hostCmdWritten ∨ s.sys.heldCmd.isSome ∨ (s.sys.straps.mode1 ∧ s.sys.straps.mode0 = false) then s
    else if m = 4 then s.commandTake .active
    else if m = 5 then s.commandTake .quiet
    else s

/-- The trains of the armed pins realign to their grids once TIME gives the pins their functions again (R350). -/
def State.trainsRealign (s : State) : State :=
  (List.range 8).foldl (fun s n =>
    let p := s.pin n
    if p.armed && s.pinFn n == 2 then s.setPin n { p with next := gridNext (s.pinAt n) (s.pinF n 8 4) s.tbCeilNs } else s) s

/-- The images of R68 are tried and the good one installed; after a wake the sources the Hearth recorded pend (R373).
[log 39: DEDUCED] -/
def State.defaultLoad (s : State) (e : StrEnv) : State :=
  let first := match s.sys.wake with
    | some w => if w.source < 4 then w.source else s.nv.defaultSlot
    | none => s.nv.defaultSlot
  let (s, got) := s.loadTry e (s.slotOrder (first % 4))
  let s := match got with
    | some (im, un) =>
      let s := (((s.applyAll im e).setb Reg.strState 15 un).strCommit im).setStage 8
      s.when s.sys.wake.isSome (·.trainsRealign)
    | none => s.cell 0x18 4 0 0
  let s := if s.sys.wake.isSome then (s.irq.wakeSeen.foldl (fun (s : State) n => s.pendSeen n) s).irqTell else s
  ({ s with sys := { s.sys with loadDone := true } } : State).afterLoad

end Sys2Proof.Machine
end

