-- ==== Sys2Proof/Machine/CellarOps.lean ====
section
/-! DEFINITION. Machine/CellarOps.lean: clearing the Cellar (R485), what the supervisor does with it at a start (R477,
R479), and the window through which it is read (R484). -/

namespace Sys2Proof.Machine

/-- `SYS.BOOT` (R96). -/
def State.bootWord (s : State) : Nat :=
  s.sys.straps.mode1.toNat * 128 + s.sys.straps.mode0.toNat * 64 + s.sys.straps.recovery.toNat * 32 + s.sys.bank.toNat * 16 +
    s.sys.stage

/-- Whether a record is not empty and its CRC is good. -/
def cellGood (x : BitVec 256) : Bool :=
  getBits x 0 16 != 0 && decide (getBits x 224 32 = (crc32c (bvBytes 28 x)).toNat)

/-- Steps 2 to 4 of a clear (R485): ordinary records zeroed, NEXT and the lost count 0, CELLAR_CLEARED as record 0, and the
CLEARING flag 0. [log 68: DESIGN CHOICE] -/
def State.cellarZero (s : State) : State :=
  let next := s.cellar.next
  let lost := s.cellar.lostFull
  let s : State := { s with cellar := { s.cellar with records := s.cellar.records.filter (fun kv => kv.1 == returnIx)
                                                      next := 0, lostFull := 0, clearing := false } }
  (s.cellWrite (cellRecord 0xF00 0 0 s.opTime s.cellar.powerCycles 0 (ticksMs (s.opTicks % 819200000)) next lost
    0)).event 0x144

/-- The message of a clear is answered ACCEPTED, where its ring still holds it. -/
def State.clearAnswer (s : State) (msg : Option (Nat × Nat)) : State :=
  match msg with
  | some m => if s.ringPending (64 + m.1) then s.mailAnswer m.1 m.2 0 0 [] else s
  | none => s

/-- A clear under way ends: its message is answered ACCEPTED, and what was held during it is written where no freeze is in
force. [log 68: DESIGN CHOICE] -/
def State.cellarCleared (s : State) : State :=
  if s.cellar.clearing then
    let msg := s.cellar.clearMsg
    let s := (({ s with cellar := { s.cellar with clearMsg := none } } : State).cellarZero).clearAnswer msg
    s.when s.cellar.frozenAt.isNone (·.cellRelease)
  else s

/-- The Cellar at a start of the supervisor: a record whose index was not written is passed (R477), a clear under way is
completed (R485), and the first record is RESET, followed by what was met before (R479). -/
def State.cellarStart (s : State) (boot : Nat) : State :=
  let c := s.cellar
  let s := if cellGood (sget 0 c.records c.next) && decide (c.next < returnIx) then
      { s with cellar := { c with next := c.next + 1 } }
    else s
  let s := s.when s.cellar.clearing (·.cellarZero)
  (s.cellForm 0x10 (s.rg Reg.sysResetCause).toNat boot 0).cellLearn

/-- The record a read of an index finds (R484): zero at and above NEXT, but for the return record. -/
def State.cellAt (s : State) (i : Nat) : BitVec 256 :=
  if i < s.cellar.next ∨ i = returnIx then sget 0 s.cellar.records i else 0

/-- `REC.CURSOR`. -/
def State.recCursor (s : State) : Nat := s.rf Reg.recCursor 0 16

/-- Whether the Cellar holds the return record. -/
def State.returnRecord (s : State) : Bool := sget 0 s.cellar.records returnIx != 0

end Sys2Proof.Machine
end

