-- ==== Sys2Proof/Machine/SessOps.lean ====
section
/-! DEFINITION. Machine/SessOps.lean: containers written to boot banks and flash slots (R427), whole or as a session brings
them, and the start of a handover (R431). -/

namespace Sys2Proof.Machine

/-- The verdict on a container's header as far as it has arrived (R427 step 1); none: not yet whole. -/
def headerNow (k : ContainerRule) (c : Bytes) : Option (Option Broken) :=
  if c.length < 64 then none
  else
    match checkHeader k c with
    | some b => if b.rule ≠ 5 ∨ 128 + 32 * conBlocks c ≤ c.length then some (some b) else none
    | none => if 128 + 32 * conBlocks c ≤ c.length then some none else none

/-- Whole blocks that have arrived after header, table and signature. -/
def blocksIn (c : Bytes) : Nat := min (conBlocks c) ((c.length - (128 + 32 * conBlocks c)) / 4100)

/-- Whether a firmware payload begins with a good header (R423). -/
def fwHeaderOk (c : Bytes) : Bool :=
  let h := conBlock c 0
  slice h 0 4 == [0x45, 0x56, 0x46, 0x57] && le h 4 2 == 1 && le h 6 2 == 0 && decide (1 ≤ le h 0xC 4) &&
    decide (le h 0xC 4 ≤ 786432) && slice h 0x1A 38 == zeros 38

/-- The bank that does not run. -/
def State.idleBank (s : State) : Bool := ! s.sys.bank

/-- Store the content of a bank. -/
def State.setBank (s : State) (b : Bool) (c : Bytes) : State :=
  { s with upd := { s.upd with banks := sput [] s.upd.banks b.toNat c } }
/-- Store the content of a flash slot. -/
def State.setSlot (s : State) (i : Nat) (c : Bytes) : State := { s with upd := { s.upd with slots := sput [] s.upd.slots i c } }

/-- `UPD.PROGRESS` (R445). -/
def State.progress (s : State) (done total : Nat) : State :=
  s.setRg Reg.updProgress (BitVec.ofNat 32 (min done 65535 * 65536 + min total 65535))

/-- Blocks checked and written over an erased bank, then the header (R427 steps 3–5): the result and the failing block. -/
def State.bankWrite (s : State) (b : Bool) (c : Bytes) (flashOk : Bool) : State × Nat × Nat :=
  let n := conBlocks c
  let s := (s.setBank b []).progress 0 n
  if flashOk = false then (s, 9, 0)
  else
    match (List.range n).findSome? (fun i => checkBlock c i) with
    | some x => (s.progress x.index n, x.result, x.index)
    | none =>
      let s := s.progress n n
      if fwHeaderOk c then ((s.setBank b (c.take (128 + 4132 * n))).markBank b false, 1, 0) else (s, 2, 0)

/-- A handover asked for (R431): the idle pair loads the bank; refused at once where no idle pair is in service. -/
def State.handoverBegin (s : State) (holder : Nat) (ring : Option Nat) (tag : Nat) (counter confirmS : Nat) : State × Bool :=
  if s.pairOk s.idlePair then
    let h : Handover :=
      { fromPair := s.pairs.active, ready := false, since := s.now, confirmS := confirmS, bank := s.idleBank,
        counter := counter, holder := holder, ring := ring, tag := tag, record := none }
    ({ s with upd := { s.upd with handover := some h } }, true)
  else (s, false)

/-! Sessions. -/

/-- The container rule of a session's TARGET: a flash slot of a twin-link transfer, or a boot bank. -/
def State.targetRule (s : State) (h t : Nat) : ContainerRule := if h = 6 ∧ t ≠ 0 then s.strRule none else s.fwRuleNow
/-- The bank a TARGET names: 0 of a transfer and 2 of an Ethernet session are the bank that does not run. -/
def State.targetBank (s : State) (h t : Nat) : Bool := if h = 6 ∨ t = 2 then s.idleBank else decide (t = 1)
/-- The destination erased. -/
def State.targetErase (s : State) (h t : Nat) : State :=
  if h = 6 ∧ t ≠ 0 then s.setSlot (t - 1) [] else s.setBank (s.targetBank h t) []

/-- Whether a session is refused at its start (R428, R430): SLOT_BUSY, or TRIAL_OPEN. -/
def State.sessRefused (s : State) (h t : Nat) : Option Nat :=
  if s.upd.lock.isSome then some 8
  else if s.nv.trial.active ∧ s.sys.mode ≠ .recovery ∧ ¬ (h = 6 ∧ t ≠ 0) then some 15
  else none

/-- Bytes join a session (R427): once its header has passed it takes the lock and erases; every block is checked as it
becomes whole. The answer is the result of a session that fails. [log 76: DEDUCED] -/
def State.sessFeed (s : State) (h : Nat) (x : Session) (data : Bytes) (flashOk : Bool) : State × Option Nat :=
  let x := { x with data := x.data ++ data }
  let s := s.setSess h (some x)
  match headerNow (s.targetRule h x.target) x.data with
  | none => (s, none)
  | some (some b) => (s, some b.result)
  | some none =>
    let blocks (s : State) : State × Option Nat :=
      let n := blocksIn x.data
      if flashOk = false then (s, some 9)
      else
        match (List.range n).findSome? (fun i => checkBlock x.data i) with
        | some b => (s.progress b.index (conBlocks x.data), some b.result)
        | none =>
          let more := s.rf Reg.updProgress 16 16 < n
          let s := s.progress n (conBlocks x.data)
          (if more then { s with upd := { s.upd with lockAt := s.now } } else s, none)
    if x.checked then blocks s
    else if x.target = 2 ∧ h ≠ 6 ∧ conCounter x.data ≤ s.upd.running then (s, some 4)
    else if s.upd.lock.isSome then (s.slotBusy h, some 8)
    else blocks ((((s.lockTake h).setSess h (some { x with checked := true })).targetErase h x.target).progress 0 (conBlocks x.data))

/-- A session's container is whole: written, and answered or handed over to (R427, R443). [log 76: DEDUCED] -/
def State.sessClose (s : State) (h : Nat) (x : Session) (flashOk : Bool) : State :=
  let c := x.data
  if x.checked = false ∨ c.length ≠ 128 + 4132 * conBlocks c then s.sessEnd h x 2
  else if h = 6 ∧ x.target ≠ 0 then
    if flashOk then (s.setSlot (x.target - 1) c).sessEnd h x 1 else s.sessEnd h x 9
  else
    let (s, result, _) := s.bankWrite (s.targetBank h x.target) c flashOk
    if result = 1 ∧ h ≠ 6 ∧ x.target = 2 then
      match s.handoverBegin h none 0 (conCounter c) 600 with
      | (s, true) => s
      | (s, false) => s.sessEnd h x 10
    else s.sessEnd h x result

end Sys2Proof.Machine
end

