-- ==== Sys2Proof/Machine/RxOps.lean ====
section
/-! DEFINITION. Machine/RxOps.lean: the lane allocator of whole-band reception (R149–R158), header checks (R172–R181,
R194), the strobe copies a detection withholds (R226), and the receive gain (R162). -/

namespace Sys2Proof.Machine

/-! Slots and lanes. -/

/-- LANE_RESERVE, CAPTURE_DB, DETECT_THRESH and SYNC_TOL of a slot. -/
def State.laneReserve (s : State) (r : Region) (slot : Nat) : Nat := s.slotF r slot 0xA 1
def State.captureDb (s : State) (r : Region) (slot : Nat) : Nat := s.slotF r slot 7 1
def State.detectThresh (s : State) (r : Region) (slot : Nat) : Nat := s.slotF r slot 8 2
def State.syncTol (s : State) (r : Region) (slot : Nat) : Nat := s.slotF r slot 6 1

/-- The lanes of a slot that decode, with their numbers. -/
def State.slotLanes (s : State) (r : Region) (slot : Nat) : List (Nat × Lane) :=
  s.lanes.filterMap (fun kv =>
    match kv.2 with
    | some l => if l.region = r ∧ l.slot = slot then some (kv.1, l) else none
    | none => none)
/-- *held* of a slot (R150). -/
def State.held (s : State) (r : Region) (slot : Nat) : Nat := (s.slotLanes r slot).length
/-- The lanes of a region in FREE (R150). -/
def State.freeLanes (s : State) (r : Region) : List Nat :=
  (List.range 384).filter (fun n => decide (s.attach (n / 32) = r.ix + 1) && s.hbLane n && (s.lane n).isNone)
/-- *outstanding* of a region (R150). -/
def State.outstanding (s : State) (r : Region) : Nat :=
  ((List.range (s.slotCount r)).map (fun i => s.laneReserve r i - s.held r i)).sum

/-- The lane the allocator picks (R151): the cluster with the most free lanes, the lower number on a tie, its lowest free
lane. -/
def pickLane (free : List Nat) : Option Nat :=
  let of (c : Nat) := (free.filter (fun n => n / 32 == c)).length
  let best := (List.range 12).foldl (fun b c => if of b < of c then c else b) 0
  free.find? (fun n => n / 32 == best)

/-- Whether a slot is in quarantine (R149). -/
def State.quarantined (s : State) (r : Region) (slot : Nat) : Bool :=
  match (s.slotRx r slot).quarUntil with
  | some e => decide (s.now < e)
  | none => false

/-- take_free_lane of R152. -/
def State.takeFreeLane (s : State) (r : Region) (slot : Nat) : Option Nat :=
  let free := s.freeLanes r
  let reserve := s.laneReserve r slot
  if free.isEmpty then none
  else if s.held r slot < reserve then pickLane free
  else if s.quarantined r slot ∧ max 1 reserve ≤ s.held r slot then none
  else if s.outstanding r < free.length then pickLane free
  else none

/-- The lane of lowest level, the lowest number on a tie. -/
def weakest : List (Nat × Lane) → Option (Nat × Lane)
  | [] => none
  | x :: xs =>
    match weakest xs with
    | none => some x
    | some y => if y.2.level < x.2.level then some y else some x
/-- weakest_confirmed_lane of R152. -/
def State.weakestConfirmed (s : State) (r : Region) (slot : Nat) : Option (Nat × Lane) :=
  weakest ((s.slotLanes r slot).filter (·.2.confirmed))

/-- Header deadline in µs from the report (R145). -/
def headerDeadline : Nat → Nat
  | 0 => 900 | 1 => 900 | 2 => 1260 | 3 => 1260 | 4 => 660 | 5 => 1660 | 6 => 860 | _ => 460
/-- Re-detection hold-off in µs (R145). -/
def holdOff : Nat → Nat
  | 5 => 320 | 6 => 160 | 7 => 80 | _ => 240

/-! The strobe copy withheld (R226). -/

/-- Whether a preamble start lies in the acknowledgement interval after a carrier's last copy or frame (R226, R235). -/
def Carrier.ackInterval (x : Carrier) (j : TxJob) (preStart : Nat) : Bool :=
  decide (x.ended + usTicks (j.turnUs - j.tolUs) ≤ preStart) && decide (preStart ≤ x.ended + usTicks (j.turnUs + j.tolUs))

/-- Carriers of a region with a job on a slot, in one of some phases, whose acknowledgement interval holds a preamble. -/
def State.awaiting (s : State) (r : Region) (slot preStart : Nat) (ph : CPhase → Bool) : List Nat :=
  (List.range 4).filter (fun c =>
    let x := s.carrier r c
    match x.job with
    | some j => ph x.phase && j.slot == slot && j.kind == .downlink && decide (0 < j.sentCopies) && x.ackInterval j preStart
    | none => false)

/-- The phases of a strobe train between two copies. -/
def CPhase.betweenCopies (p : CPhase) : Bool := p == .gap || p == .held || p == .backoff || p == .cca || p == .wait

/-- A preamble is detected in the gap: the next copy is withheld. -/
def State.strobeHold (s : State) (r : Region) (slot preStart : Nat) : State :=
  (s.awaiting r slot preStart CPhase.betweenCopies).foldl (fun s c =>
    s.setCarrier r c { s.carrier r c with phase := .withheld }) s

/-- Whether a detection on a slot that a carrier's acknowledgement interval holds still waits for a lane, is in a lane, or is on
its way to the MAC stage. [log 107: DEDUCED] -/
def State.hearing (s : State) (r : Region) (slot : Nat) (x : Carrier) : Bool :=
  match x.job with
  | none => false
  | some j =>
    (s.slotLanes r slot).any (fun nl => x.ackInterval j nl.2.preStart) ||
      (s.rxr r).pending.any (fun d => d.slot == slot && x.ackInterval j d.preStart) ||
      (s.hif.rxJobs.get r).any (fun q => q.slot == slot && x.ackInterval j q.preStart)

/-- A reception of the interval ended without being the acknowledgement: the train resumes with the copy after the one
withheld. -/
def State.strobeResume (s : State) (r : Region) (slot preStart : Nat) : State :=
  (s.awaiting r slot preStart (· == .withheld)).foldl (fun s c =>
    if s.hearing r slot (s.carrier r c) then s
    else
      match (s.carrier r c).job with
      | some j => s.strobeSkip r c j
      | none => s) s

/-! Starting and freeing lanes. -/

/-- A lane starts on a detection (R142, R152): it reads the ring from the preamble start, so a gain step, an invalid mark and a
die-link gap since then concern it; its header deadline runs from the report (R145). Receptions that began on the slot while the
detection waited do not flag it. [log 196: DESIGN CHOICE] -/
def State.startLane (s : State) (r : Region) (n : Nat) (d : Detection) (reserved captured late : Bool) : State :=
  let l : Lane :=
    { confirmed := false, region := r, slot := d.slot, mode := d.mode, preStart := d.preStart, started := s.now, level := d.level,
      levelAt := d.reported, trim := 0,
      deadline := d.reported + usTicks (headerDeadline d.mode), reserved := reserved, overlapped := false, captured := captured,
      lateStart := late, gainStepped := ((s.rxr r).gainLog.filter (fun k => decide (d.preStart < k))).min?,
      blanked := spanSince (s.rad r).bad d.preStart, linkGap := spanSince s.dieF2c.gaps d.preStart, length := 0, map := 0, rate := 0,
      dlHeld := 0, mcs := 0, codes := 0, fcs2 := false, seed := 0, dw := false, rxCells := 0, safetyCells := 0 }
  (s.setLane n (some l)).cnt (Reg.rxpSlotAllocCnt r.ix d.slot)

/-- The tick of the sample a lane reads (R142): from its preamble start at four times real time, until it reaches the newest. -/
def State.readAt (s : State) (l : Lane) : Nat := min s.now (l.preStart + 4 * (s.now - l.started))

/-- flag_overlapped_lanes of R152, counted for lanes newly flagged. -/
def State.flagOverlapped (s : State) (r : Region) (new : Nat) (d : Detection) : State :=
  ((s.slotLanes r d.slot).filter (fun nl => nl.1 != new && decide (nl.2.preStart < d.preStart) && ! nl.2.overlapped)).foldl
    (fun s nl => (s.setLane nl.1 (some { nl.2 with overlapped := true })).cnt (Reg.rxpSlotOverlappedCnt r.ix d.slot)) s

/-- A detection given a lane, with the counts of R152. -/
def State.giveLane (s : State) (r : Region) (n : Nat) (d : Detection) (reserved captured late : Bool) : State :=
  ((s.startLane r n d reserved captured late).flagOverlapped r n d).when captured (·.cnt (Reg.rxpSlotCaptureCnt r.ix d.slot))

/-- Whether the suppression test of R152 drops a detection. -/
def State.suppresses (s : State) (r : Region) (d : Detection) : Bool :=
  match s.weakestConfirmed r d.slot with
  | some p => decide (d.level < p.2.level + s.captureDb r d.slot)
  | none => false

/-- A slot's detection failed its header check or expired: the 64th in a row starts a quarantine (R149).
[log 105: DEDUCED] -/
def State.slotFail (s : State) (r : Region) (slot : Nat) : State :=
  if s.quarantined r slot then s
  else
    let k := (s.slotRx r slot).fails + 1
    if 64 ≤ k then
      ((s.slotRxUpd r slot fun x => { x with fails := 0, quarUntil := some (s.now + msTicks 100) }).stk Reg.rxpTrouble
        (8 + r.ix)).cell 0x30 (r.ix * 65536 + slot) 0 0
    else s.slotRxUpd r slot fun x => { x with fails := k }

/-- A header check passed on the slot: its record empties and a quarantine ends. [log 105: DEDUCED] -/
def State.slotPass (s : State) (r : Region) (slot : Nat) : State :=
  s.slotRxUpd r slot fun x => { x with fails := 0, quarUntil := none }

/-- A pending detection removed under R153. -/
def State.pendExpired (s : State) (r : Region) (d : Detection) : State :=
  ((((s.rxUpd r fun x => { x with pending := x.pending.erase d }).cnt (Reg.rxpSlotExpiredCnt r.ix d.slot)).stk Reg.rxpTrouble
    (4 + r.ix)).slotFail r d.slot).strobeResume r d.slot d.preStart

/-- Whether a detection's preamble start is too old for a lane (R143). -/
def State.tooOld (s : State) (d : Detection) : Bool := decide (d.preStart + usTicks 1600 < s.now)

/-- The detection of oldest preamble start in a list; the first entered on a tie. -/
def oldestOf : List Detection → Option Detection
  | [] => none
  | x :: xs =>
    match oldestOf xs with
    | none => some x
    | some y => if y.preStart < x.preStart then some y else some x

/-- A detection joins the pending list; a full list loses its oldest entry (R153). -/
def State.enqueuePending (s : State) (r : Region) (d : Detection) : State :=
  let s := if (s.rxr r).pending.length < 32 then s else
    match oldestOf (s.rxr r).pending with
    | some o => s.pendExpired r o
    | none => s
  s.rxUpd r fun x => { x with pending := x.pending ++ [d] }

/-- The pending detection a freed lane goes to (R154); `failed`: it freed by a failed header check or its deadline. -/
def State.pendPick (s : State) (r : Region) (slot : Nat) (failed : Bool) : Option Detection :=
  let p := (s.rxr r).pending.filter (fun d => ! s.tooOld d)
  ((if failed then oldestOf (p.filter (fun d => d.slot == slot)) else none).or
    (oldestOf (p.filter (fun d => decide (s.held r d.slot < s.laneReserve r d.slot))))).or
    (oldestOf (p.filter (fun d => (s.takeFreeLane r d.slot).isSome)))

/-- The running RSSI a region's CONFIRMED lanes have now (R152): where no command of this tick brings it, a free value.
[log 195: DESIGN CHOICE] -/
def State.rssiPresent (s : State) (r : Region) : State :=
  { s with lanes := s.lanes.map (fun kv => (kv.1, kv.2.map (fun l =>
      if l.region = r ∧ l.confirmed ∧ l.levelAt < s.now then { l with level := Config.laneRssi kv.1 s.now, levelAt := s.now } else l))) }

/-- The allocator's next free cycle for a region (R151): the present tick, or the one after its last allocation. -/
def State.allocCycle (s : State) (r : Region) : State :=
  let cycle := max s.now ((s.rxr r).allocAt + 1)
  { s.rxUpd r (fun x => { x with allocAt := cycle }) with now := cycle }

/-- A lane that has become FREE is offered to the pending list; suppressed entries leave it; at most `k`. -/
def State.laneServe (s : State) (r : Region) (n slot : Nat) (failed : Bool) : Nat → State
  | 0 => s
  | k + 1 =>
    match s.pendPick r slot failed with
    | none => s
    | some d =>
      let s := s.rxUpd r fun x => { x with pending := x.pending.erase d }
      if s.suppresses r d then (((s.cnt (Reg.rxpSlotSuppressedCnt r.ix d.slot)).slotBreak r d.slot).strobeResume r d.slot d.preStart).laneServe r n slot failed k
      else
        (s.allocCycle r).giveLane r n d (decide (s.held r d.slot < s.laneReserve r d.slot)) (s.weakestConfirmed r d.slot).isSome true

/-- A lane frees: a pending detection takes it (R154), or it is FREE and takes its heartbeat (R469). -/
def State.laneEnd (s : State) (n : Nat) (l : Lane) (failed : Bool) : State :=
  let s := (s.setLane n none).slotRxUpd l.region l.slot fun x => { x with lastBusy := s.now }
  let s := (if (s.rxr l.region).pending.isEmpty then s else s.rssiPresent l.region).laneServe l.region n l.slot failed
    ((s.rxr l.region).pending.length + 1)
  if (s.lane n).isNone then s.hbInject n else s

/-- A lane frees because its header check failed or its deadline passed (R157). -/
def State.laneFailed (s : State) (n : Nat) (l : Lane) : State :=
  let s := (s.cnt (Reg.rxpSlotHeaderFailCnt l.region.ix l.slot)).slotFail l.region l.slot
  (s.laneEnd n l true).strobeResume l.region l.slot l.preStart

/-- A lane frees with its reception dropped, without a failed header check. -/
def State.laneDropped (s : State) (n : Nat) (l : Lane) : State := ((s.slotBreak l.region l.slot).laneEnd n l false).strobeResume l.region l.slot l.preStart

/-- on_detection of R152. [log 107: DEDUCED] -/
def State.onDetection (s : State) (r : Region) (d : Detection) : State :=
  let s := s.cnt (Reg.rxpSlotDetectCnt r.ix d.slot)
  if s.suppresses r d then (s.cnt (Reg.rxpSlotSuppressedCnt r.ix d.slot)).slotBreak r d.slot
  else
    let s := s.strobeHold r d.slot d.preStart
    let reserve := s.laneReserve r d.slot
    match if s.tooOld d then none else s.takeFreeLane r d.slot with
    | some n => s.giveLane r n d (decide (s.held r d.slot < reserve)) (s.weakestConfirmed r d.slot).isSome false
    | none =>
      let starve (s : State) : State :=
        ((s.cnt (Reg.rxpSlotStarvedCnt r.ix d.slot)).stk Reg.rxpTrouble r.ix).enqueuePending r d
      match weakest (s.slotLanes r d.slot) with
      | some v =>
        if s.slotCapture r d.slot && ! s.tooOld d && decide (v.2.level + s.captureDb r d.slot ≤ d.level) then
          let reserved := decide (s.held r d.slot - 1 < reserve)
          let s := ((s.setLane v.1 none).pantryFree v.2.rxCells v.2.safetyCells).cnt (Reg.rxpSlotPreemptLossCnt r.ix d.slot)
          let s := s.slotBreak r d.slot
          (s.giveLane r v.1 d reserved true false).strobeResume r d.slot v.2.preStart
        else starve s
      | none => starve s

/-! Header checks. -/

/-- The number of bits set. -/
def popcount {k : Nat} (w : BitVec k) : Nat := (List.range k).countP (fun i => w.getLsbD i)

/-- Whether a CFO in Hz lies within a lane's range on a slot (R175). -/
def State.cfoInRange (s : State) (r : Region) (slot mode : Nat) (cfo : Int) : Bool :=
  decide (cfo.natAbs ≤ 60000) && decide (6 * cfo.natAbs + occ3 mode ≤ s.slotF r slot 2 1 * 600000)

/-- The fields a header names (R172, R174, R180). -/
structure HeaderFields where
  length : Nat
  map : Nat
  rate : Nat
  dlHeld : Nat
  mcs : Nat
  fcs2 : Bool
  seed : Nat
  dw : Bool
  deriving DecidableEq, Repr

/-- What a header check finds: a pass with its fields, a failure or a drop with the counters of the region they advance. -/
inductive HeaderOutcome
  | pass (f : HeaderFields)
  | fail (counters : List Nat)
  | dropped (counter : Nat)
  deriving DecidableEq, Repr

/-- The header check of LOFDM (R180, R181, R194). [log 103: DEDUCED] -/
def lofdmHeader (tol ix : Nat) (sync : BitVec 24) (h : BitVec 48) : HeaderOutcome :=
  let up := popcount (sync ^^^ syncUp)
  let down := popcount (sync ^^^ syncDown)
  let rate := getBits h 11 2
  if tol < up then (if down ≤ tol then .dropped (Reg.txpSyncDlWordCnt ix) else .fail [Reg.txpSyncFailCnt ix])
  else if hcs h ≠ BitVec.ofNat 8 (getBits h 34 8) then .fail []
  else if rate = 3 ∨ getBits h 32 2 ≠ 0 then .fail [Reg.txpHdrUnsupCnt ix]
  else if getBits h 0 11 = 0 then .fail []
  else .pass ⟨getBits h 0 11, getBits h 13 8, rate, getBits h 24 8, 0, h.getLsbD 21, getBits h 22 2, false⟩

/-- The SFDs of R194 in the order ties go. -/
def sfds : List (BitVec 16) := [fskSfd false, fskSfd true, 0x6F4E, 0x632D]

/-- The header check of MR-FSK (R174, R194). [log 104: DEDUCED] -/
def fskHeader (tol ix : Nat) (sfd : BitVec 16) (ms fcs2 dw : Bool) (length : Nat) : HeaderOutcome :=
  let errs := sfds.map (fun w => popcount (sfd ^^^ w))
  let least := errs.foldl min 16
  if tol < least then .fail [Reg.txpSyncFailCnt ix]
  else if 2 ≤ errs.findIdx (· == least) then .dropped (Reg.txpHdrUnsupCnt ix)
  else if ms then .dropped (Reg.txpHdrUnsupCnt ix)
  else .pass ⟨length, 0, 0, 0, 0, fcs2, 0, dw⟩

/-- The header check of a lane (R172, R174, R175, R181, R194); none where what was read is no header of the lane's mode.
[log 104: DEDUCED] -/
def State.headerOutcome (s : State) (l : Lane) (h : HeaderRead) (cfo : Int) : Option HeaderOutcome :=
  let ix := l.region.ix
  let tol := s.syncTol l.region l.slot
  let ranged (o : HeaderOutcome) : HeaderOutcome :=
    if s.cfoInRange l.region l.slot l.mode cfo then o else .fail [Reg.txpCfoRangeCnt ix]
  match h with
  | .lofdm x => if l.mode = 4 then some (ranged (lofdmHeader (tol % 16) ix x.sync x.head)) else none
  | .sun mcs bad fcs2 length =>
    if l.mode < 4 then
      some (ranged (if bad ∨ mcsRate l.mode mcs = 0 then .fail [Reg.txpHdrUnsupCnt ix]
        else .pass ⟨length, 0, 0, 0, mcs, fcs2, 0, false⟩))
    else none
  | .fsk sfd ms fcs2 dw length => if isFsk l.mode then some (ranged (fskHeader (tol / 16) ix sfd ms fcs2 dw length)) else none

/-! Receive gain (R162). -/

/-- CURRENT of `RXP.GAIN_CTRL`. -/
def State.gainIndex (s : State) (r : Region) : Nat := s.rf (Reg.rxpGainCtrl r.ix) 16 5

/-- NOISE_FLOOR of a slot in 0.25 dBFS. -/
def State.noiseFloor (s : State) (r : Region) (slot : Nat) : Int := sgn 16 (s.rf (Reg.rxpSlotStatus r.ix slot) 0 16)
/-- Store a noise floor, saturated to its field. -/
def State.setNoiseFloor (s : State) (r : Region) (slot : Nat) (v : Int) : State :=
  s.setRf (Reg.rxpSlotStatus r.ix slot) 0 16 (unsgn 16 (clampI (-32768) 32767 v))

/-- A gain index applied now, logged; lanes that decode compensate, stored noise floors follow the step. -/
def State.gainSet (s : State) (r : Region) (i : Nat) : State :=
  let step := s.gainDb r i - s.gainDb r (s.gainIndex r)
  let log := (s.rxr r).gainLog.filter (fun k => decide (s.now < k + msTicks 2))
  let s := s.rxUpd r fun x =>
    { x with gainLog := log ++ [s.now], gainTimed := false, gainDeferred := none, slots := x.slots.map (fun kv =>
        (kv.1, { kv.2 with blocks := kv.2.blocks.map (fun b => (b.1, b.2 + step)) })) }
  let s : State := { s with lanes := s.lanes.map (fun kv =>
      (kv.1, kv.2.map (fun l => if l.region = r then { l with gainStepped := some (l.gainStepped.getD s.now) } else l))) }
  let s := (List.range (s.slotCount r)).foldl (fun s k => s.setNoiseFloor r k (s.noiseFloor r k + step)) s
  ((s.setRf (Reg.rxpGainCtrl r.ix) 16 5 i).clrb (Reg.rxpGainCtrl r.ix) 31).clrb (Reg.rxpGainStatus r.ix) 0

/-- A gain index applied, or deferred while the log holds 16 changes of the last 2 ms. -/
def State.gainApply (s : State) (r : Region) (i : Nat) : State :=
  if ((s.rxr r).gainLog.filter (fun k => decide (s.now < k + msTicks 2))).length < 16 then s.gainSet r i
  else
    ((s.rxUpd r fun x => { x with gainTimed := false, gainDeferred := some i }).stk (Reg.rxpGainCtrl r.ix) 31).stk
      (Reg.rxpGainStatus r.ix) 0

/-- The timed instant of a region's gain command, in ns. [log 108: DEDUCED] -/
def State.gainAt (s : State) (r : Region) : Int :=
  s.instant32 (s.rg (Reg.rxpGainAtSec r.ix)).toNat (s.rg (Reg.rxpGainAtNs r.ix)).toNat

end Sys2Proof.Machine
end

