-- ==== Sys2Proof/Machine/MacOps.lean ====
section
/-! DEFINITION. Machine/MacOps.lean: what the MAC stage does with a reception: its source (R256), its security (R402,
R403), duplicates (R232, R233), link figures (R197), loading (R186–R189), the fix (R213, R220), its delivery (R288, R291,
R292) and its acknowledgement (R230, R231). -/

namespace Sys2Proof.Machine

/-! The source (R256). -/

/-- The learning key of an address and its KEY_TYPE. -/
def macKey : MacAddr → Option (Nat × Nat)
  | .none => none
  | .short pan a => some (shortKey pan.toNat a.toNat, 1)
  | .ext e => some (e.toNat, 0)

/-- The handle a key gives in the first of some tables that holds it; each is looked up on a miss in those before. -/
def State.resolveIn (s : State) (key type : Nat) : List Nat → State × Option Nat
  | [] => (s, none)
  | r :: rs =>
    let (s, w) := s.learnLookup r key type
    match w with
    | some w => (s, some (leHandle (s.learnAt r w)))
    | none => s.resolveIn key type rs

/-- The node of an address heard in a region: provisioned, or none. -/
def State.resolve (s : State) (r : Region) (a : MacAddr) : State × Option Nat :=
  match macKey a with
  | none => (s, none)
  | some (k, t) =>
    let (s, h) := s.resolveIn k t (r.ix :: ([0, 1, 2] : List Nat).filter (· != r.ix))
    match h with
    | some h =>
      let (s, x) := s.nodeGet h
      (s, if recProv x then some h else none)
    | none => (s, none)

/-- The nodes of a frame: the MAC source and the originator, who differ under a mesh-addressing header. -/
structure RxSource where
  mac : Nat
  orig : Nat
  via : Bool
  deriving DecidableEq, Repr

/-- The nodes of a frame; none: an unknown source. A relay must be provisioned as one. -/
def State.rxSource (s : State) (r : Region) (f : MacFrame) : State × Option RxSource :=
  match f.mesh with
  | none =>
    let (s, h) := s.resolve r f.src
    (s, h.map (fun h => ⟨h, h, false⟩))
  | some m =>
    let (s, o) := s.resolve r m.orig
    let (s, p) := s.resolve r f.src
    match o, p with
    | some o, some p => (s, if recRelay (s.node p) then some ⟨p, o, true⟩ else none)
    | _, _ => (s, none)

/-! Security and duplicates. -/

/-- What security and the duplicate rules make of a frame; `ok` carries the plaintext. -/
inductive RxVerdict
  | drop
  | refused
  | noKey
  | micFail
  | ok (payload : Bytes) (dup : Bool)
  deriving DecidableEq, Repr

/-- A replay (R232): dropped and counted. -/
def State.replayed (s : State) (r : Region) (h c : Nat) : State :=
  let s := ((s.cnt (Reg.macReplayCnt r.ix)).stk Reg.macTrouble 1).nodeUpd h (fun x => recCount x 0xAA 2)
  s.when (decide (c = 0xFFFFFFFF)) (·.stk Reg.keyTrouble 2)

/-- The duplicate check of a secured frame (R232). -/
def State.fcCheck (s : State) (r : Region) (h c : Nat) (payload : Bytes) : State × RxVerdict :=
  let x := s.node h
  if c = 0xFFFFFFFF ∨ (recFcValid x ∧ c < recF x 0x50 4) then (s.replayed r h c, .drop)
  else if recFcValid x ∧ c = recF x 0x50 4 then (s, .ok payload true)
  else (s.macUpd h (fun x => recSetBits (recSet x 0x50 4 c) 0x59 5 1 1), .ok payload false)

/-- The duplicate check of an unsecured frame (R233): whether it is new, and the record after it. [log 87: DEDUCED] -/
def seqCheck (x : Rec) (q : Nat) : Bool × Rec :=
  let hist := recBits x 0x59 0 4
  let ul := recF x 0x58 1
  let back := (ul + 256 - q) % 256
  if recSeqValid x = false then (true, recSetBits (recSetBits (recSet x 0x58 1 q) 0x59 0 4 (hist ||| 1)) 0x59 4 1 1)
  else if back ≤ 3 ∧ bit hist back then (false, x)
  else if 1 ≤ back ∧ back ≤ 3 then (true, recSetBits x 0x59 0 4 (hist + 2 ^ back))
  else if back = 0 then (true, x)
  else
    let fwd := (q + 256 - ul) % 256
    (true, recSetBits (recSet x 0x58 1 q) 0x59 0 4 ((hist * 2 ^ fwd ||| 1) % 16))

/-- Whether the auxiliary security header is one R403 refuses. -/
def secRefused (x : Rec) (q : SecHdr) : Bool :=
  ! ([1, 2, 3, 5, 6, 7] : List Nat).contains q.level || decide (q.keyMode ≠ 1) || q.fcSuppressed || q.fc5 ||
    (recKeyValid x && decide (q.keyIndex.toNat ≠ recKeyIndex x))

/-- Security and duplicates of a frame from a MAC source (R232, R233, R402, R403); `seqs`: an unsecured frame's sequence
number is checked. [log 89: DEDUCED] -/
def State.rxSecure (s : State) (r : Region) (h : Nat) (f : MacFrame) (seqs : Bool) : State × RxVerdict :=
  let (s, x) := s.nodeGet h
  match f.sec with
  | none =>
    if recSecure x then (s, .drop)
    else if seqs then
      let (new, _) := seqCheck x f.seq.toNat
      (if new then s.macUpd h (fun x => (seqCheck x f.seq.toNat).2) else s, .ok f.payload (! new))
    else (s, .ok f.payload false)
  | some q =>
    if secRefused x q then (s.cnt Reg.keySecRefusedCnt, .refused)
    else
      let (s, k) := s.frameKey h
      match k with
      | none => (s.cnt Reg.keyKeyUnavailCnt, .noKey)
      | some k =>
        match ccmCheck k (recEui x) q.fc.toNat q.level f.mhr f.payload f.mic with
        | none => (s.nodeUpd h (fun x => recCount x 0xAC 2), .micFail)
        | some p => s.fcCheck r h q.fc.toNat p

/-! Link figures (R196, R197). -/

/-- Whether a reception qualifies: none of OVERLAPPED, GAIN_STEPPED, BLANKED, LINK_GAP. -/
def RxJob.qualifies (q : RxJob) : Bool := q.flags &&& 0x1D == 0
/-- Whether its timing offset was measured (R195). -/
def RxJob.timed (q : RxJob) : Bool := decide ((if isFsk q.mode then 256 else 8) ≤ q.units)
/-- One step of the filter. [log 88: DEDUCED] -/
def alphaStep (old new : Int) (shift : Nat) : Int := old + roundDiv (new - old) (2 ^ shift)

/-- A byte of RSSI or SNR after a measurement: 0x80 takes it. -/
def linkByte (x : Rec) (o : Nat) (v : Int) (shift : Nat) : Rec :=
  let old := recF x o 1
  recSet x o 1 (unsgn 8 (clampI (-128) 127 (if old = 0x80 then v else alphaStep (sgn 8 old) v shift)))

/-- The link-figures group updated by a reception. [log 88: DEDUCED] -/
def State.linkFigures (s : State) (r : Region) (h : Nat) (q : RxJob) : State :=
  let x := (s.nodeFill h).node h
  let shift := s.rf (Reg.txpCfoCtrl r.ix) 0 2
  let jumpHz := s.rf (Reg.txpCfoCtrl r.ix) 16 16
  let meas := q.report.cfo
  let scaled := scaleHz (recCfo x) (s.slotCentre2 r q.slot) (s.cfoCentre2 x)
  let first := decide (recCfoRegion x = 0)
  let jump := ! first && q.qualifies && decide ((jumpHz : Int) < (meas - scaled).natAbs)
  let cfo := if first ∨ jump then meas else alphaStep scaled meas shift
  let setCfo (y : Rec) : Rec :=
    if first || q.qualifies then
      recSetBits (recSetBits (recSetBits y 0x28 0 18 (unsgn 18 (clampI (-131072) 131071 cfo))) 0x28 18 9 q.slot) 0x28 30 2 (r.ix + 1)
    else y
  let setTime (y : Rec) : Rec :=
    if q.qualifies && q.timed then
      let v := match recTiming y with | some t => alphaStep t q.report.timing shift | none => q.report.timing
      recSetBits (recSetBits y 0x2C 0 18 (unsgn 18 (clampI (-131072) 131071 v))) 0x2C 31 1 1
    else y
  (s.when jump (·.cnt (Reg.txpCfoJumpCnt r.ix))).nodeUpd h fun y =>
    setTime (setCfo (linkByte (linkByte y (0x20 + r.ix) q.report.rssi shift) (0x23 + r.ix) q.snr shift))

/-! Loading (R186–R191). -/

/-- MODE, MCS and the offers taken up, by an uplink frame (R186, R189, R191); RATES clears as MODE passes between LOFDM and another
mode. [log 175: DESIGN CHOICE] -/
def loadForm (q : RxJob) (x : Rec) : Rec :=
  let x := if (recMode x == 4) = (q.mode == 4) then x else recSetBits x 0x46 0 4 0
  let x := recSetBits x 0x44 11 3 q.mode
  if q.mode = 4 then
    let x := if recUlPend x ∧ q.map = recF x 0x41 1 then recSetBits (recSet x 0x40 1 q.map) 0x44 14 1 0 else x
    if recDlPend x ∧ q.dlHeld = recF x 0x43 1 then recSetBits (recSet x 0x42 1 q.dlHeld) 0x44 15 1 0 else x
  else if q.mode < 4 ∧ recBits x 0x46 3 1 = 0 then recSetBits x 0x46 0 3 q.mcs
  else x

/-- A group's average after a sample. -/
def groupStep (x : Rec) (fresh : Bool) (tones : List Int) (g : Nat) : Rec :=
  let v := meanHalfDb (tones.drop (4 * g) |>.take 4)
  let old : Int := recGroupSnr x g
  recSetBits x 0x47 (6 * g) 6 (if fresh then v else old + roundDiv (v - old) 4).toNat

/-- A loading sample in the record (R187). -/
def loadSample (r : Region) (q : RxJob) (x : Rec) : Rec :=
  let x := if recRegion x = r.ix + 1 ∧ recLoadSlot x = q.slot then x
    else recSetBits (recSetBits (recSetBits x 0x44 9 2 (r.ix + 1)) 0x44 0 9 q.slot) 0x46 4 4 0
  let n := recBits x 0x46 4 4
  let x := (List.range 12).foldl (fun x g => groupStep x (n == 0) q.tones g) x
  recSetBits x 0x46 4 4 (min 15 (n + 1))

/-- A loading sample is taken, and the maps computed from it (R187, R188). -/
def State.loadSampled (s : State) (r : Region) (h : Nat) (q : RxJob) : State :=
  if (q.mode == 4 || q.mode == 1) && q.qualifies && s.writesNode then
    let s := s.nodeUpd h (loadSample r q)
    let nMin := max 1 (s.rf (Reg.txpLoadCtrl r.ix) 24 4)
    if q.mode == 4 && s.rb (Reg.txpLoadCtrl r.ix) 31 && decide (nMin ≤ recBits (s.node h) 0x46 4 4) then
      (s.updateMap r h false).updateMap r h true
    else s
  else s

/-- The loading group updated by an uplink frame that passed its checks: its form and the offers it takes up (R189, R191), then its
sample. [log 175: DESIGN CHOICE] -/
def State.loading (s : State) (r : Region) (h : Nat) (q : RxJob) : State :=
  if s.writesNode then ((s.nodeUpd h (loadForm q)).loadSampled r h q).mapsSettle else s

/-- What every reception from a known node does, whatever becomes of it (R187, R197). -/
def State.measured (s : State) (r : Region) (h : Nat) (q : RxJob) : State := ((s.linkFigures r h q).loadSampled r h q).mapsSettle

/-! Timestamps and the fix. -/

/-- LANE_RX in ns (R200). -/
def laneRxNs : Nat → Nat
  | 5 => 5000 | 6 => 2500 | _ => 1250

/-- The receive timestamp in 2^−32 ns (R199). -/
def State.rxStamp (s : State) (r : Region) (q : RxJob) : Nat :=
  let trim := sgn 24 (getBits q.trim 0 24)
  let fixed : Int := ((32180 + laneRxNs q.mode) * 2 ^ 32 + 7500 * 2 ^ 32 / max 1 (s.slotF r q.slot 2 1) : Nat)
  ((s.tbRawAt q.report.stampTick : Int) - fixed - trim * 2 ^ 28).toNat

/-- An instant in 2^−32 ns of the timebase in ns of the fix scale (R337). -/
def State.toFix (s : State) (raw : Nat) : Int := ((raw / 2 ^ 32 : Nat) : Int) - s.tsu.accum

/-- A vendor IE of the right OUI: the uplink IE it holds, if its values are in range (R213, R214). -/
def parseUplinkIe (b : Bytes) : Option UplinkIe :=
  let nw := le b 4 3
  let w := le b 7 2
  let k := bits w 0 4
  if b.length = 9 ∧ byteAt b 3 = 1 ∧ k ≤ 12 ∧ 1 ≤ nw ∧ nw ≤ 512 * 2 ^ k ∧ 8 ≤ bits w 4 8 ∧ bits w 12 4 = 0 then
    some ⟨nw, k, bits w 4 8⟩
  else none

/-- The contents of the vendor IEs of a frame that bear MAC.RDV_OUI (R213). -/
def State.ownIes (s : State) (f : MacFrame) : List Bytes :=
  let oui := s.rf Reg.macRdvOui 0 24
  if oui = 0 then [] else (f.ies.filterMap headerIeContent).filter (fun b => decide (3 ≤ b.length) && le b 0 3 == oui)

/-- IEs of the right OUI with bad values are ignored and counted (R213), those of another defined SUBTYPE among them.
[log 90: DEDUCED] [log 211: DESIGN CHOICE] -/
def State.ieCount (s : State) (r : Region) (f : MacFrame) : State :=
  s.cntBy (Reg.rdvIeBadCnt r.ix) ((s.ownIes f).countP (fun b => (parseUplinkIe b).isNone))

/-- The fix of a frame from a node (R220). [log 90: DEDUCED] -/
def State.rxFix (s : State) (r : Region) (h : Nat) (q : RxJob) : State :=
  match (s.ownIes q.report.frame).findSome? parseUplinkIe with
  | some ie => if s.timeSet && s.writesNode then s.takeFix h r (s.toFix (s.rxStamp r q)) ie else s
  | none => s

/-- Nodes whose unbooked head frame would go to a node: it waits for that node's uplink (R228). [log 92: DEDUCED] -/
def State.parkedOn (s : State) (t : Nat) : List Nat :=
  s.dls.queues.filterMap (fun kv =>
    if kv.2.isEmpty || (s.booking (4 * kv.1)).isSome then none
    else if kv.1 == t || (match (s.selectRoute (s.node kv.1)).2 with | some rt => rt.via == some t | none => false) then some kv.1
    else none)

/-- The route a reception offers (R257): VIA, SLOT, PARENT. -/
def routeWord (q : RxJob) (src : RxSource) : Nat := (if src.via then 2 ^ 31 + src.mac else 0) + q.slot * 2 ^ 19

/-- A learning job requested (R257, R276): it learns once a table engine takes it. -/
def State.learnRequest (s : State) (r key type h route : Nat) (m : Int) : State :=
  let n := s.jobs.learnNo
  let s : State := { s with jobs := { s.jobs with learns := s.jobs.learns ++ [⟨n, r, key, type, h, route, m⟩], learnNo := n + 1 } }
  s.jobRequest (s.newJob 2 1 n)

/-- The region's learning from a reception that passed its checks (R257). [log 109: DEDUCED] -/
def State.rxLearn (s : State) (r : Region) (q : RxJob) (src : RxSource) : State :=
  let f := q.report.frame
  let x := s.node src.orig
  let addr := match f.mesh with | some m => m.orig | none => f.src
  match macKey addr with
  | some (key, type) =>
    if s.rb Reg.fwdLearnCtrl 31 && ! recNoLearn x && (f.sec.isSome || ! recSecure x) then
      let m := q.snr - (if src.via then 2 * (s.rf Reg.fwdRouteCtrl 8 8 : Int) else 0)
      s.learnRequest r.ix key type src.orig (routeWord q src) m
    else s
  | none => s

/-- HEARD and HEARD_REGION (R243, R258). [log 109: DEDUCED] -/
def State.heard (s : State) (r : Region) (h : Nat) : State :=
  s.macUpd h (fun x => recSetBits (recSetBits x 0x0C 25 1 1) 0x0C (22 + r.ix) 1 1)

/-- What a reception that passed its checks, a duplicate among them, does to the records (R189, R197, R234, R258).
[log 175: DESIGN CHOICE] -/
def State.accepted (s : State) (r : Region) (q : RxJob) (src : RxSource) : State :=
  ((((s.linkFigures r src.mac q).loading r src.mac q).rxLearn r q src).heard r src.orig).rxFix r src.mac q

/-! Delivery. -/

/-- STATUS of an RX_FRAME record (R288). -/
def rxStatus (secured decrypted unknown noKey via fastReject cmd : Bool) : Nat :=
  secured.toNat + 2 * decrypted.toNat + 4 * unknown.toNat + 8 * noKey.toNat + 16 * via.toNat + 32 * fastReject.toNat +
    64 * cmd.toNat

/-- An RX_FRAME record (R288). -/
def State.rxRec (s : State) (r : Region) (q : RxJob) (status handle : Nat) (body : Bytes) : HostRec :=
  let e := cellsFor body.length
  let raw := s.rxStamp r q
  let x := q.report
  { kind := 0, entries := e, cells := q.rxCells + q.safetyCells, port := none, safe := q.safetyCells,
    bytes := slotWord 0 e q.flags.toNat status body.length ++ toLE 6 (tsSec raw) ++ zeros 2 ++ toLE 4 (tsNs raw) ++
      toLE 4 (txSource r q.slot q.mode handle) ++ toLE 2 q.lane ++ toLE 1 (unsgn 8 (clampI (-128) 127 x.rssi)) ++ zeros 1 ++
      toLE 2 (unsgn 16 q.snr) ++ zeros 2 ++ toLE 4 (unsgn 32 (sgn 18 (unsgn 18 x.cfo))) ++
      toLE 4 (if q.timed then unsgn 32 x.timing else 0) ++ toLE 4 ((x.frame.sec.map (·.fc.toNat)).getD 0) ++ zeros 20 ++ body }

/-- The ring of an RX_FRAME record (R291). -/
def State.steer (s : State) (r : Region) (handle : Nat) (unknown cmd : Bool) : Nat :=
  if unknown then s.rf Reg.hifSteerMisc 0 5
  else if cmd then s.rf Reg.hifSteerMisc 8 5
  else if recSafety (s.node handle) then s.rf (Reg.hifSteer r.ix) 24 5
  else s.rf (Reg.hifSteer r.ix) 0 5 + handle % 2 ^ s.rf (Reg.hifSteer r.ix) 16 3

/-- The check of the chosen ring before the acknowledgement (R292): a frame it cannot take is dropped here. -/
def State.steerCheck (s : State) (k : Nat) (x : HostRec) (handle : Nat) (safety : Bool) : State × Bool :=
  let lost (s : State) : State := (s.pantryFree (x.cells - x.safe) x.safe).when safety (·.cell 0x32 k handle 0)
  if ! s.ringConf k then (lost (s.cnt Reg.hifSteerDropCnt), false)
  else if s.ringTakes k x.entries x.cells then (s, true)
  else (lost (s.ringDrop k), false)

/-- Whether this package delivers receptions: in STANDBY only while `TWN.CTRL.STANDBY_DELIVER` is 1 (R465). -/
def State.delivers (s : State) : Bool := s.writesNode || s.rb Reg.twnCtrl 0

/-- The contexts `FWD.CTX0`–`FWD.CTX15` as IPHC takes them (R268, R273). -/
def State.iphcCtx (s : State) : List IphcCtx :=
  (List.range 16).map (fun i =>
    let w := Reg.fwdCtxWord4 i
    { pre := be (((List.range 4).map (fun j => toLE 4 (s.rg (Reg.fwdCtxPrefix i j)).toNat)).flatten) 0 16,
      length := s.rf w 0 8, valid := s.rb w 31, compress := s.rb w 30 })

/-- Octets of an address in a mesh-addressing header (RFC 4944). -/
def meshAddrLen : MacAddr → Nat
  | .ext _ => 8
  | _ => 2
/-- Octets of a mesh-addressing header; a Hops Left of 15 or more takes an octet of its own. -/
def meshLen (m : MeshHdr) : Nat := 1 + meshAddrLen m.orig + meshAddrLen m.final + (if 15 ≤ m.hops then 1 else 0)

/-- The lowest Ethernet port the fast path may leave by (R291). [log 118: DEDUCED] -/
def State.fastPort (s : State) : Option Nat :=
  ([0, 1] : List Nat).find? (fun p => s.fastpath p && (s.port p).up && s.domOn 14)

/-- What the fast path makes of a decrypted payload: not for it, refused, or the IPv6 packet (R268, R291). -/
inductive FastRes
  | no
  | reject
  | packet (b : Bytes)
  deriving DecidableEq, Repr

/-- The fast path's view of a payload: the link-layer addresses are those of its mesh-addressing header, where it has one. -/
def State.fastView (s : State) (f : MacFrame) (payload : Bytes) : FastRes :=
  let p := match f.mesh with | some m => payload.drop (meshLen m) | none => payload
  let (src, dst) := match f.mesh with | some m => (m.orig, m.final) | none => (f.src, f.dst)
  let b := byteAt p 0
  if p.isEmpty then .no
  else if b / 32 = 3 then
    match iphcOpen s.iphcCtx (linkIid src) (linkIid dst) p with
    | some x => .packet x
    | none => .reject
  else if b / 8 = 24 ∨ b / 8 = 28 then .reject
  else .no

/-- The cells of the egress pool a port's frames take, of its 128 (R281). -/
def EthPort.egressCells (q : EthPort) : Nat := (q.egress.map (fun x => ceilDiv x.frame.length 256)).sum
/-- Whether the egress pool has room for a frame that none waits ahead of. -/
def EthPort.egressRoom (q : EthPort) (x : EthOut) : Bool :=
  q.waiting.isEmpty && decide (q.egressCells + ceilDiv x.frame.length 256 ≤ 128)

/-- A frame that leaves by an Ethernet port joins those that wait there. -/
def State.ethSend (s : State) (p : Nat) (x : EthOut) : State :=
  s.setPort p { s.port p with egress := (s.port p).egress ++ [x] }

/-- A frame of the fast path at its port: into the egress pool, or it waits in the cells it was received in (R281, R298).
[log 182: DEDUCED] -/
def State.fastSend (s : State) (p : Nat) (x : EthHeld) : State :=
  if (s.port p).egressRoom x.out then (s.pantryFree x.rx x.safe).ethSend p x.out
  else s.setPort p { s.port p with waiting := (s.port p).waiting ++ [x] }

/-- The first frame that waits for egress cells moves up where there is room. -/
def State.egressMove (s : State) (p : Nat) : State :=
  match (s.port p).waiting with
  | [] => s
  | x :: rest =>
    if ({ s.port p with waiting := [] } : EthPort).egressRoom x.out then
      ((s.setPort p { s.port p with waiting := rest }).pantryFree x.rx x.safe).ethSend p x.out
    else s
/-- All of them move up in order, as far as there is room. [log 182: DEDUCED] -/
def State.egressFill (s : State) (p : Nat) : State :=
  (s.port p).waiting.foldl (fun s _ => s.egressMove p) s

/-- The Ethernet frame of an IPv6 packet (R291). -/
def State.fastFrame (s : State) (p : Nat) (b : Bytes) : EthOut :=
  { frame := toBE 6 ((s.rg Reg.hifEthGwMacLo).toNat + 2 ^ 32 * s.rf Reg.hifEthGwMacHi 0 16) ++ Config.portMac p ++
      [0x86, 0xDD] ++ b,
    prio := some (s.rf Reg.hifEthCtrl 0 3), compl := none }

/-- Where a reception goes: dropped, out by Ethernet, or to a ring that can take its record. -/
inductive RxWay
  | gone
  | eth (p : Nat) (b : Bytes) (rx safety : Nat)
  | ring (k : Nat) (x : HostRec)
  deriving DecidableEq, Repr

/-- The way of a reception, decided before its acknowledgement (R291, R292). [log 93: DEDUCED] -/
def State.rxWay (s : State) (r : Region) (q : RxJob) (status handle : Nat) (unknown : Bool) (payload : Bytes) : State × RxWay :=
  let f := q.report.frame
  if s.delivers = false then (s.pantryFree q.rxCells q.safetyCells, .gone)
  else
    let fast := if bit status 1 && f.kind == .data then
        match s.fastPort with
        | some p =>
          (match s.fastView f payload with
           | .packet b => some (p, some b)
           | .reject => some (p, none)
           | .no => none)
        | none => none
      else none
    match fast with
    | some (p, some b) => (s, .eth p b q.rxCells q.safetyCells)
    | _ =>
      let s := if fast.isSome then s.cnt Reg.fwdIphcFailCnt else s
      let status := if fast.isSome then status + 32 else status
      let k := s.steer r handle unknown (f.kind == .command)
      let body := f.mhr ++ payload ++ (if bit status 1 then [] else f.mic)
      let x := s.rxRec r q status handle body
      let (s, ok) := s.steerCheck k x handle (! unknown && recSafety (s.node handle))
      (s, if ok then .ring k x else .gone)

/-- A reception goes its way with no acknowledgement to wait for. [log 89: DEDUCED] -/
def State.rxGo (s : State) : RxWay → State
  | .gone => s
  | .eth p b rx safety => s.fastSend p ⟨s.fastFrame p b, rx, safety⟩
  | .ring k x => s.deliver k x

/-! Acknowledgements (R228, R230, R231). -/

/-- Whether a destination address is this router's. -/
def State.selfAddr (s : State) : MacAddr → Bool
  | .none => true
  | .short pan a => decide (shortKey pan.toNat a.toNat = (s.rg Reg.macSelfAddr).toNat)
  | .ext e => decide (e.toNat = s.selfEui)

/-- Whether a frame is addressed to the router, or to a node whose direct route in one of the three tables (R260) makes the router
its parent. [log 93: DEDUCED] -/
def State.addressed (s : State) (a : MacAddr) : Bool :=
  s.selfAddr a ||
    (match macKey a with
     | some (k, t) =>
       allRegions.any (fun r =>
         match s.learnFind r.ix k t with
         | some w => let e := s.learnAt r.ix w; leRouteValid e && ! leVia e && recProv (s.node (leHandle e))
         | none => false)
     | none => false)

/-- One map offer of the acknowledgement IE (R215). -/
def State.ackOffer (s : State) (x : Rec) (down : Bool) : Bytes :=
  let m := recF x (if down then 0x43 else 0x41) 1
  toLE 1 m ++ toLE 1 (recBits x 0x46 (if down then 2 else 0) 2) ++
    toLE 18 (s.lmap (Region.ofIx (recRegion x - 1)) m).codes.toNat

/-- The acknowledgement IE for a node (R215); empty while MAC.RDV_OUI is 0. -/
def State.ackIe (s : State) (x : Rec) : Bytes :=
  let oui := s.rf Reg.macRdvOui 0 24
  if oui = 0 then []
  else
    headerIe <| toLE 3 oui ++ [2] ++ toLE 1 ((recUlPend x).toNat + 2 * (recDlPend x).toNat + 4 * (recPhase x == 1).toNat) ++
      toLE 3 (recBits x 0x3A 0 18) ++ (if recUlPend x then s.ackOffer x false else []) ++
      (if recDlPend x then s.ackOffer x true else [])

/-- The header of an Enh-Ack to a frame, unsecured: to the frame's source, with the acknowledgement IE (R230). [log 5: PRESUMED] -/
def State.ackMhr (s : State) (f : MacFrame) (x : Rec) (pending : Bool) : TxMhr :=
  { kind := 2, version := 2, seq := f.seq.toNat, pending := pending, ackReq := false,
    pan := match f.src with | .short p _ => p.toNat | _ => s.selfPan,
    dst := f.src, src := s.selfExt, sec := none, ies := s.ackIe x }

/-- The octets of an acknowledgement to a frame, none when no frame counter may be used for it (R230, R404, R463). -/
def State.ackFrame (s : State) (h : Nat) (f : MacFrame) (pending : Bool) : State × Option Bytes :=
  let x := s.node h
  let hdr : TxMhr := s.ackMhr f x pending
  if f.version < 2 then (s, some { hdr with version := 0, dst := .none, src := .none, ies := [] }.octets)
  else
    match f.sec with
    | none => (s, some hdr.octets)
    | some q =>
      let (s, k) := s.frameKey h
      match k with
      | none => (s, none)
      | some k =>
        let (s, fc) := s.fcTake h
        match fc with
        | none => (s, none)
        | some fc =>
          let hdr := { hdr with sec := some (q.level, recKeyIndex x, fc) }.octets
          (s, some (hdr ++ ccmProtect k s.selfEui fc q.level hdr []))

/-- The carrier an acknowledgement takes (R208): a free one, else one in BACKOFF or CCA. -/
def State.ackCarrier (s : State) (r : Region) : Option Nat :=
  let own := (List.range 4).filter (fun c => s.carrierOk r c)
  (own.find? (fun c => (s.carrier r c).phase == .idle)).or
    (own.find? (fun c => (s.carrier r c).phase == .backoff || (s.carrier r c).phase == .cca))

/-- An acknowledgement due that is not sent (R231). -/
def State.ackLost (s : State) (r : Region) (h : Nat) (w : RxWay) : State :=
  ((((s.cnt (Reg.macAckMissedCnt r.ix)).stk Reg.macTrouble 2).nodeUpd h (fun x => recCount x 0xAE 2)).rxGo w).porchBook h

/-- The acknowledgement of a frame: formed, and a carrier claimed for it; or missed. A record for a ring travels with it
(R238); a frame for the fast path leaves at once. -/
def State.acknowledge (s : State) (r : Region) (h : Nat) (q : RxJob) (w : RxWay) : State :=
  let f := q.report.frame
  let pending := ! (s.queue h).isEmpty
  let start := q.endTick + usTicks (s.rf (Reg.macAckCtrl r.ix) 16 11)
  match s.ackCarrier r with
  | none => s.ackLost r h w
  | some c =>
    let (s, b) := s.ackFrame h f pending
    match b with
    | none => s.ackLost r h w
    | some b =>
      let (s, answers) := match w with
        | .ring k x => (s, some (k, x))
        | w => (s.rxGo w, none)
      let x := s.node h
      let (mode, map, rate) := txForm x r q.slot
      let j : TxJob :=
        { kind := .ack, slot := q.slot, handle := if pending then some h else none, pre := .short, ext := 0, mode := mode, map := map,
          rate := rate, frame := b, seq := f.seq, airtime := s.airtime r mode map rate (b.length + fcsLen mode) 0, needCca := false,
          wantAck := false, safety := false, powerReq := s.slotF r q.slot 0x13 1, power := 0, offset := s.txOffset x r q.slot,
          symScale := s.txScale x, start := start, deadline := start, copies := 1, sentCopies := 0, opened := false,
          ackCtrl := s.rg (Reg.macAckCtrl r.ix), gapUs := 0, charged := 0, expected := 0,
          ackTo := h, cls := 0, answers := answers, air := TxAir.reset }
      let y := s.carrier r c
      let z : Carrier := if y.phase = .idle then Carrier.reset else { y with aside := y.job }
      let s := s.setCarrier r c { z with phase := .assigned, job := some j, due := s.now }
      let s := s.jobRequest (s.newJob 4 1 (j.ackJobNo r))
      s.lbtBegin r c

/-- Whether a frame that passed its checks is acknowledged (R206, R230). -/
def State.acks (s : State) (r : Region) (f : MacFrame) : Bool :=
  f.ackReq && s.rb (Reg.macAckCtrl r.ix) 31 && s.txMode && s.addressed f.dst

/-! A reception. -/

/-- A frame from an unknown source (R256): delivered undecrypted, unacknowledged. -/
def State.rxUnknown (s : State) (r : Region) (q : RxJob) : State :=
  let f := q.report.frame
  let s := s.cnt Reg.fwdUnknownSrcCnt
  let (s, w) := s.rxWay r q (rxStatus f.sec.isSome false true false f.mesh.isSome false (f.kind == .command)) 0 true f.payload
  s.rxGo w

/-- A data or MAC command frame from a known node. Until it is answered with Frame Pending 1, no post-acknowledgement delivery
follows an earlier answer (R225, R228). [log 87: DEDUCED] -/
def State.rxKnown (s : State) (r : Region) (q : RxJob) (src : RxSource) : State :=
  let f := q.report.frame
  let (s, v) := s.rxSecure r src.mac f true
  let undecrypted (s : State) (noKey : Bool) : State :=
    let (s, w) := s.rxWay r q (rxStatus true false false noKey src.via false (f.kind == .command)) src.orig false f.payload
    s.rxGo w
  let s : State := if v = .drop ∨ v = .micFail then s
    else { s with porch := { s.porch with postAck := sput none s.porch.postAck src.mac none } }
  match v with
  | .drop => (s.measured r src.mac q).pantryFree q.rxCells q.safetyCells
  | .micFail => undecrypted (s.measured r src.mac q) false
  | .refused => undecrypted (s.measured r src.mac q) false
  | .noKey => undecrypted (s.measured r src.mac q) true
  | .ok payload dup =>
    let s := s.accepted r q src
    let (s, w) :=
      if dup then
        (((s.cnt (Reg.macDupCnt r.ix)).nodeUpd src.mac (fun x => recCount x 0xA8 2)).pantryFree q.rxCells q.safetyCells, RxWay.gone)
      else
        (s.nodeUpd src.mac (fun x => recCount x 0xA0 4)).rxWay r q
          (rxStatus f.sec.isSome f.sec.isSome false false src.via false (f.kind == .command)) src.orig false payload
    let refusedByRing := ! dup && w == RxWay.gone && s.delivers
    let ack := s.acks r f && ! refusedByRing
    let parked := (s.parkedOn src.mac).filter (fun h => ! ack || h != src.mac)
    let s := if ack then s.acknowledge r src.mac q w else s.rxGo w
    parked.foldl (fun s h => s.porchBook h) s

/-- The carrier whose job a decoded acknowledgement from a node would end (R235). [log 91: DEDUCED] -/
def State.ackMatch (s : State) (r : Region) (q : RxJob) (src : Option Nat) : Option Nat :=
  let f := q.report.frame
  (s.awaiting r q.slot q.preStart (fun p => p == .ackWait || p == .withheld || p.betweenCopies)).find? (fun c =>
    match (s.carrier r c).job with
    | some j => j.seq == f.seq && (match src with | some h => h == j.ackTo | none => f.src == .none)
    | none => false)

/-- An acknowledgement from a tag (R220, R228, R235): never delivered. [log 91: DEDUCED] -/
def State.rxAck (s : State) (r : Region) (q : RxJob) : State :=
  let f := q.report.frame
  let s := s.pantryFree q.rxCells q.safetyCells
  let (s, src) := s.resolve r f.src
  let hit := s.ackMatch r q src
  let node := src.or ((hit.bind (fun c => (s.carrier r c).job)).map (·.ackTo))
  match node with
  | none => s
  | some h =>
    let (s, v) := s.rxSecure r h f false
    match v with
    | .ok _ _ =>
      let s := s.accepted r q ⟨h, h, false⟩
      match hit with
      | some c =>
        let e := if f.pendingBit then some (s.toFix (s.tbRawAt q.endTick)) else none
        let s : State := { s with porch := { s.porch with postAck := sput none s.porch.postAck h e } }
        s.jobEnd r c .acked
      | none => s
    | _ => s.measured r h q

end Sys2Proof.Machine
end

