-- ==== Sys2Proof/Machine/Radio.lean ====
section
/-! DEFINITION. Machine/Radio.lean: the commands of the radio front ends (chapter 4): recalibration, listen-before-talk and
the transmit carriers, LO lock, the power detector, coexistence and the `RFC` window. -/

namespace Sys2Proof.Machine

/-! Recalibration (R108–R112). -/

/-- The modes in which the supervisor recalibrates (R109). -/
def Mode.recals (m : Mode) : Bool :=
  m == .active || m == .quiet || m == .degraded || m == .standby || m == .handover || m == .maintenance

/-- Whether a region is one that calibrations apply to: in service under an image, its front domain on. -/
def State.calRegion (s : State) (r : Region) : Bool :=
  s.str.active.isSome && s.powered r && (s.rad r).inService && s.domOn r.frontDom

/-- A recalibration becomes due. -/
def State.recalRaise (s : State) (r : Region) : State :=
  s.radUpd r fun d => if d.recal.due then d else { d with recal := { d.recal with due := true, dueAt := s.now } }

/-- RECAL_INTERVAL_S has passed since the last calibration (R109). -/
def State.recalOld (s : State) (r : Region) : Bool :=
  s.calRegion r && s.sys.mode.recals && (s.rad r).recal.running.isNone &&
    decide ((s.rad r).recal.lastAt + secTicks (s.calF r 0x40 4) ≤ s.now)

/-- RFC_RECAL_NOW. -/
def execRfcRecalNow (r : Region) (s : State) : Host.Outcome State Fault Refusal :=
  s.go fun s => if s.domOn r.frontDom then (s.setb (Reg.rfcRecal r.ix) 31 true).recalRaise r else s.unmapped

/-- A standby's loopback through a region's transmit chain into the dummy load, every RECAL_INTERVAL_S (R465): T/R stands at 01 and the PA
enable low (R117), so the lines are as they were; a chain that fails is reported as a fault. [log 203: DEDUCED] -/
def State.loopback (s : State) (r : Region) : State :=
  if s.sys.mode = .standby ∧ s.calRegion r ∧ (s.rad r).recal.loopAt + secTicks (s.calF r 0x40 4) ≤ s.now then
    s.radUpd r fun d => { d with recal := { d.recal with loopAt := s.now } }
  else s

/-- RECAL_INTERVAL_EXPIRY. -/
def execRecalIntervalExpiry (r : Region) (t : Nat) (s : State) : Host.Outcome State Fault Refusal :=
  s.act t fun s => (if s.recalOld r then s.recalRaise r else s).loopback r

/-- The measured records of a region that a temperature has made stale (R111). -/
def State.corrStale (s : State) (r : Region) (temp : Byte) (delta : Nat) : State :=
  s.radUpd r fun d => { d with corr := d.corr.map (fun kv =>
    if getBits kv.2 (8 * 0x1D) 8 = 2 ∧ delta ≤ (sgn 8 (getBits kv.2 (8 * 0x1C) 8) - temp.toInt).natAbs then
      (kv.1, setBits kv.2 (8 * 0x1D) 8 3)
    else kv) }

/-- RECAL_TEMPERATURE_DUE. -/
def execRecalTemperatureDue (r : Region) (temp : Byte) (t : Nat) (s : State) : Host.Outcome State Fault Refusal :=
  s.act t fun s =>
    let delta := s.calF r 0x44 1
    if s.calRegion r && s.sys.mode.recals then
      let s := s.corrStale r temp delta
      if delta ≤ ((s.rad r).recal.lastTemp.toInt - temp.toInt).natAbs ∧ (s.rad r).recal.running = none then s.recalRaise r
      else s
    else s

/-- The LO leaves centre 0: T/R lines at 00, samples invalid for B. [log 131: DEDUCED] -/
def State.recalGo (s : State) (r : Region) : State :=
  let b := s.blindUs r
  (((s.samplesBad r).radUpd r fun d =>
    { d.lines 0 none with recal := { d.recal with running := some (s.now + usTicks b), blindUs := b } }).clrb (Reg.rfcRecal r.ix) 31)

/-- RECAL_START (R110): the conditions are looked at when the command comes. [log 131: DEDUCED] -/
def execRecalStart (r : Region) (t : Nat) (s : State) : Host.Outcome State Fault Refusal :=
  s.act t fun s =>
    let d := (s.rad r).recal
    if s.calRegion r && s.sys.mode.recals && d.due && d.running.isNone && (s.rad r).loLocked && ! (s.rad r).paEn &&
        s.recalClear r (usTicks (s.blindUs r + 100)) then s.recalGo r
    else s

/-- RECAL_DEFER_LIMIT. -/
def execRecalDeferLimit (r : Region) (t : Nat) (s : State) : Host.Outcome State Fault Refusal :=
  s.act t fun s =>
    let d := (s.rad r).recal
    if s.calRegion r && s.sys.mode.recals && d.due && d.running.isNone && ! d.forced && decide (d.dueAt + secTicks 1 ≤ s.now) then
      (s.radUpd r fun d => { d with recal := { d.recal with forced := true } }).cnt (Reg.rfcRecalDeferCnt r.ix)
    else s

/-- RECAL_DONE: codes, correction records, `LAST_BLIND_US`; waiting commands go on. -/
def execRecalDone (r : Region) (cals : List CalResult) (corrs : List CorrResult) (t : Nat) (s : State) :
    Host.Outcome State Fault Refusal :=
  s.act t fun s =>
    match (s.rad r).recal.running with
    | some e =>
      if e ≤ s.now then
        let b := (s.rad r).recal.blindUs
        (((s.cnt (Reg.rfcRecalCnt r.ix)).setRf (Reg.rfcRecal r.ix) 0 16 b).calStore r cals corrs).airMoved r
      else s
    | none => s

/-! Carriers (R207, R116). -/

/-- A carrier whose phase has come to its end. -/
def State.onPhase (s : State) (r : Region) (c : Nat) (ph : CPhase) (f : TxJob → State → State) : State :=
  let x := s.carrier r c
  match x.job with
  | some j => if x.phase = ph ∧ x.due ≤ s.now then f j s else s
  | none => s

/-- A carrier's phase and the tick it ends at. -/
def State.setPhase (s : State) (r : Region) (c : Nat) (ph : CPhase) (due : Nat) : State :=
  s.setCarrier r c { s.carrier r c with phase := ph, due := due }

/-- TRANSMIT_COMMAND. -/
def execTransmitCommand (r : Region) (c : Fin 4) (t : Nat) (s : State) : Host.Outcome State Fault Refusal :=
  s.act t fun s => s.onPhase r c.val .assigned fun _ s => s.lbtBegin r c.val

/-- Whether a backoff that ends at a tick leaves no time for the CCA before the deadline (R207). -/
def State.backoffLate (s : State) (r : Region) (j : TxJob) (due : Nat) : Bool :=
  decide (j.deadline < due + usTicks (s.ccaDur r j.slot))

/-- Whether a lane of a slot holds a CONFIRMED reception. -/
def State.slotHeard (s : State) (r : Region) (slot : Nat) : Bool :=
  s.lanes.any (fun kv =>
    match kv.2 with
    | some l => l.confirmed && l.region == r && l.slot == slot
    | none => false)

/-- BACKOFF_END: the CCA begins, or waits for the receive path (R117) or the LO (R119). -/
def execBackoffEnd (r : Region) (c : Fin 4) (t : Nat) (s : State) : Host.Outcome State Fault Refusal :=
  s.act t fun s => s.onPhase r c.val .backoff fun j s =>
    if s.backoffLate r j (s.carrier r c.val).due then s.jobEnd r c.val .late
    else if s.jobBlocked r j ∨ s.slotOnAir r c.val j.slot then (s.setPhase r c.val .held s.now).coexPlan r
    else
      let s := s.setPhase r c.val .cca (s.now + usTicks (s.ccaDur r j.slot))
      (s.setCarrier r c.val
        { s.carrier r c.val with spoiled := s.slotHeard r j.slot || (s.rad r).invalid || ! s.dieF2c.up }).coexPlan r

/-- CCA_END: `power` is the slot's mean power over the CCA, in 0.5 dBm steps; a CONFIRMED reception of the slot or an invalid
sample at any time of the CCA has spoiled it. A slot that another carrier has taken meanwhile holds the command (R209). -/
def execCcaEnd (r : Region) (c : Fin 4) (power : Int) (t : Nat) (s : State) : Host.Outcome State Fault Refusal :=
  s.act t fun s => s.onPhase r c.val .cca fun j s =>
    if decide (s.ccaThresh r j.slot ≤ power) || (s.carrier r c.val).spoiled then (s.ccaBusy r c.val j).coexGrant r
    else if s.slotOnAir r c.val j.slot then s.setPhase r c.val .held s.now
    else
      let (s, refused) := s.admitTx r j
      match refused with
      | some o => s.jobEnd r c.val o
      | none => s.setPhase r c.val .starting (s.t0For r j.start)

/-- START_INSTANT_REACHED: a command that needs no CCA; it stays back while another carrier is on air on its slot (R209). -/
def execStartInstantReached (r : Region) (c : Fin 4) (t : Nat) (s : State) : Host.Outcome State Fault Refusal :=
  s.act t fun s => s.onPhase r c.val .wait fun j s =>
    s.setPhase r c.val (if s.slotOnAir r c.val j.slot then .held else .starting) s.now

/-- BACKOFF_DEADLINE (R119, R207): a backoff that would end too late, or a waiting command whose deadline has passed. -/
def execBackoffDeadline (r : Region) (c : Fin 4) (t : Nat) (s : State) : Host.Outcome State Fault Refusal :=
  s.act t fun s =>
    let s := s.beaconServe r
    let x := s.carrier r c.val
    match x.job with
    | some j =>
      if (x.phase = .backoff ∧ s.backoffLate r j x.due) ∨
          ((x.phase = .held ∨ x.phase = .wait ∨ x.phase = .backoff ∨ x.phase = .cca) ∧ j.deadline < s.now) then
        (s.jobEnd r c.val .late).coexGrant r
      else s
    | none => s

/-- TX_START: t0, put off while `PAEN_x` is high (R116), once the region, the profile, the budget and the grant allow it. [log 125: DEDUCED] -/
def execTxStart (r : Region) (c : Fin 4) (t : Nat) (s : State) : Host.Outcome State Fault Refusal :=
  s.act t fun s => s.onPhase r c.val .starting fun j s =>
    if s.regionBlocked r ∨ s.slotOnAir r c.val j.slot then s.setPhase r c.val .held s.now
    else if s.t0Wait r j.start then s.setPhase r c.val .starting (j.start - usTicks 2)
    else if s.coexRole r = 1 ∧ (s.rad r).coex.gnt = false then s
    else
      let (s, refused) := s.admitTx r j
      match refused with
      | some o => (s.jobEnd r c.val o).airMoved r
      | none => s.txBegin r c.val j

/-- PA_SETTLE_EXPIRY: the digital ramp-up of the carriers that waited for the PA. -/
def execPaSettleExpiry (r : Region) (t : Nat) (s : State) : Host.Outcome State Fault Refusal :=
  s.act t fun s =>
    (List.range 4).foldl (fun s c => s.onPhase r c .settle fun j s =>
      s.setPhase r c .onAir ((s.carrier r c).first + usTicks j.airtime)) s

/-- Detection latency of a mode in µs (R145). -/
def detLatency : Nat → Nat
  | 5 => 360 | 6 => 200 | 7 => 120 | _ => 280

/-- The ticks from a frame's end to the end of its acknowledgement window (R235). -/
def TxJob.ackWindow (j : TxJob) : Nat := usTicks (j.turnUs + j.tolUs + detLatency j.mode)

/-- The head frame of a node whose acknowledgement bore Frame Pending 1 and has ended is booked after it (R228). -/
def State.postAckBook (s : State) (h : Nat) (e : Int) : State :=
  let s : State := { s with porch := { s.porch with postAck := sput none s.porch.postAck h (some e) } }
  match s.booking (4 * h) with
  | some b => if b.released then s else s.rebook h
  | none => s.porchBook h

/-- What the end of a frame's last symbol starts, by its kind: the wait for an acknowledgement, the gap of a strobe train,
or the job's end. -/
def State.txDone (s : State) (r : Region) (c : Nat) (j : TxJob) : State :=
  let x := s.carrier r c
  let j := match s.twin.gateFrom with | some g => j.hole g s.now | none => j
  let s := s.out (.air r c x.first j)
  let s := match j.kind, j.handle with
    | .ack, _ => s
    | _, some h => s.frameSent h (s.txStamp r j x.first) (txSource r j.slot j.mode h)
    | _, none => s
  let j := { j with sentCopies := j.sentCopies + 1 }
  if j.pre = .strobe then
    let j := { j with copies := j.copies - 1, start := s.now + usTicks j.gapUs, opened := true }
    let due := if j.copies ≠ 0 then s.copyDue r j
      else if j.kind = .flood then s.now
      else s.now + max (usTicks j.gapUs) j.ackWindow
    ((s.setCarrier r c { x with phase := .gap, job := some j, due := due, ended := s.now }).coexPlan r).cnt
      (Reg.rdvStrobeCopyCnt r.ix)
  else
  match j.kind with
  | .downlink =>
    (s.setCarrier r c { x with phase := .ackWait, job := some j, due := s.now + j.ackWindow, ended := s.now }).coexPlan r
  | .ack =>
    let s := (s.setCarrier r c { x with job := some j }).jobEnd r c .sent
    match j.handle with
    | some h => s.postAckBook h s.fixNow
    | none => s
  | _ => (s.setCarrier r c { x with job := some j }).jobEnd r c .sent

/-- TX_END. -/
def execTxEnd (r : Region) (c : Fin 4) (t : Nat) (s : State) : Host.Outcome State Fault Refusal :=
  s.act t fun s => s.onPhase r c.val .onAir fun j s =>
    ((s.txDone r c.val j).airEnd r (2 + getBits (s.rad r).timing 16 8)).airMoved r

/-- PA_OFF_EXPIRY. -/
def execPaOffExpiry (r : Region) (t : Nat) (s : State) : Host.Outcome State Fault Refusal :=
  s.act t fun s =>
    match (s.rad r).paOff with
    | some e => if e ≤ s.now ∧ (s.carriersOn r).isEmpty then (s.linesDown r false).airMoved r else s
    | none => s

/-- RX_SETTLE_EXPIRY. -/
def execRxSettleExpiry (r : Region) (t : Nat) (s : State) : Host.Outcome State Fault Refusal :=
  s.act t fun s =>
    match (s.rad r).rxValidAt with
    | some e =>
      if e ≤ s.now ∧ (s.rad r).recal.running = none ∧ (s.rad r).trAt s.now = 1 then
        (s.samplesGood r).airMoved r
      else s
    | none => s

/-! LO lock (R119, R120). -/

/-- LO_LOCK. -/
def execLoLock (r : Region) (t : Nat) (s : State) : Host.Outcome State Fault Refusal :=
  s.act t fun s =>
    if s.calRegion r ∧ (s.rad r).loLocked = false then
      (s.radUpd r fun d => { d with loLocked := true, centre := 0 }).airMoved r
    else s

/-- Whether an application in progress calibrates a region (R66, R108), or the images of a start are being tried (R68), each with a
search of its own. [log 167: DEDUCED] -/
def State.applyCal (s : State) (r : Region) : Bool :=
  match s.str.applying with
  | some (im, _) => s.calWith im r
  | none => s.sys.stage == 7 && s.sys.mode == .configure && ! s.sys.loadDone

/-- LO_LOCK_LOST: a third loss within 10 s puts the region out of service, during the search of an application as that ends. A
recalibration starts again; so does the calibration or search of an application, whose samples stay invalid until it completes. -/
def execLoLockLost (r : Region) (t : Nat) (s : State) : Host.Outcome State Fault Refusal :=
  s.act t fun s =>
    if s.applyCal r ∨ (s.calRegion r ∧ (s.rad r).loLocked) then
      let s := (s.stk (Reg.rfcStatus r.ix) 11).cnt (Reg.rfcLockLostCnt r.ix)
      let s := s.radUpd r fun d => { d with lockLost := d.lockLost.filter (fun k => decide (s.now < k + secTicks 10)) ++ [s.now] }
      let s :=
        if s.applyCal r then s.samplesBad r
        else if (s.rad r).recal.running.isSome then s.recalGo r
        else
          let on := s.carriersOn r
          let s := s.radUpd r fun d => { d with loLocked := false, centre := 0 }
          ((on.foldl (fun s c => s.jobEnd r c .lockLost) s).airEnd r 3).coexGrant r
      if 3 ≤ (s.rad r).lockLost.length ∧ s.applyCal r = false then s.regionOut r 0 else s
    else s

/-! The power detector (R121) and the transmit timeout (R130). -/

/-- Whether a comparator sample is taken with no transmission commanded. [log 132: DEDUCED] -/
def State.uncommanded (s : State) (r : Region) : Bool :=
  ! (s.rad r).paAt s.now && decide ((s.rad r).paLowAt + usTicks 20 < s.now) && (s.carriersOn r).isEmpty

/-- The comparator trips: lines at 00, SAFE with cause 0x0B. [log 208: DESIGN CHOICE] -/
def State.rfTrip (s : State) (r : Region) (level : Byte) : State :=
  let s := (((s.radUpd r fun d => { d with tripped := true, pdet := [] }).linesOff r).stk (Reg.rfcStatus r.ix) 12).cell 0x20 r.ix
    level.toNat 0
  s.safe 0x0B r.ix

/-- PDET_SAMPLE. [log 132: DEDUCED] -/
def execPdetSample (r : Region) (level : Byte) (t : Nat) (s : State) : Host.Outcome State Fault Refusal :=
  s.act t fun s =>
    if s.domOn r.frontDom ∧ s.str.active.isSome then
      let hit := decide (s.safF r.ix 1 < level.toNat) && s.uncommanded r
      let l := (hit :: (s.rad r).pdet).take 100
      let s := s.radUpd r fun d => { d with pdetLevel := level, pdet := l }
      if 50 ≤ l.countP id then s.rfTrip r level else s
    else s

/-- TX_TIMEOUT_EXPIRY: past the limit it started under (R129), the carrier is a failed unit. -/
def execTxTimeoutExpiry (r : Region) (c : Fin 4) (t : Nat) (s : State) : Host.Outcome State Fault Refusal :=
  s.act t fun s =>
    let x := s.carrier r c.val
    match x.job with
    | some j =>
      if x.phase = .onAir ∧ x.first + msTicks j.air.limitMs ≤ s.now + usTicks 2 then
        ((s.stk (Reg.rfcStatus r.ix) 13).cell 0x21 r.ix c.val 0).unitOut (.carrier r c) 0
      else s
    | none => s

/-! Coexistence (R131–R133, R138). -/

/-- COEX_GRANT_RISE. -/
def execCoexGrantRise (r : Region) (t : Nat) (s : State) : Host.Outcome State Fault Refusal :=
  s.act t fun s =>
    if s.coexRole r = 1 then s.radUpd r fun d => { d with coex := { d.coex with gnt := true, since := s.now } } else s

/-- COEX_GRANT_FALL: carriers on air end COEX_ABORT. -/
def execCoexGrantFall (r : Region) (t : Nat) (s : State) : Host.Outcome State Fault Refusal :=
  s.act t fun s =>
    if s.coexRole r = 1 then
      let on := s.carriersOn r
      let s := s.radUpd r fun d => { d with coex := { d.coex with gnt := false, since := s.now } }
      ((on.foldl (fun s c => s.jobEnd r c .coexAbort) s).airEnd r 3).airMoved r
    else s

/-- COEX_WAIT_EXPIRY. -/
def execCoexWaitExpiry (r : Region) (c : Fin 4) (t : Nat) (s : State) : Host.Outcome State Fault Refusal :=
  s.act t fun s => s.onPhase r c.val .starting fun j s =>
    let wait := usTicks (getBits (s.rad r).coex.cfg 12 10 * 10)
    if s.coexRole r = 1 ∧ (s.rad r).coex.gnt = false ∧
        ((s.carrier r c.val).due + wait ≤ s.now ∨ j.deadline ≤ s.now) then (s.jobEnd r c.val .coexDenied).airMoved r
    else s

/-- COEX_REQUEST_RISE: `RFC.COEX` counts as it stands now. [log 130: DEDUCED] -/
def execCoexRequestRise (r : Region) (pri : Bool) (t : Nat) (s : State) : Host.Outcome State Fault Refusal :=
  s.act t fun s =>
    if s.coexRole r = 2 ∧ s.domOn r.frontDom ∧ (s.rad r).coex.req = false then
      (s.radUpd r fun d => { d with coex := { d.coex with req := true, pri := pri, wanted := true,
                                                            cfg := s.rg (Reg.rfcCoex r.ix) } }).coexGrant r
    else s

/-- COEX_REQUEST_FALL. -/
def execCoexRequestFall (r : Region) (t : Nat) (s : State) : Host.Outcome State Fault Refusal :=
  s.act t fun s =>
    if s.coexRole r = 2 then
      (s.radUpd r fun d => { d with coex := { d.coex with req := false, pri := false, gnt := false, wanted := false } }).airMoved r
    else s

/-- COEX_PRI_CHANGE. -/
def execCoexPriChange (r : Region) (pri : Bool) (t : Nat) (s : State) : Host.Outcome State Fault Refusal :=
  s.act t fun s =>
    if s.coexRole r = 2 ∧ s.domOn r.frontDom then
      (s.radUpd r fun d => { d with coex := { d.coex with pri := pri } }).airMoved r
    else s

/-- Whether transmit commands wait in a region (R133). -/
def State.commandsWait (s : State) (r : Region) : Bool := (List.range 4).any (fun c => (s.carrier r c).phase == .held)

/-- COEX_MAX_GRANT_EXPIRY. -/
def execCoexMaxGrantExpiry (r : Region) (t : Nat) (s : State) : Host.Outcome State Fault Refusal :=
  s.act t fun s =>
    let d := (s.rad r).coex
    if s.coexRole r = 2 ∧ d.gnt ∧ d.since + msTicks (getBits d.cfg 22 10) ≤ s.now ∧ s.commandsWait r then
      (s.radUpd r fun d => { d with coex := { d.coex with gnt := false, since := s.now } }).airMoved r
    else s

/-! The window (R113). -/

/-- The words of an entry of a window table: correction record, power entry, or profile header and region record. -/
def State.winEntry (s : State) (r : Region) (table entry : Nat) : List Word :=
  match table with
  | 0 => (List.range 8).map (fun i => BitVec.ofNat 32 (getBits (s.corrRec r entry) (32 * i) 32))
  | 1 => if entry < 64 then (List.range 2).map (fun i => BitVec.ofNat 32 (le (s.sec 6) ((r.ix * 64 + entry) * 8 + 4 * i) 4)) else []
  | 2 =>
    match s.profile with
    | some p =>
      (List.range 404).map (fun i =>
        BitVec.ofNat 32 (if i < 16 then le p (4 * i) 4 else le p (64 + 1552 * r.ix + 4 * (i - 16)) 4))
    | none => []
  | _ => []

/-- Words of an entry of a table. -/
def winWords : Nat → Nat
  | 0 => 8 | 1 => 2 | _ => 4096

/-- INDEX advances after an access. [log 133: DEDUCED] -/
def State.winStep (s : State) (r : Region) : State :=
  s.setRf (Reg.rfcWinSel r.ix) 0 12 (s.rf (Reg.rfcWinSel r.ix) 0 12 + 1)

/-- RFC_WIN_DATA_READ: the first word of an entry latches it. -/
def execRfcWinDataRead (r : Region) (s : State) : Host.Outcome State Fault Refusal :=
  s.go fun s =>
    if s.domOn r.frontDom then
      let table := s.rf (Reg.rfcWinSel r.ix) 30 2
      let ix := s.rf (Reg.rfcWinSel r.ix) 0 12
      let n := winWords table
      let key := table * 4096 + ix / n
      let s := if ix % n = 0 then s.radUpd r fun d => { d with winLatch := some (key, s.winEntry r table (ix / n)) } else s
      let words := match (s.rad r).winLatch with
        | some (k, l) => if k = key then l else s.winEntry r table (ix / n)
        | none => s.winEntry r table (ix / n)
      { s.winStep r with readData := (words.getD (ix % n) 0).zeroExtend 64 }
    else { s with readData := 0 }

/-- RFC_WIN_DATA_WRITE: a correction record in MAINTENANCE; otherwise a locked write (R10). [log 133: DEDUCED] -/
def execRfcWinDataWrite (r : Region) (w : Word) (s : State) : Host.Outcome State Fault Refusal :=
  s.go fun s =>
    let ix := s.rf (Reg.rfcWinSel r.ix) 0 12
    if s.domOn r.frontDom = false then s.unmapped
    else if s.sys.mode = .maintenance ∧ s.rf (Reg.rfcWinSel r.ix) 30 2 = 0 then
      (s.radUpd r fun d =>
        { d with corr := sput 0 d.corr (ix / 8) (setBits (s.corrRec r (ix / 8)) (32 * (ix % 8)) 32 w.toNat) }).winStep r
    else s.lockedErr (Reg.rfcWinData r.ix)

end Sys2Proof.Machine
end

