-- ==== Sys2Proof/Machine/Mac.lean ====
section
/-! DEFINITION. Machine/Mac.lean: the commands of loading maps, medium access and the Porch (chapters 6 and 7), and
downlink requests (R306). -/

namespace Sys2Proof.Machine

/-! The map window (R202). -/

/-- The words of a map as its window shows them: 8 map words, the reference count, the state (0 FREE, 1 IN_USE, 2
REPLACE_PENDING). -/
def State.mapWinWords (s : State) (r : Region) (m : Nat) : List Word :=
  let n := s.mapCount r m
  (mapWords (s.lmap r m).codes ++ [n, if s.mapPending r m then 2 else if n = 0 then 0 else 1]).map (BitVec.ofNat 32)

/-- MAP_WIN_DATA_READ: word 0 latches the map; WORD advances. The latch holds the map's number before its words.
[log 178: DESIGN CHOICE] -/
def execMapWinDataRead (r : Region) (s : State) : Host.Outcome State Fault Refusal :=
  s.go fun s =>
    if s.domOn r.dspDom then
      let m := s.rf (Reg.txpMapWinSel r.ix) 8 8
      let w := s.rf (Reg.txpMapWinSel r.ix) 0 4
      let live := s.mapWinWords r m
      let s := if w = 0 then { s with tx := s.tx.upd r fun t => { t with winLatch := BitVec.ofNat 32 m :: live } } else s
      let words := match (s.tx.get r).winLatch with
        | k :: l => if k.toNat = m then l else live
        | [] => live
      { s.setRf (Reg.txpMapWinSel r.ix) 0 4 (w + 1) with readData := (words.getD w 0).zeroExtend 64 }
    else { s with readData := 0 }

/-! Receptions. -/

/-- The MAC stage's work on one receive job. -/
def State.macFrame (s : State) (r : Region) (q : RxJob) : State :=
  if q.lost then (s.pantryFree q.rxCells q.safetyCells).strobeResume r q.slot q.preStart
  else
  let f := q.report.frame
  let s := s.ieCount r f
  let s :=
    if 2 < f.version ∨ f.kind = .other then s.pantryFree q.rxCells q.safetyCells
    else if f.kind = .ack then s.rxAck r q
    else
      let (s, src) := s.rxSource r f
      match src with
      | none => s.rxUnknown r q
      | some src => s.rxKnown r q src
  s.strobeResume r q.slot q.preStart

/-- MAC_RECEIVE: the oldest receive job the dispatcher has handed the region's MAC stage. -/
def execMacReceive (r : Region) (t : Nat) (s : State) : Host.Outcome State Fault Refusal :=
  s.act t fun s =>
    match s.handedJob 0 r.ix, s.hif.rxJobs.get r with
    | some j, q :: rest =>
      let s := s.jobDone j
      ({ s with hif := { s.hif with rxJobs := s.hif.rxJobs.set r rest } } : State).macFrame r q
    | _, _ => s

/-! Airtime (R210). -/

/-- A region's duty second closes: seconds older than the ring of 3,600 leave it. -/
def State.dutyAge (s : State) (r : Region) : State :=
  { s with mac := s.mac.upd r fun m =>
      { m with sec := m.sec + 1, secAt := some s.now, duty := m.duty.filter (fun kv => decide (m.sec + 1 < kv.1 % 2 ^ 40 + 3600)) } }

/-- The second that closed, of every sub-band, for the mirroring stream (R461). [log 100: DEDUCED] -/
def State.dutyClosed (s : State) : List Bytes :=
  allRegions.flatMap (fun r => (List.range 16).map (fun sb => s.dutyItem (r.ix * 57600 + sb * 3600 + 1)))

/-- DUTY_SECOND_TICK (R210): the first boundary of the stepped timebase at least half a second after the one before (R336).
[log 100: DEDUCED] -/
def execDutySecondTick (t : Nat) (s : State) : Host.Outcome State Fault Refusal :=
  s.act t fun s =>
    if s.boundaryDue 1000000000 (s.mac.get .L).secAt then
      let s := allRegions.foldl (fun s r => s.dutyAge r) s
      if s.twinMode && s.twin.l.link == 3 && s.twin.ownDrive then
        { s with twin := { s.twin with mirror := s.twin.mirror ++ s.dutyClosed } }
      else s
    else s

/-! Downlink requests (R266, R268, R293, R306). -/

/-- A provisioned record's handle, or none. -/
def State.provisioned (s : State) (h : Nat) : Option Nat := if recProv (s.node h) then some h else none

/-- Where an IPv6 destination leads (R266): a node, host software, or nowhere. -/
inductive PfxRes
  | node (h : Nat) (context : Nat)
  | host
  | noNode
  deriving DecidableEq, Repr

/-- The prefix table's answer for a destination address, counted. -/
def State.pfxRoute (s : State) (d : Bytes) : State × PfxRes :=
  let (s, e) := s.prefixLookup d
  let iid := be d 8 8
  match e with
  | none => (s, .host)
  | some e =>
    if peAction e = 4 then (s, .host)
    else
      let (s, h) :=
        match peAction e with
        | 0 => (s, if iid < 2 ^ 18 then some iid else none)
        | 1 =>
          if iid / 65536 = 0x000000FFFE00 then s.resolveIn (shortKey (pePan e) (iid % 65536)) 1 [0, 1, 2] else (s, none)
        | 2 => s.resolveIn (Nat.xor iid (2 ^ 57)) 0 [0, 1, 2]
        | 3 => (s, some (peHandle e))
        | _ => (s, none)
      match h.bind s.provisioned with
      | some h => (s, .node h (peContext e))
      | none => (s.cnt Reg.fwdNoNodeCnt, .noNode)

/-- The cells a frame held where it came from are freed. -/
def State.dlFree (s : State) (f : DlFrame) : State :=
  match f.source with
  | .submission _ => s
  | .ethernet p => s.ingressFree p f.cells

/-- A frame from the backhaul that host software must take (R266, R268): its Ethernet frame goes to `ETH_RING`.
[log 94: DEDUCED] -/
def State.dlToHost (s : State) (f : DlFrame) : State :=
  match f.source with
  | .submission _ => s.completeFrame f 11
  | .ethernet p => s.ethToHost p f.stampRaw f.payload f.cells

/-- The IPv6 packet of a request: an Ethernet frame's content, or a submission's buffer. -/
def DlFrame.packet (f : DlFrame) : Bytes :=
  match f.source with
  | .submission _ => f.payload
  | .ethernet _ => f.payload.drop 14

/-- What resolving a request gives: the frame for a node, or the request is over. [log 94: DEDUCED] -/
def State.dlResolve (s : State) (f : DlFrame) : State × Option DlFrame :=
  if f.op = 1 then
    let (s, x) := s.nodeGet f.handle
    if recProv x then (s, some f) else ((s.dlFree f).completeFrame f 9, none)
  else
    let ip := if f.iphcDone then iphcOpen s.iphcCtx none none f.packet else some f.packet
    match ip with
    | none => (((s.cnt Reg.fwdNoNodeCnt).dlFree f).completeFrame f 10, none)
    | some ip =>
      let (s, res) := s.pfxRoute (slice ip 24 16)
      match res with
      | .host => (s.dlToHost f, none)
      | .noNode => ((s.dlFree f).completeFrame f 10, none)
      | .node h ctx =>
        let z := if f.iphcDone then some f.packet else iphcCompress s.iphcCtx ctx ip
        match z with
        | some z =>
          if z.length ≤ 2047 then (s, some { f with op := 1, handle := h, payload := z })
          else ((s.cnt Reg.fwdFastpathToHostCnt).dlToHost f, none)
        | none => ((s.cnt Reg.fwdFastpathToHostCnt).dlToHost f, none)

/-- The class and the stamping region of a frame, with the slot and relay its cost is reckoned for (R306 steps 1 and 2).
[log 96: DEDUCED] -/
def State.dlPlace (s : State) (f : DlFrame) : State × Option (Region × Nat × Nat × Option (Nat × Nat)) :=
  let (s, x) := s.nodeGet f.handle
  let (s, rt) := s.selectRoute x
  match rt, s.floodRegions with
  | some rt, _ => (s, some (rt.region, f.clsOverride.getD (recClass x), rt.slot, rt.hop))
  | none, r :: _ => (s, some (r, s.floodClass r, s.floodSlot r, none))
  | none, [] => (s, none)

/-- A frame put at the tail of its node's queue (R306 step 5, R307). [log 95: DESIGN CHOICE] -/
def State.dlEnqueue (s : State) (f : DlFrame) (r : Region) (c slot : Nat) (hop : Option (Nat × Nat)) : State :=
  let (s, fin) := s.stamp f.handle r c (s.frameCost f.handle hop r slot f.payload.length c)
  let life := if f.lifetime = 0 then (s.rg (Reg.dlsClassLifetime r.ix c)).toNat else f.lifetime
  let g : DlFrame :=
    { f with cls := c, region := r, finish := fin, enqueued := ticksMs s.now, lifetime := life, pool := r,
             offset := s.poolPick r, units := unitsFor f.payload.length, waiting := false, cells := 0 }
  let empty := (s.queue f.handle).isEmpty
  let s := (s.used.dlFree f).setQueue f.handle (s.queue f.handle ++ [g])
  if empty then s.porchBook f.handle else s

/-- The rest of R306 for a frame whose node is known: the state, and whether the frame waits for pool units. -/
def State.dlStore (s : State) (f : DlFrame) : State × Bool :=
  let (s, p) := s.dlPlace f
  match p with
  | none => ((s.noRoute.dlFree f).completeFrame f 3, false)
  | some (r, c, slot, via) =>
    if s.clsF r c 0x18 2 ≤ (s.queue f.handle).length then
      (((s.cnt (Reg.dlsQueueFullCnt r.ix)).dlFree f).completeFrame f 6, false)
    else if s.poolRoom r (unitsFor f.payload.length) then (s.dlEnqueue f r c slot via, false)
    else
      ((if f.waiting then s else (s.cnt Reg.dlsPoolWaitCnt).stk Reg.dlsTrouble (4 + r.ix)), true)

/-- Submission staging replaced. [log 96: DEDUCED] -/
def State.setStaging (s : State) (l : List DlFrame) : State := { s with hif := { s.hif with staging := l } }

/-- A frame of staging at position `i` is dealt with: it leaves, or waits there, and descriptor reading stops. -/
def State.dlServe (s : State) (i : Nat) (f : DlFrame) : State :=
  let s := s.setStaging (s.hif.staging.eraseIdx i)
  let back (s : State) (f : DlFrame) : State :=
    let s := s.setStaging (s.hif.staging.take i ++ [{ f with waiting := true }] ++ s.hif.staging.drop i)
    match f.source with
    | .submission _ => { s with hif := { s.hif with stalled := true } }
    | .ethernet _ => s
  let (s, g) := if f.waiting then (s, some f) else s.dlResolve f
  match g with
  | none => s
  | some g =>
    let (s, waits) := s.dlStore g
    if waits then back s g else s

/-- The first frame of staging that does or does not wait, with its position. -/
def State.stagingFind (s : State) (waiting : Bool) : Option (DlFrame × Nat) :=
  s.hif.staging.zipIdx.find? (fun fi => fi.1.waiting == waiting)

/-- DOWNLINK_REQUEST: the oldest request the dispatcher has handed over. [log 122: DEDUCED] -/
def execDownlinkRequest (t : Nat) (s : State) : Host.Outcome State Fault Refusal :=
  s.act t fun s =>
    match s.handedJob 3 0, s.stagingFind false with
    | some j, some (f, i) => (s.jobDone j).dlServe i f
    | some j, none => s.jobDone j
    | none, _ => s

/-- POOL_WAIT_RESUME: the first frame that waits for pool units is tried again; descriptor reading resumes when none waits. -/
def execPoolWaitResume (t : Nat) (s : State) : Host.Outcome State Fault Refusal :=
  s.act t fun s =>
    match s.stagingFind true with
    | some (f, i) =>
      let s := s.dlServe i f
      if s.hif.staging.any (fun f => f.waiting && (match f.source with | .submission _ => true | .ethernet _ => false)) then s
      else { s with hif := { s.hif with stalled := false } }
    | none => s

/-! The Porch (R221, R223, R263). -/

/-- CALENDAR_FULL_RETRY (R221): the node that has waited longest is booked once there is room. -/
def execCalendarFullRetry (t : Nat) (s : State) : Host.Outcome State Fault Refusal :=
  s.act t fun s =>
    match s.porch.waiting with
    | h :: _ => s.porchBook h
    | [] => s

/-- The mesh header of a booking by a relay, and its payload (R261). -/
def State.bookPayload (s : State) (b : Booking) (f : DlFrame) : Bytes :=
  if b.via.isSome then s.meshHeader b.key b.keyType ++ f.payload else f.payload

/-- A job that completes LATE before it reached a carrier (R207, R402). [log 144: DEDUCED] -/
def State.bookLate (s : State) (h : Nat) (b : Booking) : State :=
  ((s.cnt (Reg.rfcTxLateCnt b.region.ix)).guaranteeBroken (4 * h) b).windowLate h b.region

/-- The regions a flood sends a copy in: flooding, in service, FLOOD_SLOT enabled and not barred. -/
def State.floodTargets (s : State) : List Region := s.floodRegions.filter (fun r => s.slotUsable r (s.floodSlot r))

/-- One copy of a flooded frame becomes a candidate of its region (R263, R311). [log 97: DEDUCED] -/
def State.floodCopy (s : State) (h : Nat) (b : Booking) (f : DlFrame) (mac : Bytes) (seq : Byte) (r : Region) : State :=
  let slot := s.floodSlot r
  let c := s.floodClass r
  let (s, fin) := s.stampFlood r (s.frameCost h none r slot f.payload.length c)
  s.setBooking (4 * h + 1 + r.ix) (some
    { b with region := r, slot := slot, via := none, mac := mac, seq := seq, cls := c, finish := fin, released := true,
             airtime := s.baseAirtime h none r slot f.payload.length b.ext, ackCtrl := s.rg (Reg.macAckCtrl r.ix) })

/-- A flood released: one copy in each of its regions; without one the frame goes back. [log 97: DEDUCED] -/
def State.floodRelease (s : State) (h : Nat) (b : Booking) (f : DlFrame) (mac : Bytes) (seq : Byte) : State :=
  let s := s.cnt Reg.fwdFloodCnt
  match s.floodTargets with
  | [] => s.frameReturn h
  | rs =>
    let s := s.setBooking (4 * h) (some { b with mac := mac, seq := seq, released := true })
    let s := rs.foldl (fun s r => s.floodCopy h b f mac seq r) s
    let s : State := { s with porch := { s.porch with floodOut := sput (0, false) s.porch.floodOut h (rs.length, false) } }
    rs.foldl (fun s r => s.assign r) s

/-- A booking at its release: its start instant and deadline go to the timebase (R337), and its transmission takes `MAC.ACK_CTRL` of
its region as it stands (R241). -/
def State.bookTimed (s : State) (b : Booking) : Booking :=
  { b with start := b.start + s.tsu.accum, deadline := b.deadline.map (· + s.tsu.accum),
           ackCtrl := s.rg (Reg.macAckCtrl b.region.ix) }

/-- The release of a node's booking: its frame is formed (R261, R402, R404), and it joins the ready set. -/
def State.bookRelease (s : State) (h : Nat) (b : Booking) (f : DlFrame) : State :=
  let b := s.bookTimed b
  let (s, m) := s.formData (b.via.getD h) f.seq (s.bookPayload b f) (! b.flood) (decide (1 < (s.queue h).length))
  match m with
  | none => s.bookLate h b
  | some (mac, seq) =>
    let s := s.setHead h (fun f => { f with seq := some seq })
    if b.flood then s.floodRelease h b f mac seq
    else (s.setBooking (4 * h) (some { b with mac := mac, seq := seq, released := true })).assign b.region

/-- BOOKING_RELEASE. -/
def execBookingRelease (handle : Fin 262144) (t : Nat) (s : State) : Host.Outcome State Fault Refusal :=
  s.act t fun s =>
    match s.booking (4 * handle.val), s.queue handle with
    | some b, f :: _ =>
      if b.released = false ∧ b.release ≤ s.fixNow ∧ s.txMode ∧ s.timeSet then s.bookRelease handle b f else s
    | _, _ => s

/-- The carrier that has a booking's job before its t0. -/
def State.bookCarrier (s : State) (k : Nat) (b : Booking) : Option Nat :=
  (List.range 4).find? (fun c =>
    let x := s.carrier b.region c
    match x.job with
    | some j => x.phase.beforeAir && j.handle == some (k / 4) && (j.kind == (if k % 4 = 0 then .downlink else .flood)) &&
        decide (j.sentCopies = 0)
    | none => false)

/-- A booking of key `k` whose deadline has come while it is not on air completes LATE (R223). [log 98: DEDUCED] -/
def State.bookDeadline (s : State) (k : Nat) : State :=
  match s.booking k with
  | none => s
  | some b =>
    match b.deadline with
    | none => s
    | some d =>
      if (if b.released then (s.tbNs : Int) else s.fixNow) < d ∨ (b.flood ∧ k % 4 = 0 ∧ b.released) then s
      else if b.assigned then
        match s.bookCarrier k b with
        | some c => s.jobEnd b.region c .late
        | none => s
      else if k % 4 = 0 then s.bookLate (k / 4) b
      else
        (((s.cnt (Reg.rfcTxLateCnt b.region.ix)).guaranteeBroken k b).setBooking k none).floodDone (k / 4) false

/-- BOOKING_DEADLINE: of a node's booking, or of the copies of its flood. -/
def execBookingDeadline (handle : Fin 262144) (t : Nat) (s : State) : Host.Outcome State Fault Refusal :=
  s.act t fun s => (List.range 4).foldl (fun s i => s.bookDeadline (4 * handle.val + i)) s

/-! The waits for acknowledgements (R226, R235). -/

/-- ACK_WINDOW_EXPIRY: NO_ACK, unless a reception that began in the interval is still in hand. -/
def execAckWindowExpiry (r : Region) (c : Fin 4) (t : Nat) (s : State) : Host.Outcome State Fault Refusal :=
  s.act t fun s => s.onPhase r c.val .ackWait fun j s =>
    if s.hearing r j.slot (s.carrier r c) then s else (s.jobEnd r c .noAck).airMoved r

/-- STROBE_GAP_EXPIRY: the next copy goes out under R207, or the train ends; a train whose withheld copy no reception keeps
back goes on. -/
def execStrobeGapExpiry (r : Region) (c : Fin 4) (t : Nat) (s : State) : Host.Outcome State Fault Refusal :=
  s.act t fun s =>
    let x := s.carrier r c
    match x.job with
    | some j =>
      if x.phase = .gap ∧ x.due ≤ s.now then
        if j.copies = 0 then (s.jobEnd r c j.trainEnd).airMoved r else s.lbtBegin r c
      else if x.phase = .withheld ∧ s.hearing r j.slot x = false then (s.strobeSkip r c j).airMoved r
      else s
    | none => s

/-! Beacons (R236). -/

/-- The lowest mode of a slot. [log 54: DESIGN CHOICE] -/
def State.slotMode (s : State) (r : Region) (slot : Nat) : Nat := ((List.range 8).find? (bit (s.slotMask r slot))).getD 0
/-- The MCS of a beacon in a mode. -/
def beaconMcs : Nat → Nat
  | 2 => 1 | 3 => 2 | _ => 0
/-- Whether a slot may carry a beacon. -/
def State.beaconOk (s : State) (r : Region) (i : Nat) : Bool :=
  s.slotUsable r i && decide (s.slotMask r i ≠ 0) && s.rb (Reg.macBeaconMask r.ix (i / 32)) (i % 32) &&
    s.profAllows r i (s.slotMode r i) 0
/-- The next slot that may carry a beacon. [log 99: DEDUCED] -/
def State.beaconNext (s : State) (r : Region) : Option Nat :=
  let n := s.slotCount r
  ((List.range n).map (fun i => ((s.mac.get r).beaconSlot + i) % n)).find? (fun i => s.beaconOk r i)

/-- The job of a beacon on a slot. [log 28: DESIGN CHOICE] -/
def State.beaconJob (s : State) (r : Region) (slot : Nat) : TxJob :=
  let mode := s.slotMode r slot
  let seq : Byte := s.free.truncate 8
  let frame := s.beaconFrame seq s.tbRaw
  { kind := .beacon, slot := slot, handle := none, pre := .short, ext := 0, mode := mode, map := 0, rate := beaconMcs mode,
    frame := frame, seq := seq, airtime := s.airtime r mode 0 (beaconMcs mode) (frame.length + fcsLen mode) 0, needCca := true,
    wantAck := false, safety := false, powerReq := (Config.powerReq s.freeCtr).toNat, power := 0, offset := 0, symScale := 0,
    start := s.now, deadline := s.now + msTicks (s.beaconMs r) / 2, copies := 1, sentCopies := 0, opened := false,
    ackCtrl := s.rg (Reg.macAckCtrl r.ix), gapUs := 0, charged := 0, expected := 0,
    ackTo := 0, cls := 0, answers := none, air := TxAir.reset }

/-- Whether the present tick is the first at which the timebase reaches a multiple of the beacon period, and no beacon has come at it
(R236, R336). -/
def State.beaconDue (s : State) (r : Region) : Bool :=
  let p := s.beaconMs r * 1000000 * 2 ^ 32
  p != 0 && s.txMode && (s.rad r).inService && decide (s.tbRaw % p < s.tsu.incr) && (s.mac.get r).lastBeacon != some s.now

/-- BEACON_INSTANT: the beacon takes a free carrier, or waits for one until its deadline (R207, R236). A beacon that still waits
from the instant before is skipped. [log 99: DEDUCED] -/
def execBeaconInstant (r : Region) (t : Nat) (s : State) : Host.Outcome State Fault Refusal :=
  s.act t fun s =>
    if s.beaconDue r then
      let s := match (s.mac.get r).beacon with
        | some j => ({ s with mac := s.mac.upd r fun m => { m with beacon := none } } : State).countOutcome r j .late
        | none => s
      let s : State := { s with mac := s.mac.upd r fun m => { m with lastBeacon := some s.now } }
      match s.beaconNext r with
      | none => s
      | some slot =>
        let j := s.beaconJob r slot
        let s : State := { s with mac := s.mac.upd r fun m =>
          { m with beaconSlot := (slot + 1) % s.slotCount r, beacon := some j } }
        s.used.beaconServe r
    else s

end Sys2Proof.Machine
end

