-- ==== Sys2Proof/Machine/EthOps.lean ====
section
/-! DEFINITION. Machine/EthOps.lean: departing Ethernet frames and their one-step PTP fields (R339, R341–R343), arriving
frames (R290, R291, R300), and the descriptors of a submission ring (R293). -/

namespace Sys2Proof.Machine

/-! One-step PTP. -/

/-- Where a PTP event message lies in a frame: its header, and the UDP checksum with whether IPv6 carries it (R341).
[log 120: DEDUCED] -/
structure PtpAt where
  ptp : Nat
  sum : Option (Nat × Bool)
  deriving DecidableEq, Repr

/-- The form of R341 a frame matches, whose transport is enabled. -/
def State.ptpForm (s : State) (f : Bytes) : Option PtpAt :=
  let o := if be f 12 2 = 0x8100 then 16 else 12
  let b := o + 2
  match be f o 2 with
  | 0x88F7 => if s.rb Reg.tsuPtpCtrl 0 then some ⟨b, none⟩ else none
  | 0x0800 =>
    if s.rb Reg.tsuPtpCtrl 1 ∧ byteAt f b = 0x45 ∧ byteAt f (b + 9) = 17 ∧ be f (b + 6) 2 % 0x4000 = 0 ∧
        be f (b + 22) 2 = 319 then some ⟨b + 28, some (b + 26, false)⟩ else none
  | 0x86DD =>
    if s.rb Reg.tsuPtpCtrl 2 ∧ byteAt f b / 16 = 6 ∧ byteAt f (b + 6) = 17 ∧ be f (b + 42) 2 = 319 then
      some ⟨b + 48, some (b + 46, true)⟩ else none
  | _ => none

/-- Whether a departing frame is a PTP event message, and where its header lies (R341). -/
def State.ptpEvent (s : State) (f : Bytes) : Option PtpAt :=
  if s.rb Reg.tsuPtpCtrl 31 then
    (s.ptpForm f).filter (fun a =>
      decide (a.ptp + 44 ≤ f.length) && decide (byteAt f (a.ptp + 1) % 16 = 2) && decide (byteAt f a.ptp % 16 ≤ 3) &&
        ! bit (byteAt f (a.ptp + 6)) 1)
  else none

/-- A correctionField advanced; one that would overflow is written as its greatest value (R342). [log 120: DEDUCED] -/
def ptpCorr (old : Nat) (add : Nat) : Nat :=
  let x := sgn 64 old + add
  if (2 : Int) ^ 63 ≤ x then 2 ^ 63 - 1 else unsgn 64 x

/-- A sum of 16-bit words with its carries folded in. -/
def foldCarry (n : Nat) : Nat :=
  let a := n % 65536 + n / 65536
  let b := a % 65536 + a / 65536
  b % 65536 + b / 65536

/-- An incremental checksum update over changed bytes, an even number of them (RFC 1624, R343). -/
def sumUpdate (sum : Nat) (old new : Bytes) : Nat :=
  let words (b : Bytes) : List Nat := (List.range (b.length / 2)).map (fun i => be b (2 * i) 2)
  65535 - foldCarry ((65535 - sum) + ((words old).map (65535 - ·)).sum + (words new).sum)

/-- A frame with its correctionField and timestamp written, and the UDP checksum adjusted (R343). -/
def ptpWrite (f : Bytes) (a : PtpAt) (corr : Nat) (stamp : Bytes) : Bytes :=
  let g := splice (splice f (a.ptp + 8) (toBE 8 corr)) (a.ptp + 34) stamp
  match a.sum with
  | none => g
  | some (o, v6) =>
    let old := be f o 2
    if ! v6 && old = 0 then g
    else
      let v := sumUpdate old (slice f (a.ptp + 8) 8 ++ slice f (a.ptp + 34) 10) (toBE 8 corr ++ stamp)
      splice g o (toBE 2 (if v6 && v = 0 then 0xFFFF else v))

/-- What one-step insertion does to a departing frame at time `raw`: the frame that leaves, unaltered where R342 says so. -/
def State.ptpInsert (s : State) (p raw : Nat) (f : Bytes) : State × Bytes :=
  match s.ptpEvent f with
  | none => (s, f)
  | some a =>
    let old := be f (a.ptp + 8) 8
    if byteAt f a.ptp % 16 = 3 then
      let t2 := (be f (a.ptp + 34) 6 * 1000000000 + be f (a.ptp + 40) 4) * 2 ^ 32
      if raw < t2 ∨ 1000000000 * 2 ^ 32 < raw - t2 then ((s.cnt (Reg.tsuPtpBadCnt p)).event 0x0E8, f)
      else (s.cnt (Reg.tsuPtpOnestepCnt p), ptpWrite f a (ptpCorr old ((raw - t2) / 2 ^ 16)) (zeros 10))
    else
      (s.cnt (Reg.tsuPtpOnestepCnt p),
        ptpWrite f a (ptpCorr old (raw % 2 ^ 32 / 2 ^ 16)) (toBE 6 (tsSec raw) ++ toBE 4 (tsNs raw)))

/-- The timebase with a constant in 1/16 ns added (R339). -/
def State.ethStamp (s : State) (corr : Int) : Nat := ((s.tbRaw : Int) + corr * 2 ^ 28).toNat
/-- The timestamp of a frame whose delimiter arrives now. -/
def State.ethRxStamp (s : State) (p : Nat) : Nat := s.ethStamp (- sgn 24 (s.rf (Reg.tsuEthRxCorr p) 0 24))
/-- The timestamp of a frame whose delimiter departs now. -/
def State.ethTxStamp (s : State) (p : Nat) : Nat := s.ethStamp (sgn 24 (s.rf (Reg.tsuEthTxCorr p) 0 24))

/-! Departure. -/

/-- Ticks of a number of pause quanta of 512 bit times, 51.2 ns each. -/
def quantaTicks (n : Nat) : Nat := ceilDiv (n * 4194304) 100000

/-- Whether a frame may leave a port now: no PAUSE in force, nor PFC for its priority (R300). [log 119: DEDUCED] -/
def State.mayDepart (s : State) (p : Nat) (x : EthOut) : Bool :=
  let q := s.port p
  let ended (u : Option Nat) : Bool := match u with | some t => decide (t ≤ s.now) | none => true
  ended q.pausedUntil && (match x.prio with | some n => ended (sget none q.pfcUntil n) | none => true)

/-- A frame committed to the PCS: time-stamped, its PTP fields written, its completion given (R342, R344). -/
def State.ethDepart (s : State) (p : Nat) (x : EthOut) : State :=
  let raw := s.ethTxStamp p
  let (s, f) := s.ptpInsert p raw x.frame
  let s := s.out (.ethFrame p f)
  match x.compl with
  | some (cookie, ring, complete) => if complete then s.completion ring 1 raw 0 cookie 1 else s
  | none => s

/-! Arrival. -/

/-- Whether a frame is addressed to a port: its own address or a group address. -/
def ethForPort (p : Nat) (f : Bytes) : Bool := f.take 6 == Config.portMac p || bit (byteAt f 0) 0

/-- A downlink frame of an IPv6 packet from the backhaul: the whole Ethernet frame stays with it for host software. -/
def ethDlFrame (p raw : Nat) (f : Bytes) (cells : Nat) : DlFrame :=
  { source := .ethernet p, op := 2, handle := 0, payload := f, clsOverride := none, cls := 0, region := .L, finish := 0,
    enqueued := 0, lifetime := 0, attempts := 0, tries := 0, retries := 0, cookie := 0, complRing := 0, complete := false,
    iphcDone := false, stampRaw := raw, cells := cells, pool := .L, offset := 0, units := 0, seq := none, sentRaw := 0,
    sentSource := 0, waiting := false }

/-- A request enters submission staging, and its downlink-request job is asked for (R276). -/
def State.stage (s : State) (f : DlFrame) : State :=
  let s := s.setStaging (s.hif.staging ++ [f])
  s.jobRequest (s.newJob 3 1 0)

/-- A good frame at a port (R291, R300): to the fast path, to `ETH_RING`, or dropped where the ingress pool is full.
[log 118: DEDUCED] -/
def State.ethReceive (s : State) (p : Nat) (f : Bytes) : State :=
  let q := s.port p
  let cells := cellsFor f.length
  let kind := be f 12 2
  if 2048 < f.length then s.cnt (Reg.hifEthRxDropCnt p)
  else if ethForPort p f = false ∨ kind = 0x8808 ∨ kind = 0x88B5 then s
  else if 256 < q.ingress + cells then s.cnt (Reg.hifEthRxDropCnt p)
  else
    let raw := s.ethRxStamp p
    let s := (s.setPort p { q with ingress := q.ingress + cells }).pauseCheck p
    if kind = 0x86DD ∧ s.fastpath p then s.stage (ethDlFrame p raw f cells) else s.ethToHost p raw f cells

/-! Submission descriptors. -/

/-- A submission descriptor (R293). -/
structure Desc where
  length : Nat
  op : Nat
  flags : Nat
  handle : Nat
  cls : Nat
  complRing : Nat
  lifetime : Nat
  cookie : BitVec 64
  reservedOk : Bool
  deriving DecidableEq, Repr

/-- A descriptor read from host memory. -/
def descOf (b : Bytes) : Desc :=
  { length := le b 8 2, op := byteAt b 0x0A, flags := byteAt b 0x0B, handle := le b 0x0C 4, cls := le b 0x10 2,
    complRing := byteAt b 0x12, lifetime := le b 0x14 4, cookie := bvOf 64 (slice b 0x18 8),
    reservedOk := decide (byteAt b 0x13 = 0) && decide (le b 0x20 32 = 0) }

/-- Whether a descriptor keeps R293, apart from its completion ring. -/
def Desc.ok (d : Desc) : Bool :=
  d.reservedOk && decide (d.op ≤ 3) && decide (d.flags < 8) && decide (bits d.cls 10 5 = 0) &&
    (if d.op = 1 then decide (d.handle < 2 ^ 18) else d.handle == 0) &&
    (match d.op with
     | 0 => true
     | 3 => decide (14 ≤ d.length) && decide (d.length ≤ 2048)
     | _ => decide (1 ≤ d.length) && decide (d.length ≤ 2047))

/-- Whether a completion ring named by a descriptor can be used. -/
def State.complOk (s : State) (d : Desc) : Bool := decide (d.complRing < 32) && s.ringConf d.complRing

/-- Cells of submission staging in use, of 256 (R281). -/
def State.stagingCells (s : State) : Nat :=
  (s.hif.staging.map (fun f => match f.source with
    | .submission _ => ceilDiv f.payload.length 256
    | .ethernet _ => 0)).sum

/-- HEAD of a submission ring passes a descriptor (R293, R296). -/
def State.descPassed (s : State) (k : Nat) : State :=
  let r := s.ring k
  ((s.setRing k { r with head := (r.head + 1) % s.ringSize k }).cnt (ringBase k + 0x20)).ringCount k

/-- The frame of a descriptor for a node. -/
def descFrame (i : Nat) (d : Desc) (b : Bytes) : DlFrame :=
  { ethDlFrame 0 0 [] 0 with
      source := .submission i, op := d.op, handle := d.handle % 2 ^ 18, payload := b,
      clsOverride := if bit d.cls 15 then some (d.cls % 1024) else none, lifetime := d.lifetime, cookie := d.cookie,
      complRing := d.complRing, complete := bit d.flags 0, iphcDone := bit d.flags 1 && d.op == 2 }

/-- A descriptor that keeps R293, with its buffer (none: the read failed): HEAD passes it once the frame has its cells. The STATUS of a
NOP that completes is free. [log 116: DESIGN CHOICE] -/
def State.descTake (s : State) (i : Nat) (d : Desc) (buf : Option Bytes) : State :=
  let k := 32 + i
  if d.op = 0 then
    (if bit d.flags 0 then s.used.completion d.complRing (s.free.toNat % 256) 0 0 d.cookie 0 else s).descPassed k
  else
    match buf with
    | none => (s.completion d.complRing 12 0 0 d.cookie 0).ringStop k
    | some b =>
      let b := fit b d.length
      let n := ceilDiv d.length 256
      if d.op = 3 then
        let p := (bit d.flags 2).toNat
        let x : EthOut := { frame := b, prio := none, compl := some (d.cookie, d.complRing, bit d.flags 0) }
        if (s.port p).egressRoom x then (s.ethSend p x).descPassed k else s
      else if 256 < s.stagingCells + n then { s with hif := { s.hif with stalled := true } }
      else (s.stage (descFrame i d b)).descPassed k

/-- The descriptor at HEAD of a submission ring (R293). -/
def State.descRead (s : State) (i : Nat) (desc buf : Option Bytes) : State :=
  let k := 32 + i
  match desc with
  | none => s.ringStop k
  | some b =>
    let d := descOf b
    if ! s.complOk d then (s.cnt (ringBase k + 0x24)).descPassed k
    else if ! d.ok then (s.completion d.complRing 8 0 0 d.cookie 0).descPassed k
    else s.descTake i d buf

/-! Ring resets. -/

/-- The records a ring holds are discarded, each RX_FRAME counted, their cells freed (R295). -/
def State.heldDiscard (s : State) (k : Nat) : State :=
  let held := (s.ring k).held
  held.foldl (fun s x => (if x.kind = 0 then s.cnt (ringBase k + 0x24) else s).recFree x)
    (s.setRing k { s.ring k with held := [] })

/-- Whether a frame came from a submission ring. [log 117: DEDUCED] -/
def DlFrame.fromRing (f : DlFrame) (i : Nat) : Bool := f.source == .submission i

/-- What a submission ring gave and is not yet done with completes DISCARDED, each queue as a whole (R289, R320).
[log 117: DEDUCED] -/
def State.submissionsDiscard (s : State) (i : Nat) : State :=
  let gone := s.hif.staging.filter (fun f => f.fromRing i)
  let s := s.setStaging (s.hif.staging.filter (fun f => ! f.fromRing i))
  let s := gone.foldl (fun s f => s.completeFrame f 7) s
  ((s.dls.queues.filter (fun kv => kv.2.any (fun f => f.fromRing i))).map (·.1)).foldl (fun s h => s.queueDiscard h) s

/-- RESET of a ring (R295, R289). -/
def State.ringResetNow (s : State) (k : Nat) : State :=
  let s := s.heldDiscard k
  let s := s.setRing k { s.ring k with head := 0, tail := 0, stopped := false }
  if 32 ≤ k ∧ k < 64 then s.submissionsDiscard (k - 32) else if 64 ≤ k then s.mailTrim (k - 64) else s

end Sys2Proof.Machine
end

