-- ==== Sys2Proof/Machine/Host.lean ====
section
/-! DEFINITION. Machine/Host.lean: the commands of jobs, host rings and the Ethernet ports (chapter 9). -/

namespace Sys2Proof.Machine

/-! Jobs. -/

/-- The learning jobs the table engines have been handed: each learns, and is done (R257, R262). [log 212: DESIGN CHOICE] -/
def State.learnsRun (s : State) : State :=
  (s.jobs.handed.filter (fun x => x.kind == 2)).foldl (fun s x =>
    let q := s.jobs.learns.find? (fun l => l.no == x.arg)
    let s : State := { s with jobs := { s.jobs with learns := s.jobs.learns.filter (fun l => l.no != x.arg) } }
    let s := match q with
      | some l => if s.domOn 9 then s.learn l.region l.key l.type l.handle l.route l.metric else s
      | none => s
    s.jobDone x) s

/-- JOB_DISPATCH: one visit to the next group that holds jobs, with the types whose engines accept (R277). A table engine learns as it
takes its job. -/
def execJobDispatch (accepts : List (Fin 7)) (s : State) : Host.Outcome State Fault Refusal :=
  s.go fun s =>
    if s.domOn 10 then
      let s := match s.nextGroup with
        | some g =>
          let s : State := { s with jobs := { s.jobs with next := (g + 1) % 16 } }
          (s.groupVisit g (s.acceptable accepts)).learnsRun
        | none => s
      (List.range 4).foldl (fun s i => s.mailTrim i) s
    else s

/-- CRYPTO_JOB: the job for a frame is requested of the dispatcher at the cost of its octets (R276, R415).
[log 123: DEDUCED] -/
def execCryptoJob (octets : Nat) (s : State) : Host.Outcome State Fault Refusal :=
  s.go fun s =>
    if s.domOn 10 ∧ s.domOn 11 then s.jobRequest (s.newJob 1 (max 1 (ceilDiv octets 256)) 0) else s

/-! Rings. -/

/-- A write to a register of a ring's block, or an event of a ring: nothing is there while domain 10 is off, nor beyond
command ring 3 (R14, R301). -/
def State.onRing (s : State) (k : RingKind) (i : Nat) (f : State → Nat → State) : State :=
  if s.domOn 10 ∧ (k = .command → i < 4) then f s (ringNo k i) else s.unmapped

/-- TAIL of a ring written by host software (R293, R302): each descriptor that a command ring gains asks for a management job (R276).
[log 180: DEDUCED] -/
def State.tailWrite (s : State) (k tail : Nat) : State :=
  let n := s.ringSize k
  let more := if 64 ≤ k then (tail % n + n - (s.ring k).tail % n) % n else 0
  (List.range more).foldl (fun s _ => s.jobRequest (s.newJob 6 1 (k - 64))) (s.setRing k { s.ring k with tail := tail })

/-- SUBMISSION_DOORBELL. -/
def execSubmissionDoorbell (ring : Fin 32) (tail : BitVec 16) (s : State) : Host.Outcome State Fault Refusal :=
  s.go fun s => s.onRing .submission ring fun s k => s.tailWrite k tail.toNat

/-- COMMAND_DOORBELL. -/
def execCommandDoorbell (ring : Fin 4) (tail : BitVec 16) (s : State) : Host.Outcome State Fault Refusal :=
  s.go fun s => s.onRing .command ring fun s k => s.tailWrite k tail.toNat

/-- SUBMISSION_DESCRIPTOR: read while the ring runs, holds a descriptor, and descriptor reading is not stopped.
[log 116: DESIGN CHOICE] -/
def execSubmissionDescriptor (ring : Fin 32) (desc : Option Bytes) (buf : Option Bytes) (t : Nat) (s : State) :
    Host.Outcome State Fault Refusal :=
  s.act t fun s =>
    let k := 32 + ring.val
    if s.ringRuns k ∧ s.canDma ∧ s.domOn 16 ∧ s.ringPending k ∧ s.hif.stalled = false then
      s.descRead ring desc buf
    else s

/-- STAGING_RESUME. [log 122: DEDUCED] -/
def execStagingResume (t : Nat) (s : State) : Host.Outcome State Fault Refusal :=
  s.act t fun s =>
    if s.stagingCells < 256 ∧ s.hif.staging.all (fun f => ! f.waiting || (match f.source with
        | .submission _ => false
        | .ethernet _ => true)) then { s with hif := { s.hif with stalled := false } }
    else s

/-- ECHO_MESSAGE: the response is the request. -/
def execEchoMessage (m : Msg) (s : State) : Host.Outcome State Fault Refusal :=
  s.go fun s => s.mail m 0x20 (fun _ => true) m.desc.reqLen fun b s => (s, 0, b)

/-- A HEAD write of a delivery ring: one outside the entries from HEAD to TAIL is discarded (R286). -/
def State.headWrite (s : State) (k head : Nat) : State :=
  let n := s.ringSize k
  let r := s.ring k
  if head < n ∧ (head + n - r.head) % n ≤ (r.tail + n - r.head) % n then
    (s.setRing k { r with head := head }).ringKick k
  else s.stk (ringBase k + 0x14) 29

/-- DELIVERY_HEAD_WRITE. -/
def execDeliveryHeadWrite (ring : Fin 32) (head : BitVec 16) (t : Nat) (s : State) : Host.Outcome State Fault Refusal :=
  s.act t fun s => s.onRing .delivery ring fun s k => s.headWrite k head.toNat

/-- RING_ENABLE: records held are written as soon as the ring runs. -/
def execRingEnable (k : RingKind) (i : Fin 32) (t : Nat) (s : State) : Host.Outcome State Fault Refusal :=
  s.act t fun s => s.onRing k i fun s n => (s.stk (ringBase n + 0x10) 31).ringKick n

/-- RING_DISABLE: what follows is held. -/
def execRingDisable (k : RingKind) (i : Fin 32) (s : State) : Host.Outcome State Fault Refusal :=
  s.go fun s => s.onRing k i fun s n => s.clrb (ringBase n + 0x10) 31

/-- RING_RESET: complete within the step, so RESET reads 0. -/
def execRingReset (k : RingKind) (i : Fin 32) (s : State) : Host.Outcome State Fault Refusal :=
  s.go fun s => s.onRing k i fun s n => s.ringResetNow n

/-- RING_IRQ_MASK: an interrupt that was withheld is sent when the mask is cleared (R296). -/
def execRingIrqMask (k : RingKind) (i : Fin 32) (mask : Bool) (s : State) : Host.Outcome State Fault Refusal :=
  s.go fun s => s.onRing k i fun s n => (s.setb (ringBase n + 0x10) 30 mask).ringSend n

/-- RING_DMA_ERROR: a running ring stops (R295). [log 121: DEDUCED] -/
def execRingDmaError (k : RingKind) (i : Fin 32) (t : Nat) (s : State) : Host.Outcome State Fault Refusal :=
  s.act t fun s => if s.ringRuns (ringNo k i) ∧ s.canDma then s.ringStop (ringNo k i) else s

/-- MOD_TIMER_EXPIRY (R296). -/
def execModTimerExpiry (k : RingKind) (i : Fin 32) (t : Nat) (s : State) : Host.Outcome State Fault Refusal :=
  s.act t fun s =>
    let n := ringNo k i
    match (s.ring n).timer with
    | some t0 => if t0 + usTicks (s.modTimer n) ≤ s.now then s.ringDue n else s
    | none => s

/-! PCIe. -/

/-- HOST_SLEEP_WRITE: SLEEP stored, WAKE_SENT_STK cleared by 1 (R297, R301). -/
def execHostSleepWrite (w : Word) (s : State) : Host.Outcome State Fault Refusal :=
  s.go fun s =>
    if s.domOn 10 then (s.setb Reg.hifHostSleep 31 (w.getLsbD 31)).w1c Reg.hifHostSleep 2 w
    else s.unmapped

/-- A wake for every ring whose interrupt was due when the function entered D3. -/
def State.wakesDue (s : State) : State := (List.range 32).foldl (fun s k => s.hostWake k) s

/-- PCIE_POWER_STATE_CHANGE: in D3cold the link is in L2 and comes back only by training; what was due follows D0. An interrupt that
was due as the function enters D3, or as PME_En lets a wake go, wakes the host (R297). -/
def execPciePowerStateChange (p : PciePower) (l1 : Bool) (pmeEn : PmeCtl) (t : Nat) (s : State) :
    Host.Outcome State Fault Refusal :=
  s.act t fun s =>
    if s.domOn 10 ∧ s.domOn 15 then
      let was := (s.hif.power, s.hif.pmeEn)
      let s : State := { s with hif := { s.hif with power := p, l1 := l1 && p != .d3cold, pmeEn := pmeEn.enable,
                                                    pmeStatus := s.hif.pmeStatus && ! pmeEn.clear,
                                                    linkUp := s.hif.linkUp && p != .d3cold } }
      if p = .d0 then s.msixRelease.ringsKick.irqSend
      else if was.1 = p ∧ (was.2 ∨ ¬ pmeEn.enable) then s
      else s.wakesDue
    else s

/-- MSIX_ENABLE_CHANGE: what is due, or pending for a vector that is masked no longer, is sent (R296, R366). -/
def execMsixEnableChange (msix : MsixCtl) (busMaster : Bool) (t : Nat) (s : State) : Host.Outcome State Fault Refusal :=
  s.act t fun s =>
    if s.domOn 10 ∧ s.domOn 15 then
      ({ s with hif := { s.hif with msix := msix.enable, msixMask := msix.mask, busMaster := busMaster } } :
        State).msixRelease.ringsKick.irqSend
    else s

/-! Ethernet ports (domain 14). -/

/-- ETH_FRAME_RECEIVE. -/
def execEthFrameReceive (p : Fin 2) (frame : Bytes) (t : Nat) (s : State) : Host.Outcome State Fault Refusal :=
  s.act t fun s => if s.domOn 14 ∧ s.domOn 10 ∧ s.domOn 16 ∧ (s.port p).up then s.ethReceive p frame else s

/-- PAUSE_REFRESH: again every half pause time while the occupancy stays above XON (R300). -/
def execPauseRefresh (p : Fin 2) (t : Nat) (s : State) : Host.Outcome State Fault Refusal :=
  s.act t fun s =>
    let x := s.port p
    let quanta := s.rf Reg.hifEthPause 16 16
    match x.sentPause with
    | some t0 =>
      if s.domOn 14 ∧ x.up ∧ s.pauseEn p ∧ s.rf Reg.hifEthPause 0 8 * 1024 < x.ingress * 256 ∧
          2 * t0 + quantaTicks quanta ≤ 2 * s.now then
        (s.setPort p { x with sentPause := some s.now }).out (.pauseFrame p quanta)
      else s
    | none => s

/-- ETH_PAUSE_RECEIVED: PAUSE on a port with PAUSE_EN, PFC for the priorities of PFC_EN (R51, R300).
[log 119: DEDUCED] -/
def execEthPauseReceived (p : Fin 2) (pfc : Option (Fin 8)) (quanta : BitVec 16) (t : Nat) (s : State) :
    Host.Outcome State Fault Refusal :=
  s.act t fun s =>
    let x := s.port p
    let u := if quanta = 0 then none else some (s.now + quantaTicks quanta.toNat)
    if s.domOn 14 = false ∨ x.up = false then s
    else
      match pfc with
      | none => if s.pauseEn p then s.setPort p { x with pausedUntil := u } else s
      | some n => if s.pfcEn n then s.setPort p { x with pfcUntil := sput none x.pfcUntil n u } else s

/-- ETH_PAUSE_QUANTA_EXPIRY: what has run out no longer stops anything. -/
def execEthPauseQuantaExpiry (p : Fin 2) (t : Nat) (s : State) : Host.Outcome State Fault Refusal :=
  s.act t fun s =>
    let x := s.port p
    let keep (u : Option Nat) : Option Nat := u.filter (fun e => decide (s.now < e))
    s.setPort p { x with pausedUntil := keep x.pausedUntil,
                         pfcUntil := x.pfcUntil.filter (fun kv => (keep kv.2).isSome) }

/-- ETH_FRAME_DEPART: the first frame of the port that nothing stops (R300, R342). [log 124: DEDUCED] -/
def execEthFrameDepart (p : Fin 2) (t : Nat) (s : State) : Host.Outcome State Fault Refusal :=
  s.act t fun s =>
    let q := s.port p
    if s.domOn 14 ∧ s.domOn 10 ∧ q.up then
      match q.egress.find? (fun x => s.mayDepart p x) with
      | some x => ((s.setPort p { q with egress := q.egress.erase x }).ethDepart p x).egressFill p
      | none => s
    else s

/-- ETH_LINK_CHANGE: a link that goes down forgets the pauses received and sent; what waits to leave goes on waiting. -/
def execEthLinkChange (p : Fin 2) (up : Bool) (t : Nat) (s : State) : Host.Outcome State Fault Refusal :=
  s.act t fun s =>
    if s.domOn 14 then
      let x := s.port p
      if up then ((s.setPort p { x with up := s.sys.ethRefBad = false }).pauseCheck p).egressFill p
      else s.setPort p { x with up := false, pausedUntil := none, pfcUntil := [], sentPause := none }
    else s

end Sys2Proof.Machine
end

