-- ==== Sys2Proof/Machine/Keys.lean ====
section
/-! DEFINITION. Machine/Keys.lean: the commands of the key store (R382–R411), the profile message (R127–R129) and the debug
port (R412–R414). -/

namespace Sys2Proof.Machine

/-! Key updates (R384–R391). -/

/-- Fields of a key-update BODY (R388). -/
def kuSlot (y : Bytes) : Nat := byteAt y 0
def kuFlag (y : Bytes) : Bool := bit (byteAt y 1) 0
def kuGen (y : Bytes) : Nat := le y 2 2
def kuRollover (y : Bytes) : Nat := if le y 4 4 = 0 then 60 else le y 4 4
def kuEntries (y : Bytes) : Nat := le y 8 2

/-- The SLOT values of R389. -/
def kuSlots : List Nat := [0, 1, 2, 3, 4, 5, 0x10]

/-- Whether the fields of a BODY lie in their ranges (R388). -/
def kuFields (y : Bytes) : Bool :=
  let slot := kuSlot y
  let used := match slot with | 0 => 64 | 1 => 24 | 2 => 40 | 3 => 40 | _ => 0
  kuSlots.contains slot && decide (byteAt y 1 ≤ if slot = 1 ∨ slot = 4 then 1 else 0) &&
    (if slot = 1 then decide (kuGen y ≠ 0) else kuGen y == 0) &&
    (if slot = 1 then le y 4 4 == 0 || (decide (10 ≤ le y 4 4) && decide (le y 4 4 ≤ 86400)) else le y 4 4 == 0) &&
    (if slot = 0x10 then decide (1 ≤ kuEntries y) && decide (kuEntries y ≤ 1024) else kuEntries y == 0) &&
    slice y 0xA 6 == zeros 6 && (decide (1 ≤ slot ∧ slot ≤ 3) || slice y 0x10 64 == zeros 64) &&
    slice y (0x50 + used) (64 - used) == zeros (64 - used)

/-- What a change of the store starts from. -/
def State.storeBase (s : State) : KeyStore := s.key.live.getD KeyStore.empty

/-- Whether SLOT and SIGNER are permitted in this lifecycle, mode and store state, and GEN fits (R389, R416). -/
def State.kuPermitted (s : State) (b : Bytes) : Bool :=
  let y := omBody b
  let life := s.lifecycle
  let mode := s.sys.mode
  if omSigner b = 1 then
    kuSlot y == 0 && (((life == .blank || life == .zeroized) && (mode == .configure || mode == .safe)) ||
      (life == .field && s.noOwner))
  else
    omSigner b == 0 && life == .field && ! s.noOwner && ! (kuSlot y == 0x10 && mode == .standby) &&
      (kuSlot y != 1 || (match s.storeBase.kek with | some (g, _) => kuGen y == g + 1 | none => true))

/-- A transported key recovered (R390). -/
def State.transported (s : State) (b : Bytes) (n : Nat) : Option Bytes :=
  let y := omBody b
  match (s.key.devPriv.bind s.key.unwrap).bind fun d => Config.ecdh d (slice y 0x10 64) with
  | some z =>
    Config.kwUnwrap (kdf z labelTK (s.key.deviceId ++ toLE 8 (omCounter b) ++ toLE 1 (kuSlot y)) 32) (slice y 0x50 n)
  | none => none

/-- A key update whose SLOT a command serves; a SLOT that R389 does not name is served by each. `f` acts on an update that
passed checks 1 to 5 of R385. -/
def State.keyUpdate (s : State) (m : Msg) (slot : Nat) (f : Bytes → State → State × Nat × Bytes) : State :=
  let b := m.req.getD []
  let n := m.desc.reqLen - 0x110
  let lenOk (k : Nat) : Bool := decide (0x110 ≤ k) && k % 44 == 0x110 % 44 && decide (k ≤ 0x110 + 44 * 1024)
  let here := kuSlot (omBody (fit b m.desc.reqLen))
  let mine := decide (m.desc.msgType ≠ 2) || m.req.isNone || ! lenOk m.desc.reqLen || here == slot || ! kuSlots.contains here
  if mine then
    s.mail m 2 lenOk (if slot = 0x10 then n / 44 else 0) fun b s =>
      let format := omFormat 2 (fun k => k == 0x90 + 44 * kuEntries (slice b 0x40 0x90)) b && kuFields (omBody b)
      match s.omCheck format (s.kuPermitted b) b with
      | some r => s.omRefuse 2 r b
      | none => f b s
  else s

/-- The lock check of R385 for a key update: value 7. -/
def State.kuLocked (s : State) (b : Bytes) (f : State → State × Nat × Bytes) : State × Nat × Bytes :=
  if s.upd.lock.isSome then (s.slotBusy 3).omRefuse 2 7 b else f s

/-- KEY_UPDATE_OWNER_AUTHORITY: BLANK and ZEROIZED become FIELD. -/
def execKeyUpdateOwnerAuthority (m : Msg) (t : Nat) (s : State) : Host.Outcome State Fault Refusal :=
  s.act t fun s => s.keyUpdate m 0 fun b s => s.kuLocked b fun s =>
    let s := s.keyCommit { s.storeBase with owner := some (slice (omBody b) 0x50 64) } (omCounter b)
    (s.keyUpd fun k => { k with lifecycle := .field }, 0, [])

/-- The end of a rollover window (R407). -/
def State.rolloverEnd (s : State) : State :=
  match s.key.prev with
  | some (g, _) =>
    let left := s.allRecs.countP (fun kv => recProv kv.2 && recGen kv.2 == g)
    let s := (s.keyCommit { s.storeBase with prev := none, rolloverS := 0 } s.key.counter).setRg Reg.keyStaleLeft
      (BitVec.ofNat 32 left)
    (s.event 0x102).when (decide (left ≠ 0)) (·.stk Reg.keyTrouble 4)
  | none => s

/-- KEY_UPDATE_NETWORK_KEK (R389, R390, R405). -/
def execKeyUpdateNetworkKek (m : Msg) (t : Nat) (s : State) : Host.Outcome State Fault Refusal :=
  s.act t fun s => s.keyUpdate m 1 fun b s =>
    let y := omBody b
    match s.transported b 24 with
    | none => s.omRefuse 2 6 b
    | some k => s.kuLocked b fun s =>
      if s.key.prev.isSome ∧ kuFlag y = false then s.omRefuse 2 8 b
      else
        let s := s.rolloverEnd
        let x := { s.storeBase with kek := (s.key.wrap k).map fun c => (kuGen y, c), prev := s.storeBase.kek, rolloverS := kuRollover y }
        ((s.keyCommit x (omCounter b)).keyLoad x, 0, [])

/-- KEY_UPDATE_TWIN_LINK. -/
def execKeyUpdateTwinLink (m : Msg) (t : Nat) (s : State) : Host.Outcome State Fault Refusal :=
  s.act t fun s => s.keyUpdate m 2 fun b s =>
    match s.transported b 40 with
    | none => s.omRefuse 2 6 b
    | some k => s.kuLocked b fun s => (s.keyCommit { s.storeBase with twin := s.key.wrap k } (omCounter b), 0, [])

/-- KEY_UPDATE_IMAGE. -/
def execKeyUpdateImage (m : Msg) (t : Nat) (s : State) : Host.Outcome State Fault Refusal :=
  s.act t fun s => s.keyUpdate m 3 fun b s =>
    match s.transported b 40 with
    | none => s.omRefuse 2 6 b
    | some k => s.kuLocked b fun s => (s.keyCommit { s.storeBase with image := s.key.wrap k } (omCounter b), 0, [])

/-- KEY_UPDATE_TAMPER_POLICY. -/
def execKeyUpdateTamperPolicy (m : Msg) (t : Nat) (s : State) : Host.Outcome State Fault Refusal :=
  s.act t fun s => s.keyUpdate m 4 fun b s => s.kuLocked b fun s =>
    (s.keyCommit { s.storeBase with armed := kuFlag (omBody b) } (omCounter b), 0, [])

/-- FIELD becomes ZEROIZED, the latch of FIELD_DEBUG clears and new keys are due (R382, R411). -/
def State.zeroizedMark (s : State) : State :=
  s.keyUpd fun k =>
    { k with lifecycle := if k.lifecycle = .field then .zeroized else k.lifecycle, debugLatch := false, regenDue := true }

/-- The scope of a debug session closes (R413). -/
def State.scopeClose (s : State) : State := { s with dbg := { s.dbg with scopeTap := false, scopeBar := false } }

/-- The keys of a part that is awake are destroyed and it is ZEROIZED (R382, R410): SAFE first, while the image still says
whether it is one of a pair. [log 80: DEDUCED] -/
def State.zeroiseAwake (s : State) (safeCause p2 cause : Nat) : State :=
  ((((s.when s.key.debugLatch (·.event 0x150)).safeNow safeCause p2).zeroise cause).zeroizedMark).imageDrop.scopeClose

/-- KEY_UPDATE_ZEROIZE (R389, R410). -/
def execKeyUpdateZeroize (m : Msg) (t : Nat) (s : State) : Host.Outcome State Fault Refusal :=
  s.act t fun s => s.keyUpdate m 5 fun b s => s.kuLocked b fun s =>
    ((s.counterCommit (omCounter b)).zeroiseAwake 0x0C 0 2, 0, [])

/-- One NODE_KEYS entry (R391): its result. -/
def State.nodeKey (s : State) (e : Bytes) : State × Nat :=
  let w := le e 0 4
  let h := w % 262144
  let g := slice e 4 40
  if bits w 18 13 ≠ 0 then (s, 4)
  else
    let s := s.nodeFill h
    let x := s.node h
    let flags := byteAt g 3
    let ctr := le g 4 4
    if recProv x = false then (s, 1)
    else if bit flags 7 = false ∨ bits flags 3 4 ≠ 0 ∨ ¬ ([1, 2, 3, 5, 6, 7] : List Nat).contains (flags % 8) ∨ byteAt g 2 = 0 ∨
        bit ctr 31 then (s, 5)
    else
      match s.kekOf (le g 0 2) with
      | none => (s, 2)
      | some kek =>
        match Config.ccmOpen kek (wrapNonce h (le g 0 2) ctr) (wrapAad (recEui x) (le g 0 2) (byteAt g 2) flags)
            (slice g 8 32) 16 with
        | none => (s, 3)
        | some _ =>
          (s.nodeUpd h (fun x =>
            let x := recSet x 0x60 40 (leNat g)
            if bit w 31 then recSetBits (recSet (recSet x 0x50 4 0) 0x54 4 0) 0x59 5 2 0 else x), 0)

/-- The entries in order, with their results. -/
def State.nodeKeysRun (s : State) (y : Bytes) : List Nat → State × Bytes
  | [] => (s, [])
  | i :: rest =>
    let (s, r) := s.nodeKey (slice y (0x90 + 44 * i) 44)
    let (s, rs) := s.nodeKeysRun y rest
    (s, BitVec.ofNat 8 r :: rs)

/-- KEY_UPDATE_NODE_KEYS (R391). -/
def execKeyUpdateNodeKeys (m : Msg) (t : Nat) (s : State) : Host.Outcome State Fault Refusal :=
  s.act t fun s => s.keyUpdate m 0x10 fun b s => s.kuLocked b fun s =>
    let (s, rs) := s.nodeKeysRun (omBody b) (List.range (kuEntries (omBody b)))
    (s.counterCommit (omCounter b), if rs.all (· == 0) then 0 else 9, rs)

/-! Rollover (R405–R408). -/

/-- STALE_GENERATION_JOB: a conditional re-wrap under the current generation; in STANDBY the groups come re-wrapped with the stream
(R408, R460). -/
def execStaleGenerationJob (handle : Fin 262144) (s : State) : Host.Outcome State Fault Refusal :=
  s.go fun s =>
    let h := handle.val
    match s.key.staleJobs.find? (fun j => j.1 == h) with
    | some j =>
      let s := s.keyUpd fun k => { k with staleJobs := k.staleJobs.erase j }
      if s.domOn 9 = false ∨ s.domOn 11 = false ∨ s.sys.mode = .standby then s
      else
        let s := s.nodeFill h
        let x := s.node h
        if recGen x ≠ j.2.1 ∨ recWrapCtr x ≠ j.2.2 then s.cnt Reg.keyRewrapAbandonCnt
        else
          match s.unwrap h x, s.key.cur with
          | .key k, some (g, kek) =>
            if g = recGen x then s
            else
              let ctr := 2 ^ 31 + s.key.wrapCtr % 2 ^ 31
              let c := Config.ccmSeal kek (wrapNonce h g ctr) (wrapAad (recEui x) g (recKeyIndex x) (recF x 0x63 1)) k 16
              let s := s.keyUpd fun k => { k with wrapCtr := k.wrapCtr + 1 }
              (s.nodeUpd h (fun x => recSet (recSet (recSet x 0x60 2 g) 0x64 4 ctr) 0x68 32 (leNat c))).cnt Reg.keyRewrapCnt
          | .tagFail, _ => (s.stk Reg.keyTrouble 3).cnt Reg.keyUnwrapFailCnt
          | _, _ => s
    | none => s

/-- ROLLOVER_SWEEP (R405, R408): the next handle, 100,000 a second. [log 144: DEDUCED] -/
def execRolloverSweep (t : Nat) (s : State) : Host.Outcome State Fault Refusal :=
  s.act t fun s =>
    match s.key.sweep, s.key.prev with
    | some h, some (g, _) =>
      if s.sys.mode = .standby ∨ s.domOn 9 = false ∨ s.domOn 11 = false ∨ (h ≠ 0 ∧ s.now < s.key.sweepAt + 8192) then s
      else
        let s := s.keyUpd fun k => { k with sweep := if h + 1 < 262144 then some (h + 1) else none, sweepAt := s.now }
        let s := s.nodeFill h
        if recProv (s.node h) ∧ recGen (s.node h) = g then s.raiseStale h (s.node h) else s
    | _, _ => s

/-- ROLLOVER_WINDOW_END (R407). -/
def execRolloverWindowEnd (t : Nat) (s : State) : Host.Outcome State Fault Refusal :=
  s.act t fun s =>
    match s.key.windowEnd with
    | some e => if e ≤ s.now ∧ s.domOn 11 then s.rolloverEnd else s
    | none => s

/-! Tamper (R409–R411). -/

/-- Tamper on line `n` (R84, R88, R410): keys erased in every mode; SAFE, a wake into SAFE from HEARTH, or latched in OFF.
[log 80: DEDUCED] -/
def State.tamper (s : State) (n : Nat) : State :=
  if s.armed = false ∨ s.domOn 1 = false then s
  else
    match s.sys.mode with
    | .returned => s
    | .off =>
      let s := s.zeroise n
      if s.key.checked then
        s.keyUpd fun k => { k with lifecycle := if k.lifecycle = .field then .zeroized else k.lifecycle, regenDue := true }
      else s.keyUpd fun k => { k with offTamper := true, regenDue := true }
    | .hearth =>
      let s := (s.zeroise n).keyUpd fun k => { k with offTamper := true, regenDue := true }
      let s : State := { s with sys := { s.sys with safeCause := 2, wake := s.sys.wake.map (fun w => { w with mode := .safe }) } }
      s.wakeBy n
    | _ => (s.event n).zeroiseAwake 2 n n

/-- What a sample of a tamper line is expected to be (R409): `TAMPER_A` the bit it is driven with, `TAMPER_B` that bit one slow tick
later. [log 188: DEDUCED] -/
def State.tamperExpect (s : State) (n : Nat) : Bool := Config.tamperBit (s.now / slowTick - n)

/-- The slow tick of a line's last sample that differed. -/
def State.tamperMiss (s : State) (n : Nat) : Option Nat := if n = 0 then s.irq.missA else s.irq.missB

/-- A sample that differs is noted with its slow tick. -/
def State.tamperNote (s : State) (n : Nat) : State :=
  let k := some (s.now / slowTick)
  if n = 0 then { s with irq := { s.irq with missA := k } } else { s with irq := { s.irq with missB := k } }

/-- A sample of an armed tamper line that differs from what is expected pends the line's source, and is tamper when the sample of the
slow tick before differed too (R409). [log 188: DEDUCED] -/
def State.tamperSample (s : State) (n : Nat) : State :=
  let again := s.tamperMiss n == some (s.now / slowTick - 1)
  let s := (s.tamperNote n).hearthSource n
  if again then s.tamper n else s

/-- TAMPER_DETECTED: two samples of a line in a row have differed (R409). -/
def execTamperDetected (l : TamperLine) (t : Nat) (s : State) : Host.Outcome State Fault Refusal :=
  s.act t fun s => s.tamper (match l with | .A => 0 | .B => 1)

/-- KEY_REGENERATION (R411). -/
def execKeyRegeneration (t : Nat) (s : State) : Host.Outcome State Fault Refusal :=
  s.act t fun s =>
    if s.key.regenDue ∧ s.key.lifecycle = .zeroized ∧ s.sys.mainGood ∧ s.domOn 11 then s.keyRegen else s

/-! Maintenance (R413). -/

/-- A higher event ends the transition in progress, a structural application with it (R67, R89). -/
def State.transEnd (s : State) : State :=
  ({ s with sys := { s.sys with transition := none } } : State).strAbandon s.sys.safeCause.toNat

/-- MAINTENANCE_MESSAGE (R400, R413, R416). -/
def execMaintenanceMessage (m : Msg) (t : Nat) (s : State) : Host.Outcome State Fault Refusal :=
  s.act t fun s => s.mail m 3 (· == 0x90) 0 fun b s =>
    let y := omBody b
    let scope := byteAt y 1
    let format := omFormat 3 (· == 16) b && byteAt y 0 == 1 && decide (scope ≤ 3) && slice y 2 14 == zeros 14
    let permitted := omSigner b == 0 && s.lifecycle == .field && (s.sys.mode == .configure || s.sys.mode == .safe) &&
      s.key.checked && ! s.key.integrity
    match s.omCheck format permitted b with
    | some r => s.omRefuse 3 r b
    | none =>
      let s := ((s.counterCommit (omCounter b)).transEnd.keyClear).keyUpd fun k => { k with debugLatch := true }
      let s := s.linkDown.modeTo .maintenance
      let s : State := { s with dbg := { s.dbg with scopeTap := bit scope 0, scopeBar := bit scope 1 } }
      ((s.event 0x150).cell 0x44 scope 0 0, 0, [])

/-! The profile message (R123, R124, R127–R129). -/

/-- Whether a sub-band record is in range. -/
def profBandOk (p : Bytes) (r sb : Nat) : Bool :=
  let o := 64 + 1552 * r + 16 + 96 * sb
  decide (profSb p r sb 0 4 < profSb p r sb 4 4) && decide (profSb p r sb 8 4 ≤ 3600000) &&
    decide (160 ≤ profSb p r sb 0xE 2) && decide (profSb p r sb 0xE 2 ≤ 10000) && decide (profSb p r sb 0x10 1 ≤ 63) &&
    decide (profSb p r sb 0x11 1 ≤ 3) && slice p (o + 0x12) 14 == zeros 14

/-- Whether two sub-bands overlap (R128). -/
def profMeet (p : Bytes) (r a b : Nat) : Bool :=
  decide (profSb p r a 0 4 < profSb p r b 4 4) && decide (profSb p r b 0 4 < profSb p r a 4 4)

/-- Whether a region record is in range. -/
def profRegionOk (p : Bytes) (r : Nat) : Bool :=
  let o := 64 + 1552 * r
  let n := profSubs p r
  decide (profMax p r ≤ 63) && decide (n ≤ 16) && slice p (o + 2) 14 == zeros 14 &&
    (List.range 16).all (fun k => if k < n then profBandOk p r k else slice p (o + 16 + 96 * k) 96 == zeros 96) &&
    (List.range n).all (fun a => (List.range a).all (fun b => ! profMeet p r a b))

/-- Whether a profile is in range, but for its COUNTER. -/
def profOk (p : Bytes) : Bool :=
  slice p 0 4 == [0x45, 0x56, 0x52, 0x50] && le p 4 2 == 1 && decide (byteAt p 6 < 8) && byteAt p 7 == 0 &&
    decide (1 ≤ le p 0x20 2) && decide (le p 0x20 2 ≤ 400) && slice p 0x22 30 == zeros 30 &&
    (List.range 3).all (profRegionOk p)

/-- The slots a profile bars under the active image (R129). -/
def State.barsOf (s : State) (p : Bytes) (r : Region) : List Nat :=
  if s.str.active.isSome then
    (List.range (s.slotCount r)).filter (fun i => s.slotOn r i && breaks33 (some p) (s.sec 1) (s.sec 3) r.ix i)
  else []

/-- The check of a profile message (R128). -/
def State.profCheck (s : State) (b : Bytes) : Option Nat :=
  let p := slice b 0x40 4720
  let ctr := le b 0x18 8
  if slice b 0 4 ≠ [0x45, 0x56, 0x50, 0x4D] ∨ le b 4 2 ≠ 1 ∨ le b 0x20 4 ≠ 4720 ∨ le b 6 2 ≠ 0 ∨ slice b 0x24 28 ≠ zeros 28 then
    some 1
  else if slice b 8 16 ≠ s.key.deviceId ∧ slice b 8 16 ≠ zeros 16 then some 2
  else if ctr ≤ (s.profile.map (fun q => le q 0x18 8)).getD 0 ∨ le p 0x18 8 ≠ ctr then some 3
  else
    match s.key.live.bind (·.owner) with
    | none => some 4
    | some pub =>
      if s.lifecycle ≠ .field then some 4
      else if s.canVerify = false ∨ Config.ecdsaVerify pub (Config.sha256 (b.take 0x12B0)) (slice b 0x12B0 64) = false then some 5
      else if profOk p = false then some 6
      else if s.upd.lock.isSome then some 7
      else none

/-- PROFILE_MESSAGE. [log 81: DEDUCED] -/
def execProfileMessage (m : Msg) (t : Nat) (s : State) : Host.Outcome State Fault Refusal :=
  s.act t fun s => s.mail m 1 (· == 4848) 0 fun b s =>
    let p := slice b 0x40 4720
    let ctr := le b 0x18 8
    match s.profCheck b with
    | some r => (((if r = 7 then s.slotBusy 3 else s).msgRefused 1 r ctr), r, [])
    | none =>
      let s := s.keyCommit { s.storeBase with profile := some p } s.key.counter
      let s := (allRegions.foldl (fun s r => s.radUpd r (fun d => { d with barred := s.barsOf p r })) s).sbFull
      let n (r : Region) : Nat := (s.radio.get r).barred.length
      (s.cell 0x22 (ctr % 2 ^ 32) (n .L + 1024 * n .M + 2 ^ 20 * n .H) 0, 0, [])

/-! The debug port (R412–R414). -/

/-- The debug states. -/
inductive DebugState | none_ | closed | boundary | open_
  deriving DecidableEq, Repr

/-- The debug state of the TAP (R412, R416); none: the port does not answer. -/
def State.debugState (s : State) : DebugState :=
  if s.sys.mode = .off ∨ s.sys.mode = .hearth then .none_
  else
    match s.lifecycle with
    | .blank => .boundary
    | .returned => .boundary
    | .fieldDebug => if s.dbg.scopeTap then .open_ else .closed
    | _ => .closed

/-- Whether `DBG` answers in BAR0 (R15, R414): a session ends only at reset (R413). -/
def State.dbgBar (s : State) : Bool := s.lifecycle == .fieldDebug && s.dbg.scopeBar && s.domOn 12

/-- Change the debug port. -/
def State.dbgUpd (s : State) (f : Dbg → Dbg) : State := { s with dbg := f s.dbg }

/-- The TAP takes an instruction that selects the bypass register. -/
def State.tapBypassed (s : State) : State :=
  (s.dbgUpd fun d => { d with ir := 0xFF, pinsDriven := false, pinsHighZ := false }).out (.tdo [0])

/-- A TAP instruction under its permission: BYPASS where it is not permitted. -/
def State.tap (s : State) (permitted : DebugState → Bool) (f : State → State) : State :=
  if s.debugState = .none_ then s else if permitted s.debugState then f s else s.tapBypassed

/-- Boundary scan: permitted in BOUNDARY and OPEN. -/
def scanState : DebugState → Bool
  | .boundary => true
  | .open_ => true
  | _ => false

/-- TAP_BYPASS. -/
def execTapBypass (s : State) : Host.Outcome State Fault Refusal := s.go fun s => s.tap (fun _ => true) (·.tapBypassed)

/-- TAP_IDCODE. -/
def execTapIdcode (s : State) : Host.Outcome State Fault Refusal :=
  s.go fun s => s.tap (fun _ => true) fun s =>
    (s.dbgUpd fun d => { d with ir := 0x01, pinsDriven := false, pinsHighZ := false }).out (.tdo (toLE 4 0x226184B5))

/-- TAP_SAMPLE_PRELOAD: the pins are captured and shifted out as the preload is shifted in. -/
def execTapSamplePreload (pins preload : Bytes) (s : State) : Host.Outcome State Fault Refusal :=
  s.go fun s => s.tap scanState fun s =>
    (s.dbgUpd fun d => { d with ir := 0x02, captured := pins, boundary := preload, pinsDriven := false,
                                pinsHighZ := false }).out (.tdo pins)

/-- TAP_EXTEST: the boundary register drives the pins. -/
def execTapExtest (s : State) : Host.Outcome State Fault Refusal :=
  s.go fun s => s.tap scanState fun s =>
    (s.dbgUpd fun d => { d with ir := 0x00, pinsDriven := true, pinsHighZ := false }).out (.tdo s.dbg.boundary)

/-- TAP_CLAMP: the boundary register drives the pins, the bypass register is selected. -/
def execTapClamp (s : State) : Host.Outcome State Fault Refusal :=
  s.go fun s => s.tap scanState fun s =>
    (s.dbgUpd fun d => { d with ir := 0x03, pinsDriven := true, pinsHighZ := false }).out (.tdo [0])

/-- TAP_HIGHZ: the pins are high impedance, the bypass register is selected. -/
def execTapHighz (s : State) : Host.Outcome State Fault Refusal :=
  s.go fun s => s.tap scanState fun s =>
    (s.dbgUpd fun d => { d with ir := 0x04, pinsDriven := false, pinsHighZ := true }).out (.tdo [0])

/-- `DBG.SESSION` (R414). -/
def State.dbgSession (s : State) : Word :=
  BitVec.ofNat 32 ((s.lifecycle == .fieldDebug).toNat * 2 ^ 31 + s.dbg.scopeBar.toNat * 2 + s.dbg.scopeTap.toNat)

/-- A write of `DBG.CORE_CTRL`: PAIR and HALT; STEP lets a halted pair run one instruction, of which nothing of this model's
state changes. [log 137: DEDUCED] -/
def State.coreCtrl (s : State) (pair : Nat) (halt : Bool) : State :=
  let s := s.setRg Reg.dbgCoreCtrl (BitVec.ofNat 32 (pair * 16 + halt.toNat))
  if pair = 0 then { s with pairs := { s.pairs with halted0 := halt } }
  else if pair = 1 then { s with pairs := { s.pairs with halted1 := halt } }
  else s

/-- An access to `DBG.MEM_DATA`: a word of supervisor memory, after which the address advances; none where the address lies
outside the 2 MiB (R23). A word that no debugger has written is a free value; a word of the key cells or the working key register reads
0 (R414), wherever the supervisor's map shows it. [log 42: DESIGN CHOICE] -/
def State.memAccess (s : State) (write : Bool) (data : Word) : Option (State × Word) :=
  let a := (s.rg Reg.dbgMemAddr).toNat
  let next (s : State) : State := s.setRg Reg.dbgMemAddr (BitVec.ofNat 32 (a + 4))
  if s.dbg.keyWords.contains (a / 4) then some (next s, 0)
  else if 0x200000 ≤ a then none
  else if write then some (next (s.dbgUpd fun d => { d with supMem := sput none d.supMem (a / 4) (some data) }), data)
  else
    match sget none s.dbg.supMem (a / 4) with
    | some w => some (next s, w)
    | none => some (next s.used, s.free)

/-- DBG_CORE_HALT. -/
def execDbgCoreHalt (pair : Fin 2) (halt : Bool) (s : State) : Host.Outcome State Fault Refusal :=
  s.go fun s => if s.dbgBar then s.coreCtrl pair.val halt else s.unmapped

/-- DBG_CORE_STEP: HALT is written as it stands. [log 137: DEDUCED] -/
def execDbgCoreStep (pair : Fin 2) (s : State) : Host.Outcome State Fault Refusal :=
  s.go fun s =>
    if s.dbgBar then s.coreCtrl pair.val (if pair.val = 0 then s.pairs.halted0 else s.pairs.halted1) else s.unmapped

/-- DBG_MEM_DATA_ACCESS: while `DBG` is closed a read returns 0 and a write is unmapped (R9, R15). [log 41: DEDUCED] -/
def execDbgMemDataAccess (write : Bool) (data : Word) (s : State) : Host.Outcome State Fault Refusal :=
  if s.dbgBar then
    match s.memAccess write data with
    | some (u, w) => s.go fun _ => if write then u else { u with readData := w.zeroExtend 64 }
    | none => .fault .debugAddress
  else s.go fun s => if write then s.unmapped else { s with readData := 0 }

/-- TAP_DEBUG_ACCESS (R412): the registers of `DBG` by the TAP. -/
def execTapDebugAccess (a : Access) (s : State) : Host.Outcome State Fault Refusal :=
  if s.debugState = .open_ then
    let s1 := s.dbgUpd fun d => { d with ir := 0x10, pinsDriven := false, pinsHighZ := false }
    let w := a.data.setWidth 32
    let say (u : State) (x : Word) : State := if a.write then u else u.out (.tdo (bvBytes 4 x))
    if a.addr % 0x40000 = 0 then s.go fun _ => say s1 s1.dbgSession
    else if a.addr % 0x40000 = 4 then
      s.go fun _ => if a.write then s1.coreCtrl (getBits w 4 2) (getBit w 0) else say s1 (s1.rg Reg.dbgCoreCtrl)
    else if a.addr % 0x40000 = 8 then
      s.go fun _ => if a.write then s1.setRg Reg.dbgMemAddr w else say s1 (s1.rg Reg.dbgMemAddr)
    else if a.addr % 0x40000 = 12 then
      match s1.memAccess a.write w with
      | some (u, x) => s.go fun _ => say u x
      | none => .fault .debugAddress
    else s.go fun _ => say s1 0
  else s.go fun s => s.tap (fun _ => false) id

/-- TAP_PRIVATE_TEST: BYPASS outside RETURNED; what it does in RETURNED is not described (R412). -/
def execTapPrivateTest (_code : Fin 64) (s : State) : Host.Outcome State Fault Refusal :=
  if s.lifecycle = .returned ∧ s.debugState ≠ .none_ then .refused .privateTest
  else s.go fun s => s.tap (fun _ => false) id

end Sys2Proof.Machine
end

