-- ==== Sys2Proof/Machine/Interrupts.lean ====
section
/-! DEFINITION. Machine/Interrupts.lean: the commands of the interrupt controller (chapter 12). -/

namespace Sys2Proof.Machine

/-- An external input whose pin level, or FIRED_STK or LATE_STK, stands as it now does: an edge source pends on the active edge. -/
def State.irqExt (s : State) (n : Nat) : State :=
  let x := s.src n
  let lv := s.extLevel n x.pin
  if x.edge then
    let s1 := s.setSrc n { x with raw := lv }
    if lv && ! x.raw then s1.irqEdge n else s1
  else s.irqLevel n lv

/-- The pad of an external input is at a level: what the filter has let through by now, then the pad's transition (R363). -/
def State.irqPad (s : State) (n : Nat) (level : Bool) : State :=
  let x := (s.src n).settle s.now
  let s := (s.setSrc n (x.1.padAt level s.now)).irqExt n
  if x.2 then s.irqMerged n else s

/-- IRQ_SOURCE_EVENT (R362–R366, R371, R372): an edge event waiting for the controller is taken, the completion of a command block of
`FWD` once its GO has fallen; a level source follows its condition; `level` is the level of an external input's pad, which the glitch
filter lets through once it is told again after 10 ns. Reserved sources never assert. For source 0x000 or 0x001 `level` is also the sample of that tamper line, which is judged while the policy is armed (R409).
[log 49: DEDUCED] [log 188: DEDUCED] -/
def execIrqSourceEvent (src : Fin 512) (level : Bool) (t : Nat) (s : State) : Host.Outcome State Fault Refusal :=
  s.act t fun s =>
    let n := src.val
    if decide (n ≤ 1) && s.armed && s.domOn 1 && (level != s.tamperExpect n) then s.tamperSample n
    else if ! s.domOn 10 then (if srcKind n = .ext ∧ s.domOn 1 then s.setSrc n (((s.src n).settle s.now).1.padAt level s.now) else s)
    else
      match srcKind n with
      | .reserved => s
      | .edge =>
        if s.irq.events.contains n && ! s.fwdBusy n then
          ({ s with irq := { s.irq with events := s.irq.events.erase n } }.irqEdge n).irqTell
        else s
      | .level => (s.irqLevel n (s.levelCond n)).irqTell
      | .ext => (s.irqPad n level).irqTell

/-- IRQ_STORM_WINDOW (R371): a fixed 1 ms window ends and the counts of changes start again. -/
def execIrqStormWindow (t : Nat) (s : State) : Host.Outcome State Fault Refusal :=
  s.act t fun s => s.irqRoll

/-- Whether a context claims: the supervisor's is frozen while a handover runs (R431). -/
def State.claims (s : State) (ctx : IrqCtx) : Bool := s.domOn 10 && (ctx == .host || ! s.supFrozen)

/-- IRQ_CLAIM (R367, R376): a read of a context's CLAIM register. [log 52: DEDUCED] -/
def execIrqClaim (ctx : IrqCtx) (s : State) : Host.Outcome State Fault Refusal :=
  s.go fun s => if s.claims ctx then (s.irqClaimCtx ctx).irqTell else { s with readData := 0 }

/-- IRQ_EOI (R368, R369, R377): a write of a context's EOI register. -/
def execIrqEoi (ctx : IrqCtx) (w : Word) (s : State) : Host.Outcome State Fault Refusal :=
  s.go fun s => if s.domOn 10 then (s.irqEoiCtx ctx (getBits w 0 9) (getBit w 31)).irqTell else s

/-- IRQ_SWI (R362, R375): bit i pends source 0x1E0 + i. -/
def execIrqSwi (w : Word) (s : State) : Host.Outcome State Fault Refusal :=
  s.go fun s =>
    if s.domOn 10 then
      ((List.range 32).foldl (fun s i => if getBit w i then s.irqEdge (0x1E0 + i) else s) s).irqTell
    else s

/-- The present count of `IRQ.HEARTH_TIMER` in slow ticks (R374). [log 53: DEDUCED] -/
def State.hearthCount (s : State) : Nat := s.irq.hearthLeft - (s.now - s.irq.hearthAt) / slowTick

/-- HEARTH_TIMER_EXPIRY (R374): the timer reaches 0, pends source 0x005 and stops. -/
def execHearthTimerExpiry (t : Nat) (s : State) : Host.Outcome State Fault Refusal :=
  s.act t fun s =>
    if decide (s.irq.hearthLeft ≠ 0) && decide (s.hearthCount = 0) then
      ({ s with irq := { s.irq with hearthLeft := 0, hearthAt := s.now } } : State).hearthSource 0x005
    else s

end Sys2Proof.Machine
end

