-- ==== Sys2Proof/Machine/DieLink.lean ====
section
/-! DEFINITION. Machine/DieLink.lean: the die link (R98–R102): its flits and channels, replay, retraining and what a gap costs. -/

namespace Sys2Proof.Machine

/-! Flits (R98, R99). A flit is its 96 bytes. -/

/-- The header word of a flit. -/
def flitHead (b : Bytes) : Nat := le b 0 4
/-- The channel of a flit. -/
def flitChannel (b : Bytes) : Nat := getBits (BitVec.ofNat 32 (flitHead b)) 28 4
/-- The sequence of a flit. -/
def flitSeq (b : Bytes) : Nat := getBits (BitVec.ofNat 32 (flitHead b)) 16 12
/-- The sequence of the other direction that a flit acknowledges, or asks for again with NAK. -/
def flitAck (b : Bytes) : Nat := getBits (BitVec.ofNat 32 (flitHead b)) 4 12
/-- The NAK flag. -/
def flitNak (b : Bytes) : Bool := getBit (BitVec.ofNat 32 (flitHead b)) 0
/-- The IDLE flag. -/
def flitIdle (b : Bytes) : Bool := getBit (BitVec.ofNat 32 (flitHead b)) 1

/-- A flit with a header, a payload of 88 bytes and its CRC. -/
def flitOf (channel seq ack : Nat) (nak idle : Bool) (payload : Bytes) : Bytes :=
  let b := toLE 4 (channel % 16 * 2 ^ 28 + seq % 4096 * 2 ^ 16 + ack % 4096 * 16 + idle.toNat * 2 + nak.toNat) ++
    (payload ++ zeros 88).take 88
  b ++ toLE 4 (crc32c b).toNat

/-- Whether a flit's CRC-32C over bytes 0x00–0x5B holds. -/
def flitGood (b : Bytes) : Bool := b.length == 96 && decide (le b 0x5C 4 = (crc32c (b.take 0x5C)).toNat)

/-- The channels a direction carries. -/
def channelsOf : LinkDir → List Nat
  | .frontToCore => [0, 1, 2, 6, 7, 8, 9, 10, 15]
  | .coreToFront => [3, 4, 5, 6, 7, 8, 9, 15]

/-- The sample channel that owns a flit slot: of every 12 slots one is each sample channel's. The spec names no places for them:
the first three. [log 65: DESIGN CHOICE] -/
def slotOwner (d : LinkDir) (slot : Nat) : Option Nat :=
  if slot % 12 < 3 then some (slot % 12 + (match d with | .frontToCore => 0 | .coreToFront => 3)) else none

/-- The channels that share every slot a sample channel leaves unused, in strict priority: key cells, control and registers, Hearth and
interrupts, MRAM, calibration snapshots. -/
def channelOrder : List Nat := [7, 8, 9, 6, 10]

/-- What a flit slot carries of what waits on the channels (R99): its owner's samples, else the channel of highest priority; none:
idle. -/
def slotPick (d : LinkDir) (slot : Nat) (waits : List (Nat × Bytes)) : Option (Nat × Bytes) :=
  let at_ (c : Nat) : Option (Nat × Bytes) := if (channelsOf d).contains c then waits.find? (fun x => x.1 == c) else none
  ((slotOwner d slot).bind at_).or (channelOrder.findSome? at_)

/-- The flits a transmitter keeps for replay after it has sent some more: the last 128 (R101). -/
def flitsKept (kept sent : List Bytes) : List Bytes := (kept ++ sent).drop ((kept ++ sent).length - 128)

/-- The flits to replay from a failing sequence onward; none: it is no longer kept. -/
def flitsFrom (kept : List Bytes) (seq : Nat) : List Bytes := kept.dropWhile (fun b => flitSeq b != seq)

/-- A flit sent (R98–R101): channel and payload of its slot, the next sequence, and what the other direction is told: its newest flit,
or with NAK the one that failed. -/
def DieDir.send (x y : DieDir) (d : LinkDir) (waits : List (Nat × Bytes)) : DieDir :=
  let ack := y.nak.getD ((y.sent + 4095) % 4096)
  let b := match slotPick d x.sent waits with
    | some cp => flitOf cp.1 x.sent ack y.nak.isSome false cp.2
    | none => flitOf 15 x.sent ack y.nak.isSome true []
  { x with sent := x.sent + 1, kept := flitsKept x.kept [b] }

/-! Directions. -/

/-- One direction. -/
def State.die (s : State) : LinkDir → DieDir
  | .frontToCore => s.dieF2c
  | .coreToFront => s.dieC2f
/-- The other direction. -/
def State.dieBack (s : State) : LinkDir → DieDir
  | .frontToCore => s.dieC2f
  | .coreToFront => s.dieF2c
/-- Store one direction. -/
def State.setDie (s : State) (d : LinkDir) (x : DieDir) : State :=
  match d with
  | .frontToCore => { s with dieF2c := x }
  | .coreToFront => { s with dieC2f := x }

/-- What retraining costs (R102): receptions across the gap are flagged and a CCA it falls into is busy; carriers on air run out of
samples, are muted and end LATE. -/
def State.linkGap (s : State) (d : LinkDir) : State :=
  match d with
  | .frontToCore =>
    let s : State := { s with lanes := s.lanes.map (fun kv =>
      (kv.1, kv.2.map (fun l => { l with linkGap := some (l.linkGap.getD s.now) }))) }
    allRegions.foldl (fun s r => s.ccaSpoil r) s
  | .coreToFront =>
    allRegions.foldl (fun s r =>
      let ids := s.carriersOn r
      if ids.isEmpty then s
      else (ids.foldl (fun s c => s.jobEnd r c .late) (s.linesDown r false)).airMoved r) s

/-- A die-link fault (R20, R102). [log 64: DEDUCED] -/
def State.linkFault (s : State) : State :=
  (s.cell 0x15 (s.rg Reg.clkDlinkStatus).toNat (s.rg Reg.clkDlinkRetrainCnt).toNat 0).safe 0x06 0

/-- A direction retrains; its third retraining within 10 s is a fault. [log 190: DESIGN CHOICE] [log 64: DEDUCED] -/
def State.retrain (s : State) (d : LinkDir) : State :=
  let x := s.die d
  let recent := x.retrains.filter (fun k => decide (s.now < k + secTicks 10))
  let s := s.setDie d { x with up := false, retraining := true, failStreak := 0, failSeq := none, replays := [], nak := none,
                               kept := [], replayed := [], sent := 0, retrains := recent ++ [s.now],
                               gaps := s.spansKept x.gaps ++ [(s.now, none)] }
  let s := ((s.stk Reg.clkDlinkStatus 3).cnt Reg.clkDlinkRetrainCnt).linkGap d
  if 2 ≤ recent.length then s.linkFault else s

/-- The receiver of a direction finds a failure: it sets NAK with the sequence of the newest flit sent; the eighth failure of a
flit in a row retrains (R101, R102). -/
def State.flitFail (s : State) (d : LinkDir) (seq : Nat) : State :=
  let x := s.die d
  let n := if x.failSeq = some seq then x.failStreak + 1 else 1
  let s := s.setDie d { x with failSeq := some seq, failStreak := n, nak := some seq }
  if 8 ≤ n then s.retrain d else s

/-- FLIT_CRC_FAIL (R98, R99, R101, R102): the flits a direction has sent since the last such command, from what waited at each flit
slot, the newest as it arrived. One that arrives whole is no failure. [log 65: DESIGN CHOICE] -/
def execFlitCrcFail (d : LinkDir) (f : FlitRx) (t : Nat) (s : State) : Host.Outcome State Fault Refusal :=
  s.act t fun s =>
    let x := s.die d
    if x.up then
      let y := f.slots.foldl (fun y w => y.send (s.dieBack d) d w) x
      let s := s.setDie d y
      if flitGood f.raw then s else s.flitFail d ((y.kept.getLast?.map flitSeq).getD (flitSeq f.raw))
    else s

/-- DIE_LINK_NAK (R101, R102): the transmitter of a direction receives a flit of the other direction whose NAK names a sequence,
and replays from that flit onward; more than 1,024 replays in 1 ms retrain. [log 65: DESIGN CHOICE] -/
def execDieLinkNak (d : LinkDir) (raw : Bytes) (t : Nat) (s : State) : Host.Outcome State Fault Refusal :=
  s.act t fun s =>
    let x := s.die d
    if x.up ∧ flitGood raw ∧ flitNak raw ∧ x.nak = some (flitAck raw) then
      let recent := x.replays.filter (fun k => decide (s.now < k + msTicks 1))
      let s := (s.setDie d { x with replays := recent ++ [s.now], nak := none, replayed := flitsFrom x.kept (flitAck raw) }).cnt
        Reg.clkDlinkReplayCnt
      if 1024 ≤ recent.length then s.retrain d else s
    else s

/-- DIE_LINK_RETRAIN_DONE (R102). -/
def execDieLinkRetrainDone (d : LinkDir) (ok : Bool) (badLane : Fin 64) (t : Nat) (s : State) :
    Host.Outcome State Fault Refusal :=
  s.act t fun s =>
    let x := s.die d
    if x.retraining then
      if ok then
        s.setDie d { x with up := true, retraining := false,
                            gaps := s.spansEnd x.gaps }
      else
        (((s.setDie d { x with retraining := false }).stk Reg.clkDlinkStatus 2).setRf Reg.clkDlinkStatus 8 8
          badLane.val).linkFault
    else s

end Sys2Proof.Machine
end

