-- ==== Sys2Proof/Machine/Modes.lean ====
section
/-! DEFINITION. Machine/Modes.lean: the commands of the structure image (R57–R68), clocks and power (R72–R77, R494–R499),
modes (R85–R90), faults (R20), resets (R91–R93) and start-up (R94–R97, R100). -/

namespace Sys2Proof.Machine

/-! Structure-image commands. -/

/-- STR_NONE (R61): GO completes at once; RESULT stays. [log 61: DEDUCED] -/
def execStrNone (w : StrWord) (s : State) : Host.Outcome State Fault Refusal :=
  s.go fun s => s.strGo w 0 fun s => s.event 0x020

/-- STR_VALIDATE (R57, R58, R62). -/
def execStrValidate (w : StrWord) (e : StrEnv) (s : State) : Host.Outcome State Fault Refusal :=
  s.go fun s => s.strGo w 1 fun s => s.strChecked w e fun _ _ s => s.strResult 4

/-- STR_APPLY (R36, R62, R65, R66). -/
def execStrApply (w : StrWord) (e : StrEnv) (t : Nat) (s : State) : Host.Outcome State Fault Refusal :=
  s.act t fun s => s.strGo w 2 fun s => s.strChecked w e fun im un s => s.strApplyImage w e im un

/-- STR_STORE (R61): a good container is written to DEST_SLOT. -/
def execStrStore (w : StrWord) (e : StrEnv) (s : State) : Host.Outcome State Fault Refusal :=
  s.go fun s => s.strGo w 3 fun s => s.strChecked w e fun _ _ s =>
    let c := if w.source.val = 0 then (e.host.getD []).take (s.rg Reg.strSrcLen).toNat
      else sget [] s.upd.slots (w.source.val - 1)
    ({ s with upd := { s.upd with slots := sput [] s.upd.slots w.dest.val c } } : State).strResult 9

/-- STR_SET_DEFAULT (R64): the container in DEST_SLOT is validated and the slot recorded in the NV settings.
[log 61: DEDUCED] [log 163: DESIGN CHOICE] -/
def execStrSetDefault (w : StrWord) (e : StrEnv) (s : State) : Host.Outcome State Fault Refusal :=
  s.go fun s => s.strGo w 4 fun s =>
    if 5 ≤ w.source.val then s.strResult (Broken.pkg 0x08 noIx).word
    else s.strLocked fun s =>
      match s.slotVerdict w.dest.val e.peer with
      | .broken b => s.strResult b.word
      | .good _ _ => (s.nvWrite (fun c => { c with defaultSlot := w.dest.val })).strResult 11

/-- STR_OP_REFUSED (R61): an OP of 5 to 15, or a SOURCE the register does not name, completes REFUSED at once. -/
def execStrOpRefused (w : StrWord) (op : Fin 16) (s : State) : Host.Outcome State Fault Refusal :=
  s.go fun s =>
    if 5 ≤ op.val ∨ (op.val ≠ 0 ∧ 5 ≤ w.source.val) then
      s.strGo w op.val fun s => s.strResult (Broken.pkg 0x08 noIx).word
    else s

/-- DEFAULT_IMAGE_LOAD (R68, R94, R95, R97): at stage 7 of a start, once. -/
def execDefaultImageLoad (e : StrEnv) (t : Nat) (s : State) : Host.Outcome State Fault Refusal :=
  s.act t fun s =>
    if s.sys.stage = 7 ∧ s.sys.mode = .configure ∧ s.sys.loadDone = false then s.defaultLoad e else s

/-! Clocks (R72, R74). -/

/-- The mute of a clock failure and the transition it causes. -/
def State.clockFault (s : State) (stk : Nat) : State :=
  let s := s.stk Reg.clkStatus stk
  let s := s.cell 0x13 (s.rg Reg.clkStatus).toNat 0 0
  s.muteAll.safe 0x05 0

/-- TCXO_FAILURE. -/
def execTcxoFailure (t : Nat) (s : State) : Host.Outcome State Fault Refusal :=
  s.act t fun s =>
    let s : State := { s with sys := { s.sys with tcxoBad := true } }
    if s.domOn 2 then s.clockFault 7 else s

/-- PLL_UNLOCK. -/
def execPllUnlock (t : Nat) (s : State) : Host.Outcome State Fault Refusal :=
  s.act t fun s => if s.domOn 2 ∧ s.rb Reg.clkStatus 0 then (s.clrb Reg.clkStatus 0).clockFault 6 else s

/-- TCXO_RESTORED (R84). -/
def execTcxoRestored (t : Nat) (s : State) : Host.Outcome State Fault Refusal :=
  s.act t fun s => { s with sys := { s.sys with tcxoBad := false } }

/-- ROOT_PLL_RELOCK (R84). -/
def execRootPllRelock (t : Nat) (s : State) : Host.Outcome State Fault Refusal :=
  s.act t fun s => if s.domOn 2 then s.stk Reg.clkStatus 0 else s

/-- An Ethernet port's link goes down. -/
def State.portDown (s : State) (p : Nat) : State :=
  s.setPort p { s.port p with up := false, pausedUntil := none, pfcUntil := [], sentPause := none }

/-- ETH_REFERENCE_LOSS: both ports and the twin link go down. -/
def execEthReferenceLoss (t : Nat) (s : State) : Host.Outcome State Fault Refusal :=
  s.act t fun s =>
    let s : State := { s with sys := { s.sys with ethRefBad := true } }
    (((s.when (s.domOn 10) (·.clrb Reg.clkStatus 2)).portDown 0).portDown 1).linkDown

/-- ETH_REFERENCE_RESTORED. -/
def execEthReferenceRestored (t : Nat) (s : State) : Host.Outcome State Fault Refusal :=
  s.act t fun s =>
    ({ s with sys := { s.sys with ethRefBad := false } } : State).when (s.domOn 10) (·.stk Reg.clkStatus 2)

/-- PCIE_REFERENCE_LOSS: handled as a PCIe link-down reset (R91). -/
def execPcieReferenceLoss (t : Nat) (s : State) : Host.Outcome State Fault Refusal :=
  s.act t fun s =>
    let s : State := { s with sys := { s.sys with pcieRefBad := true } }
    let s := s.when (s.domOn 10) (·.clrb Reg.clkStatus 3)
    if s.hif.linkUp then s.pcieResetNow.pcieD0.pcieLinkDown else s

/-- PCIE_REFERENCE_RESTORED. -/
def execPcieReferenceRestored (t : Nat) (s : State) : Host.Outcome State Fault Refusal :=
  s.act t fun s =>
    ({ s with sys := { s.sys with pcieRefBad := false } } : State).when (s.domOn 10) (·.stk Reg.clkStatus 3)

/-- SLOW_CRYSTAL_STOP: the RC oscillator takes over. -/
def execSlowCrystalStop (t : Nat) (s : State) : Host.Outcome State Fault Refusal :=
  s.act t fun s =>
    if s.sys.slowBad ∨ s.sys.hearthOn = false then s
    else
      let s : State := { s with sys := { s.sys with slowBad := true } }
      let s := s.when (s.domOn 10) (fun s => (s.clrb Reg.clkStatus 1).stk Reg.clkStatus 5)
      (s.cell 0x13 (s.rg Reg.clkStatus).toNat 0 0).hearthSource 0x007

/-- PG_TIMEOUT (R77): a fault of the region that owns the domain (R19); the domains of no region are only recorded. -/
def execPgTimeout (domain : Fin 16) (t : Nat) (s : State) : Host.Outcome State Fault Refusal :=
  s.act t fun s =>
    let n := domain.val + 1
    if s.domOn 10 = false ∨ n = 1 then s
    else
      let s := s.stk Reg.pwrDomainState (16 + domain.val)
      let s := s.cell 0x14 (2 ^ domain.val) 0 0
      if 3 ≤ n ∧ n ≤ 5 then s.regionOut (Region.ofIx (n - 3)) 0
      else if 6 ≤ n ∧ n ≤ 8 then s.regionOut (Region.ofIx (n - 6)) 0
      else if n = 9 ∨ n = 10 then s.coreOut .network
      else if n = 11 then s.coreOut .strongroom
      else if n = 12 then s.coreOut .supervisor
      else s

/-! Mode commands (R85–R88). -/

/-- MODE_CMD_HEARTH. -/
def execModeCmdHearth (byHost : Bool) (t : Nat) (s : State) : Host.Outcome State Fault Refusal :=
  s.act t fun s => s.modeCommand byHost .hearth
/-- MODE_CMD_CONFIGURE. -/
def execModeCmdConfigure (byHost : Bool) (t : Nat) (s : State) : Host.Outcome State Fault Refusal :=
  s.act t fun s => s.modeCommand byHost .configure
/-- MODE_CMD_ACTIVE. -/
def execModeCmdActive (byHost : Bool) (t : Nat) (s : State) : Host.Outcome State Fault Refusal :=
  s.act t fun s => s.modeCommand byHost .active
/-- MODE_CMD_QUIET. -/
def execModeCmdQuiet (byHost : Bool) (t : Nat) (s : State) : Host.Outcome State Fault Refusal :=
  s.act t fun s => s.modeCommand byHost .quiet
/-- MODE_CMD_STANDBY. -/
def execModeCmdStandby (byHost : Bool) (t : Nat) (s : State) : Host.Outcome State Fault Refusal :=
  s.act t fun s => s.modeCommand byHost .standby

/-- HELD_MODE_COMMAND (R86, R87): the latest held command executes once nothing holds it. -/
def execHeldModeCommand (t : Nat) (s : State) : Host.Outcome State Fault Refusal :=
  s.act t fun s =>
    match s.sys.heldCmd with
    | some m =>
      if s.holdsCmd m ∨ s.domOn 12 = false then s
      else ({ s with sys := { s.sys with heldCmd := none } } : State).commandRun m
    | none => s

/-! HEARTH and its wake. -/

/-- HEARTH_WAKE (R89, R373): wakes that arrive during HEARTH entry are latched; one that follows before domain 10 is back is
recorded as seen. -/
def execHearthWake (source : Fin 16) (t : Nat) (s : State) : Host.Outcome State Fault Refusal :=
  s.act t fun s => s.hearthPend source.val

/-- MODE_TRANSITION_COMPLETE (R66, R83, R88–R90, R467): the transition in progress ends once what it waits for is done. -/
def execModeTransitionComplete (e : StrEnv) (t : Nat) (s : State) : Host.Outcome State Fault Refusal :=
  s.act t fun s =>
    let quiet := allRegions.all (fun r => (s.carriersOn r).isEmpty)
    match s.sys.transition with
    | some ⟨_, .structural, _⟩ => s.applyEnd e
    | some ⟨_, .hearthEntry, _⟩ =>
      if quiet then
        let s := s.hearthEnter
        s.sys.latchedWake.foldl (fun s n => s.wakeBy n) s
      else s
    | some ⟨_, .yieldWait, _⟩ => s.yieldCheck
    | some ⟨m, .command, _⟩ => if quiet then s.commandDone m else s
    | none => s

/-! Faults (R20). -/

/-- UNIT_FAULT. -/
def execUnitFault (u : UnitId) (cause : Word) (t : Nat) (s : State) : Host.Outcome State Fault Refusal :=
  s.act t fun s => if s.domOn 10 then s.unitOut u cause.toNat else s

/-- CLUSTER_FAULT. -/
def execClusterFault (c : Fin 12) (cause : Word) (t : Nat) (s : State) : Host.Outcome State Fault Refusal :=
  s.act t fun s => if s.domOn 10 then s.clusterOut c.val cause.toNat else s

/-- RADIO_REGION_FAULT. -/
def execRadioRegionFault (r : Region) (cause : Word) (t : Nat) (s : State) : Host.Outcome State Fault Refusal :=
  s.act t fun s => s.regionOut r cause.toNat

/-- CORE_REGION_FAULT. -/
def execCoreRegionFault (p : CorePart) (t : Nat) (s : State) : Host.Outcome State Fault Refusal :=
  s.act t fun s => if s.domOn 10 then s.coreOut p else s

/-! Supplies and resets (R91–R93, R494–R499). -/

/-- POWER_ON (R88, R93). -/
def execPowerOn (st : Straps) (t : Nat) (s : State) : Host.Outcome State Fault Refusal :=
  s.act t fun s =>
    let waiting := s.sys.stage = 0 ∧ s.sys.warm = false ∧ (s.sys.mode = .off ∨ s.sys.mode = .returned)
    if s.sys.mainGood = false ∨ waiting then
      ({ s with sys := { s.sys with mainGood := true, coreGood := true, onBackup := false } } : State).powerOnReset false st
    else s

/-- SUPPLY_LOSS (R88): OFF from every mode; the Hearth goes on from the backup supply. [log 67: DEDUCED] -/
def execSupplyLoss (t : Nat) (s : State) : Host.Outcome State Fault Refusal :=
  s.act t fun s =>
    let s := s.packageReset false s.sys.straps
    { s with loftReady := false
             sys := { s.sys with mode := .off, mainGood := false, coreGood := false, coreEn := false, onBackup := true } }

/-- PIN_RESET: while `RESET_N` is low the QSPI pins are at high impedance, and a board programmer may write the flash (R444). -/
def execPinReset (p : PinLow) (t : Nat) (s : State) : Host.Outcome State Fault Refusal :=
  s.act t fun s => p.flash.foldl (fun s x => s.flashWrite x.1 x.2) ((s.pinScopeReset 1 p.straps).out .qspiHighZ)

/-- A trial bank whose start ends in a watchdog reset twice during one trial is rejected (R430). [log 86: DEDUCED] -/
def State.trialWatchdog (s : State) : State :=
  let x := s.nv.trial
  if x.active ∧ x.bank = s.sys.bank then
    s.nvShared fun c =>
      let n := c.trial.starts + 1
      { c with trial := { c.trial with starts := n
                                       rejectedA := c.trial.rejectedA || (decide (2 ≤ n) && ! x.bank)
                                       rejectedB := c.trial.rejectedB || (decide (2 ≤ n) && x.bank) } }
  else s

/-- WATCHDOG_RESET. -/
def execWatchdogReset (st : Straps) (t : Nat) (s : State) : Host.Outcome State Fault Refusal :=
  s.act t fun s => if s.domOn 12 then s.trialWatchdog.pinScopeReset 3 st else s

/-- Whether a write of `SYS.RESET` reaches it with its key and a KIND (R14, R92). -/
def State.resetWrite (s : State) (w : Word) (kind : Nat) : Bool :=
  s.domOn 10 && decide (3 ≤ s.sys.stage) && getBits w 24 8 == 0xC3 && getBits w 0 4 == kind

/-- HOST_RESET. -/
def execHostReset (w : Word) (st : Straps) (t : Nat) (s : State) : Host.Outcome State Fault Refusal :=
  s.act t fun s => if s.resetWrite w 1 then s.pinScopeReset 4 st else s

/-- RECOVERY_RESET: the start that follows takes the RECOVERY row. -/
def execRecoveryReset (w : Word) (st : Straps) (t : Nat) (s : State) : Host.Outcome State Fault Refusal :=
  s.act t fun s =>
    if s.resetWrite w 2 ∧ s.canReset then
      let s := s.pinScopeReset 5 st
      { s with sys := { s.sys with recoveryCmd := true } }
    else s

/-- PCIE_RESET (R91, R297): a link that goes down stays down until it trains again; `PERST_N` ends `WAKE_N` and raises
source 0x004. -/
def execPcieReset (k : PcieResetKind) (t : Nat) (s : State) : Host.Outcome State Fault Refusal :=
  s.act t fun s =>
    if s.domOn 15 ∧ s.domOn 10 then
      let s := s.pcieResetNow.pcieD0
      match k with
      | .linkDown => s.pcieLinkDown
      | .perst => (s.pcieAwake.clrb Reg.hifHostSleep 0).hearthSource 0x004
      | .hotReset => s
      | .functionLevel => s
    else if k = .perst then s.hearthPend 0x004
    else s

/-- BROWN_OUT (R499): a power-on reset; monitors of switched rails are ignored while `PWR_CORE_EN` is low. -/
def execBrownOut (st : Straps) (t : Nat) (s : State) : Host.Outcome State Fault Refusal :=
  s.act t fun s => if s.canReset ∧ s.sys.coreEn then s.powerOnReset true st else s

/-- SUPPLY_OUT_OF_RANGE (R84, R499). [log 152: DESIGN CHOICE] -/
def execSupplyOutOfRange (rail : Nat) (t : Nat) (s : State) : Host.Outcome State Fault Refusal :=
  s.act t fun s =>
    if s.sys.mainGood ∧ s.sys.coreEn then
      ({ s.when (s.domOn 12) (·.stk Reg.safTrouble 5) with sys := { s.sys with supplyBad := true } } : State).safe 0x04 rail
    else s

/-- SUPPLY_BACK_IN_RANGE (R84). [log 152: DESIGN CHOICE] -/
def execSupplyBackInRange (t : Nat) (s : State) : Host.Outcome State Fault Refusal :=
  s.act t fun s => { s with sys := { s.sys with supplyBad := false } }

/-- POWER_CORE_GOOD_LOW (R497): no reset in OFF and HEARTH, nor while a wake waits for the core rails. -/
def execPowerCoreGoodLow (t : Release) (s : State) : Host.Outcome State Fault Refusal :=
  s.act t.tick fun s =>
    let asleep := s.sys.mode == .hearth || (s.sys.mode == .off && s.sys.stage == 0) || ! s.canReset
    let s := if asleep then s else s.powerOnReset false t.straps
    { s with sys := { s.sys with coreGood := false } }

/-- POWER_CORE_GOOD_RISE (R97, R497): the root PLL may lock. -/
def execPowerCoreGoodRise (t : Nat) (s : State) : Host.Outcome State Fault Refusal :=
  s.act t fun s =>
    if s.sys.mainGood ∧ s.sys.coreEn then { s with sys := { s.sys with coreGood := true } } else s

/-- HEARTH_FEED_CHANGE (R494): source 0x006. -/
def execHearthFeedChange (backup : Bool) (t : Nat) (s : State) : Host.Outcome State Fault Refusal :=
  s.act t fun s =>
    ({ s with sys := { s.sys with onBackup := backup } } : State).hearthSource 0x006

/-- HEARTH_SUPPLY_LOSS (R494): with the main supplies absent, the Hearth stops and its contents are lost.
[log 67: DEDUCED] -/
def execHearthSupplyLoss (t : Nat) (s : State) : Host.Outcome State Fault Refusal :=
  s.act t fun s =>
    if s.sys.mainGood then s
    else
      { s.setRg Reg.sysResetCause 0 with
          sys := { s.sys with hearthOn := false, wake := none, latchedWake := [], onBackup := false, domains := 0 }
          tsu := { s.tsu with accum := 0, hearthCaps := [], ratio := State.reset.tsu.ratio }
          irq := { s.irq with hearthLeft := 0, wakeSeen := [], wakeSrc := none }
          twin := { s.twin with lastSync := none, hearthKept := false } }

/-- HEARTH_SUPPLY_RETURN (R494): it starts with empty contents. -/
def execHearthSupplyReturn (t : Nat) (s : State) : Host.Outcome State Fault Refusal :=
  s.act t fun s =>
    if s.sys.mainGood ∨ s.sys.hearthOn then s
    else { s with sys := { s.sys with hearthOn := true, onBackup := true, domains := 0x0001 } }

/-! Start-up (R94–R97). -/

/-- A stage reached. [log 33: DEDUCED] -/
def State.stageTo (s : State) (n : Nat) : State := { s with sys := { s.sys with stage := n, startTries := 0 } }

/-- ROOT_PLL_LOCK (R74, R78, R95): domains 2, 10 and 15 come on; OP_TIME and the timebase run; at a wake the time slept is
made up. A crystal that stopped while domain 10 was off sets SLOW_FAIL_STK now (R72). [log 158: DEDUCED] -/
def execRootPllLock (t : Nat) (s : State) : Host.Outcome State Fault Refusal :=
  s.act t fun s =>
    let off := s.sys.mode = .off ∨ s.sys.mode = .returned
    if s.sys.stage = 0 ∧ off ∧ s.domOn 1 ∧ s.sys.mainGood ∧ s.sys.coreGood ∧ s.sys.coreEn ∧ s.sys.tcxoBad = false then
      let s := (s.stageTo 1).maskSet 0x4203
      let s : State := { s with cellar := { s.cellar with opFrom := some s.now }
                                tsu := { s.tsu with base := 0, start := s.now, incr := nominalIncr, past := [], holdFrom := s.now } }
      let s := (((s.stk Reg.clkStatus 0).setb Reg.clkStatus 1 (! s.sys.slowBad)).setb Reg.clkStatus 2
        (! s.sys.ethRefBad)).setb Reg.clkStatus 3 (! s.sys.pcieRefBad)
      let s := s.when s.sys.slowBad (·.stk Reg.clkStatus 5)
      match s.sys.wake with
      | some w => s.timeMakeUp w
      | none => s
    else s

/-- A start-up step that did not end in time: retried, then halted at stage 0xF (R97). -/
def State.startRetry (s : State) (tries : Nat) : State :=
  if tries ≤ s.sys.startTries then { s with sys := { s.sys with stage := 0xF } }
  else { s with sys := { s.sys with startTries := s.sys.startTries + 1 } }

/-- PLL_LOCK_TIMEOUT. -/
def execPllLockTimeout (t : Nat) (s : State) : Host.Outcome State Fault Refusal :=
  s.act t fun s =>
    if s.sys.stage = 0 ∧ s.sys.mainGood ∧ s.sys.coreGood ∧ s.sys.coreEn ∧ s.sys.mode ≠ .hearth ∧
        s.sys.startTick + usTicks 200 ≤ s.now then s.startRetry 8
    else s

/-- DIE_LINK_TRAINED (R100). -/
def execDieLinkTrained (t : Nat) (s : State) : Host.Outcome State Fault Refusal :=
  s.act t fun s =>
    if s.sys.stage = 1 then
      { s.stageTo 2 with dieF2c := { DieDir.reset with up := true }, dieC2f := { DieDir.reset with up := true } }
    else s

/-- DIE_LINK_TRAIN_TIMEOUT (R103: BAD_LANE). -/
def execDieLinkTrainTimeout (badLane : Fin 64) (t : Nat) (s : State) : Host.Outcome State Fault Refusal :=
  s.act t fun s =>
    if s.sys.stage = 1 ∧ s.sys.startTick + usTicks 1200 ≤ s.now then
      (s.setRf Reg.clkDlinkStatus 8 8 badLane.val).startRetry 2
    else s

/-- PCIE_LINK_UP: at stage 2 BAR0 answers from now on; later the link is up again. -/
def execPcieLinkUp (t : Nat) (s : State) : Host.Outcome State Fault Refusal :=
  s.act t fun s =>
    if s.domOn 15 = false ∨ s.sys.pcieRefBad ∨ s.sys.stage < 2 ∨ s.sys.stage = 0xF then s
    else
      let s : State := { s with hif := { s.hif with linkUp := true } }
      let s := if s.sys.stage = 2 then s.stageTo 3 else s
      s.ringsKick.irqSend

/-- The NV TRIAL record as the mask ROM reads it. -/
def State.romTrial (s : State) : Trial :=
  ((s.upd.nv0.pick.or s.upd.nv1.pick).map (·.trial)).getD Trial.reset

/-- Whether a bank's header passes and the bank is not rejected (R429 step 1, R434). -/
def State.bankGood (s : State) (b : Bool) : Bool :=
  let c := s.bank b.toNat
  let x := s.romTrial
  let rejected := (if b then x.rejectedB else x.rejectedA) && decide (conCounter c = x.counter)
  (checkHeader s.fwRule c).isNone && ! rejected

/-- The order in which the banks are tried, and whether they have diverged (R429 step 2). -/
def State.bankOrder (s : State) : List Bool × Bool :=
  let a := conCounter (s.bank 0)
  let b := conCounter (s.bank 1)
  let both := s.bankGood false && s.bankGood true
  let diverged := both && a == b && conDigest (s.bank 0) != conDigest (s.bank 1)
  if s.sys.straps.mode1 = false ∧ s.sys.straps.mode0 then ([true, false], false)
  else if s.bankGood true && (! s.bankGood false || decide (a < b)) then ([true, false], diverged)
  else ([false, true], diverged)

/-- The bank the mask ROM starts; none: both refused. [log 86: DEDUCED] -/
def State.bankPick (s : State) : Option Bool :=
  s.bankOrder.1.find? (fun b => s.bankGood b && (checkContainer s.fwRule (s.bank b.toNat)).isNone)

/-- RECOVERY from the point at which a bank would start (R96, R441); a Pantry in retention loses its supply (R80). -/
def State.recoveryStart (s : State) : State :=
  let s := (((s.stageTo 0xE).when s.sys.retention (·.domDrop 16)).maskSet 0x6A03).offTamperTake
  let s : State := { s with upd := { s.upd with sessions := [], answered := [], lock := none }
                            sys := { s.sys with wake := none, warm := false, retention := false, bank := false } }
  s.cellarStart s.bootWord

/-- The trial as firmware finds it at a start: a trial whose bank was rejected has failed (R430); otherwise it goes on
with its saved time. -/
def State.trialStart (s : State) : State :=
  let x := s.nv.trial
  if x.active then
    if x.bank = s.sys.bank then { s with upd := { s.upd with trialAt := s.now, warned := decide (x.left ≤ 60) } }
    else (s.stk Reg.updStatus 3).nvShared (fun c => { c with trial := { c.trial with active := false } })
  else s

/-- A firmware in force writes a record FORMAT (R423); records the table still holds in an older one are migrated, a pass that a reset
cut short again from the first (R440). -/
def State.migrateStart (s : State) (format : Nat) : State :=
  let old := s.tab.loft.any fun kv => decide (recF kv.2 0xF0 2 < format)
  { s with upd := { s.upd with recordFormat := format, migrate := if old then some 0 else none, migrateAt := s.now } }

/-- Firmware of a bank starts on the active pair: settings, Cellar, key store (R394, R429, R438, R479).
[log 34: DEDUCED] -/
def State.firmwareStart (s : State) (b diverged : Bool) : State :=
  let s : State := { s with sys := { s.sys with bank := b }, upd := { s.upd with running := conCounter (s.bank b.toNat), runHdr := (conBlock (s.bank b.toNat) 0).take 64 } }
  let returned := s.key.lifecycle = .returned
  let s := ((s.stageTo 4).maskTake (if returned then .returned else .configure)).halfLoad s.pairs.active b
  let s := if s.nv.trial.active then s else s.migrateStart (max 1 (s.fwField 0x10 2))
  let s := s.cellarStart s.bootWord
  if returned then s
  else
    let s := s.nvStart.trialStart
    let s := if diverged then (s.stk Reg.updStatus 6).cell 0x53 0 0 0 else s
    let s := if s.sys.straps.mode1 ∧ s.sys.straps.mode0 then s.cell 0x12 3 0 0 else s
    s.keyCheck

/-- BOOT_BANK_SELECT (R94, R95, R97, R429). [log 34: DEDUCED] [log 66: DEDUCED]
[log 207: DESIGN CHOICE] -/
def execBootBankSelect (flashAnswers : Bool) (t : Nat) (s : State) : Host.Outcome State Fault Refusal :=
  s.act t fun s =>
    if s.sys.stage = 3 then
      if s.key.lifecycle = .returned then s.firmwareStart (s.bankPick.getD false) false
      else if s.sys.straps.recovery ∨ s.sys.recoveryCmd ∨ flashAnswers = false then s.recoveryStart
      else
        match s.bankPick with
        | some b => s.firmwareStart b s.bankOrder.2
        | none => s.recoveryStart
    else s

/-- LPDDR5_TRAINED (R95, R97): a channel that fails leaves the Loft unavailable. -/
def execLpddr5Trained (ok : Bool) (t : Nat) (s : State) : Host.Outcome State Fault Refusal :=
  s.act t fun s =>
    if s.sys.stage = 4 then
      let s : State := { s.stageTo 5 with loftReady := ok }
      if ok then s else s.oosRecord 3 0 0 0
    else s

/-- SELF_TEST_COMPLETE (R21, R95, R212): units that fail go out of service, and CONFIGURE or RECOVERY is reached; a SAFE cause that
stands leads on to SAFE at once (R88). [log 157: DESIGN CHOICE] -/
def execSelfTestComplete (failed : List UnitId) (t : Nat) (s : State) : Host.Outcome State Fault Refusal :=
  s.act t fun s =>
    if s.sys.stage = 0xE ∧ s.sys.mode = .off then s.modeTo .recovery
    else if s.sys.stage = 5 then
      let s := (failed.foldl (fun s u => s.unitOut u 0) s).stageTo 7
      if s.key.lifecycle = .returned then s
      else
        let left := s.sys.previous
        let s := s.dutyLoad.modeTo .configure
        let s : State := if s.sys.warm then { s with sys := { s.sys with previous := left } } else s
        match s.standingCause with
        | some c => s.safeNow c 0
        | none => s
    else s

end Sys2Proof.Machine
end

