-- ==== Sys2Proof/Machine/Monitor.lean ====
section
/-! DEFINITION. Machine/Monitor.lean: the supervisor's periodic work, functional safety (R468–R470) and the Cellar's commands
(R476–R488). -/

namespace Sys2Proof.Machine

/-! Periodic work. -/

/-- DUTY_SAVE (R212): every 10 s the sub-band totals and a trial's remaining time go to the NV settings. -/
def execDutySave (t : Nat) (s : State) : Host.Outcome State Fault Refusal :=
  s.act t fun s => if s.domOn 12 ∧ s.supFrozen = false ∧ s.upd.dutyAt + secTicks 10 ≤ s.now then s.dutySave.trialSave else s

/-- SUPERVISOR_CONTROL_CYCLE (R349, R485): every 10 ms, or where a trigger has realigned it; a clear of the Cellar ends with it.
`SAF.ECC_CORR_CNT` counts the errors corrected. [log 143: DEDUCED]
[log 68: DESIGN CHOICE] -/
def execSupervisorControlCycle (t : CycleSeen) (s : State) : Host.Outcome State Fault Refusal :=
  s.act t.tick fun s =>
    let s := s.when (s.domOn 12) (·.cntBy Reg.safEccCorrCnt t.corrected)
    if s.domOn 12 ∧ s.supHalted = false ∧ s.supFrozen = false ∧ s.tsu.cycleAt + msTicks 10 ≤ s.now then
      let s := ({ s with tsu := { s.tsu with cycleAt := s.now } } : State).cellarCleared
      allRegions.foldl (fun s r => if s.recalOld r then s.recalRaise r else s) s
    else s

/-- OP_TIME as MRAM holds it (R478). -/
def State.opSave (s : State) (op : Nat) : State := { s with cellar := { s.cellar with opSaved := op } }

/-- OP_TIME_SAVE (R478). -/
def execOpTimeSave (t : Nat) (s : State) : Host.Outcome State Fault Refusal :=
  s.act t fun s =>
    if s.domOn 12 ∧ s.cellar.opSaved + 60 ≤ s.opTime then
      s.opSave s.opTime
    else s

/-! Heartbeats (R469). -/

/-- The lanes that fail the period that ends: their heartbeat did not pass its check, or they were busy throughout with no frame
delivered whose FCS was good. [log 71: DEDUCED] -/
def State.hbFailing (s : State) : List (Fin 384) :=
  (List.finRange 384).filter (fun n => s.hbLane n.val && ! s.hif.hbPassed.contains n.val &&
    (s.hif.hbTaken.contains n.val || (! s.hif.busyOk.contains n.val && (s.lane n.val).isSome)))

/-- A lane that fails: counted, recorded and out of service. -/
def State.hbFail (s : State) (n : Fin 384) : State :=
  (((s.stk Reg.safTrouble 0).cnt Reg.safHbFailCnt).cell 0x63 n.val (n.val / 32) 0).unitOut (.lane n) 0

/-- The failures of a period judged: lanes, then clusters with two of them, then the delivery path. [log 71: DEDUCED] -/
def State.hbJudge (s : State) : State :=
  let l := s.hbFailing
  let clusters := (List.range 12).filter (fun c => l.any (fun n => n.val / 32 == c))
  let s := l.foldl (fun s n => s.hbFail n) s
  let s := clusters.foldl (fun s c => if 2 ≤ l.countP (fun n => n.val / 32 == c) then s.clusterOut c 0 else s) s
  if 2 ≤ clusters.length then s.safe 0x08 0 else s

/-- HEARTBEAT_PERIOD: the period that ends is judged, then every FREE lane takes the next heartbeat. -/
def execHeartbeatPeriod (t : HbSeen) (s : State) : Host.Outcome State Fault Refusal :=
  s.act t.tick fun s =>
    if s.str.active.isSome ∧ s.domOn 12 ∧ (s.saf.hbAt = 0 ∨ s.saf.hbAt + msTicks (s.safF 6 2) ≤ s.now) then
      let s := if s.saf.hbAt = 0 then s else s.hbJudge
      let s : State := { s with saf := { s.saf with hbAt := s.now }
                                hif := { s.hif with hbTaken := [], hbPassed := [], busyOk := [], hbWrong := t.wrong } }
      (List.range 384).foldl (fun s n => if (s.lane n).isSome then s else s.hbInject n) s
    else s

/-- The region that owns a byte of an on-chip partition goes out of service (R20, R24); the Pantry, the MRAM and the Loft are
recorded only. [log 161: DESIGN CHOICE] -/
def State.eccOwner (s : State) (partition addr : Nat) : State :=
  match partition with
  | 0 => s.coreOut .network
  | 1 => s.coreOut .network
  | 3 => s.regionOut (Region.ofIx (addr / 0x300000)) 0
  | 4 => s.coreOut .network
  | 5 =>
    if addr < 0x180000 then s.clusterOut (addr / 0x20000) 0
    else if addr < 0x200000 then s.coreOut .strongroom
    else s.coreOut .supervisor
  | _ => s

/-! Latent-fault tests (R470). -/

/-- A lockstep pair goes out of service (R19, R468): control passes to the other pair, SAFE when none is left. -/
def State.pairOut (s : State) (p : Fin 2) : State :=
  let s : State := { s with pairs := if p = 0 then { s.pairs with ok0 := false } else { s.pairs with ok1 := false } }
  let other : Fin 2 := if p = 0 then 1 else 0
  if s.pairOk other = false then s.safe 0x07 0
  else if s.pairs.active = p then
    let s := if (s.half other).isNone then s.halfLoad other s.sys.bank else s
    { s with pairs := { s.pairs with active := other } }
  else s

/-- What a failed test takes out of service. [log 72: DEDUCED] -/
def State.latentFail (s : State) (seen : LatentSeen) (pairs : List (Fin 2)) (i : Fin 8) : State :=
  let s := (s.stk Reg.safTrouble 1).cell 0x64 i.val 0 0
  let s : State := { s with saf := { s.saf with latentFailed := true } }
  match i with
  | 0 => seen.detector.foldl (fun s r => s.regionOut r 0) s
  | 1 => seen.cutoff.foldl (fun s r => s.regionOut r 0) s
  | 2 => seen.ecc.foldl (fun s x => s.eccOwner x.1.val x.2) s
  | 3 => pairs.foldl (fun s p => if s.pairOk p then s.pairOut p else s) s
  | 4 => s.safe 0x08 0
  | 5 => { s with twin := { s.twin with lineReadback := false } }
  | 6 => s.safe 0x03 0
  | 7 => s.safe 0x06 0

/-- LATENT_TEST_RUN: at start-up, after LATENT_INTERVAL_H, or asked for by `SAF.CMD`; the known-answer tests of R415 run with
it. [log 72: DEDUCED] -/
def execLatentTestRun (failed : List (Fin 8)) (region : LatentSeen) (pair : List (Fin 2)) (t : Nat) (s : State) :
    Host.Outcome State Fault Refusal :=
  s.act t fun s =>
    let due := s.rb Reg.safCmd 0 || decide (s.saf.latentAt = 0) ||
      (s.str.active.isSome && decide (s.saf.latentAt + secTicks (s.safF 8 1 * 3600) ≤ s.now))
    if s.domOn 12 ∧ due then
      let bits := ((List.finRange 8).map (fun i => if failed.contains i then 2 ^ i.val else 0)).sum
      let s := (s.setRg Reg.safLatentResult (BitVec.ofNat 32 bits)).clrb Reg.safCmd 0
      let s : State := { s with saf := { s.saf with latentAt := s.now } }
      let s := (s.when (s.domOn 11) (·.cnt Reg.cryKatCnt)).event 0x132
      ((List.finRange 8).filter failed.contains).foldl (fun s i => s.latentFail region pair i) s
    else s

/-- SAF_RUN_LATENT. -/
def execSafRunLatent (s : State) : Host.Outcome State Fault Refusal :=
  s.go fun s => if s.domOn 12 then s.setb Reg.safCmd 0 true else s.unmapped

/-! Temperature (R84, R468). -/

/-- OVERTEMP. -/
def execOvertemp (front core : Byte) (t : Nat) (s : State) : Host.Outcome State Fault Refusal :=
  s.act t fun s =>
    let s : State := { s with saf := { s.saf with tempFront := front, tempCore := core } }
    if s.domOn 2 ∧ s.tempAt s.overtempC then
      let s := s.when (s.domOn 12 && ! s.sys.hot) (·.stk Reg.safTrouble 4)
      ({ s with sys := { s.sys with hot := true } } : State).safe 0x03 0
    else s

/-- OVERTEMP_CLEARED. -/
def execOvertempCleared (front core : Byte) (t : Nat) (s : State) : Host.Outcome State Fault Refusal :=
  s.act t fun s =>
    let s : State := { s with saf := { s.saf with tempFront := front, tempCore := core } }
    if s.sys.hot ∧ s.tempAt (s.overtempC - 5) = false then
      { s with sys := { s.sys with hot := false } }
    else s

/-! Lockstep and ECC (R468). -/

/-- LOCKSTEP_MISCOMPARE (R19, R431, R434): it abandons a handover, and the trial pair falls back. -/
def execLockstepMiscompare (pair : Fin 2) (t : Nat) (s : State) : Host.Outcome State Fault Refusal :=
  s.act t fun s =>
    if s.domOn 12 ∧ s.pairOk pair then
      let s := ((s.stk Reg.safTrouble 3).cnt Reg.safLockstepCnt).cell 0x66 pair.val 0 0
      let s := if (s.upd.handover.any (·.ready)) ∧ pair = s.idlePair then s.handoverAnswer 10 0 else s.handoverEvent
      let s := if s.nv.trial.active ∧ s.pairs.active = pair then s.fallBack 2 else s
      s.pairOut pair
    else s

/-- An uncorrectable error in the Pantry drops the frame it falls in (R468), which no rule tells from its address: a free value names one of
the frames received that wait there, or none. [log 204: DESIGN CHOICE] -/
def State.pantryHit (s : State) : State :=
  let frames := allRegions.flatMap fun r =>
    ((s.hif.rxJobs.get r).zipIdx.filter (fun q => ! q.1.lost)).map fun q => (r, q.2)
  match frames[s.free.toNat % (frames.length + 1)]? with
  | some (r, i) =>
    ({ s.used with hif := { s.hif with rxJobs := s.hif.rxJobs.upd r (fun l => l.modify i (fun q => { q with lost := true })) } } :
      State).cnt Reg.hifPantryDropCnt
  | none => s.used

/-- ECC_UNCORRECTABLE. -/
def execEccUncorrectable (partition : Fin 8) (addr : Nat) (t : Nat) (s : State) : Host.Outcome State Fault Refusal :=
  s.act t fun s =>
    if s.domOn 12 then
      ((((s.stk Reg.safTrouble 2).cnt Reg.safEccUncorrCnt).cell 0x65 partition.val addr 0).when (partition == 2)
        (·.pantryHit)).eccOwner partition.val addr
    else s

/-! The Cellar (R483–R485, R488). -/

/-- CELLAR_CLEAR (R384, R385, R416, R485): the counter and the CLEARING flag are written; the clear goes on.
[log 68: DESIGN CHOICE] -/
def execCellarClear (m : Msg) (t : Nat) (s : State) : Host.Outcome State Fault Refusal :=
  s.act t fun s => s.mailLater m 5 (· == 0x90) 0 fun b s =>
    let y := omBody b
    let format := omFormat 5 (· == 16) b && slice y 4 12 == zeros 12
    let permitted := omSigner b == 0 && s.lifecycle == .field && ! s.noOwner && le y 0 4 == s.cellar.next
    match s.omCheck format permitted b with
    | some r =>
      let (s, result, rsp) := s.omRefuse 5 r b
      (s, some (result, rsp))
    | none =>
      let s := s.counterCommit (omCounter b)
      ({ s with cellar := { s.cellar with clearing := true, clearMsg := some (m.ring.val, m.desc.tag) } }, none)

/-- The record of a return, at its own index (R488). -/
def State.returnWrite (s : State) (y : Bytes) : State :=
  let x := cellRecord 0xF02 3 0 s.opTime s.cellar.powerCycles 0 (ticksMs (s.opTicks % 819200000)) (byteAt y 0) (le y 8 4)
    (le y 12 4)
  { s with cellar := { s.cellar with records := sput 0 s.cellar.records returnIx x, opSaved := s.opTime } }

/-- The steps of R488 after its checks: counter, held records, zeroisation, lifecycle, return record, RETURNED. -/
def State.returnNow (s : State) (b : Bytes) : State :=
  let s := ((s.when s.key.debugLatch (·.event 0x150)).transEnd.counterCommit (omCounter b)).cellThaw
  let s := allRegions.foldl (fun s r => s.muteRegion r .lockLost .late false) s
  let s := (s.yieldLine s.sys.mode).zeroise 3
  let s := (s.keyUpd fun k => { k with lifecycle := .returned, debugLatch := false, regenDue := false }).returnWrite (omBody b)
  (({ s with cellar := { s.cellar with frozenAt := none } } : State).scopeClose).imageDrop.modeTo .returned

/-- RETURN_MESSAGE (R382, R416, R488). -/
def execReturnMessage (m : Msg) (t : Nat) (s : State) : Host.Outcome State Fault Refusal :=
  s.act t fun s => s.mail m 4 (· == 0x90) 0 fun b s =>
    let y := omBody b
    let format := omFormat 4 (· == 16) b && decide (byteAt y 0 ≤ 4) && slice y 1 7 == zeros 7
    let permitted := match s.lifecycle with
      | .field => omSigner b == 0 && ! s.noOwner
      | .fieldDebug => omSigner b == 0
      | .returned => false
      | _ => omSigner b == 1 && (s.sys.mode == .configure || s.sys.mode == .safe)
    match s.omCheck format permitted b with
    | some r => s.omRefuse 4 r b
    | none => (s.returnNow b, 0, [])

/-- CELLAR_FREEZE. -/
def execCellarFreeze (t : Nat) (s : State) : Host.Outcome State Fault Refusal :=
  s.act t fun s =>
    if s.domOn 12 = false then s.unmapped
    else if s.key.lifecycle = .returned then s
    else { s with cellar := { s.cellar with frozenAt := some s.now } }

/-- CELLAR_UNFREEZE. -/
def execCellarUnfreeze (t : Nat) (s : State) : Host.Outcome State Fault Refusal :=
  s.act t fun s =>
    if s.domOn 12 = false then s.unmapped else if s.cellar.frozenAt.isSome then s.cellThaw else s

/-- FREEZE_TIMEOUT. -/
def execFreezeTimeout (t : Nat) (s : State) : Host.Outcome State Fault Refusal :=
  s.act t fun s =>
    match s.cellar.frozenAt with
    | some f => if f + secTicks 10 ≤ s.now then (s.stk Reg.recStatus 3).cellThaw else s
    | none => s

/-- REC_WIN0_READ (R484). -/
def execRecWin0Read (s : State) : Host.Outcome State Fault Refusal :=
  s.go fun s =>
    if s.domOn 12 = false then { s with readData := 0 }
    else
      let x := s.cellAt s.recCursor
      let s : State := { s with cellar := { s.cellar with latch := x }, readData := (x.setWidth 32).zeroExtend 64 }
      let s := s.setb Reg.recStatus 0 (cellGood x)
      s.when (getBits x 0 16 != 0 && ! cellGood x) (·.stk Reg.recStatus 1)

/-- REC_WIN7_READ: the cursor advances and wraps. -/
def execRecWin7Read (s : State) : Host.Outcome State Fault Refusal :=
  s.go fun s =>
    if s.domOn 12 = false then { s with readData := 0 }
    else { s.setRf Reg.recCursor 0 16 (s.recCursor + 1) with readData := BitVec.ofNat 64 (getBits s.cellar.latch 224 32) }

end Sys2Proof.Machine
end

