-- ==== Sys2Proof/Machine/Rx.lean ====
section
/-! DEFINITION. Machine/Rx.lean: the commands of whole-band reception (chapter 5). -/

namespace Sys2Proof.Machine

/-- The modes that receive (R79). -/
def Mode.receives (m : Mode) : Bool :=
  m == .active || m == .quiet || m == .degraded || m == .standby || m == .handover || m == .safe || m == .maintenance

/-- Whether a transition in progress has stopped reception: a structural application (R66 step 2), HEARTH entry (R90 step 1). -/
def State.rxStopped (s : State) : Bool :=
  match s.sys.transition with
  | some t => t.kind == .structural || t.kind == .hearthEntry
  | none => false

/-- Whether a region receives: in a receiving mode, in service, its DSP domain and the network domain on. -/
def State.rxLive (s : State) (r : Region) : Bool :=
  ! s.rxStopped && s.sys.mode.receives && s.powered r && (s.rad r).inService && s.domOn r.frontDom && s.domOn r.dspDom && s.domOn 9

/-- Whether the watcher of a slot is in service. -/
def State.watcherOk (s : State) (r : Region) (slot : Nat) : Bool :=
  ! s.oos.any (fun u => match u with | .watcher q n => q == r && n.val == slot | _ => false)

/-- Whether every sample from a tick on is valid for detection (R144): none marked under R106 or R109, none lost to the die link
(R102), none in the microsecond after a gain step (R162). [log 168: DEDUCED] -/
def State.samplesSince (s : State) (r : Region) (k : Nat) : Bool :=
  ! (s.rad r).invalid && decide ((s.rad r).validFrom ≤ k) && s.dieF2c.up && (spanSince s.dieF2c.gaps k).isNone &&
    (s.rxr r).gainLog.all (fun g => decide (g + usTicks 1 ≤ k))

/-- Whether a slot's watcher looks for a mode now, on samples valid since a preamble start (R144). [log 168: DEDUCED] -/
def State.watches (s : State) (r : Region) (slot mode preStart : Nat) : Bool :=
  s.rxLive r && s.slotOn r slot && bit (s.slotMask r slot) mode && s.watcherOk r slot && s.samplesSince r preStart &&
    decide (preStart ≤ s.now)

/-- The µs after the preamble start before which a watcher reports no detection of a mode: 240 for OFDM, 16 bit periods for
MR-FSK (R145). -/
def earliestReport : Nat → Nat
  | 5 => 320 | 6 => 160 | 7 => 80 | _ => 240

/-- The preamble level of a detection in 0.25 dBFS (R160): `level` in 0.5 dBm at the pins and `quarter` 0.25 dB above it. -/
def State.levelFs (s : State) (r : Region) (level : Int) (quarter : Bool) : Int :=
  2 * level + (if quarter then 1 else 0) + s.gainDb r (s.gainIndex r) + 24

/-- Whether a detection meets both parts of DETECT_THRESH (R144), and no rival of higher correlation has been seen within its
hold. [log 168: DEDUCED] -/
def State.detects (s : State) (r : Region) (slot : Nat) (level : Int) (quarter : Bool) (corr rival : Nat) : Bool :=
  let th := s.detectThresh r slot
  decide (s.noiseFloor r slot + (th / 256 : Nat) ≤ s.levelFs r level quarter) && decide (th % 256 ≤ corr) && decide (rival ≤ corr)

/-- The lanes of a slot take the running RSSI they have now (R152). -/
def State.rssiNow (s : State) (r : Region) (slot : Nat) (l : List (Nat × Int)) : State :=
  l.foldl (fun s nv =>
    match s.lane nv.1 with
    | some x => if x.region = r ∧ x.slot = slot then s.setLane nv.1 (some { x with level := nv.2, levelAt := s.now }) else s
    | none => s) s

/-- DETECTION_REPORT (R144–R146, R151, R152). `level` and `quarter` give the preamble level, `corr` the correlation in 1/256; `seen`
holds the correlation of another mode of the slot within the hold of 20 µs and the running RSSI of the slot's lanes. The
allocator serves the detection in its next free cycle. [log 169: DEDUCED] -/
def execDetectionReport (r : Region) (slot : Fin 512) (mode : Fin 8) (preStart : Nat) (level : Int) (quarter : Bool) (corr : Nat)
    (seen : SlotSeen) (t : Nat) (s : State) : Host.Outcome State Fault Refusal :=
  s.act t fun s =>
    if s.watches r slot mode preStart && decide (preStart + usTicks (earliestReport mode) ≤ s.now) &&
        s.detects r slot level quarter corr seen.rival then
      let cap := s.captureDb r slot
      let held := (s.slotRx r slot).reports.any (fun p =>
        p.1 == mode.val && decide (s.now < p.2.1 + usTicks (holdOff mode)) && (cap == 0 || decide (level < p.2.2 + cap)))
      if held then s.cnt (Reg.rxpSlotDetectMergedCnt r.ix slot)
      else
        let s := s.slotRxUpd r slot fun x =>
          { x with reports := x.reports.filter (fun p => p.1 != mode.val) ++ [(mode.val, s.now, level)] }
        let d : Detection := ⟨slot, mode, preStart, level, s.now⟩
        ((s.allocCycle r).rssiNow r slot seen.rssi).onDetection r d
    else s

/-- A reception of a slot becomes CONFIRMED: a CCA of the slot finds the channel busy (R207). -/
def State.ccaHeard (s : State) (r : Region) (slot : Nat) : State :=
  s.radUpd r fun d => { d with carriers := d.carriers.map (fun kv =>
    (kv.1, if kv.2.phase = .cca ∧ kv.2.job.map (·.slot) = some slot then { kv.2 with spoiled := true } else kv.2)) }

/-- HEADER_CHECK (R172, R174, R175, R181, R194, R282): a lane that passes has its timestamp, the sync word being behind it (R199, R201).
[log 194: DEDUCED] `rssi` is the lane's running RSSI in 0.5 dB. -/
def execHeaderCheck (lane : Fin 384) (h : HeaderRead) (cfo : Int) (rssi : Int) (t : Nat) (s : State) :
    Host.Outcome State Fault Refusal :=
  s.act t fun s =>
    match s.lane lane with
    | none => s
    | some l =>
      if l.confirmed ∨ l.deadline < s.now then s
      else
        match s.headerOutcome l h cfo with
        | none => s
        | some (.fail cs) => (cs.foldl (fun s a => s.cnt a) s).laneFailed lane l
        | some (.dropped a) => (s.cnt a).laneDropped lane l
        | some (.pass f) =>
          let s := s.slotPass l.region l.slot
          match s.pantryReserve (cellsFor f.length) (s.slotSafety l.region l.slot) with
          | none => ((s.cnt Reg.hifPantryDropCnt).stk Reg.hifTrouble 0).laneDropped lane l
          | some (rx, safety) =>
            let codes := if l.mode = 4 then (s.lmap l.region f.map).codes else 0
            ((s.pantryTake rx safety).setLane lane (some
              { l with confirmed := true, level := rssi, levelAt := s.now, trim := s.rg (Reg.txpTsTrimRx l.region.ix), length := f.length, map := f.map, rate := f.rate, dlHeld := f.dlHeld,
                       mcs := f.mcs, codes := codes, fcs2 := f.fcs2, seed := f.seed, dw := f.dw, rxCells := rx,
                       safetyCells := safety })).ccaHeard l.region l.slot

/-- HEADER_DEADLINE_EXPIRY (R145, R157). -/
def execHeaderDeadlineExpiry (lane : Fin 384) (t : Nat) (s : State) : Host.Outcome State Fault Refusal :=
  s.act t fun s =>
    match s.lane lane with
    | some l => if l.confirmed = false ∧ l.deadline ≤ s.now then s.laneFailed lane l else s
    | none => s

/-- PENDING_EXPIRY (R143, R153): every entry whose preamble start has grown too old. -/
def execPendingExpiry (r : Region) (t : Nat) (s : State) : Host.Outcome State Fault Refusal :=
  s.act t fun s => ((s.rxr r).pending.filter (fun d => s.tooOld d)).foldl (fun s d => s.pendExpired r d) s

/-- QUARANTINE_EXPIRY (R149): the slot's pending detections may take a lane again when one frees. -/
def execQuarantineExpiry (r : Region) (slot : Fin 512) (t : Nat) (s : State) : Host.Outcome State Fault Refusal :=
  s.act t fun s =>
    match (s.slotRx r slot).quarUntil with
    | some e => if e ≤ s.now then s.slotRxUpd r slot fun x => { x with quarUntil := none } else s
    | none => s

/-- The reception flags of a lane (R158) whose frame ends at a tick: what fell after its end did not fall inside the frame. -/
def Lane.flags (l : Lane) (e : Nat) : Byte :=
  let inside (x : Option Nat) : Nat := (x.any (fun k => decide (k < e))).toNat
  BitVec.ofNat 8 (l.overlapped.toNat + 2 * l.captured.toNat + 4 * inside l.gainStepped + 8 * inside l.blanked +
    16 * inside l.linkGap + 32 * l.reserved.toNat + 64 * l.lateStart.toNat)

/-- The payload symbols, or bits, of a lane's frame, over which its timing offset is measured (R195). -/
def Lane.units (l : Lane) : Nat :=
  if isFsk l.mode then 8 * l.length
  else if l.mode = 4 then nSym l.length l.rate (mapBits l.codes)
  else ceilDiv (8 * l.length + 6) (mcsRate l.mode l.mcs * 12 / 100)

/-- The receive job of a frame that passed its FCS asks for a job (R278); a full FIFO drops the frame. A frame delivered with
GAIN_STEPPED, BLANKED or LINK_GAP is counted (R166). The frame ends at the sample its lane reads. -/
def State.rxJobRequest (s : State) (n : Nat) (l : Lane) (rx : RxReport) : State :=
  if s.rxFifoFull l.region.ix then
    ((s.pantryFree l.rxCells l.safetyCells).cnt Reg.jobRxDropCnt).stk Reg.jobTrouble 0
  else
    let flags := l.flags (s.readAt l)
    let s := s.when (decide (flags &&& 0x1C ≠ 0)) (·.cnt (Reg.rxpSlotFlaggedCnt l.region.ix l.slot))
    let j : RxJob :=
      { lane := n, slot := l.slot, mode := l.mode, flags := flags, preStart := l.preStart, endTick := s.readAt l, map := l.map,
        rate := l.rate, dlHeld := l.dlHeld, mcs := l.mcs, rxCells := l.rxCells, safetyCells := l.safetyCells,
        snr := rx.air.snr l.mode, tones := rx.air.tones l.mode, units := l.units, trim := l.trim, lost := false, report := rx }
    let s : State := { s with hif := { s.hif with rxJobs := s.hif.rxJobs.upd l.region (· ++ [j]) } }
    s.jobRequest (s.newJob 0 (cellsFor l.length) l.region.ix)

end Sys2Proof.Machine

namespace Sys2Proof

open Machine

/-- Whether a report can be of a lane's frame: of its mode, and, where the FCS of what the lane decodes is good, with the MAC frame
that the octets before it hold (R205, R256). -/
def RxReport.fits (rx : RxReport) (l : Lane) : Bool :=
  rx.air.ofMode l.mode && (! fcsGood l.fcs2 (rx.air.psdu l) || rx.frame == readFrame (beforeFcs l.fcs2 (rx.air.psdu l)))

end Sys2Proof

namespace Sys2Proof.Machine

/-- FRAME_END (R158, R181, R192, R230, R282): the lane has decoded the payload with the content its map had at the header, and judges
the FCS. -/
def execFrameEnd (lane : Fin 384) (rx : RxReport) (t : Nat) (s : State) : Host.Outcome State Fault Refusal :=
  s.act t fun s =>
    match s.lane lane with
    | none => s
    | some l =>
      if l.confirmed = false ∨ rx.fits l = false then s
      else if fcsGood l.fcs2 (rx.air.psdu l) then
        let s := s.cnt (Reg.rxpSlotFrameOkCnt l.region.ix l.slot)
        let s : State := { s with hif := { s.hif with busyOk := if s.hif.busyOk.contains lane.val then s.hif.busyOk
                                                                else s.hif.busyOk ++ [lane.val] } }
        let full := s.rxFifoFull l.region.ix
        let s := (s.rxJobRequest lane l rx).laneEnd lane l false
        if full then s.strobeResume l.region l.slot l.preStart else s
      else
        ((s.cnt (Reg.rxpSlotFcsFailCnt l.region.ix l.slot)).pantryFree l.rxCells l.safetyCells).laneDropped lane l

/-- A value inserted into a sorted list. -/
def insertSorted (x : Int) : List Int → List Int
  | [] => [x]
  | y :: ys => if x ≤ y then x :: y :: ys else y :: insertSorted x ys

/-- The 10th percentile: the least value that at least a tenth of the values do not exceed; none of no values.
[log 106: DEDUCED] -/
def tenthPercentile (l : List Int) : Option Int :=
  let v := l.foldr insertSorted []
  v[ceilDiv v.length 10 - 1]?

/-- The blocks of the last 100 ms that a slot's noise floor is taken from, with one of 100 µs just ended unless it is left
out: a lane of the slot decoded in it or the samples were invalid (R147). [log 106: DEDUCED] -/
def State.noiseBlocks (s : State) (r : Region) (slot : Nat) (block : Int) : List (Nat × Int) :=
  let x := s.slotRx r slot
  let from_ := s.now - usTicks 100
  let out := ! (s.slotLanes r slot).isEmpty || decide (from_ < x.lastBusy) || (s.rad r).invalid ||
    decide (from_ < (s.rad r).validFrom) || (spanSince s.dieF2c.gaps from_).isSome
  let kept := x.blocks.filter (fun b => decide (s.now < b.1 + msTicks 100))
  if out then kept else kept ++ [(s.now, block)]

/-- NOISE_FLOOR_UPDATE (R147): `block` is the slot's power over the last 100 µs in 0.25 dB. [log 209: DESIGN CHOICE] -/
def execNoiseFloorUpdate (r : Region) (slot : Fin 512) (block : Int) (t : Nat) (s : State) : Host.Outcome State Fault Refusal :=
  s.act t fun s =>
    if s.rxLive r && decide (slot.val < s.slotCount r) then
      let blocks := s.noiseBlocks r slot block
      let s := s.slotRxUpd r slot fun x => { x with blocks := blocks }
      match tenthPercentile (blocks.map (·.2)) with
      | some f => s.setNoiseFloor r slot f
      | none => s
    else s

/-- Whether a tick lies in one of some spans. -/
def inSpans (l : List (Nat × Option Nat)) (k : Nat) : Bool :=
  l.any (fun x => decide (x.1 ≤ k) && (match x.2 with | some e => decide (k < e) | none => true))

/-- Samples enter the history ring, 2.5 µs apart up to the present, with their invalid marks; it keeps the last 800 (R141).
[log 197: DESIGN CHOICE] -/
def State.ringTake (s : State) (r : Region) (l : List (List (BitVec 36))) : State :=
  let at_ (i : Nat) : Nat := s.now - 2048 * (l.length - 1 - i)
  let marked (k : Nat) : Bool := inSpans (s.rad r).bad k || inSpans s.dieF2c.gaps k
  let new := l.zipIdx.map (fun x => (⟨at_ x.2, x.1, marked (at_ x.2)⟩ : RingSample))
  s.rxUpd r fun x => { x with ring := (x.ring ++ new).drop ((x.ring ++ new).length - 800) }

/-- BIN_POWER_UPDATE (R141, R161): the mean and peak power of the 1,024 bins, and the samples of the millisecond. -/
def execBinPowerUpdate (r : Region) (bins : BinBlock) (t : Nat) (s : State) : Host.Outcome State Fault Refusal :=
  s.act t fun s =>
    if s.domOn r.dspDom then
      ((bins.power.take 1024).zipIdx).foldl (fun s wi => s.setRg (Reg.rxpBinPwr r.ix wi.2) wi.1) (s.ringTake r bins.samples)
    else s

/-- GAIN_COMMAND (R162, R165): a write of `RXP.GAIN_CTRL`; with GO the index is applied at once or at the timed instant. -/
def execGainCommand (r : Region) (w : Word) (t : Nat) (s : State) : Host.Outcome State Fault Refusal :=
  s.act t fun s =>
    if s.domOn r.dspDom then
      let pending := (s.rxr r).gainTimed || (s.rxr r).gainDeferred.isSome
      let s := (s.setRf (Reg.rxpGainCtrl r.ix) 0 5 (getBits w 0 5)).setb (Reg.rxpGainCtrl r.ix) 30 (getBit w 30)
      if getBit w 31 then
        let s := s.when pending (·.stk (Reg.rxpGainStatus r.ix) 1)
        if getBit w 30 then
          if s.gainAt r * 2 ^ 32 < s.tbRaw then (s.stk (Reg.rxpGainStatus r.ix) 2).gainApply r (getBits w 0 5)
          else
            ((s.rxUpd r fun x => { x with gainTimed := true, gainDeferred := none }).stk (Reg.rxpGainCtrl r.ix) 31).stk
              (Reg.rxpGainStatus r.ix) 0
        else s.gainApply r (getBits w 0 5)
      else s
    else s

/-- GAIN_TIMED_APPLY (R162, R335). [log 108: DEDUCED] -/
def execGainTimedApply (r : Region) (t : Nat) (s : State) : Host.Outcome State Fault Refusal :=
  s.act t fun s =>
    if (s.rxr r).gainTimed ∧ s.gainAt r * 2 ^ 32 ≤ s.tbRaw then s.gainApply r (s.rf (Reg.rxpGainCtrl r.ix) 0 5) else s

/-- GAIN_DEFERRED_APPLY (R162): the oldest log entry is 2 ms old. -/
def execGainDeferredApply (r : Region) (t : Nat) (s : State) : Host.Outcome State Fault Refusal :=
  s.act t fun s =>
    match (s.rxr r).gainDeferred with
    | some i => s.gainApply r i
    | none => s

/-- What the meters have accumulated once some more samples are counted. -/
def State.histTake (s : State) (r : Region) (counts : List Word) (clipI clipQ : Word) : State :=
  let more := ((counts ++ List.replicate 64 0).take 64 ++ [clipI, clipQ]).map (·.toNat)
  s.rxUpd r fun x => { x with histAcc := (List.range 66).map (fun i => x.histAcc.getD i 0 + more.getD i 0) }

/-- A snapshot: the counts, the clips and the time covered go to their registers, saturating, and the accumulation restarts. -/
def State.histSnap (s : State) (r : Region) : State :=
  let w (i : Nat) : Word := BitVec.ofNat 32 (min 0xFFFFFFFF ((s.rxr r).histAcc.getD i 0))
  let span := min 0xFFFFFFFF (ticksUs (s.now - (s.rxr r).histFrom))
  let v := (List.range 64).foldl (fun v i => v.setRg (Reg.rxpHist r.ix i) (w i)) s
  (((((v.clrb (Reg.rxpHistCtrl r.ix) 31).setRg (Reg.rxpHistSpanUs r.ix) (BitVec.ofNat 32 span)).setRg
    (Reg.rxpClipISnap r.ix) (w 64)).setRg (Reg.rxpClipQSnap r.ix) (w 65)).rxUpd r fun x => { x with histAcc := [], histFrom := s.now }).event (0x83 + r.ix)

/-- HISTOGRAM_SNAPSHOT (R161): `counts` and the clip counts are of the samples since the last such command; with SNAP set the
snapshot is taken. [log 147: DEDUCED] -/
def execHistogramSnapshot (r : Region) (counts : List Word) (clipI clipQ : Word) (t : Nat) (s : State) :
    Host.Outcome State Fault Refusal :=
  s.act t fun s =>
    if s.domOn r.dspDom then
      let s := s.histTake r counts clipI clipQ
      if s.rb (Reg.rxpHistCtrl r.ix) 31 then s.histSnap r else s
    else s

end Sys2Proof.Machine
end

