-- ==== Sys2Proof/Machine/Twin.lean ====
section
/-! DEFINITION. Machine/Twin.lean: the commands of twin operation (R449–R467). -/

namespace Sys2Proof.Machine

/-- LINK_TIMEOUT_MS and TAKEOVER_MS in ticks (R56). -/
def State.linkTimeout (s : State) : Nat := msTicks (s.twnF 0x2A 2)
def State.takeoverLimit (s : State) : Nat := msTicks (s.twnF 0x2C 2)

/-! The line. -/

/-- A claim is abandoned: the line is the peer's (R449 step 4, R88). -/
def State.claimLost (s : State) : State :=
  let s := s.twinUpd fun t => { t with claimFrom := none, probeAt := none, probeOk := false }
  if s.sys.mode = .handover then ((s.yieldLine .handover).modeTo .standby).resyncAsk else s

/-- A carrier's transmission is without the front die's permission from one tick to another (R450). -/
def State.airHole (s : State) (r : Region) (c : Nat) (a b : Nat) : State :=
  let x := s.carrier r c
  match x.job with
  | some j => if x.onAir then s.setCarrier r c { x with job := some (j.hole a b) } else s
  | none => s

/-- What is on air in a region is without the permission from one tick to another (R450). -/
def State.airHoles (s : State) (r : Region) (a b : Nat) : State := (List.range 4).foldl (fun s c => s.airHole r c a b) s

/-- Since when this package's drive is on and the line reads released. -/
def State.gateSet (s : State) (g : Option Nat) : State := s.twinUpd fun t => { t with gateFrom := g }

/-- The permission of R450 goes with the line while this package's drive is on, and comes back with it: what is on air has a hole. -/
def State.gateMove (s : State) (released : Bool) : State :=
  if released then s.gateSet (if s.twin.ownDrive then some s.now else none)
  else
    match s.twin.gateFrom with
    | some g => (allRegions.foldl (fun s r => s.airHoles r g s.now) s).gateSet none
    | none => s

/-- TWIN_OWN_CHANGE (R88, R449, R450): source 0x002; a standby begins a claim, and a claim in progress ends where the peer's
comes first. -/
def execTwinOwnChange (released : Bool) (t : Nat) (s : State) : Host.Outcome State Fault Refusal :=
  s.act t fun s =>
    if s.domOn 1 = false ∨ s.twin.released = released then s
    else
      let s := ((s.twinUpd fun t => { t with released := released }).gateMove released).hearthSource 0x002
      if released then (if s.sys.mode = .standby then s.claimBegin else s)
      else if s.twin.ownDrive then s
      else if s.twin.claimFrom.isSome ∨ s.sys.mode = .handover then s.claimLost
      else s

/-- CLAIM_DELAY_EXPIRY (R449, R451, R463): the line is sampled and driven, or the claim abandoned. -/
def execClaimDelayExpiry (t : Nat) (s : State) : Host.Outcome State Fault Refusal :=
  s.act t fun s =>
    match s.twin.claimFrom with
    | some f =>
      let allowed := s.twin.probeOk || s.twin.l.link != 3
      if s.now < f + usTicks 50 + s.claimDelay ∨ allowed = false ∨ (s.sys.mode ≠ .standby ∧ s.sys.mode ≠ .handover) then s
      else if s.good = false then s.twinUpd fun t => { t with claimFrom := none, probeAt := none, probeOk := false }
      else if s.twin.released then
        let up := s.twin.l.link == 3
        let k := s.claimRaise
        let s := (s.twinUpd fun t => { t with claimFrom := none, probeAt := none, probeOk := false, ownDrive := true,
                                              released := false, raise := some k, claimAt := s.now }).event 0x002
        let s := s.when up (·.twinNow 3 [])
        if s.sys.mode = .standby then
          ({ s with sys := { s.sys with quietClaim := false } } : State).modeTo .handover
        else s
      else s.claimLost
    | none => s

/-- LINE_FAULT (R450): own drive on while the line reads released for more than 10 µs. -/
def execLineFault (t : Nat) (s : State) : Host.Outcome State Fault Refusal :=
  s.act t fun s =>
    if s.twinMode ∧ s.twin.ownDrive ∧ s.twin.released ∧ s.twin.gateFrom.any (fun g => decide (g + usTicks 10 < s.now)) then
      (s.stk Reg.twnStatus 6).safe 0x01 2
    else s

/-- TAKEOVER_COMPLETE (R88, R452). -/
def execTakeoverComplete (t : Nat) (s : State) : Host.Outcome State Fault Refusal :=
  s.act t fun s =>
    if s.sys.mode = .handover ∧ s.twin.ownDrive ∧ s.now < s.twin.claimAt + s.takeoverLimit then
      let quiet := s.sys.quietClaim
      let us := ticksUs (s.now - s.twin.claimAt)
      let s := (s.peerDutyLoad.modeTo (if quiet then .quiet else s.activeMode)).stk Reg.twnStatus 0
      let s := (s.when (! quiet) (·.cnt Reg.twnTakeoverCnt)).cell 0x62 us 0 0
      (s.dls.queues.map (·.1)).foldl (fun s h => s.porchBook h) s
    else s

/-- TAKEOVER_TIMEOUT (R452). -/
def execTakeoverTimeout (t : Nat) (s : State) : Host.Outcome State Fault Refusal :=
  s.act t fun s =>
    if s.sys.mode = .handover ∧ s.twin.ownDrive ∧ s.twin.claimAt + s.takeoverLimit ≤ s.now then
      s.lineRelease.safe 0x01 2
    else s

/-! Frames received. -/

/-- An encrypted frame received (R458), and what its ACK ends (R467). -/
def State.twinHear (s : State) (type : Nat) (raw : Bytes) (f : Bytes → State → State) : State :=
  (s.twinRecv type raw f).yieldCheck

/-- The device ID of the other package (R56). -/
def State.peerId (s : State) : Bytes := slice (s.sec 16) (if s.isB then 8 else 0x18) 16

/-- A HELLO taken (R456): keys derived, CONFIRM sent; a version too old keeps the link down. -/
def State.helloTake (s : State) (p : Bytes) : State :=
  let own := min 1 (byteAt p 0)
  if own < 1 ∨ own < byteAt p 1 then (s.stk Reg.twnStatus 4).linkUpd fun l => { l with slowHello := true }
  else
    let nonce := slice p 24 16
    if s.twin.l.link = 2 ∧ s.twin.l.peerNonce = nonce then s.helloEmit
    else ((s.helloEmit.twinKeys nonce).setLink 2).twinEmit 2 (s.helloEmit.twinKeys nonce).confirmBody

/-- TWIN_RX_HELLO. [log 82: DEDUCED] -/
def execTwinRxHello (raw : Bytes) (t : Nat) (s : State) : Host.Outcome State Fault Refusal :=
  s.act t fun s =>
    if s.laneUp = false ∨ takesType 1 raw = false then s
    else if twinCrcOk raw = false then s.cnt Reg.twnCrcFailCnt
    else if byteAt raw 0 ≠ 1 then s.authFail
    else
      let p := slice raw 0x14 (rawLen raw)
      let match_ := decide (rawLen raw = 40) && byteAt p 2 == (! s.isB).toNat && le p 4 4 == s.twnF 4 4 &&
        slice p 8 16 == s.peerId
      if match_ ∧ s.twin.l.link < 3 then s.helloStart.helloTake p else s

/-- The pair digests compared at CONFIRM (R59, R457). [log 62: DEDUCED] -/
def State.digestCheck (s : State) (p : Bytes) : State :=
  if p.take 32 = (s.str.active.map (·.pairDigest)).getD (zeros 32) then s.clrb Reg.strState 15
  else
    let s := s.stk Reg.twnStatus 3
    let preferred := (s.twnF 1 1 == 1) == s.isB
    if s.twin.ownDrive ∨ (s.peerHeld = false ∧ preferred) then s else (s.cell 0x60 0x61 0 0).safe 0x0A 0

/-- A health word of the peer (R466, R475): source 0x122 when GOOD or SYNC changed. -/
def State.peerWord (s : State) (w : Word) : State :=
  let old := s.twin.l.peerHealth
  let changed := getBits w 28 2 != getBits old 28 2 || getBit w 31 != getBit old 31
  (s.linkUpd fun l => { l with peerHealth := w, peerAt := s.now }).when changed (·.event 0x122)

/-- The link has come up: the pair digests are compared, a claim under way probes, a standby asks for resynchronisation (R451, R457,
R464). -/
def State.linkedUp (s : State) (p : Bytes) : State :=
  let s := s.digestCheck p
  (s.when s.twin.claimFrom.isSome (·.probe)).resyncAsk

/-- TWIN_RX_CONFIRM: the link is up; a standby asks for resynchronisation. [log 83: DEDUCED] -/
def execTwinRxConfirm (raw : Bytes) (t : Nat) (s : State) : Host.Outcome State Fault Refusal :=
  s.act t fun s => s.twinHear 2 raw fun p s =>
    if s.twin.l.link = 2 ∧ p.length = 56 then
      let s := (((s.twinUpd fun t => { t with silent := false }).setLink 3).linkUpd fun l =>
        { l with peerConfirmed := true, peerAccum := sgn 64 (le p 44 8) }).peerWord (BitVec.ofNat 32 (le p 40 4))
      (s.linkedUp p)
    else s

/-- TWIN_RX_CLAIM: it reports the peer's claim, which the line itself shows. -/
def execTwinRxClaim (raw : Bytes) (t : Nat) (s : State) : Host.Outcome State Fault Refusal :=
  s.act t fun s => s.twinHear 3 raw fun _ s => s

/-- TWIN_RX_YIELD: it announces a release, which the line itself shows. -/
def execTwinRxYield (raw : Bytes) (t : Nat) (s : State) : Host.Outcome State Fault Refusal :=
  s.act t fun s => s.twinHear 4 raw fun _ s => s

/-- A probe that has gone unanswered for LINK_TIMEOUT_MS (R451). -/
def State.probeLate (s : State) : Bool := (s.twin.probeAt.map fun k => decide (k + s.linkTimeout < s.now)) == some true

/-- The health word answers the probe of a claim, the peer having taken it (R451). -/
def State.probeAnswer (s : State) : State :=
  if s.twin.probeAt.isSome ∧ s.twin.claimFrom.isSome ∧ s.probeLate = false ∧ s.probeSeen then
    if s.peerHeld then
      ((s.twinUpd fun t => { t with claimFrom := none, probeAt := none, probeOk := false }).stk Reg.twnStatus 7).cell 0x61
        s.twin.l.peerHealth.toNat 0 0
    else s.twinUpd fun t => { t with probeAt := none, probeOk := true }
  else s

/-- TWIN_RX_HEALTH (R451, R466). -/
def execTwinRxHealth (raw : Bytes) (t : Nat) (s : State) : Host.Outcome State Fault Refusal :=
  s.act t fun s => s.twinHear 0x10 raw fun p s =>
    if p.length = 16 then (s.peerWord (BitVec.ofNat 32 (le p 0 4))).probeAnswer else s

/-- TWIN_RX_KEEPALIVE. -/
def execTwinRxKeepalive (raw : Bytes) (t : Nat) (s : State) : Host.Outcome State Fault Refusal :=
  s.act t fun s => s.twinHear 0x11 raw fun _ s => s

/-- TWIN_RX_PROBE: answered with a HEALTH frame. -/
def execTwinRxProbe (raw : Bytes) (t : Nat) (s : State) : Host.Outcome State Fault Refusal :=
  s.act t fun s => s.twinHear 0x12 raw fun _ s => s.healthSend

/-- Whether this package applies the stream: the standby, and what it received before it takes over (R452, R461). -/
def State.applies (s : State) : Bool := (s.sys.mode == .standby || s.sys.mode == .handover) && ! s.twin.ownDrive

/-- LAST_SYNC (R463). -/
def State.syncMark (s : State) : State :=
  s.twinUpd fun t => { t with lastSync := some (s.now / slowTick), hearthKept := true }

/-- TWIN_RX_MIRROR. -/
def execTwinRxMirror (raw : Bytes) (t : Nat) (s : State) : Host.Outcome State Fault Refusal :=
  s.act t fun s => s.twinHear 0x20 raw fun p s => if s.applies then (s.mirrorItems p.length p).syncMark else s

/-- TWIN_RX_RESYNC_REQ: the active package streams. -/
def execTwinRxResyncReq (raw : Bytes) (t : Nat) (s : State) : Host.Outcome State Fault Refusal :=
  s.act t fun s => s.twinHear 0x22 raw fun _ s =>
    if s.twin.ownDrive then s.twinUpd fun t => { t with cursor := some 0 } else s

/-- TWIN_RX_RESYNC_DATA: the mirrored groups of each record. -/
def execTwinRxResyncData (raw : Bytes) (t : Nat) (s : State) : Host.Outcome State Fault Refusal :=
  s.act t fun s => s.twinHear 0x23 raw fun p s =>
    let n := le p 4 4
    if s.applies ∧ 1 ≤ n ∧ n ≤ 7 ∧ p.length = 8 + 256 * n then
      ((List.range n).foldl (fun s i =>
        s.mirrorApply ((le p 0 4 + i) % 262144) (bvOf 2048 (slice p (8 + 256 * i) 256)) 0x7F) s).syncMark
    else s

/-- TWIN_RX_RESYNC_DONE: IN_SYNC; source 0x123. -/
def execTwinRxResyncDone (raw : Bytes) (t : Nat) (s : State) : Host.Outcome State Fault Refusal :=
  s.act t fun s => s.twinHear 0x24 raw fun _ s =>
    if s.applies ∧ s.twin.sync = 1 then
      (((s.twinUpd fun t => { t with sync := 2 }).cnt Reg.twnResyncCnt).event 0x123).syncMark
    else s

/-! Container transfers (R459). -/

/-- TWIN_RX_XFER_START: taken only while TWIN_UPDATE_EN is 1. -/
def execTwinRxXferStart (raw : Bytes) (t : Nat) (s : State) : Host.Outcome State Fault Refusal :=
  s.act t fun s => s.twinHear 0x40 raw fun p s =>
    let target := byteAt p 0
    let x : Session := ⟨target, false, [], 0, []⟩
    if s.rb Reg.updCtrl 1 = false then s
    else if 4 < target then s.sessEnd 6 x 2
    else
      match s.sessRefused 6 target with
      | some r => (s.when (r == 8) (·.slotBusy 6)).sessEnd 6 x r
      | none =>
        match s.sessFeed 6 x (p.drop 4) true with
        | (s, some r) => s.sessEnd 6 x r
        | (s, none) => s

/-- TWIN_RX_XFER_DATA: the bytes at the offset reached; bytes already held are passed over. -/
def execTwinRxXferData (raw : Bytes) (flashOk : Bool) (t : Nat) (s : State) : Host.Outcome State Fault Refusal :=
  s.act t fun s => s.twinHear 0x41 raw fun p s =>
    match s.sess 6 with
    | some x =>
      let o := le p 0 4
      let d := p.drop 4
      if o + d.length ≤ x.data.length then s
      else if o ≠ x.data.length then s.sessEnd 6 x 2
      else
        match s.sessFeed 6 x d flashOk with
        | (s, some r) => s.sessEnd 6 x r
        | (s, none) => s
    | none => s

/-- TWIN_RX_XFER_END. -/
def execTwinRxXferEnd (raw : Bytes) (flashOk : Bool) (t : Nat) (s : State) : Host.Outcome State Fault Refusal :=
  s.act t fun s => s.twinHear 0x42 raw fun p s =>
    match s.sess 6 with
    | some x =>
      if le p 0 4 ≠ x.data.length then s.sessEnd 6 x 2 else s.sessClose 6 x flashOk
    | none => s

/-- TWIN_RX_XFER_RSP (R459): the offer that the transfer carried is answered; source 0x126. -/
def execTwinRxXferRsp (raw : Bytes) (t : Nat) (s : State) : Host.Outcome State Fault Refusal :=
  s.act t fun s => s.twinHear 0x43 raw fun p s => (s.offerTold (byteAt p 0)).event 0x126

/-! Timers of the link. -/

/-- TWIN_HELLO_TIMER (R456): every 10 ms, or every 1 s after a version mismatch. -/
def execTwinHelloTimer (t : Nat) (s : State) : Host.Outcome State Fault Refusal :=
  s.act t fun s =>
    if s.laneUp = false ∨ 2 ≤ s.twin.l.link then s
    else if s.twin.l.link = 0 then s.helloStart.helloEmit
    else if s.twin.l.lastTx + (if s.twin.l.slowHello then secTicks 1 else msTicks 10) ≤ s.now then s.helloEmit
    else s

/-- TWIN_RETRANSMIT_TIMER (R458). -/
def execTwinRetransmitTimer (t : Nat) (s : State) : Host.Outcome State Fault Refusal :=
  s.act t fun s =>
    let l := s.twin.l
    if s.laneUp ∧ 2 ≤ l.link ∧ l.unacked ≠ [] ∧ l.ackAt + usTicks 100 ≤ s.now then
      (l.unacked.foldl (fun (s : State) u => s.out (.twinFrame u.raw)) s).linkUpd fun l =>
        { l with ackAt := s.now, lastTx := s.now }
    else s

/-- Whether no transfer has frames to send. -/
def State.offerIdle (s : State) : Bool := match s.twin.offer with | some x => x.left.isEmpty | none => true

/-- TWIN_KEEPALIVE_TIMER (R458). -/
def execTwinKeepaliveTimer (t : Nat) (s : State) : Host.Outcome State Fault Refusal :=
  s.act t fun s =>
    let l := s.twin.l
    if s.laneUp ∧ 2 ≤ l.link ∧ l.outQueue = [] ∧ s.twin.mirror = [] ∧ s.twin.cursor = none ∧ s.offerIdle ∧ l.lastTx + msTicks 1 ≤ s.now ∧
        s.twinRoom then
      s.twinEmit 0x11 []
    else s

/-- PEER_SILENT_STK (R451): in a standby whose peer holds the line, once the link is down and LINK_TIMEOUT_MS has passed since
its last verified frame; once for each time. [log 186: DEDUCED] -/
def State.peerSilent (s : State) : State :=
  if s.twinMode ∧ s.sys.mode = .standby ∧ s.twin.released = false ∧ s.twin.l.link < 3 ∧ s.twin.silent = false ∧
      s.twin.l.lastRx + s.linkTimeout ≤ s.now then
    (s.twinUpd fun t => { t with silent := true }).stk Reg.twnStatus 2
  else s

/-- Whether a reservation sent has gone unacknowledged for LINK_TIMEOUT_MS (R462). [log 186: DEDUCED] -/
def State.reservationLate (s : State) : Bool :=
  s.twin.l.unacked.any (fun u => ! (frameReservations u.type u.payload).isEmpty && decide (u.sent + s.linkTimeout ≤ s.now))

/-- TWIN_LINK_TIMEOUT (R451, R458, R462). -/
def execTwinLinkTimeout (t : Nat) (s : State) : Host.Outcome State Fault Refusal :=
  s.act t fun s =>
    (if 2 ≤ s.twin.l.link ∧ (s.twin.l.lastRx + s.linkTimeout ≤ s.now ∨ s.reservationLate) then s.linkDown else s).peerSilent

/-- TWIN_BLOCK_LOCK_LOSS (R458). -/
def execTwinBlockLockLoss (t : Nat) (s : State) : Host.Outcome State Fault Refusal := s.act t fun s => s.linkDown

/-- The size of a partition of R23 or R24, the Loft's as it is fitted (R25), in bytes. -/
def State.partSize (s : State) : Fin 8 → Nat
  | 0 => 16 * 2 ^ 20 | 1 => 20 * 2 ^ 20 | 2 => 8 * 2 ^ 20 | 3 => 9 * 2 ^ 20 | 4 => 5 * 2 ^ 20 | 5 => 6 * 2 ^ 20 | 6 => 8 * 2 ^ 20
  | 7 => s.loftGiB * 2 ^ 30

/-- The byte of a partition that the scrub of a standby has come to, at 1 MiB/s from its first byte on (R465). [log 203: DEDUCED] -/
def State.scrubAt (s : State) (p : Fin 8) : Option Nat :=
  s.saf.bg.map fun b => (s.now - b.since) * 2 ^ 20 / secTicks 1 % s.partSize p

/-- The background self-test of a standby (R465): a test frame in each idle lane that is in service, the scrub going on. A unit that fails is
reported as a fault. [log 203: DEDUCED] -/
def State.selfTest (s : State) : State :=
  let lanes := (List.range 384).filter (fun n => s.hbLane n && (s.lane n).isNone)
  { s with saf := { s.saf with bg :=
    if s.sys.mode = .standby then some ⟨lanes, (s.saf.bg.map (·.since)).getD s.now⟩ else none } }

/-- TWIN_HEALTH_PERIOD (R451, R465, R466): the health word goes out, a standby's self-test goes on, and a standby that finds the line released and has
no claim under way, or one whose probe has gone unanswered, begins one. [log 186: DEDUCED] -/
def execTwinHealthPeriod (t : Nat) (s : State) : Host.Outcome State Fault Refusal :=
  s.act t fun s =>
    if s.twinMode ∧ s.domOn 12 then
      let s := s.healthSend.selfTest
      if (s.sys.mode = .standby ∨ s.sys.mode = .handover) ∧ (s.twin.claimFrom = none ∨ s.probeLate) then s.claimBegin else s
    else s

/-- TWIN_FRAME_SEND (R458, R461, R464, R466). -/
def execTwinFrameSend (t : Nat) (s : State) : Host.Outcome State Fault Refusal := s.act t fun s => s.twinSendNext

/-- STANDBY_ACK_TIMEOUT (R467): the command is refused and the mode goes on. -/
def execStandbyAckTimeout (t : Nat) (s : State) : Host.Outcome State Fault Refusal :=
  s.act t fun s =>
    match s.sys.transition with
    | some ⟨_, .yieldWait, since⟩ =>
      if since + s.linkTimeout ≤ s.now ∧ s.mirrorDone = false then
        ({ s with sys := { s.sys with transition := none } } : State).stk Reg.sysModeCmd 29
      else s.yieldCheck
    | _ => s

end Sys2Proof.Machine
end

