-- ==== Sys2Proof/Machine/Update.lean ====
section
/-! DEFINITION. Machine/Update.lean: the commands of firmware update, handover and recovery (chapter 14). -/

namespace Sys2Proof.Machine

/-! Offers (R425–R427). -/

/-- Slots of the node-image store: what remains of the Loft, up to 4 GiB, in slots of 64 MiB (R57, R421). -/
def State.bundleSlots (s : State) : Nat :=
  let spill := s.tabF 0x38 2 + s.tabF 0x3A 2 + s.tabF 0x3C 2
  let pools := s.poolMib .L + s.poolMib .M + s.poolMib .H
  if s.loftReady then min 64 ((s.loftGiB * 1024 - (64 + pools + spill)) / 64) else 0

/-- What a bundle container must satisfy (R421). -/
def State.bundleRule (s : State) (n : Nat) : ContainerRule :=
  { type := 3, minLen := 64, maxLen := 67108864, stated := some n, deviceId := s.key.deviceId,
    minCounter := s.upd.bundleCounter, keys := if s.canVerify then ((s.key.live.bind (·.owner)).map (fun k => [k])).getD [] else [] }

/-- Whether a bundle's payload header is good (R424). -/
def bundleHeaderOk (p : Bytes) : Bool :=
  slice p 0 4 == [0x45, 0x56, 0x4E, 0x42] && le p 4 2 == 1 && decide (le p 6 2 ≤ 1) && le p 8 4 + 64 == p.length &&
    le p 0xC 4 == 0 && le p 0x1C 4 == 0 && slice p 0x30 16 == zeros 16 &&
    (bit (le p 6 2) 0 || slice p 0x20 16 == zeros 16)

/-- The plaintext of a bundle (R424); none: it cannot be decrypted. -/
def State.bundlePlain (s : State) (c : Bytes) : Option Bytes :=
  let p := conPayload c
  if bit (le p 6 2) 0 then
    match (s.key.live.bind (·.image)).bind s.key.unwrap with
    | some k =>
      let key := kdf k labelIM (toLE 2 3 ++ toLE 8 (conCounter c)) 32
      (Config.gcmOpen key (slice p 0x10 12) (p.take 16) (p.drop 64) (slice p 0x20 16)).map (fun d => p.take 64 ++ d)
    | none => none
  else some p

/-- Whether the fields of an offer lie in their ranges (R425). `firmware` is the TYPE the container bears. -/
def State.offerFields (s : State) (b : Bytes) (firmware : Bool) : Bool :=
  let action := byteAt b 0xC
  let slot := byteAt b 0xD
  let confirm := le b 0xE 2
  le b 0 8 % 4 == 0 && decide (action ≤ 1) && le b 0x10 4 == 0 && slice b 0x14 12 == zeros 12 &&
    (if firmware then slot == 0 else decide (slot < s.bundleSlots) && action == 0) &&
    (if action = 1 then confirm == 0 || decide (60 ≤ confirm) else confirm == 0)

/-- An offer answered (R426): `UPD.LAST_RESULT` and source 0x110 follow. -/
def State.offerAnswer (s : State) (result counter place block : Nat) : State × Option (Nat × Bytes) :=
  ((s.lastResult 2 result).event 0x110, some (result, offerRsp counter place 0 block))

/-- An offer that has its answer frees the lock where it took it. [log 74: DEDUCED] -/
def State.offerDone (s : State) (result counter place block : Nat) : State × Option (Nat × Bytes) :=
  (s.when (s.upd.lock == some 2) (·.lockFree)).offerAnswer result counter place block

/-- An offer of firmware (R427, R430, R431). -/
def State.offerFirmware (s : State) (m : Msg) (b c : Bytes) (flashOk : Bool) : State × Option (Nat × Bytes) :=
  let bank := s.idleBank
  let ctr := conCounter c
  let confirm := if le b 0xE 2 = 0 then 600 else le b 0xE 2
  if s.nv.trial.active then s.offerDone 15 ctr bank.toNat 0
  else
    match checkHeader { s.fwRuleNow with stated := some (le b 8 4) } c with
    | some x => s.offerDone x.result ctr bank.toNat 0
    | none =>
      if byteAt b 0xC = 1 ∧ ctr ≤ s.upd.running then s.offerDone 4 ctr bank.toNat 0
      else
        match (s.lockTake 2).bankWrite bank c flashOk with
        | (s, result, block) =>
          if result = 1 ∧ byteAt b 0xC = 1 then
            match s.handoverBegin 2 (some m.ring.val) m.desc.tag ctr confirm with
            | (s, true) => (s, none)
            | (s, false) => s.offerDone 10 ctr bank.toNat 0
          else s.offerDone result ctr bank.toNat block

/-- An offer of a bundle: stored in plaintext, and the bundle counter follows (R421, R424). -/
def State.offerBundle (s : State) (b c : Bytes) : State × Option (Nat × Bytes) :=
  let slot := byteAt b 0xD
  let ctr := conCounter c
  match checkHeader (s.bundleRule (le b 8 4)) c with
  | some x => s.offerDone x.result ctr slot 0
  | none =>
    let s := (s.lockTake 2).progress 0 (conBlocks c)
    let drop (s : State) : State := { s with upd := { s.upd with bundles := sput [] s.upd.bundles slot [] } }
    match (List.range (conBlocks c)).findSome? (fun i => checkBlock c i) with
    | some x => ((drop s).progress x.index (conBlocks c)).offerDone x.result ctr slot x.index
    | none =>
      if bundleHeaderOk (conPayload c) = false then (drop s).offerDone 2 ctr slot 0
      else
        match s.bundlePlain c with
        | none => (drop s).offerDone 12 ctr slot 0
        | some p =>
          let s := s.progress (conBlocks c) (conBlocks c)
          ({ s with upd := { s.upd with bundles := sput [] s.upd.bundles slot p, bundleCounter := ctr } } :
            State).offerDone 1 ctr slot 0

/-- The frames that carry a container to the peer (R455): XFER_START with what fits of its header, block table and signature, the rest in
XFER_DATA, XFER_END. [log 202: DESIGN CHOICE] -/
def xferFrames (target : Nat) (c : Bytes) : List (Byte × Bytes) :=
  let h := min 2044 (128 + 32 * conBlocks c)
  [(0x40, toLE 1 target ++ zeros 3 ++ c.take h)] ++
    (List.range (ceilDiv (c.length - h) 2044)).map (fun i => (0x41, toLE 4 (h + 2044 * i) ++ (c.drop (h + 2044 * i)).take 2044)) ++
    [(0x42, toLE 4 c.length)]

/-- An offer that goes to the peer (R459): its container is sent as XFER frames, and XFER_RSP answers it. It activates nothing, so ACTION is
STORE. [log 202: DESIGN CHOICE] -/
def State.offerPeer (s : State) (m : Msg) (target : Nat) (b c : Bytes) : State × Option (Nat × Bytes) :=
  let ctr := conCounter c
  if le b 0 8 % 4 ≠ 0 ∨ byteAt b 0xC ≠ 0 ∨ byteAt b 0xD ≠ 0 ∨ le b 0xE 2 ≠ 0 ∨ le b 0x10 4 ≠ 0 ∨ slice b 0x14 12 ≠ zeros 12 then
    s.offerAnswer 2 ctr target 0
  else if s.twin.offer.isSome then s.offerAnswer 8 ctr target 0
  else if s.twin.l.link ≠ 3 then s.used.offerAnswer (s.free.toNat % 256) ctr target 0
  else (s.twinUpd fun t => { t with offer := some ⟨m.ring.val, m.desc.tag, ctr, target, xferFrames target c⟩ }, none)

/-- STORE and ACTIVATE. [log 74: DEDUCED] -/
def State.offer (s : State) (m : Msg) (e : OfferEnv) (b : Bytes) : State × Option (Nat × Bytes) :=
  let c := (e.container.getD []).take (le b 8 4)
  let firmware := le c 4 2 == 2
  match e.twin with
  | some k => s.offerPeer m k.val b c
  | none =>
  if s.upd.lock.isSome then (s.slotBusy 2).offerAnswer 8 (conCounter c) (byteAt b 0xD) 0
  else if s.offerFields b firmware = false then s.offerDone 2 (conCounter c) (byteAt b 0xD) 0
  else if firmware then s.offerFirmware m b c e.flashOk
  else s.offerBundle b c

/-- An offer message whose ACTION a command serves; an ACTION that R425 does not name is served with STORE. -/
def State.offerMail (s : State) (m : Msg) (action : Nat) (rspMin : Nat)
    (f : Bytes → State → State × Option (Nat × Bytes)) : State :=
  let a := byteAt (m.req.getD []) 0xC
  let mine := decide (m.desc.msgType ≠ 0x10) || m.req.isNone || decide (m.desc.reqLen ≠ 32) || a == action ||
    (decide (2 < a) && action == 0)
  if mine then s.mailLater m 0x10 (· == 32) rspMin f else s

/-- FW_OFFER_STORE. -/
def execFwOfferStore (m : Msg) (e : OfferEnv) (t : Nat) (s : State) : Host.Outcome State Fault Refusal :=
  s.act t fun s => s.offerMail m 0 16 (fun b s => s.offer m e b)

/-- FW_OFFER_ACTIVATE. -/
def execFwOfferActivate (m : Msg) (e : OfferEnv) (t : Nat) (s : State) : Host.Outcome State Fault Refusal :=
  s.act t fun s => s.offerMail m 1 16 (fun b s => s.offer m e b)

/-- FW_OFFER_READ_BLOCK (R425): 4,096 bytes of the slot's plaintext. R426 names no RESULT for it: a free value.
[log 75: DESIGN CHOICE] -/
def execFwOfferReadBlock (m : Msg) (s : State) : Host.Outcome State Fault Refusal :=
  s.go fun s => s.offerMail m 2 4096 fun b s =>
    let p := sget [] s.upd.bundles (byteAt b 0xD)
    let k := le b 0x10 4
    if s.bundleSlots ≤ byteAt b 0xD ∨ p = [] ∨ p.length ≤ 4096 * k ∨ le b 0xE 2 ≠ 0 ∨ slice b 0x14 12 ≠ zeros 12 then
      (s.event 0x110, some (2, offerRsp 0 (byteAt b 0xD) 0 0))
    else (s.used.event 0x110, some (s.free.toNat, fit (slice p (4096 * k) 4096) 4096))

/-- UPDATE_LOCK_TIMEOUT (R428): ten seconds without progress; the holder is answered TIMEOUT. [log 59: DEDUCED] -/
def execUpdateLockTimeout (t : Nat) (s : State) : Host.Outcome State Fault Refusal :=
  s.act t fun s =>
    match s.upd.lock with
    | some h =>
      if h = 1 ∨ s.now < s.upd.lockAt + secTicks 10 ∨ s.domOn 12 = false then s
      else if s.upd.handover.isSome then s.handoverAnswer 11 0
      else
        match s.sess h with
        | some x => s.sessEnd h x 11
        | none => s.lockFree.lastResult h 11
    | none => s

/-! Handover and trial (R430–R436). -/

/-- IDLE_PAIR_READY (R431, R436): the handover begins, or is refused. [log 77: DEDUCED] -/
def execIdlePairReady (passed : Bool) (imageRule : Byte) (t : Nat) (s : State) : Host.Outcome State Fault Refusal :=
  s.act t fun s =>
    match s.upd.handover with
    | some h =>
      let hdr := conBlock (s.bank h.bank.toNat) 0
      if h.ready ∨ s.domOn 12 = false then s
      else if passed = false ∨ s.fwField 0x16 2 < le hdr 0x18 2 ∨ s.fwField 0x10 2 < le hdr 0x12 2 then s.handoverAnswer 10 0
      else if imageRule ≠ 0 then s.handoverAnswer 10 imageRule.toNat
      else
        let s := s.halfLoad s.idlePair h.bank
        { s with upd := { s.upd with handover := some { h with ready := true, since := s.now, record := some (s.recordFor h) } } }
    | none => s

/-- HANDOVER_COMPLETED (R430, R431): the new pair resumes by 2.0 ms; the trial opens. -/
def execHandoverCompleted (t : Nat) (s : State) : Host.Outcome State Fault Refusal :=
  s.act t fun s =>
    match s.upd.handover with
    | some h =>
      let hdr := conBlock (s.bank h.bank.toNat) 0
      if h.ready ∧ s.pairOk s.idlePair ∧ s.now ≤ h.since + msTicks 2 ∧ s.domOn 12 ∧ (h.record.map (fun x => stateRecordOk hdr x.2)) = some true then
        let old := (s.upd.running, s.sys.bank, s.upd.runHdr)
        let s : State := { s with pairs := { s.pairs with active := s.idlePair }
                                  sys := { s.sys with bank := h.bank }
                                  upd := { s.upd with running := h.counter, oldFw := some old
                                                      kept := h.record.map (·.1), runHdr := hdr.take 64
                                                      trialAt := s.now, warned := false } }
        let s := s.nvStart.nvShared fun c =>
          { c with trial := { c.trial with active := true, bank := h.bank, starts := 0, left := h.confirmS, counter := h.counter } }
        ((s.cell 0x51 (h.counter % 2 ^ 32) h.bank.toNat 0).event 0x111).handoverAnswer 0 0
      else s
    | none => s

/-- HANDOVER_TIMEOUT (R431): the old pair resumes. -/
def execHandoverTimeout (t : Nat) (s : State) : Host.Outcome State Fault Refusal :=
  s.act t fun s =>
    match s.upd.handover with
    | some h => if h.ready ∧ h.since + msTicks 2 ≤ s.now then s.handoverAnswer 10 0 else s
    | none => s

/-- FIRMWARE_CONFIRMATION (R426, R435, R438, R440). -/
def execFirmwareConfirmation (m : Msg) (t : Nat) (s : State) : Host.Outcome State Fault Refusal :=
  s.act t fun s => s.mail m 0x11 (· == 16) 16 fun b s =>
    let x := s.nv.trial
    let ctr := le b 0 8
    if slice b 8 8 ≠ zeros 8 then (s, 2, offerRsp ctr s.sys.bank.toNat 0 0)
    else if x.active ∧ x.counter = ctr then
      let s := s.nvShared fun c => { c with trial := Trial.reset }
      let s := match s.nvOwn with
        | some i => s.setNvSet (1 - i) ⟨0, none, none⟩
        | none => s
      let new := max 1 (s.fwField 0x10 2)
      let up := decide (s.upd.recordFormat < new)
      let s : State := { s with upd := { s.upd with fwMin := ctr, oldFw := none, kept := none
                                                    migrate := if up then some 0 else s.upd.migrate
                                                    migrateAt := s.now
                                                    recordFormat := if up then new else s.upd.recordFormat } }
      (s, 13, offerRsp ctr s.sys.bank.toNat 0 0)
    else (s, 14, offerRsp ctr s.sys.bank.toNat 0 0)

/-- TRIAL_WARNING (R430). -/
def execTrialWarning (t : Nat) (s : State) : Host.Outcome State Fault Refusal :=
  s.act t fun s =>
    if s.domOn 12 ∧ s.nv.trial.active ∧ s.upd.warned = false ∧ s.trialLeft ≤ 60 then
      ({ s with upd := { s.upd with warned := true } } : State).event 0x117
    else s

/-- TRIAL_FALLBACK (R434): the window ended, or the trial pair failed its watchdog or lockstep check. -/
def execTrialFallback (why : FallbackWhy) (t : Nat) (s : State) : Host.Outcome State Fault Refusal :=
  s.act t fun s =>
    if s.domOn 12 = false then s
    else
      match why with
      | .windowEnded => if s.trialLeft = 0 then s.fallBack 0 else s
      | .watchdog => s.fallBack 1
      | .lockstep => s.fallBack 2

/-- NV_START_MODE_WRITE (R10, R445). -/
def execNvStartModeWrite (w : Word) (s : State) : Host.Outcome State Fault Refusal :=
  s.go fun s =>
    let v := getBits w 0 4
    if s.domOn 12 = false then s.unmapped
    else if v = 3 ∨ v = 4 ∨ v = 5 then
      (s.setRf Reg.updNvStartMode 0 4 v).nvWrite fun c => { c with startMode := v }
    else s.lockedErr Reg.updNvStartMode

/-- MIGRATION_BACKGROUND_PASS (R440): the next record, 100,000 a second, is rewritten in the confirmed FORMAT. -/
def execMigrationBackgroundPass (t : Nat) (s : State) : Host.Outcome State Fault Refusal :=
  s.act t fun s =>
    match s.upd.migrate with
    | some h =>
      if s.domOn 12 ∧ s.domOn 9 ∧ s.upd.migrateAt + 8192 ≤ s.now then
        let s := s.nodeUpd h id
        { s with upd := { s.upd with migrate := if h + 1 < 262144 then some (h + 1) else none, migrateAt := s.now } }
      else s
    | none => s

/-! Recovery and Ethernet sessions (R441–R444). -/

/-- Bytes written to BAR4/5 from an address on (R442). -/
def State.halfWrite (s : State) (a : Nat) (bytes : Bytes) : State :=
  let m := bytes.zipIdx.foldl (fun m x => if a + x.2 < 0x10000 then sput 0 m (a + x.2) x.1 else m) s.upd.halves
  { s with upd := { s.upd with halves := m } }

/-- Bytes of BAR4/5; one that nothing has written reads 0. [log 199: DESIGN CHOICE] -/
def State.halfRead (s : State) (a n : Nat) : Bytes := (List.range n).map fun i => sget 0 s.upd.halves (a + i)

/-- RECOVERY_CHUNK (R442): the mask ROM takes a chunk from the half HALF selects, after the host has written `half` to it.
[log 18: DEDUCED] -/
def execRecoveryChunk (w : Word) (half : Bytes) (flashOk : Bool) (t : Nat) (s : State) : Host.Outcome State Fault Refusal :=
  s.act t fun s =>
    if s.sys.mode ≠ .recovery ∨ s.domOn 12 = false ∨ getBit w 31 = false then s
    else
      let n := getBits w 0 16
      let base := 0x8000 * getBits w 24 1
      let s := ((s.halfWrite base (half.take 0x8000)).setRg Reg.updRecChunk (w &&& 0x4100FFFF)).event 0x116
      let x := (s.sess 7).getD ⟨s.rf Reg.updRecTarget 0 1, false, [], 0, []⟩
      if n = 0 ∨ 32768 < n then s.sessEnd 7 x 2
      else if s.upd.lock.isSome ∧ s.upd.lock ≠ some 7 then (s.slotBusy 7).sessEnd 7 x 8
      else
        match s.sessFeed 7 x (s.halfRead base n) flashOk with
        | (s, some result) => s.sessEnd 7 x result
        | (s, none) =>
          match s.sess 7 with
          | some x =>
            if getBit w 30 then s.sessClose 7 x flashOk
            else s.setRg Reg.updRecStatus (BitVec.ofNat 32 (2 ^ 31 + s.rf Reg.updProgress 16 16))
          | none => s

/-- Whether a session frame for `op` is taken: its port runs, it is sent to the broadcast address or the port's, sessions are accepted, VERSION and DEVICE_ID are this
device's (zero only in HELLO). -/
def State.sessTakes (s : State) (p : Fin 2) (f : SessFrame) (op : Nat) : Bool :=
  s.domOn 12 && s.domOn 14 && (s.port p.val).up && (f.dst == List.replicate 6 0xFF || f.dst == s.sessAddr p.val) && s.sys.mode != .returned &&
    (s.sys.mode == .recovery || s.rb Reg.updCtrl 0) && f.version == 1 && f.op.toNat == op && decide (f.data.length ≤ 1024) &&
    (f.deviceId == s.key.deviceId || (op == 1 && f.deviceId == zeros 16))

/-- ETH_SESSION_HELLO. -/
def execEthSessionHello (p : Fin 2) (f : SessFrame) (s : State) : Host.Outcome State Fault Refusal :=
  s.go fun s =>
    if s.sessTakes p f 1 then
      s.out (.sessionAnswer p.val (s.sessEth p.val f.src (s.sessBody 2 f.seq.toNat f.target.toNat 0xFF 0
        (toLE 4 (s.rg Reg.sysId).toNat ++ toLE 4 s.bootWord ++ toLE 8 (s.bankCounter 0) ++ toLE 8 (s.bankCounter 1) ++
          toLE 8 s.upd.fwMin ++ toLE 1 s.lifecycle.code))))
    else s

/-- A START opens a session; the first bytes it carries are fed to it. -/
def State.sessOpen (s : State) (h : Nat) (f : SessFrame) : State :=
  let x : Session := ⟨f.target.toNat, false, [], f.seq, f.src⟩
  let s : State := { s with upd := { s.upd with answered := sput none s.upd.answered h none } }
  let top := if s.sys.mode = .recovery then 1 else 2
  if top < f.target.toNat then s.sessEnd h x 2
  else
    match s.sessRefused h f.target.toNat with
    | some result => (s.when (result == 8) (·.slotBusy h)).sessEnd h x result
    | none =>
      match s.sessFeed h x f.data true with
      | (s, some result) => s.sessEnd h x result
      | (s, none) => s.sessAck h ((s.sess h).getD x) 0xFF

/-- Whether a frame repeats the last SEQ of a closed session. -/
def State.sessSaid (s : State) (h : Nat) (seq : BitVec 16) : Bool := (sget none s.upd.answered h).any fun x => x.1 == seq

/-- ETH_SESSION_START: a repeat is acknowledged again; another START of the port begins anew. -/
def execEthSessionStart (p : Fin 2) (f : SessFrame) (t : Nat) (s : State) : Host.Outcome State Fault Refusal :=
  s.act t fun s =>
    let h := 4 + p.val
    if s.sessTakes p f 3 then
      match s.sess h with
      | some x =>
        if x.lastSeq = f.seq ∨ (s.upd.handover.map (·.holder)) = some h then s.sessAck h { x with peer := f.src } 0xFF
        else (if s.upd.lock = some h then s.lockFree else s).sessOpen h f
      | none => if s.sessSaid h f.seq then s.sessAgain h f.src f.seq else s.sessOpen h f
    else s

/-- ETH_SESSION_DATA. -/
def execEthSessionData (p : Fin 2) (f : SessFrame) (flashOk : Bool) (t : Nat) (s : State) :
    Host.Outcome State Fault Refusal :=
  s.act t fun s =>
    let h := 4 + p.val
    if s.sessTakes p f 4 then
      match s.sess h with
      | some x =>
        if f.seq = x.lastSeq ∨ f.offset ≠ x.data.length then s.sessAck h { x with lastSeq := f.seq, peer := f.src } 0xFF
        else
          let x := { x with lastSeq := f.seq, peer := f.src }
          match s.sessFeed h x f.data flashOk with
          | (s, some result) => s.sessEnd h x result
          | (s, none) => s.sessAck h ((s.sess h).getD x) 0xFF
      | none => s.sessAgain h f.src f.seq
    else s

/-- ETH_SESSION_END. -/
def execEthSessionEnd (p : Fin 2) (f : SessFrame) (flashOk : Bool) (t : Nat) (s : State) :
    Host.Outcome State Fault Refusal :=
  s.act t fun s =>
    let h := 4 + p.val
    if s.sessTakes p f 6 then
      match s.sess h with
      | some x =>
        let x := { x with lastSeq := f.seq, peer := f.src }
        if (s.upd.handover.map (·.holder)) = some h then s else (s.setSess h (some x)).sessClose h x flashOk
      | none => s.sessAgain h f.src f.seq
    else s

/-- ETH_SESSION_REBOOT: in RECOVERY only. -/
def execEthSessionReboot (p : Fin 2) (f : SessFrame) (st : Straps) (t : Nat) (s : State) :
    Host.Outcome State Fault Refusal :=
  s.act t fun s => if s.sessTakes p f 7 ∧ s.sys.mode = .recovery then s.pinScopeReset 4 st else s

/-- ETH_SESSION_ABORT: the lock is released. -/
def execEthSessionAbort (p : Fin 2) (f : SessFrame) (s : State) : Host.Outcome State Fault Refusal :=
  s.go fun s =>
    let h := 4 + p.val
    if s.sessTakes p f 8 then
      if s.upd.lock = some h then { s.lockFree with upd := { s.lockFree.upd with
          handover := if (s.upd.handover.map (·.holder)) = some h then none else s.upd.handover } }
      else s.setSess h none
    else s

end Sys2Proof.Machine
end

