-- ==== Sys2Proof/Machine/Reads.lean ====
section
/-! DEFINITION. Machine/Reads.lean: what a register of BAR0 reads as (the register tables of every chapter). Stored fields come
from the register file; read-only fields are computed from the state they report. -/

namespace Sys2Proof.Machine

/-- A word with some of its bits replaced. -/
def overlay (w keep : Word) (v : Nat) : Word := (w &&& keep) ||| BitVec.ofNat 32 v
/-- A number that saturates a field of `n` bits. -/
def satur (n v : Nat) : Nat := min (2 ^ n - 1) v
/-- The 32-bit two's complement of a number, saturating. -/
def satSigned (x : Int) : Nat := unsgn 32 (clampI (-(2 ^ 31)) (2 ^ 31 - 1) x)
/-- The numbers in a list below `n`, as a bit map. -/
def bitMap (n : Nat) (f : Nat → Bool) : Nat := ((List.range n).map (fun i => (f i).toNat * 2 ^ i)).sum

/-- `SYS` (R3, R11, R83, R85, R92, R93, R96, R381, R486). -/
def State.rdSys (s : State) (a : Nat) : Word :=
  if a = Reg.sysMode then BitVec.ofNat 32 s.modeWord
  else if a = Reg.sysModeCmd then
    overlay (s.rg a) 0x2000000F (s.sys.heldCmd.isSome.toNat * (2 ^ 31 + 2 ^ 30))
  else if a = Reg.sysBoot then BitVec.ofNat 32 s.bootWord
  else if a = Reg.sysTrouble then BitVec.ofNat 32 s.trouble
  else if a = Reg.sysLifecycle then BitVec.ofNat 32 s.lifecycle.code
  else if Reg.sysDeviceId 0 ≤ a ∧ a < Reg.sysLifecycle then BitVec.ofNat 32 (le s.key.deviceId (a - Reg.sysDeviceId 0) 4)
  else s.rg a

/-- `CLK` and `PWR` (R74, R78, R103). -/
def State.rdClk (s : State) (a : Nat) : Word :=
  if a = Reg.clkDlinkStatus then overlay (s.rg a) 0xFFFFFFFC (s.dieC2f.up.toNat * 2 + s.dieF2c.up.toNat)
  else if a = Reg.pwrDomainState then
    overlay (s.rg a) 0xFFFF0000 (s.sys.domains ||| (if s.sys.retention then 0x8000 else 0)).toNat
  else s.rg a

/-- `STR` (R60–R63). -/
def State.rdStr (s : State) (a : Nat) : Word :=
  let im := s.str.active
  if a = Reg.strState then
    overlay (s.rg a) 0x8002 ((im.map (·.source)).getD 7 * 256 + s.nv.defaultSlot % 4 * 16 + (s.upd.lock == some 1).toNat)
  else if a = Reg.strActiveCounterLo then BitVec.ofNat 32 ((im.map (·.counter)).getD 0)
  else if a = Reg.strActiveCounterHi then BitVec.ofNat 32 ((im.map (·.counter)).getD 0 / 2 ^ 32)
  else if Reg.strActiveDigest 0 ≤ a then BitVec.ofNat 32 (le ((im.map (·.digest)).getD []) (a - Reg.strActiveDigest 0) 4)
  else s.rg a

/-- `RFC` (R134–R138). -/
def State.rdRfc (s : State) (a : Nat) : Word :=
  let r := Region.ofIx ((a - 0x40000) / 0x4000)
  let o := (a - 0x40000) % 0x4000
  let d := s.rad r
  if o = 4 then
    let lo := s.loAt r
    overlay (s.rg a) 0xF800 ((d.trAt s.now).toNat * 256 + (d.paAt s.now && s.emitAllowed).toNat * 128 +
      bitMap 4 (fun c => (s.carrier r c).onAir) * 8 + lo.1 * 2 + lo.2.toNat)
  else if o = 0x10 then overlay (s.rg a) 0x80000000 (satur 16 d.recal.blindUs)
  else if 0x20 ≤ o ∧ o < 0x60 ∧ o % 16 = 0 then
    BitVec.ofNat 32 (if (o - 0x20) / 16 < s.loCount r then s.loCentre r ((o - 0x20) / 16) else 0)
  else if o = 0x60 then BitVec.ofNat 32 (s.safF r.ix 1 * 256 + d.pdetLevel.toNat)
  else if o = 0x64 then BitVec.ofNat 32 (s.txLimitMs % 512)
  else if o = 0x80 then BitVec.ofNat 32 ((s.profile.map (fun p => le p 0x18 4)).getD 0)
  else if o = 0x84 then BitVec.ofNat 32 ((s.profile.map (fun p => le p 0x1C 4)).getD 0)
  else if o = 0x88 then
    BitVec.ofNat 32 (satur 16 d.barred.length * 65536 + (match s.profile with
      | some p => 128 + (bit (byteAt p 6) r.ix).toNat * 64 + profMax p r.ix % 64
      | none => 0))
  else s.rg a

/-- Whether a lane or its cluster is out of service. -/
def State.laneOos (s : State) (n : Nat) : Bool :=
  s.oosClusters.contains (n / 32) || s.oos.any (fun u => match u with | .lane i => i.val == n | _ => false)

/-- A lane's word in the lane-state table (R167). -/
def State.laneWord (s : State) (n : Nat) : Nat :=
  let reg := s.attach (n / 32)
  let head (st : Nat) : Nat := st * 2 ^ 29 + reg % 4 * 2 ^ 27
  if s.laneOos n then head 7
  else if ! s.hbLane n || ! (s.rad (Region.ofIx (reg - 1))).inService then head 6
  else
    match s.lane n with
    | none => head 0
    | some l => head (if l.confirmed then 2 else 1) + l.mode % 8 * 2 ^ 24 + l.reserved.toNat * 2 ^ 23 +
        l.overlapped.toNat * 2 ^ 22 + l.slot % 512 * 2 ^ 9

/-- Whether the watcher of a slot is out of service. -/
def State.watcherOos (s : State) (r : Region) (slot : Nat) : Bool :=
  s.oos.any (fun u => match u with | .watcher q i => q == r && i.val == slot | _ => false)

/-- `RXP` (R163–R168). [log 136: DEDUCED] -/
def State.rdRxp (s : State) (a : Nat) : Word :=
  if a < 0xB0000 then
    let r := Region.ofIx ((a - 0x80000) / 0x10000)
    let o := (a - 0x80000) % 0x10000
    if 0x8000 ≤ o then
      let slot := (o - 0x8000) / 0x40
      if s.slotCount r ≤ slot then 0
      else if o % 0x40 = 0 then
        overlay (s.rg a) 0xFFFF ((s.quarantined r slot).toNat * 2 ^ 31 + (s.watcherOos r slot).toNat * 2 ^ 30 +
          ((s.rad r).invalid || ! s.dieF2c.up).toNat * 2 ^ 29 + satur 9 (s.held r slot) * 2 ^ 20)
      else s.rg a
    else s.rg a
  else if 0xB0010 ≤ a ∧ a < 0xB0028 then
    let r := Region.ofIx ((a - 0xB0010) / 8)
    if a % 8 = 0 then
      BitVec.ofNat 32 ((s.freeLanes r).length * 65536 +
        ((List.range 384).filter (fun n => decide (s.attach (n / 32) = r.ix + 1) && ! s.laneOos n)).length)
    else BitVec.ofNat 32 ((s.rxr r).pending.length * 65536 + satur 9 (s.outstanding r))
  else if 0xB1000 ≤ a ∧ a < 0xB2000 then BitVec.ofNat 32 (s.laneWord ((a - 0xB1000) / 4))
  else if 0xB2000 ≤ a then
    let c := (a - 0xB2000) / 16
    let reg := s.attach c
    if a % 16 = 0 then
      BitVec.ofNat 32 ((decide (reg ≠ 0) && s.domOn (5 + reg)).toNat * 2 ^ 31 + reg % 4 * 2 ^ 24 +
        (allRegions.map (fun r => ((s.freeLanes r).filter (fun n => n / 32 == c)).length)).sum)
    else if a % 16 = 4 then BitVec.ofNat 32 (bitMap 32 (fun l => s.laneOos (32 * c + l)))
    else s.rg a
  else s.rg a

/-- `TXP` (R202). -/
def State.rdTxp (s : State) (a : Nat) : Word :=
  let r := Region.ofIx ((a - 0xC0000) / 0x10000)
  if a % 0x10000 = 0x20 then
    BitVec.ofNat 32 (((List.range 256).filter (fun m => decide (s.poolBase r ≤ m) && decide (s.mapCount r m = 0))).length * 65536 +
      ((List.range 256).filter (fun m => s.mapPending r m)).length)
  else s.rg a

/-- `MAC` and `RDV` (R239–R242). -/
def State.rdMac (s : State) (a : Nat) : Word :=
  let r := Region.ofIx ((a - 0x100000) / 0x10000)
  let o := a % 0x10000
  if a = Reg.rdvCalStatus then BitVec.ofNat 32 (satur 17 s.calCount)
  else if 0x130000 ≤ a then s.rg a
  else if 0x10 ≤ o ∧ o < 0x90 ∧ o % 8 = 0 then BitVec.ofNat 32 (ceilDiv (s.dutyTotal r ((o - 0x10) / 8)) 1000)
  else if o = 0x100 then
    BitVec.ofNat 32 ((s.beaconNext r).getD (s.mac.get r).beaconSlot % 512 * 65536 +
      (decide (s.beaconMs r ≠ 0) && s.txMode && (s.rad r).inService).toNat)
  else s.rg a

/-- `FWD` (R267, R273). -/
def State.rdFwd (s : State) (a : Nat) : Word :=
  if a = Reg.fwdCacheResident then BitVec.ofNat 32 s.tab.cache.length
  else if a = Reg.fwdCachePinned then BitVec.ofNat 32 (s.tab.cache.countP (fun kv => recPinned kv.2))
  else if a = Reg.fwdPfxRebuild then overlay (s.rg a) 0xFF ((! s.tab.rebuilding.isEmpty).toNat * 2 ^ 31)
  else if Reg.fwdPfxLenPresent 0 ≤ a ∧ a < Reg.fwdPfxRebuild then
    BitVec.ofNat 32 (bitMap 32 (fun j => s.lengthPresent (8 * (a - Reg.fwdPfxLenPresent 0) + j)))
  else if 0x180100 ≤ a ∧ a < 0x180200 then
    let t := (a - 0x180100) / 0x40
    let o := a % 0x40
    if o = 0x1C then
      BitVec.ofNat 32 (if t = 3 then s.tab.prefixes.countP (fun kv => getBit kv.2 191) else s.learnCount t)
    else if o = 0x20 ∧ t < 3 then BitVec.ofNat 32 (s.spillCount t)
    else s.rg a
  else if 0x190000 ≤ a ∧ a % 0x400 = 0 then overlay (s.rg a) 0x2000000F ((s.fwdBusy (fwdSource false ((a - 0x190000) / 0x400))).toNat * 2 ^ 31)
  else s.rg a

/-- `JOB` (R280). -/
def State.rdJob (s : State) (a : Nat) : Word :=
  if a = Reg.jobStatus then BitVec.ofNat 32 ((4096 - s.jobs.inFlight) * 65536 + s.jobs.inFlight)
  else if Reg.jobGroupStatus 0 ≤ a ∧ a < Reg.jobGroupServedCnt 0 then
    let g := (a - Reg.jobGroupStatus 0) / 4
    BitVec.ofNat 32 (s.jobs.queued.countP (fun j => j.group == g) * 65536 + unsgn 16 (sget 0 s.jobs.deficit g))
  else s.rg a

/-- The ring whose block holds a `HIF` address from 0x0020_1000. -/
def ringAt (a : Nat) : Nat :=
  if a < 0x201800 then (a - 0x201000) / 0x40 else if a < 0x202000 then 32 + (a - 0x201800) / 0x40 else 64 + (a - 0x202000) / 0x40

/-- `HIF` (R295, R301, R302). -/
def State.rdHif (s : State) (a : Nat) : Word :=
  if a < 0x201000 then
    if a = Reg.hifPantryStatus then BitVec.ofNat 32 (s.rxFree * 65536 + s.safetyFree) else s.rg a
  else
    let k := ringAt a
    let r := s.ring k
    match a % 0x40 with
    | 0x08 => BitVec.ofNat 32 (r.head % 65536)
    | 0x0C => BitVec.ofNat 32 (r.tail % 65536)
    | 0x14 =>
      overlay (s.rg a) 0x38000000 ((s.ringConf k).toNat * 2 ^ 31 + (s.ringRuns k).toNat * 2 ^ 30 + s.ringLog2 k % 32 * 65536 +
        satur 16 r.p)
    | 0x18 => BitVec.ofNat 32 (satur 16 r.heldCells)
    | _ => s.rg a

/-- `DLS` (R324–R328). [log 136: DEDUCED] -/
def State.rdDls (s : State) (a : Nat) : Word :=
  if 0x270000 ≤ a then
    if Reg.dlsPoolUsed 0 ≤ a then
      BitVec.ofNat 32 (satur 16 (ceilDiv (s.poolUsed (Region.ofIx ((a - Reg.dlsPoolUsed 0) / 4))) 16384))
    else s.rg a
  else
    let r := Region.ofIx ((a - 0x240000) / 0x10000)
    let o := a % 0x10000
    if 0x8000 ≤ o then
      let c := (o - 0x8000) / 0x20
      match o % 0x20 with
      | 0 =>
        overlay (s.rg a) 7 ((s.clsOn r c).toNat * 2 ^ 31 + (s.clsSafety r c).toNat * 2 ^ 30 + (s.clsFlood r c).toNat * 2 ^ 29 +
          (s.owed r c).toNat * 2 ^ 28)
      | 8 => BitVec.ofNat 32 (s.classQueued r c)
      | 0x10 => BitVec.ofNat 32 (if s.shapeRate r c = 0 then 0x7FFFFFFF else satSigned (s.shapeLevel r c / 1000))
      | 0x14 => BitVec.ofNat 32 (if s.minRate r c = 0 then 0 else satSigned (s.minLevel r c / 1000))
      | _ => s.rg a
    else if o = 8 then
      BitVec.ofNat 32 (bitMap 4 (fun c => (s.carrier r c).phase != .idle) * 2 ^ 20 + satur 17 (s.ready r).length)
    else if 0x10 ≤ o ∧ o < 0x90 ∧ o % 8 = 0 then
      BitVec.ofNat 32 (if s.sbUnshaped r ((o - 0x10) / 8) then 0x7FFFFFFF else satSigned (s.sbLevel r ((o - 0x10) / 8) / 1000))
    else s.rg a

/-- `TSU` (R356–R359). -/
def State.rdTsu (s : State) (a : Nat) : Word :=
  if 0x281000 ≤ a ∧ a < 0x281200 then
    let n := (a - 0x281000) / 0x40
    let p := s.pin n
    match a % 0x40 with
    | 0 => BitVec.ofNat 32 (p.armed.toNat * 2 ^ 31 + s.pinFn n % 8)
    | 0x14 => BitVec.ofNat 32 p.readNs
    | 0x18 => BitVec.ofNat 32 p.readSec
    | 0x1C => BitVec.ofNat 32 (p.readSeq % 65536 * 65536 + p.readSec / 2 ^ 32 % 65536)
    | _ => s.rg a
  else if a = Reg.tsuStatus then
    overlay (s.rg a) 0xF9 (s.tsu.step.isSome.toNat * 4 + (s.rb Reg.tsuCtrl 31).toNat * 2)
  else if a = Reg.tsuNowSecLo then BitVec.ofNat 32 s.tsu.latchSec
  else if a = Reg.tsuNowSecHi then BitVec.ofNat 32 (s.tsu.latchSec / 2 ^ 32 % 65536)
  else if a = Reg.tsuNowFrac then BitVec.ofNat 32 s.tsu.latchFrac
  else if a = Reg.tsuStepCtrl then overlay (s.rg a) 0x60000000 (s.tsu.step.isSome.toNat * 2 ^ 31)
  else if a = Reg.tsuStepAccumLo then BitVec.ofNat 32 (unsgn 64 s.tsu.accum)
  else if a = Reg.tsuStepAccumHi then BitVec.ofNat 32 (unsgn 64 s.tsu.accum / 2 ^ 32)
  else s.rg a

/-- `TMR` (R360, R361). ARM, STOP and GO read 0. [log 162: DESIGN CHOICE] -/
def State.rdTmr (s : State) (a : Nat) : Word :=
  if 0x290100 ≤ a then
    let c := (a - 0x290100) / 0x20
    match a % 0x20 with
    | 4 => overlay (s.rg a) 0x4000000E ((s.timer c).running.toNat * 2 ^ 31)
    | 0x14 => (s.timer c).latchHi.setWidth 32
    | _ => s.rg a
  else s.rg a

/-- `IRQ.SRC` of a source (R379). -/
def IrqSrc.word (x : IrqSrc) : Nat :=
  x.enabled.toNat * 2 ^ 31 + x.edge.toNat * 2 ^ 30 + x.wake.toNat * 2 ^ 29 + x.target.toNat * 2 ^ 28 + x.level % 16 * 2 ^ 24 +
    x.vector % 64 * 2 ^ 18 + x.raw.toNat * 128 + x.pending.toNat * 64 + x.active.toNat * 32 + x.storm.toNat * 8 + x.merged.toNat * 4

/-- A source as `IRQ.SRC` shows it: RAW is the condition as it stands, or the filtered pin level (R379).
[log 185: DESIGN CHOICE] -/
def State.srcShown (s : State) (n : Nat) : IrqSrc :=
  let x := s.src n
  match srcKind n with
  | .level => { x with raw := s.levelCond n }
  | .ext => { x with raw := if s.pinDriven n then s.extLevel n x.pin else (x.settle s.now).1.pin }
  | _ => x

/-- `IRQ.HOST_STACK`, and `IRQ.SUP_STACK` as the supervisor reads it (R375, R378). -/
def State.stackWord (s : State) (c : IrqCtx) : Word :=
  let l := s.irqStack c
  BitVec.ofNat 32 (l.length % 32 * 65536 + bitMap 16 (fun n => l.contains n))

/-- `IRQ` (R375–R379). -/
def State.rdIrq (s : State) (a : Nat) : Word :=
  if a = Reg.irqHostStack then s.stackWord .host
  else if a = Reg.irqSupStack then s.stackWord .supervisor
  else if a = Reg.irqHearthTimer then BitVec.ofNat 32 s.hearthCount
  else if a = Reg.irqWakeSrc then BitVec.ofNat 32 ((s.irq.wakeSrc.map (fun n => 2 ^ 31 + n % 512)).getD 0)
  else if a = Reg.irqWakeSeen then BitVec.ofNat 32 (bitMap 16 (fun n => s.irq.wakeSeen.contains n))
  else if 0x2A1000 ≤ a ∧ a < 0x2A1800 then BitVec.ofNat 32 (s.srcShown ((a - 0x2A1000) / 4)).word
  else if 0x2A3000 ≤ a ∧ a < 0x2A3040 then BitVec.ofNat 32 (bitMap 32 (fun j => (s.src (8 * (a - 0x2A3000) + j)).pending))
  else if 0x2A3040 ≤ a then BitVec.ofNat 32 (bitMap 32 (fun j => (s.src (8 * (a - 0x2A3040) + j)).active))
  else s.rg a

/-- `KEY.STATUS` (R418). [log 79: DEDUCED] -/
def State.keyStatus (s : State) : Nat :=
  let k := s.key
  let has (f : KeyStore → Bool) : Nat := ((k.live.map f).getD false).toNat
  (if k.checked then (if k.integrity then 2 else 1) else 0) * 2 ^ 30 +
    (if ! k.checked || k.root.isNone then 7 else if s.lifecycle = .fieldDebug then 1 else 0) * 2 ^ 27 +
    has (fun x => x.owner.isSome) * 2 ^ 26 + has (fun x => x.kek.isSome) * 2 ^ 25 + has (fun x => x.twin.isSome) * 2 ^ 24 +
    has (fun x => x.image.isSome) * 2 ^ 23 + has (fun x => x.profile.isSome) * 2 ^ 22 + (k.checked && s.armed).toNat * 2 ^ 21 +
    k.cur.isSome.toNat * 2 ^ 20 + k.prev.isSome.toNat * 2 ^ 19

/-- `KEY` and `CRY` (R417–R419). [log 19: DEDUCED] -/
def State.rdKey (s : State) (a : Nat) : Word :=
  let k := s.key
  if a = Reg.keyStatus then BitVec.ofNat 32 s.keyStatus
  else if a = Reg.keyCounterLo then BitVec.ofNat 32 k.counter
  else if a = Reg.keyCounterHi then BitVec.ofNat 32 (k.counter / 2 ^ 32)
  else if a = Reg.keyGen then
    BitVec.ofNat 32 ((k.prev.map (·.1)).getD 0 % 65536 * 65536 + (k.cur.map (·.1)).getD 0 % 65536)
  else if a = Reg.keyRollover then
    BitVec.ofNat 32 ((k.windowEnd.map (fun e => 2 ^ 31 + satur 24 (ceilDiv (e - s.now) 819200000))).getD 0)
  else if a = Reg.keySweep then
    BitVec.ofNat 32 (if s.sys.mode = .standby then 0 else (k.sweep.map (fun h => 2 ^ 31 + h % 262144)).getD 0)
  else if Reg.keyDevPub 0 ≤ a ∧ a < Reg.keyOwnerPub 0 then BitVec.ofNat 32 (le k.devPub (a - Reg.keyDevPub 0) 4)
  else if Reg.keyOwnerPub 0 ≤ a ∧ a < 0x3000C0 then
    BitVec.ofNat 32 (le ((k.live.bind (·.owner)).getD []) (a - Reg.keyOwnerPub 0) 4)
  else if a = Reg.cryEngineStatus then
    let out (f : UnitId → Bool) : Bool := s.oos.any f
    BitVec.ofNat 32 ((! out (· == .p256)).toNat * 512 + (! out (· == .sha256)).toNat * 256 +
      bitMap 8 (fun n => ! out (fun u => match u with | .aes i => i.val == n | _ => false)))
  else s.rg a

/-- `UPD` (R445, R446). [log 77: DEDUCED] -/
def State.rdUpd (s : State) (a : Nat) : Word :=
  let u := s.upd
  let t := s.nv.trial
  if a = Reg.updStatus then
    overlay (s.rg a) 0x7C ((u.handover.map (·.ready)).getD false || u.oldFw.isSome).toNat
  else if a = Reg.updLock then BitVec.ofNat 32 ((u.lock.map (fun h => 2 ^ 31 + h % 16)).getD 0)
  else if a = Reg.updRunningCounterLo then BitVec.ofNat 32 u.running
  else if a = Reg.updRunningCounterHi then BitVec.ofNat 32 (u.running / 2 ^ 32)
  else if a = Reg.updFwMinLo then BitVec.ofNat 32 u.fwMin
  else if a = Reg.updFwMinHi then BitVec.ofNat 32 (u.fwMin / 2 ^ 32)
  else if a = Reg.updBankCounterLo 0 then BitVec.ofNat 32 (s.bankCounter 0)
  else if a = Reg.updBankCounterHi 0 then BitVec.ofNat 32 (s.bankCounter 0 / 2 ^ 32)
  else if a = Reg.updBankCounterLo 1 then BitVec.ofNat 32 (s.bankCounter 1)
  else if a = Reg.updBankCounterHi 1 then BitVec.ofNat 32 (s.bankCounter 1 / 2 ^ 32)
  else if a = Reg.updNvStartMode then BitVec.ofNat 32 (s.nv.startMode % 16)
  else if a = Reg.updTrial then
    if t.active then BitVec.ofNat 32 (2 ^ 31 + t.bank.toNat * 2 ^ 24 + t.starts % 256 * 65536 + satur 16 s.trialLeft) else 0
  else s.rg a

/-- `TWN` and `SAF` (R472–R474). [log 19: DEDUCED] -/
def State.rdTwn (s : State) (a : Nat) : Word :=
  let t := s.twin
  if a = Reg.twnStatus then
    overlay (s.rg a) 0xFF (t.l.link % 4 * 2 ^ 30 + t.sync % 4 * 2 ^ 28 + t.released.toNat * 2 ^ 27 + t.ownDrive.toNat * 2 ^ 26)
  else if a = Reg.twnOwnHealth then t.lastHealth
  else if a = Reg.twnPeerHealth then t.l.peerHealth
  else if a = Reg.twnPeerAgeMs then BitVec.ofNat 32 (satur 32 (ticksMs (s.now - t.l.peerAt)))
  else if a = Reg.twnResync then BitVec.ofNat 32 ((t.cursor.map (fun c => 2 ^ 31 + satur 18 c)).getD 0)
  else if a = Reg.twnBacklog then BitVec.ofNat 32 (t.l.unacked.map (fun u => u.raw.length)).sum
  else if a = Reg.safLatentAgeS then BitVec.ofNat 32 (satur 32 ((s.now - s.saf.latentAt) / 819200000))
  else if a = Reg.safTemp then BitVec.ofNat 32 (s.saf.tempCore.toNat * 256 + s.saf.tempFront.toNat)
  else s.rg a

/-- `REC` (R484, R490, R491). -/
def State.rdRec (s : State) (a : Nat) : Word :=
  let c := s.cellar
  if a = Reg.recStatus then
    overlay (s.rg a) 0xF ((decide (returnIx ≤ c.next)).toNat * 2 ^ 31 + c.frozenAt.isSome.toNat * 2 ^ 30 +
      c.clearing.toNat * 2 ^ 29 + s.returnRecord.toNat * 2 ^ 28)
  else if a = Reg.recCtrl then overlay (s.rg a) 3 (c.frozenAt.isSome.toNat * 2 ^ 31)
  else if a = Reg.recNext then BitVec.ofNat 32 c.next
  else if Reg.recWin 0 ≤ a ∧ a < Reg.recOpTime then BitVec.ofNat 32 (getBits c.latch (8 * (a - Reg.recWin 0)) 32)
  else if a = Reg.recOpTime then BitVec.ofNat 32 s.opTime
  else if a = Reg.recPowerCycles then BitVec.ofNat 32 c.powerCycles
  else if a = Reg.recLostFullCnt then BitVec.ofNat 32 c.lostFull
  else if a = Reg.recHoldLevel then BitVec.ofNat 32 (satur 6 c.hold.length)
  else s.rg a

/-- What a register reads as, a read's side effects apart. -/
def State.rdReg (s : State) (a : Nat) : Word :=
  if a < 0x10000 then s.rdSys a
  else if a < 0x20000 then s.rdClk a
  else if a < 0x40000 then s.rdStr a
  else if a < 0x80000 then s.rdRfc a
  else if a < 0xC0000 then s.rdRxp a
  else if a < 0x100000 then s.rdTxp a
  else if a < 0x180000 then s.rdMac a
  else if a < 0x1C0000 then s.rdFwd a
  else if a < 0x200000 then s.rdJob a
  else if a < 0x240000 then s.rdHif a
  else if a < 0x280000 then s.rdDls a
  else if a < 0x290000 then s.rdTsu a
  else if a < 0x2A0000 then s.rdTmr a
  else if a < 0x300000 then s.rdIrq a
  else if a < 0x340000 then s.rdKey a
  else if a < 0x380000 then s.rdUpd a
  else if a < 0x3A0000 then s.rdTwn a
  else if a < 0x3C0000 then s.rdRec a
  else if a = Reg.dbgSession then s.dbgSession
  else s.rg a

/-! Windows (R272, R283). -/

/-- A byte as a window of BAR0 shows it. [log 43: DESIGN CHOICE] -/
def State.winByte (s : State) (a : Nat) : Byte :=
  if a < 0x2000000 then
    BitVec.ofNat 8 (recF (s.node (s.rf Reg.fwdWinPage 0 2 * 65536 + (a - 0x1000000) / 256)) (a % 256) 1)
  else if a < 0x3000000 then
    let o := a - 0x2000000
    let t := s.rf Reg.fwdTableWin 0 2
    if t = 3 then BitVec.ofNat 8 (getBits (sget 0 s.tab.prefixes (o / 32)) (8 * (o % 32)) 8)
    else BitVec.ofNat 8 (getBits (sget 0 (s.learnTab t) (o / 16)) (8 * (o % 16)) 8)
  else Config.pantryByte s.now a

/-- A read through a window: of a node record, through its engine; 0 where its domain is off or nothing is there. -/
def State.windowRead (s : State) (a size : Nat) : State :=
  if 0x3800000 ≤ a ∨ s.domOn (addrDom a) = false then { s with readData := 0 }
  else
    let s := if a < 0x2000000 then s.nodeFill (s.rf Reg.fwdWinPage 0 2 * 65536 + (a - 0x1000000) / 256) else s
    { s with readData := BitVec.ofNat 64 (leNat ((List.range size).map (fun i => s.winByte (a + i)))) }

end Sys2Proof.Machine
end

