-- ==== Sys2Proof/Machine/Timing.lean ====
section
/-! DEFINITION. Machine/Timing.lean: the commands of the timebase, the pins and the timers (chapter 11). -/

namespace Sys2Proof.Machine

/-- A command of a block in domain 10: nothing happens while that domain is off (R14). -/
def State.go10 (s : State) (f : State → State) : Host.Outcome State Fault Refusal :=
  s.go fun s => if s.domOn 10 then f s else s

/-- A read of a register of domain 10: 0 while that domain is off (R14). -/
def State.read10 (s : State) (f : State → State) : Host.Outcome State Fault Refusal :=
  s.go fun s => if s.domOn 10 then f s else { s with readData := 0 }

/-- An event of a block in domain 10. -/
def State.act10 (s : State) (t : Nat) (f : State → State) : Host.Outcome State Fault Refusal :=
  s.act t fun s => if s.domOn 10 then f s else s

/-- The carriers' jobs after a change of the timebase's course. -/
def State.jobsRetimed (s : State) : State := allRegions.foldl (fun s r => s.jobsTimed r) s

/-- INCR_COMMIT (R330, R333, R334, R335). -/
def execIncrCommit (w : Word) (s : State) : Host.Outcome State Fault Refusal :=
  s.go10 fun s =>
    let v := s.rf Reg.tsuIncrNs 0 4 * 2 ^ 32 + w.toNat
    if 0x138300000 ≤ v ∧ v ≤ 0x138D00000 then
      let s := s.tbCourse s.tbRaw v
      (({ s with tsu := { s.tsu with holdFrom := s.now } } : State).setRg Reg.tsuIncrFrac w).jobsRetimed
    else s.stk Reg.tsuStatus 5

/-- NOW_NS_READ (R331). -/
def execNowNsRead (s : State) : Host.Outcome State Fault Refusal :=
  s.read10 fun s =>
    { s with readData := BitVec.ofNat 64 s.tbNsPart,
             tsu := { s.tsu with latchSec := s.tbSec, latchFrac := s.tbFrac } }

/-- TIMEBASE_STEP_OFFSET (R332). -/
def execTimebaseStepOffset (timed : Bool) (s : State) : Host.Outcome State Fault Refusal :=
  s.go10 fun s => s.stepIssue false timed

/-- TIMEBASE_STEP_SET (R332). -/
def execTimebaseStepSet (timed : Bool) (s : State) : Host.Outcome State Fault Refusal :=
  s.go10 fun s => s.stepIssue true timed

/-- STEP_APPLY (R332–R337): the Porch books once TIME_SET holds. -/
def execStepApply (t : Nat) (s : State) : Host.Outcome State Fault Refusal :=
  s.act10 t fun s =>
    match s.tsu.step with
    | some p =>
      if s.stepDue p then
        let y := (s.stepRun p).jobsRetimed
        if y.timeSet && ! s.timeSet then (y.dls.queues.map (·.1)).foldl (fun s h => s.porchBook h) y else y
      else s
    | none => s

/-- DISCIPLINED_WRITE (R334, R357): a write of `TSU.CTRL`. -/
def execDisciplinedWrite (w : Word) (s : State) : Host.Outcome State Fault Refusal :=
  s.go10 fun s =>
    let s := s.setRg Reg.tsuCtrl (w &&& 0x8000FFFF)
    if getBit w 31 then { s with tsu := { s.tsu with holdFrom := s.now } } else s

/-- HOLDOVER_EXPIRY (R334). -/
def execHoldoverExpiry (t : Nat) (s : State) : Host.Outcome State Fault Refusal :=
  s.act10 t fun s =>
    let h := s.rf Reg.tsuCtrl 0 16
    if s.rb Reg.tsuCtrl 31 ∧ h ≠ 0 ∧ s.tsu.holdFrom + secTicks h ≤ s.now then
      (s.clrb Reg.tsuCtrl 31).stk Reg.tsuStatus 6
    else s

/-- PIN_ARM (R346, R347): no effect on a pin that drives nothing. -/
def execPinArm (n : Fin 8) (s : State) : Host.Outcome State Fault Refusal :=
  s.go10 fun s =>
    let f := s.pinFn n
    let p := s.pin n
    let at_ := s.pinAt n
    if f = 1 ∨ f = 4 then
      (s.setPin n { p with armed := true, next := at_, stopping := false }).when (s.nsPast at_)
        (·.stk (Reg.tsuPinStatus n) 2)
    else if f = 2 then
      (s.setPin n { p with armed := true, next := gridNext at_ (s.pinF n 8 4) s.tbCeilNs, stopping := false }).when
        (s.nsPast at_) (·.stk (Reg.tsuPinStatus n) 2)
    else s

/-- PIN_STOP (R346, R347): a pulse in progress completes. -/
def execPinStop (n : Fin 8) (s : State) : Host.Outcome State Fault Refusal :=
  s.go10 fun s =>
    let p := s.pin n
    if s.pinFn n = 1 ∨ s.pinFn n = 2 ∨ s.pinFn n = 4 then
      match p.pulseEnd with
      | some _ => s.setPin n { p with stopping := true }
      | none => s.setPin n { p with armed := false }
    else s

/-- What a trigger pin does at its pulse start (R349): with TARGET 3 a control cycle falls due now, and the next follow it. -/
def State.pinTrigger (s : State) (n : Nat) : State :=
  match s.pinF n 2 1 with
  | 3 => { s with tsu := { s.tsu with cycleAt := s.now - msTicks 10 } }
  | r =>
    let rg := Region.ofIx r
    if s.domOn rg.frontDom then
      let s := s.when (s.rb Reg.tsuSnapStatus r) (·.stk Reg.tsuSnapStatus (4 + r))
      { s with tsu := { s.tsu with snapPend := sput none s.tsu.snapPend r (some (ceilDiv s.now 4 * 4)) } }
    else s.stk Reg.tsuSnapStatus (8 + r)

/-- PIN_PULSE_START (R346, R347, R349). A width counts ticks of elapsed time. -/
def execPinPulseStart (n : Fin 8) (t : Nat) (s : State) : Host.Outcome State Fault Refusal :=
  s.act10 t fun s =>
    let p := s.pin n
    let f := s.pinFn n
    if p.armed ∧ p.pulseEnd = none ∧ p.next ≤ s.tbNs ∧ (f = 1 ∨ f = 2 ∨ f = 4) then
      let s := s.setPin n { p with pulseEnd := some (s.now + nsTicks (s.pinF n 4 4))
                                   next := if f = 2 then p.next + s.pinF n 8 4 else p.next }
      if f = 4 then s.pinTrigger n else s
    else s

/-- PIN_PULSE_END (R346, R347). -/
def execPinPulseEnd (n : Fin 8) (t : Nat) (s : State) : Host.Outcome State Fault Refusal :=
  s.act10 t fun s =>
    let p := s.pin n
    match p.pulseEnd with
    | some e =>
      if e ≤ s.now then
        let keep := s.pinFn n == 2 && ! p.stopping
        (s.setPin n { p with pulseEnd := none, armed := keep, stopping := false }).stk
          (Reg.tsuPinStatus n) 1
      else s
    | none => s

/-- PIN_CAPTURE (R348, R350): a filtered active edge captures the timebase; from HEARTH on until domain 10 is back the first edge's
tick is kept for the wake, on capture pins with HEARTH_WAKE. -/
def execPinCapture (n : Fin 8) (t : Nat) (s : State) : Host.Outcome State Fault Refusal :=
  s.act t fun s =>
    if s.domOn 10 then (if s.pinFn n = 3 then s.pinCapture n s.tbNs false else s)
    else if (s.sys.wake.any fun w => w.capPins.contains n.val) ∧ s.domOn 1 ∧ sget none s.tsu.hearthCaps n = none then
      { s with tsu := { s.tsu with hearthCaps := sput none s.tsu.hearthCaps n (some s.now) } }
    else s

/-- `TSU.PIN_STATUS` as it reads (R359). -/
def State.pinStatus (s : State) (n : Nat) : Word :=
  let p := s.pinSeen n
  (s.rg (Reg.tsuPinStatus n) &&& 0x1E) |||
    BitVec.ofNat 32 (p.fresh.toNat * 2 ^ 31 + p.curCoarse.toNat * 2 ^ 30 + p.armed.toNat * 2 ^ 29 + (s.pinLevel n).toNat * 2 ^ 28)

/-- PIN_STATUS_READ (R348, R358). -/
def execPinStatusRead (n : Fin 8) (s : State) : Host.Outcome State Fault Refusal :=
  s.read10 fun s =>
    let s := s.pinRead n
    let p := s.pin n
    let q := s.pinSeen n
    { s.setPin n { p with readSec := q.curSec, readNs := q.curNs, readSeq := q.seq, fresh := p.fresh && decide (p.capAt = s.now) } with
        readData := (s.pinStatus n).zeroExtend 64 }

/-- SNAPSHOT_READY (R349): START is the time at `RFIN_x`, 0.180 µs before the first sample. -/
def execSnapshotReady (r : Region) (samples : List Word) (t : Nat) (s : State) : Host.Outcome State Fault Refusal :=
  s.act10 t fun s =>
    match sget none s.tsu.snapPend r.ix with
    | some k =>
      let ns := s.tbRawAt k / 2 ^ 32 - 180
      let s : State := { s with tsu := { s.tsu with snaps := sput [] s.tsu.snaps r.ix samples,
                                                    snapPend := sput none s.tsu.snapPend r.ix none } }
      (((s.setRg (Reg.tsuSnapStartNs r.ix) (BitVec.ofNat 32 (ns % 1000000000))).setRg (Reg.tsuSnapStartSecLo r.ix)
        (BitVec.ofNat 32 (ns / 1000000000))).setRg (Reg.tsuSnapStartSecHi r.ix)
        (BitVec.ofNat 32 (ns / 1000000000 / 2 ^ 32 % 65536))).stk Reg.tsuSnapStatus r.ix
    | none => s

/-- SNAP_DATA_READ (R356). REGION 3 names no region: what it reads is not stated, a free value.
[log 134: DESIGN CHOICE] -/
def execSnapDataRead (s : State) : Host.Outcome State Fault Refusal :=
  s.read10 fun s =>
    let r := s.rf Reg.tsuSnapSel 16 2
    let i := s.rf Reg.tsuSnapSel 0 14
    let s1 := s.setRf Reg.tsuSnapSel 0 14 (i + 1)
    if r = 3 then { s1.used with readData := s.free.zeroExtend 64 }
    else
      { s1.when (i == 16383) (·.clrb Reg.tsuSnapStatus r) with
          readData := (((sget [] s.tsu.snaps r).drop i).headD 0).zeroExtend 64 }

/-- TIMER_ARM (R351). -/
def execTimerArm (c : Fin 16) (s : State) : Host.Outcome State Fault Refusal :=
  s.go10 fun s => if s.timerOut c then s else s.timerStart c 0 (s.timer c).terminal false

/-- TIMER_STOP (R351). -/
def execTimerStop (c : Fin 16) (s : State) : Host.Outcome State Fault Refusal :=
  s.go10 fun s =>
    if (s.timer c).running then
      s.setTimer c { s.timer c with running := false, base := s.timerCount c, shortened := false }
    else s

/-- TERMINAL_COMMIT (R351, R352): a write of `TMR.TERMINAL_HI`. -/
def execTerminalCommit (c : Fin 16) (hi : BitVec 16) (s : State) : Host.Outcome State Fault Refusal :=
  s.go10 fun s =>
    let v := hi.toNat * 2 ^ 32 + (s.rg (Reg.tmrTerminalLo c)).toNat
    let s := s.setRg (Reg.tmrTerminalHi c) (hi.zeroExtend 32)
    let x := s.timer c
    if x.running then
      let k := s.timerCount c
      s.setTimer c { x with base := k, start := s.now, terminal := v, shortened := decide (v < k) }
    else s.setTimer c { x with terminal := v }

/-- GROUP_ARM (R353): a GO of `TMR.GROUP_ARM`. A channel of the mask that is out of service stays stopped (R21) and keeps its
place in the stagger. -/
def execGroupArm (w : Word) (s : State) : Host.Outcome State Fault Refusal :=
  s.go10 fun s =>
    let s := s.setRg Reg.tmrGroupArm (w &&& 0xFFFF)
    if getBit w 31 then
      let p := s.rf Reg.tmrGroupPeriodHi 0 16 * 2 ^ 32 + (s.rg Reg.tmrGroupPeriodLo).toNat
      let mask := (List.range 16).filter (fun c => getBit w c)
      let n := mask.length
      if n = 0 ∨ p < n then s.stk Reg.tmrStatus 1
      else
        mask.zipIdx.foldl (fun s (ck : Nat × Nat) =>
          if s.timerOut ck.1 then s
          else
            (s.timerStart ck.1 ((n - 1 - ck.2) * (p / n)) p true).setRg (Reg.tmrTerminalLo ck.1) (BitVec.ofNat 32 p)
              |>.setRg (Reg.tmrTerminalHi ck.1) (BitVec.ofNat 32 (p / 2 ^ 32))) s
    else s

/-- TIMER_COUNT_READ (R351): a read of `TMR.COUNT_LO`. -/
def execTimerCountRead (c : Fin 16) (s : State) : Host.Outcome State Fault Refusal :=
  s.read10 fun s =>
    let k := s.timerCount c
    { s.setTimer c { s.timer c with latchHi := BitVec.ofNat 16 (k / 2 ^ 32) } with
        readData := BitVec.ofNat 64 (k % 2 ^ 32) }

/-- TIMER_EXPIRY (R351, R352): also the job of a channel that expired during sleep, at its tick (R355). -/
def execTimerExpiry (c : Fin 16) (t : Nat) (s : State) : Host.Outcome State Fault Refusal :=
  s.act10 t fun s =>
    let x := s.timer c
    if x.jobAt.any (fun k => decide (k ≤ s.now)) then
      let s := s.setTimer c { x with jobAt := none }
      s.jobRequest (s.newJob 5 1 c)
    else if x.running ∧ x.due ≤ s.now then
      (s.when x.shortened (·.stk (Reg.tmrChStatus c) 2)).timerExpire c (if x.shortened then x.base else x.terminal)
    else s

/-- SLOW_RATIO_MEASURE (R354): the fabric ticks counted over 1,024 slow ticks, × 64. -/
def execSlowRatioMeasure (count : Nat) (t : Nat) (s : State) : Host.Outcome State Fault Refusal :=
  s.act10 t fun s =>
    let q : Word := BitVec.ofNat 32 (count * 64)
    ({ s with tsu := { s.tsu with ratio := q.toNat } }.setRg Reg.tmrSlowRatio q).stk Reg.tmrStatus 0

end Sys2Proof.Machine
end

