-- ==== Sys2Proof/Machine/Registers.lean ====
section
/-! DEFINITION. Machine/Registers.lean: REGISTER_WRITE: accesses to BAR0 (R4–R15): their width and alignment, the addresses that
answer, locked fields, and for each register that starts something the meaning of the row it starts. -/

namespace Sys2Proof.Machine

/-- The state a row leaves, for a write or a read that is one of its rows. -/
def State.via (s : State) (o : Host.Outcome State Fault Refusal) : State :=
  match o with
  | .next u => u
  | _ => s

/-! What answers (R9, R13–R15, R88). -/

/-- Whether a register answers the host: assigned, its domain on, no supervisor register, `DBG` open, and in RETURNED one of
`SYS` or `REC`. [log 14: DEDUCED] [log 52: DEDUCED] [log 138: DEDUCED] -/
def State.answers (s : State) (a : Nat) : Bool :=
  (regDesc a).isSome && s.domOn (addrDom a) && ! (decide (0x1A0000 ≤ a) && decide (a < 0x1C0000)) &&
    ! (decide (Reg.irqSupClaim ≤ a) && decide (a ≤ Reg.irqSupStack)) && (decide (a < 0x3C0000) || s.dbgBar) &&
    (s.sys.mode != .returned || decide (a < 0x10000) || (decide (0x3A0000 ≤ a) && decide (a < 0x3C0000)))

/-! Stored registers (R4, R10). -/

/-- Whether the RWL fields of a register are locked (R135, R240). -/
def State.rwlLocked (s : State) (a : Nat) : Bool :=
  if 0x40000 ≤ a ∧ a < 0x80000 then (s.rg a).getLsbD 31
  else decide (Reg.macSelfEuiLo ≤ a) && decide (a < Reg.macLock) && s.rb Reg.macLock 0

/-- A write to a register of the table as its access codes say. [log 17: DEDUCED] -/
def State.wrPlain (s : State) (a : Nat) (w : Word) : State :=
  match regDesc a with
  | none => s.unmapped
  | some x =>
    let old := s.rg a
    if s.rwlLocked a && (old ^^^ w) &&& x.rwl != 0 then s.lockedErr a
    else
      let m := x.rw ||| x.rwl
      s.setRg a (((old &&& ~~~m) ||| (w &&& m) ||| (w &&& x.w1s)) &&& ~~~ s.w1cOf a x.w1c w)

/-- A field of a word brought to the nearest value of its range (R137, R241). [log 17: DEDUCED] -/
def clampField (w : Word) (lo n low high : Nat) : Word := setBits w lo n (max low (min high (getBits w lo n)))

/-! Blocks. -/

/-- The mode that a target of `SYS.MODE_CMD` names, of those R85 accepts. -/
def targetMode : Nat → Option Mode
  | 1 => some .hearth | 3 => some .configure | 4 => some .active | 5 => some .quiet | 7 => some .standby
  | _ => none

/-- `SYS`: mode commands (R85, R86), resets (R92). [log 15: DEDUCED] -/
def State.wrSys (s : State) (a : Nat) (w : Word) (e : BusEnv) : State :=
  if a = Reg.sysModeCmd then
    if getBit w 31 then
      match targetMode (getBits w 0 4) with
      | some m => (s.w1c a 0x20000000 w).modeCommand true m
      | none => (s.hostCmd true).stk a 29
    else s.wrPlain a (w &&& 0x2000000F)
  else if a = Reg.sysReset then
    if getBits w 24 8 = 0xC3 ∧ getBits w 0 4 = 1 then s.via (execHostReset w e.straps s.now s)
    else if getBits w 24 8 = 0xC3 ∧ getBits w 0 4 = 2 then s.via (execRecoveryReset w e.straps s.now s)
    else s
  else s.wrPlain a w

/-- The fields of `STR.CMD` (R61). -/
def strWordOf (w : Word) : StrWord := ⟨Fin.ofNat 16 (getBits w 4 4), Fin.ofNat 4 (getBits w 8 2), getBit w 12⟩

/-- `STR`: commands (R61, R64). -/
def State.wrStr (s : State) (a : Nat) (w : Word) (e : BusEnv) : State :=
  if a = Reg.strCmd then
    let x := strWordOf w
    if getBit w 31 then
      match getBits w 0 4 with
      | 0 => s.via (execStrNone x s)
      | 1 => s.via (execStrValidate x e.str s)
      | 2 => s.via (execStrApply x e.str s.now s)
      | 3 => s.via (execStrStore x e.str s)
      | 4 => s.via (execStrSetDefault x e.str s)
      | n => s.via (execStrOpRefused x (Fin.ofNat 16 n) s)
    else if s.rb Reg.strCmd 31 then s.stk Reg.strState 1
    else s.wrPlain a w
  else s.wrPlain a w

/-- `RFC` (R113, R134, R137). -/
def State.wrRfc (s : State) (a : Nat) (w : Word) : State :=
  let r := Region.ofIx ((a - 0x40000) / 0x4000)
  match (a - 0x40000) % 0x4000 with
  | 0x08 => s.wrPlain a (clampField (clampField (clampField w 16 8 0 50) 8 8 1 50) 0 8 1 50)
  | 0x0C => (s.wrPlain a w).coexPlan r
  | 0x10 => if getBit w 31 then s.via (execRfcRecalNow r s) else s
  | 0x74 => s.via (execRfcWinDataWrite r w s)
  | _ => s.wrPlain a w

/-- `RXP`: gain commands (R162, R165). -/
def State.wrRxp (s : State) (a : Nat) (w : Word) : State :=
  if a < 0xB0000 ∧ a % 0x10000 = 0 then s.via (execGainCommand (Region.ofIx ((a - 0x80000) / 0x10000)) w s.now s)
  else s.wrPlain a w

/-- `TXP`: a write of `TXP.TS_TRIM_TX` leaves the timestamps already taken (R201). -/
def State.wrTxp (s : State) (a : Nat) (w : Word) : State :=
  if a < 0xF0000 ∧ a % 0x10000 = 0x14 then (s.trimTaken (Region.ofIx ((a - 0xC0000) / 0x10000))).wrPlain a w else s.wrPlain a w

/-- `MAC` and `RDV`: values brought into range (R241). -/
def State.wrMac (s : State) (a : Nat) (w : Word) : State :=
  let o := a % 0x10000
  if a < 0x130000 ∧ o = 0 then s.wrPlain a (clampField (clampField w 16 11 800 2000) 8 8 10 255)
  else if 0x140000 ≤ a ∧ a < 0x170000 then
    match o with
    | 0x04 => s.wrPlain a (clampField w 8 4 1 7)
    | 0x08 => s.wrPlain a (clampField (clampField w 16 16 800 10000) 0 4 0 12)
    | 0x10 => s.wrPlain a (clampField w 0 12 200 3000)
    | _ => s.wrPlain a w
  else s.wrPlain a w

/-- `FWD`: operations of the host's command blocks, whose registers discard writes while GO reads 1 (R269, R270), rebuilds (R267). -/
def State.wrFwd (s : State) (a : Nat) (w : Word) : State :=
  if a = Reg.fwdPfxRebuild then
    if getBit w 31 then s.via (execPrefixRebuild (w.setWidth 8) s) else s.wrPlain a (w &&& 0xFF)
  else if 0x190000 ≤ a ∧ s.fwdBusy (fwdSource false ((a - 0x190000) / 0x400)) then s.stk (a - a % 0x400) 29
  else if 0x190000 ≤ a ∧ a % 0x400 = 0 then
    let b : Fin 5 := Fin.ofNat 5 ((a - 0x190000) / 0x400)
    let s := s.wrPlain a (w &&& 0x2000000F)
    if getBit w 31 then
      match getBits w 0 4 with
      | 1 => s.via (execFwdRead .host b s)
      | 2 => s.via (execFwdWrite .host b s)
      | 3 => s.via (execFwdInsert .host b s)
      | 4 => s.via (execFwdDelete .host b s)
      | 5 => s.via (execFwdSearch .host b s)
      | n => s.fwdOp false b n (fun s => (s, { result := 4 }))
    else s
  else s.wrPlain a w

/-- `JOB`: a reserve of more than 2,048 is discarded (R280); requests that wait take what a smaller one leaves (R278). -/
def State.wrJob (s : State) (a : Nat) (w : Word) : State :=
  if a = Reg.jobReserve then
    if 2048 < getBits w 16 12 + getBits w 0 12 then s.lockedErr a else (s.wrPlain a w).jobServeAll
  else s.wrPlain a w

/-- A write of `CTRL` of a ring: RESET, then the mask, then ENABLE (R302). [log 16: DEDUCED] -/
def State.ringCtrl (s : State) (k : Nat) (w : Word) : State :=
  let s := if getBit w 29 then s.ringResetNow k else s
  let s := (s.setb (ringBase k + 0x10) 30 (getBit w 30)).ringSend k
  if getBit w 31 then (s.stk (ringBase k + 0x10) 31).ringKick k else s.clrb (ringBase k + 0x10) 31

/-- `HIF` (R286, R293, R297, R301, R302). [log 16: DEDUCED] -/
def State.wrHif (s : State) (a : Nat) (w : Word) : State :=
  if a < 0x201000 then
    if a ≤ Reg.hifSteer 2 ∧ 32 < getBits w 0 5 + 2 ^ getBits w 16 3 then s.lockedErr a
    else if a = Reg.hifHostSleep then s.via (execHostSleepWrite w s)
    else if a = Reg.hifPantryCtrl then (s.wrPlain a w).reserveSettle
    else s.wrPlain a w
  else
    let k := ringAt a
    match a % 0x40 with
    | 0x00 => if s.ringEn k then s.lockedErr a else s.wrPlain a w
    | 0x04 => if s.ringEn k then s.lockedErr a else s.wrPlain a w
    | 0x08 => if k < 32 then s.headWrite k (getBits w 0 16) else s
    | 0x0C => if k < 32 then s else s.tailWrite k (getBits w 0 16)
    | 0x10 => s.ringCtrl k w
    | 0x1C => if s.ringEn k then s.lockedErr a else s.wrPlain a w
    | _ => s.wrPlain a w

/-- `TSU` (R330, R332, R334, R346, R347, R357, R358). -/
def State.wrTsu (s : State) (a : Nat) (w : Word) : State :=
  if 0x281000 ≤ a ∧ a < 0x281200 then
    let n : Fin 8 := Fin.ofNat 8 ((a - 0x281000) / 0x40)
    match a % 0x40 with
    | 0 =>
      let s := if getBit w 31 then s.via (execPinArm n s) else s
      if getBit w 30 then s.via (execPinStop n s) else s
    | 4 => s.wrPlain a w
    | o => if (s.pin n).armed && decide (o < 0x14) then s.lockedErr a else s.wrPlain a w
  else if a = Reg.tsuCtrl then s.via (execDisciplinedWrite w s)
  else if a = Reg.tsuIncrFrac then s.via (execIncrCommit w s)
  else if a = Reg.tsuStepCtrl then
    if getBit w 31 then
      if getBit w 29 then s.via (execTimebaseStepSet (getBit w 30) s) else s.via (execTimebaseStepOffset (getBit w 30) s)
    else s.wrPlain a (w &&& 0x60000000)
  else s.wrPlain a w

/-- `TMR` (R351–R353, R360). -/
def State.wrTmr (s : State) (a : Nat) (w : Word) : State :=
  if a = Reg.tmrGroupArm then s.via (execGroupArm w s)
  else if 0x290100 ≤ a then
    let c : Fin 16 := Fin.ofNat 16 ((a - 0x290100) / 0x20)
    match a % 0x20 with
    | 0 =>
      let s := if getBit w 31 then s.via (execTimerArm c s) else s
      if getBit w 30 then s.via (execTimerStop c s) else s
    | 0x0C => s.via (execTerminalCommit c (w.setWidth 16) s)
    | _ => s.wrPlain a w
  else s.wrPlain a w

/-- A write of `IRQ.SRC`: ENABLED stored, STORM_STK and MERGED_STK cleared by 1; what the condition of a level source is then
pends (R364, R371, R379). [log 51: DEDUCED] -/
def State.irqSrcWrite (s : State) (n : Nat) (w : Word) : State :=
  let x := s.src n
  let en := getBit w 31 && srcKind n != .reserved
  let clr := s.w1cOf (Reg.irqSrc n) 0xC w
  let y := { x with enabled := en, storm := x.storm && ! getBit clr 3, merged := x.merged && ! getBit clr 2 }
  let p := en && ((x.enabled && x.pending) || (s.levelNow n x && ! x.active))
  (s.setPending n y p).eventsPrune.irqTell

/-- `IRQ` (R374, R375, R377, R379). -/
def State.wrIrq (s : State) (a : Nat) (w : Word) : State :=
  if a = Reg.irqHostEoi then s.via (execIrqEoi .host w s)
  else if a = Reg.irqSwi then s.via (execIrqSwi w s)
  else if a = Reg.irqHearthTimer then { s with irq := { s.irq with hearthLeft := w.toNat, hearthAt := s.now } }
  else if 0x2A1000 ≤ a ∧ a < 0x2A1800 then s.irqSrcWrite ((a - 0x2A1000) / 4) w
  else s.wrPlain a w

/-- `UPD` (R442, R445). [log 18: DEDUCED] -/
def State.wrUpd (s : State) (a : Nat) (w : Word) (e : BusEnv) : State :=
  if a = Reg.updNvStartMode then s.via (execNvStartModeWrite w s)
  else if a = Reg.updRecChunk ∧ getBit w 31 ∧ s.sys.mode = .recovery then
    s.via (execRecoveryChunk w [] e.flashOk s.now s)
  else if a = Reg.updRecChunk then s.wrPlain a (w &&& 0x4100FFFF)
  else s.wrPlain a w

/-- `TWN` and `SAF` (R470, R472). -/
def State.wrTwn (s : State) (a : Nat) (w : Word) : State :=
  if a = Reg.safCmd then (if getBit w 0 then s.via (execSafRunLatent s) else s) else s.wrPlain a w

/-- `REC` (R483, R491). -/
def State.wrRec (s : State) (a : Nat) (w : Word) : State :=
  if a = Reg.recCtrl then
    let s := s.wrPlain a (w &&& 3)
    let s := if getBit w 31 then s.via (execCellarFreeze s.now s) else s
    if getBit w 30 then s.via (execCellarUnfreeze s.now s) else s
  else s.wrPlain a w

/-- `DBG` (R414); a write that steps a pair leaves STEP 0. -/
def State.wrDbg (s : State) (a : Nat) (w : Word) : State :=
  if a = Reg.dbgCoreCtrl then s.coreCtrl (getBits w 4 2) (getBit w 0)
  else if a = Reg.dbgMemData then ((s.memAccess true w).map (·.1)).getD s
  else s.wrPlain a w

/-- A 32-bit write to a register that answers. -/
def State.wrReg (s : State) (a : Nat) (w : Word) (e : BusEnv) : State :=
  if a < 0x10000 then s.wrSys a w e
  else if a < 0x20000 then s.wrPlain a w
  else if a < 0x40000 then s.wrStr a w e
  else if a < 0x80000 then s.wrRfc a w
  else if a < 0xC0000 then s.wrRxp a w
  else if a < 0x100000 then s.wrTxp a w
  else if a < 0x180000 then s.wrMac a w
  else if a < 0x1C0000 then s.wrFwd a w
  else if a < 0x200000 then s.wrJob a w
  else if a < 0x240000 then s.wrHif a w
  else if a < 0x280000 then s.wrPlain a w
  else if a < 0x290000 then s.wrTsu a w
  else if a < 0x2A0000 then s.wrTmr a w
  else if a < 0x300000 then s.wrIrq a w
  else if a < 0x340000 then s.wrPlain a w
  else if a < 0x380000 then s.wrUpd a w e
  else if a < 0x3A0000 then s.wrTwn a w
  else if a < 0x3C0000 then s.wrRec a w
  else s.wrDbg a w

/-! Reads with side effects. -/

/-- What the read of a register whose read does something is, as a row. -/
def State.rdAct (s : State) (a : Nat) : Option (Host.Outcome State Fault Refusal) :=
  if 0x40000 ≤ a ∧ a < 0x4C000 ∧ (a - 0x40000) % 0x4000 = 0x74 then
    some (execRfcWinDataRead (Region.ofIx ((a - 0x40000) / 0x4000)) s)
  else if 0xC0000 ≤ a ∧ a < 0xF0000 ∧ a % 0x10000 = 0x34 then some (execMapWinDataRead (Region.ofIx ((a - 0xC0000) / 0x10000)) s)
  else if 0x240000 ≤ a ∧ a < 0x270000 ∧ a % 0x10000 = 0x104 then
    some (execDlsHistDataRead (Region.ofIx ((a - 0x240000) / 0x10000)) s)
  else if a = Reg.tsuNowNs then some (execNowNsRead s)
  else if 0x281000 ≤ a ∧ a < 0x281200 ∧ a % 0x40 = 4 then some (execPinStatusRead (Fin.ofNat 8 ((a - 0x281000) / 0x40)) s)
  else if a = Reg.tsuSnapData then some (execSnapDataRead s)
  else if 0x290100 ≤ a ∧ a < 0x290300 ∧ a % 0x20 = 0x10 then some (execTimerCountRead (Fin.ofNat 16 ((a - 0x290100) / 0x20)) s)
  else if a = Reg.irqHostClaim then some (execIrqClaim .host s)
  else if a = Reg.recWin 0 then some (execRecWin0Read s)
  else if a = Reg.recWin 7 then some (execRecWin7Read s)
  else none

/-- A 32-bit read of a register. -/
def State.readReg (s : State) (a : Nat) : State :=
  if ! s.answers a then { s with readData := 0 }
  else if a = Reg.dbgMemData then
    match s.memAccess false 0 with
    | some (u, w) => { u with readData := w.zeroExtend 64 }
    | none => s
  else
    match s.rdAct a with
    | some o => s.via o
    | none => { s with readData := (s.rdReg a).zeroExtend 64 }

/-! Accesses (R8). -/

/-- An access to register space: a write of another width or alignment is discarded, a read that is wide or spans two registers
returns 0, one that lies within a register returns its bytes. [log 13: DEDUCED] -/
def State.regAccess (s : State) (a : Access) (e : BusEnv) : State :=
  if a.write then
    if a.size = 4 ∧ a.addr % 4 = 0 then
      if s.answers a.addr then s.wrReg a.addr (a.data.setWidth 32) e else s.unmapped
    else s.when (s.domOn 10) (·.stk Reg.sysAccessErr 0)
  else if a.addr % 4 + a.size ≤ 4 then
    let u := s.readReg (a.addr - a.addr % 4)
    { u with readData := BitVec.ofNat 64 (u.readData.toNat / 256 ^ (a.addr % 4) % 256 ^ a.size) }
  else { s.when (s.domOn 10) (·.stk Reg.sysAccessErr 0) with readData := 0 }

/-- A byte of BAR2/3 (R284): the MSI-X table of 64 entries from 0x0000, the pending bits from 0x2000; the rest reads 0. -/
def State.bar2Byte (s : State) (a : Nat) : Byte :=
  if a < 0x400 then BitVec.ofNat 8 ((sget msixReset s.hif.msixTable (a / 16)).toNat / 256 ^ (a % 16))
  else if 0x2000 ≤ a ∧ a < 0x2008 then BitVec.ofNat 8 (s.hif.msixPending.toNat / 256 ^ (a - 0x2000))
  else 0

/-- Bytes written to the MSI-X table of BAR2/3; the pending bits are read-only. [log 198: PRESUMED] -/
def State.bar2Write (s : State) (a size : Nat) (data : BitVec 64) : State :=
  let table := (List.range size).foldl (fun m i =>
    let b := a + i
    if b < 0x400 then
      let x := (sget msixReset m (b / 16)).toNat
      let k := 256 ^ (b % 16)
      sput msixReset m (b / 16) (BitVec.ofNat 128 (x - x / k % 256 * k + data.toNat / 256 ^ i % 256 * k))
    else m) s.hif.msixTable
  { s with hif := { s.hif with msixTable := table } }

/-- What a read of `size` bytes from an address on returns. -/
def readOf (f : Nat → Byte) (a size : Nat) : BitVec 64 := BitVec.ofNat 64 (leNat ((List.range size).map fun i => f (a + i)))

/-- An access to BAR2/3: a vector masked no longer sends what is pending (R284, R296). -/
def State.bar2Access (s : State) (a : Access) : State :=
  if s.domOn 15 = false then s
  else if a.write then (s.bar2Write a.addr a.size a.data).msixRelease.ringsKick.irqSend
  else { s with readData := readOf s.bar2Byte a.addr a.size }

/-- An access to BAR4/5: it answers only in RECOVERY, and is an unassigned address in every other mode (R442). -/
def State.bar4Access (s : State) (a : Access) : State :=
  if s.sys.mode = .recovery then
    if a.write then s.halfWrite a.addr (toLE a.size a.data.toNat)
    else { s with readData := BitVec.ofNat 64 (leNat (s.halfRead a.addr a.size)) }
  else if a.write then s.unmapped
  else { s with readData := 0 }

/-- An access to a BAR, once the link is up after a start (R95). [log 13: DEDUCED] -/
def State.access (s : State) (a : Access) (e : BusEnv) : State :=
  if s.sys.stage < 3 then s
  else
    match a.bar with
    | .bar2 => s.bar2Access a
    | .bar4 => s.bar4Access a
    | .bar0 =>
      if 0x1000000 ≤ a.addr then
        if a.write then s.windowWrite a.addr a.size a.data else s.windowRead a.addr a.size
      else s.regAccess a e

/-- Whether an access reaches `DBG.MEM_DATA` while `DBG.MEM_ADDR` lies outside the supervisor memory (R23, R414).
[log 41: DEDUCED] -/
def State.debugStop (s : State) (a : Access) : Bool :=
  (a.bar == .bar0) && decide (3 ≤ s.sys.stage) && s.dbgBar && decide (0x200000 ≤ (s.rg Reg.dbgMemAddr).toNat) &&
    ! s.dbg.keyWords.contains ((s.rg Reg.dbgMemAddr).toNat / 4) &&
    (if a.write then decide (a.size = 4 ∧ a.addr = Reg.dbgMemData)
     else decide (Reg.dbgMemData ≤ a.addr ∧ a.addr + a.size ≤ Reg.dbgMemData + 4))

/-- REGISTER_WRITE: one access to a BAR, a write or a read. [log 14: DEDUCED] [log 142: DESIGN CHOICE] -/
def execRegisterWrite (a : Access) (e : BusEnv) (s : State) : Host.Outcome State Fault Refusal :=
  if s.debugStop a then .fault .debugAddress else s.act e.tick fun s => s.access a e

end Sys2Proof.Machine
end

