-- ==== Sys2Proof/Machine/Dispatch.lean ====
section
/-! DEFINITION. Machine/Dispatch.lean: one arm for each command. -/

namespace Sys2Proof.Machine

def exec (i : Instr) (s : State) : Host.Outcome State Fault Refusal :=
  match i with
  | .registerWrite a e => Sys2Proof.Machine.execRegisterWrite a e s
  | .strNone w => Sys2Proof.Machine.execStrNone w s
  | .strValidate w e => Sys2Proof.Machine.execStrValidate w e s
  | .strApply w e t => Sys2Proof.Machine.execStrApply w e t s
  | .strStore w e => Sys2Proof.Machine.execStrStore w e s
  | .strSetDefault w e => Sys2Proof.Machine.execStrSetDefault w e s
  | .strOpRefused w op => Sys2Proof.Machine.execStrOpRefused w op s
  | .defaultImageLoad e t => Sys2Proof.Machine.execDefaultImageLoad e t s
  | .tcxoFailure t => Sys2Proof.Machine.execTcxoFailure t s
  | .pllUnlock t => Sys2Proof.Machine.execPllUnlock t s
  | .ethReferenceLoss t => Sys2Proof.Machine.execEthReferenceLoss t s
  | .pcieReferenceLoss t => Sys2Proof.Machine.execPcieReferenceLoss t s
  | .slowCrystalStop t => Sys2Proof.Machine.execSlowCrystalStop t s
  | .pgTimeout domain t => Sys2Proof.Machine.execPgTimeout domain t s
  | .modeCmdHearth byHost t => Sys2Proof.Machine.execModeCmdHearth byHost t s
  | .modeCmdConfigure byHost t => Sys2Proof.Machine.execModeCmdConfigure byHost t s
  | .modeCmdActive byHost t => Sys2Proof.Machine.execModeCmdActive byHost t s
  | .modeCmdQuiet byHost t => Sys2Proof.Machine.execModeCmdQuiet byHost t s
  | .modeCmdStandby byHost t => Sys2Proof.Machine.execModeCmdStandby byHost t s
  | .heldModeCommand t => Sys2Proof.Machine.execHeldModeCommand t s
  | .hearthWake source t => Sys2Proof.Machine.execHearthWake source t s
  | .unitFault u cause t => Sys2Proof.Machine.execUnitFault u cause t s
  | .clusterFault c cause t => Sys2Proof.Machine.execClusterFault c cause t s
  | .radioRegionFault r cause t => Sys2Proof.Machine.execRadioRegionFault r cause t s
  | .coreRegionFault p t => Sys2Proof.Machine.execCoreRegionFault p t s
  | .powerOn st t => Sys2Proof.Machine.execPowerOn st t s
  | .supplyLoss t => Sys2Proof.Machine.execSupplyLoss t s
  | .pinReset st t => Sys2Proof.Machine.execPinReset st t s
  | .watchdogReset st t => Sys2Proof.Machine.execWatchdogReset st t s
  | .hostReset w st t => Sys2Proof.Machine.execHostReset w st t s
  | .recoveryReset w st t => Sys2Proof.Machine.execRecoveryReset w st t s
  | .pcieReset k t => Sys2Proof.Machine.execPcieReset k t s
  | .brownOut st t => Sys2Proof.Machine.execBrownOut st t s
  | .supplyOutOfRange rail t => Sys2Proof.Machine.execSupplyOutOfRange rail t s
  | .powerCoreGoodLow t => Sys2Proof.Machine.execPowerCoreGoodLow t s
  | .hearthFeedChange backup t => Sys2Proof.Machine.execHearthFeedChange backup t s
  | .rootPllLock t => Sys2Proof.Machine.execRootPllLock t s
  | .pllLockTimeout t => Sys2Proof.Machine.execPllLockTimeout t s
  | .dieLinkTrained t => Sys2Proof.Machine.execDieLinkTrained t s
  | .dieLinkTrainTimeout badLane t => Sys2Proof.Machine.execDieLinkTrainTimeout badLane t s
  | .pcieLinkUp t => Sys2Proof.Machine.execPcieLinkUp t s
  | .bootBankSelect flashAnswers t => Sys2Proof.Machine.execBootBankSelect flashAnswers t s
  | .lpddr5Trained ok t => Sys2Proof.Machine.execLpddr5Trained ok t s
  | .selfTestComplete failed t => Sys2Proof.Machine.execSelfTestComplete failed t s
  | .flitCrcFail d f t => Sys2Proof.Machine.execFlitCrcFail d f t s
  | .dieLinkNak d raw t => Sys2Proof.Machine.execDieLinkNak d raw t s
  | .dieLinkRetrainDone d ok badLane t => Sys2Proof.Machine.execDieLinkRetrainDone d ok badLane t s
  | .rfcRecalNow r => Sys2Proof.Machine.execRfcRecalNow r s
  | .recalIntervalExpiry r t => Sys2Proof.Machine.execRecalIntervalExpiry r t s
  | .recalTemperatureDue r temp t => Sys2Proof.Machine.execRecalTemperatureDue r temp t s
  | .recalStart r t => Sys2Proof.Machine.execRecalStart r t s
  | .recalDeferLimit r t => Sys2Proof.Machine.execRecalDeferLimit r t s
  | .recalDone r cals corrs t => Sys2Proof.Machine.execRecalDone r cals corrs t s
  | .transmitCommand r c t => Sys2Proof.Machine.execTransmitCommand r c t s
  | .backoffEnd r c t => Sys2Proof.Machine.execBackoffEnd r c t s
  | .ccaEnd r c power t => Sys2Proof.Machine.execCcaEnd r c power t s
  | .startInstantReached r c t => Sys2Proof.Machine.execStartInstantReached r c t s
  | .backoffDeadline r c t => Sys2Proof.Machine.execBackoffDeadline r c t s
  | .txStart r c t => Sys2Proof.Machine.execTxStart r c t s
  | .paSettleExpiry r t => Sys2Proof.Machine.execPaSettleExpiry r t s
  | .txEnd r c t => Sys2Proof.Machine.execTxEnd r c t s
  | .paOffExpiry r t => Sys2Proof.Machine.execPaOffExpiry r t s
  | .rxSettleExpiry r t => Sys2Proof.Machine.execRxSettleExpiry r t s
  | .loLock r t => Sys2Proof.Machine.execLoLock r t s
  | .loLockLost r t => Sys2Proof.Machine.execLoLockLost r t s
  | .pdetSample r level t => Sys2Proof.Machine.execPdetSample r level t s
  | .txTimeoutExpiry r c t => Sys2Proof.Machine.execTxTimeoutExpiry r c t s
  | .coexGrantRise r t => Sys2Proof.Machine.execCoexGrantRise r t s
  | .coexGrantFall r t => Sys2Proof.Machine.execCoexGrantFall r t s
  | .coexWaitExpiry r c t => Sys2Proof.Machine.execCoexWaitExpiry r c t s
  | .coexRequestRise r pri t => Sys2Proof.Machine.execCoexRequestRise r pri t s
  | .coexRequestFall r t => Sys2Proof.Machine.execCoexRequestFall r t s
  | .coexMaxGrantExpiry r t => Sys2Proof.Machine.execCoexMaxGrantExpiry r t s
  | .rfcWinDataRead r => Sys2Proof.Machine.execRfcWinDataRead r s
  | .rfcWinDataWrite r w => Sys2Proof.Machine.execRfcWinDataWrite r w s
  | .profileMessage m t => Sys2Proof.Machine.execProfileMessage m t s
  | .detectionReport r slot mode preStart level snr corr rival t => Sys2Proof.Machine.execDetectionReport r slot mode preStart level snr corr rival t s
  | .headerCheck lane h cfo rssi t => Sys2Proof.Machine.execHeaderCheck lane h cfo rssi t s
  | .headerDeadlineExpiry lane t => Sys2Proof.Machine.execHeaderDeadlineExpiry lane t s
  | .pendingExpiry r t => Sys2Proof.Machine.execPendingExpiry r t s
  | .quarantineExpiry r slot t => Sys2Proof.Machine.execQuarantineExpiry r slot t s
  | .frameEnd lane rx t => Sys2Proof.Machine.execFrameEnd lane rx t s
  | .noiseFloorUpdate r slot block t => Sys2Proof.Machine.execNoiseFloorUpdate r slot block t s
  | .binPowerUpdate r bins t => Sys2Proof.Machine.execBinPowerUpdate r bins t s
  | .gainCommand r w t => Sys2Proof.Machine.execGainCommand r w t s
  | .gainTimedApply r t => Sys2Proof.Machine.execGainTimedApply r t s
  | .gainDeferredApply r t => Sys2Proof.Machine.execGainDeferredApply r t s
  | .histogramSnapshot r counts clipI clipQ t => Sys2Proof.Machine.execHistogramSnapshot r counts clipI clipQ t s
  | .mapWinDataRead r => Sys2Proof.Machine.execMapWinDataRead r s
  | .macReceive r t => Sys2Proof.Machine.execMacReceive r t s
  | .dutySecondTick t => Sys2Proof.Machine.execDutySecondTick t s
  | .dutySave t => Sys2Proof.Machine.execDutySave t s
  | .downlinkRequest t => Sys2Proof.Machine.execDownlinkRequest t s
  | .poolWaitResume t => Sys2Proof.Machine.execPoolWaitResume t s
  | .calendarFullRetry t => Sys2Proof.Machine.execCalendarFullRetry t s
  | .bookingRelease handle t => Sys2Proof.Machine.execBookingRelease handle t s
  | .bookingDeadline handle t => Sys2Proof.Machine.execBookingDeadline handle t s
  | .ackWindowExpiry r c t => Sys2Proof.Machine.execAckWindowExpiry r c t s
  | .strobeGapExpiry r c t => Sys2Proof.Machine.execStrobeGapExpiry r c t s
  | .beaconInstant r t => Sys2Proof.Machine.execBeaconInstant r t s
  | .shaperRefill t => Sys2Proof.Machine.execShaperRefill t s
  | .dlsHistogramSample r t => Sys2Proof.Machine.execDlsHistogramSample r t s
  | .dlsHistClear r => Sys2Proof.Machine.execDlsHistClear r s
  | .dlsHistDataRead r => Sys2Proof.Machine.execDlsHistDataRead r s
  | .fwdRead sup block => Sys2Proof.Machine.execFwdRead sup block s
  | .fwdWrite sup block => Sys2Proof.Machine.execFwdWrite sup block s
  | .fwdInsert sup block => Sys2Proof.Machine.execFwdInsert sup block s
  | .fwdDelete sup block => Sys2Proof.Machine.execFwdDelete sup block s
  | .fwdSearch sup block => Sys2Proof.Machine.execFwdSearch sup block s
  | .prefixRebuild length => Sys2Proof.Machine.execPrefixRebuild length s
  | .prefixRebuildDone length t => Sys2Proof.Machine.execPrefixRebuildDone length t s
  | .nodeWindowWrite addr size data => Sys2Proof.Machine.execNodeWindowWrite addr size data s
  | .jobDispatch accepts => Sys2Proof.Machine.execJobDispatch accepts s
  | .cryptoJob octets => Sys2Proof.Machine.execCryptoJob octets s
  | .submissionDoorbell ring tail => Sys2Proof.Machine.execSubmissionDoorbell ring tail s
  | .submissionDescriptor ring desc buf t => Sys2Proof.Machine.execSubmissionDescriptor ring desc buf t s
  | .stagingResume t => Sys2Proof.Machine.execStagingResume t s
  | .commandDoorbell ring tail => Sys2Proof.Machine.execCommandDoorbell ring tail s
  | .echoMessage m => Sys2Proof.Machine.execEchoMessage m s
  | .deliveryHeadWrite ring head t => Sys2Proof.Machine.execDeliveryHeadWrite ring head t s
  | .ringEnable k ix t => Sys2Proof.Machine.execRingEnable k ix t s
  | .ringDisable k ix => Sys2Proof.Machine.execRingDisable k ix s
  | .ringReset k ix => Sys2Proof.Machine.execRingReset k ix s
  | .ringIrqMask k ix mask => Sys2Proof.Machine.execRingIrqMask k ix mask s
  | .ringDmaError k ix t => Sys2Proof.Machine.execRingDmaError k ix t s
  | .modTimerExpiry k ix t => Sys2Proof.Machine.execModTimerExpiry k ix t s
  | .hostSleepWrite w => Sys2Proof.Machine.execHostSleepWrite w s
  | .pciePowerStateChange p l1 pmeEn t => Sys2Proof.Machine.execPciePowerStateChange p l1 pmeEn t s
  | .ethFrameReceive p frame t => Sys2Proof.Machine.execEthFrameReceive p frame t s
  | .pauseRefresh p t => Sys2Proof.Machine.execPauseRefresh p t s
  | .ethPauseReceived p pfc quanta t => Sys2Proof.Machine.execEthPauseReceived p pfc quanta t s
  | .ethFrameDepart p t => Sys2Proof.Machine.execEthFrameDepart p t s
  | .incrCommit w => Sys2Proof.Machine.execIncrCommit w s
  | .nowNsRead => Sys2Proof.Machine.execNowNsRead s
  | .timebaseStepOffset timed => Sys2Proof.Machine.execTimebaseStepOffset timed s
  | .timebaseStepSet timed => Sys2Proof.Machine.execTimebaseStepSet timed s
  | .stepApply t => Sys2Proof.Machine.execStepApply t s
  | .disciplinedWrite w => Sys2Proof.Machine.execDisciplinedWrite w s
  | .holdoverExpiry t => Sys2Proof.Machine.execHoldoverExpiry t s
  | .pinArm n => Sys2Proof.Machine.execPinArm n s
  | .pinStop n => Sys2Proof.Machine.execPinStop n s
  | .pinPulseStart n t => Sys2Proof.Machine.execPinPulseStart n t s
  | .pinPulseEnd n t => Sys2Proof.Machine.execPinPulseEnd n t s
  | .pinCapture n t => Sys2Proof.Machine.execPinCapture n t s
  | .pinStatusRead n => Sys2Proof.Machine.execPinStatusRead n s
  | .snapshotReady r samples t => Sys2Proof.Machine.execSnapshotReady r samples t s
  | .snapDataRead => Sys2Proof.Machine.execSnapDataRead s
  | .timerArm c => Sys2Proof.Machine.execTimerArm c s
  | .timerStop c => Sys2Proof.Machine.execTimerStop c s
  | .terminalCommit c hi => Sys2Proof.Machine.execTerminalCommit c hi s
  | .groupArm w => Sys2Proof.Machine.execGroupArm w s
  | .timerCountRead c => Sys2Proof.Machine.execTimerCountRead c s
  | .timerExpiry c t => Sys2Proof.Machine.execTimerExpiry c t s
  | .slowRatioMeasure count t => Sys2Proof.Machine.execSlowRatioMeasure count t s
  | .irqSourceEvent src level t => Sys2Proof.Machine.execIrqSourceEvent src level t s
  | .irqStormWindow t => Sys2Proof.Machine.execIrqStormWindow t s
  | .irqClaim ctx => Sys2Proof.Machine.execIrqClaim ctx s
  | .irqEoi ctx w => Sys2Proof.Machine.execIrqEoi ctx w s
  | .irqSwi w => Sys2Proof.Machine.execIrqSwi w s
  | .hearthTimerExpiry t => Sys2Proof.Machine.execHearthTimerExpiry t s
  | .keyUpdateOwnerAuthority m t => Sys2Proof.Machine.execKeyUpdateOwnerAuthority m t s
  | .keyUpdateNetworkKek m t => Sys2Proof.Machine.execKeyUpdateNetworkKek m t s
  | .keyUpdateTwinLink m t => Sys2Proof.Machine.execKeyUpdateTwinLink m t s
  | .keyUpdateImage m t => Sys2Proof.Machine.execKeyUpdateImage m t s
  | .keyUpdateTamperPolicy m t => Sys2Proof.Machine.execKeyUpdateTamperPolicy m t s
  | .keyUpdateZeroize m t => Sys2Proof.Machine.execKeyUpdateZeroize m t s
  | .keyUpdateNodeKeys m t => Sys2Proof.Machine.execKeyUpdateNodeKeys m t s
  | .staleGenerationJob handle => Sys2Proof.Machine.execStaleGenerationJob handle s
  | .rolloverSweep t => Sys2Proof.Machine.execRolloverSweep t s
  | .rolloverWindowEnd t => Sys2Proof.Machine.execRolloverWindowEnd t s
  | .tamperDetected l t => Sys2Proof.Machine.execTamperDetected l t s
  | .keyRegeneration t => Sys2Proof.Machine.execKeyRegeneration t s
  | .maintenanceMessage m t => Sys2Proof.Machine.execMaintenanceMessage m t s
  | .tapBypass => Sys2Proof.Machine.execTapBypass s
  | .tapIdcode => Sys2Proof.Machine.execTapIdcode s
  | .tapSamplePreload pins preload => Sys2Proof.Machine.execTapSamplePreload pins preload s
  | .tapExtest => Sys2Proof.Machine.execTapExtest s
  | .tapClamp => Sys2Proof.Machine.execTapClamp s
  | .tapHighz => Sys2Proof.Machine.execTapHighz s
  | .tapDebugAccess a => Sys2Proof.Machine.execTapDebugAccess a s
  | .tapPrivateTest code => Sys2Proof.Machine.execTapPrivateTest code s
  | .dbgCoreHalt pair halt => Sys2Proof.Machine.execDbgCoreHalt pair halt s
  | .dbgCoreStep pair => Sys2Proof.Machine.execDbgCoreStep pair s
  | .dbgMemDataAccess write data => Sys2Proof.Machine.execDbgMemDataAccess write data s
  | .fwOfferStore m e t => Sys2Proof.Machine.execFwOfferStore m e t s
  | .fwOfferActivate m e t => Sys2Proof.Machine.execFwOfferActivate m e t s
  | .fwOfferReadBlock m => Sys2Proof.Machine.execFwOfferReadBlock m s
  | .updateLockTimeout t => Sys2Proof.Machine.execUpdateLockTimeout t s
  | .idlePairReady passed imageRule t => Sys2Proof.Machine.execIdlePairReady passed imageRule t s
  | .handoverTimeout t => Sys2Proof.Machine.execHandoverTimeout t s
  | .firmwareConfirmation m t => Sys2Proof.Machine.execFirmwareConfirmation m t s
  | .trialWarning t => Sys2Proof.Machine.execTrialWarning t s
  | .trialFallback why t => Sys2Proof.Machine.execTrialFallback why t s
  | .nvStartModeWrite w => Sys2Proof.Machine.execNvStartModeWrite w s
  | .recoveryChunk w half flashOk t => Sys2Proof.Machine.execRecoveryChunk w half flashOk t s
  | .ethSessionHello p f => Sys2Proof.Machine.execEthSessionHello p f s
  | .ethSessionStart p f t => Sys2Proof.Machine.execEthSessionStart p f t s
  | .ethSessionData p f flashOk t => Sys2Proof.Machine.execEthSessionData p f flashOk t s
  | .ethSessionEnd p f flashOk t => Sys2Proof.Machine.execEthSessionEnd p f flashOk t s
  | .ethSessionReboot p f st t => Sys2Proof.Machine.execEthSessionReboot p f st t s
  | .ethSessionAbort p f => Sys2Proof.Machine.execEthSessionAbort p f s
  | .twinOwnChange released t => Sys2Proof.Machine.execTwinOwnChange released t s
  | .claimDelayExpiry t => Sys2Proof.Machine.execClaimDelayExpiry t s
  | .lineFault t => Sys2Proof.Machine.execLineFault t s
  | .takeoverComplete t => Sys2Proof.Machine.execTakeoverComplete t s
  | .takeoverTimeout t => Sys2Proof.Machine.execTakeoverTimeout t s
  | .twinRxHello raw t => Sys2Proof.Machine.execTwinRxHello raw t s
  | .twinRxConfirm raw t => Sys2Proof.Machine.execTwinRxConfirm raw t s
  | .twinRxClaim raw t => Sys2Proof.Machine.execTwinRxClaim raw t s
  | .twinRxYield raw t => Sys2Proof.Machine.execTwinRxYield raw t s
  | .twinRxHealth raw t => Sys2Proof.Machine.execTwinRxHealth raw t s
  | .twinRxKeepalive raw t => Sys2Proof.Machine.execTwinRxKeepalive raw t s
  | .twinRxProbe raw t => Sys2Proof.Machine.execTwinRxProbe raw t s
  | .twinRxMirror raw t => Sys2Proof.Machine.execTwinRxMirror raw t s
  | .twinRxResyncReq raw t => Sys2Proof.Machine.execTwinRxResyncReq raw t s
  | .twinRxResyncData raw t => Sys2Proof.Machine.execTwinRxResyncData raw t s
  | .twinRxResyncDone raw t => Sys2Proof.Machine.execTwinRxResyncDone raw t s
  | .twinRxXferStart raw t => Sys2Proof.Machine.execTwinRxXferStart raw t s
  | .twinRxXferData raw flashOk t => Sys2Proof.Machine.execTwinRxXferData raw flashOk t s
  | .twinRxXferEnd raw flashOk t => Sys2Proof.Machine.execTwinRxXferEnd raw flashOk t s
  | .twinRxXferRsp raw t => Sys2Proof.Machine.execTwinRxXferRsp raw t s
  | .twinHelloTimer t => Sys2Proof.Machine.execTwinHelloTimer t s
  | .twinRetransmitTimer t => Sys2Proof.Machine.execTwinRetransmitTimer t s
  | .twinKeepaliveTimer t => Sys2Proof.Machine.execTwinKeepaliveTimer t s
  | .twinLinkTimeout t => Sys2Proof.Machine.execTwinLinkTimeout t s
  | .twinHealthPeriod t => Sys2Proof.Machine.execTwinHealthPeriod t s
  | .standbyAckTimeout t => Sys2Proof.Machine.execStandbyAckTimeout t s
  | .heartbeatPeriod t => Sys2Proof.Machine.execHeartbeatPeriod t s
  | .latentTestRun failed region pair t => Sys2Proof.Machine.execLatentTestRun failed region pair t s
  | .safRunLatent => Sys2Proof.Machine.execSafRunLatent s
  | .overtemp front core t => Sys2Proof.Machine.execOvertemp front core t s
  | .lockstepMiscompare pair t => Sys2Proof.Machine.execLockstepMiscompare pair t s
  | .eccUncorrectable partition addr t => Sys2Proof.Machine.execEccUncorrectable partition addr t s
  | .cellarClear m t => Sys2Proof.Machine.execCellarClear m t s
  | .returnMessage m t => Sys2Proof.Machine.execReturnMessage m t s
  | .cellarFreeze t => Sys2Proof.Machine.execCellarFreeze t s
  | .cellarUnfreeze t => Sys2Proof.Machine.execCellarUnfreeze t s
  | .freezeTimeout t => Sys2Proof.Machine.execFreezeTimeout t s
  | .recWin0Read => Sys2Proof.Machine.execRecWin0Read s
  | .recWin7Read => Sys2Proof.Machine.execRecWin7Read s
  | .opTimeSave t => Sys2Proof.Machine.execOpTimeSave t s
  | .twinBlockLockLoss t => Sys2Proof.Machine.execTwinBlockLockLoss t s
  | .ethLinkChange p up t => Sys2Proof.Machine.execEthLinkChange p up t s
  | .ethPauseQuantaExpiry p t => Sys2Proof.Machine.execEthPauseQuantaExpiry p t s
  | .msixEnableChange msix busMaster t => Sys2Proof.Machine.execMsixEnableChange msix busMaster t s
  | .handoverCompleted t => Sys2Proof.Machine.execHandoverCompleted t s
  | .modeTransitionComplete e t => Sys2Proof.Machine.execModeTransitionComplete e t s
  | .powerCoreGoodRise t => Sys2Proof.Machine.execPowerCoreGoodRise t s
  | .migrationBackgroundPass t => Sys2Proof.Machine.execMigrationBackgroundPass t s
  | .twinFrameSend t => Sys2Proof.Machine.execTwinFrameSend t s
  | .supervisorControlCycle t => Sys2Proof.Machine.execSupervisorControlCycle t s
  | .ethReferenceRestored t => Sys2Proof.Machine.execEthReferenceRestored t s
  | .pcieReferenceRestored t => Sys2Proof.Machine.execPcieReferenceRestored t s
  | .tcxoRestored t => Sys2Proof.Machine.execTcxoRestored t s
  | .rootPllRelock t => Sys2Proof.Machine.execRootPllRelock t s
  | .supplyBackInRange t => Sys2Proof.Machine.execSupplyBackInRange t s
  | .overtempCleared front core t => Sys2Proof.Machine.execOvertempCleared front core t s
  | .hearthSupplyLoss t => Sys2Proof.Machine.execHearthSupplyLoss t s
  | .hearthSupplyReturn t => Sys2Proof.Machine.execHearthSupplyReturn t s
  | .coexPriChange r pri t => Sys2Proof.Machine.execCoexPriChange r pri t s

end Sys2Proof.Machine
end

