-- ==== Sys2Proof/Machine/Step.lean ====
section
/-! DEFINITION. Machine/Step.lean: one step of the block takes the command at the front of its queue; on an empty
queue one fabric tick passes (log entry 1). -/

namespace Sys2Proof.Machine

/-- One step: the command at the front of the queue, or an idle fabric tick. [log 1: DESIGN CHOICE] -/
def step (s : State) : Host.Outcome State Fault Refusal :=
  match s.pending with
  | [] => .next { s with now := s.now + 1 }
  | c :: rest => exec c { s with pending := rest }

/-- `s` with the command that a word spells put at the front of its queue; `s` where the word spells none.
[log 8: DESIGN CHOICE] -/
def State.withFetchWord (s : State) (nbits w : Nat) : State :=
  match decodeTableWord nbits w with
  | some c => { s with pending := c :: s.pending }
  | none => s

end Sys2Proof.Machine
end

