-- ==== Sys2Proof/Safety.lean ====
section
/-! DEFINITION. Safety.lean: the terms the claims use: a safe step, a command that completes, and what a command leaves as it was. -/

namespace Sys2Proof

open Sys2Proof.Machine

/-- A step that neither faults nor is refused. -/
def StepSafe (s : State) : Prop := ∃ t, step s = .next t

/-- The command answers a next state of which `P` holds. -/
def Completes (i : Instr) (s : State) (P : State → Prop) : Prop := ∃ u, exec i s = .next u ∧ P u

/-- The pieces of state of which a frame speaks: the fields of State, those of the shared structures in groups. -/
inductive Field
  | now | pending | regs | readData | freeCtr | outbox | loftGiB | loftReady | oos | oosClusters | sysMode
  | sysTransition | sysCommand | sysStage | sysStart | sysDomains | sysBoard | sysWake | dieLink | pairs
  | strActive | strApplying | strCounter | radioService | radioLo | radioCarriers | radioLines | radioSamples
  | radioDetector | radioCoex | radioRecal | radioCal | rx | lanes | tx | mac | porchBookings | porchRest
  | dlsQueues | dlsRest | tabNodes | tabEntries | tabPrefixes | jobs | hifRings | hifLink | hifPantry | hifPorts
  | hifLanes | tsuTime | tsuPins | timers | irqEvents | irqSources | irqWake | keyIdentity | keyStores
  | keyEngine | updFlash | updNv | updLock | updRun | twinLine | twinLink | twinSync | safTests | safBeat | dbg
  | cellarRecords | cellarRest | safBg | fwdBusy | hifMsix | dutySaved
  deriving DecidableEq, Repr

/-- Two states hold the same in a piece of state. -/
def agree (s u : State) : Field → Prop
  | .now => u.now = s.now
  | .pending => u.pending = s.pending
  | .regs => u.regs = s.regs ∧ u.setAt = s.setAt
  | .readData => u.readData = s.readData
  | .freeCtr => u.freeCtr = s.freeCtr
  | .outbox => u.outbox = s.outbox
  | .loftGiB => u.loftGiB = s.loftGiB
  | .loftReady => u.loftReady = s.loftReady
  | .oos => u.oos = s.oos
  | .oosClusters => u.oosClusters = s.oosClusters
  | .sysMode => u.sys.mode = s.sys.mode ∧ u.sys.previous = s.sys.previous ∧ u.sys.safeCause = s.sys.safeCause
  | .sysTransition => u.sys.transition = s.sys.transition
  | .sysCommand => u.sys.heldCmd = s.sys.heldCmd ∧ u.sys.hostCmdWritten = s.sys.hostCmdWritten ∧
      u.sys.quietClaim = s.sys.quietClaim
  | .sysStage => u.sys.stage = s.sys.stage ∧ u.sys.startTries = s.sys.startTries
  | .sysStart => u.sys.bank = s.sys.bank ∧ u.sys.straps = s.sys.straps ∧ u.sys.startTick = s.sys.startTick ∧
      u.sys.warm = s.sys.warm ∧ u.sys.retention = s.sys.retention ∧ u.sys.coreEn = s.sys.coreEn ∧
      u.sys.loadDone = s.sys.loadDone ∧ u.sys.recoveryCmd = s.sys.recoveryCmd
  | .sysDomains => u.sys.domains = s.sys.domains ∧ u.sys.mask = s.sys.mask
  | .sysBoard => u.sys.mainGood = s.sys.mainGood ∧ u.sys.onBackup = s.sys.onBackup ∧
      u.sys.hearthOn = s.sys.hearthOn ∧ u.sys.supplyBad = s.sys.supplyBad ∧ u.sys.tcxoBad = s.sys.tcxoBad ∧
      u.sys.hot = s.sys.hot ∧ u.sys.coreGood = s.sys.coreGood ∧ u.sys.slowBad = s.sys.slowBad ∧
      u.sys.ethRefBad = s.sys.ethRefBad ∧ u.sys.pcieRefBad = s.sys.pcieRefBad
  | .sysWake => u.sys.wake = s.sys.wake ∧ u.sys.latchedWake = s.sys.latchedWake
  | .dieLink => u.dieF2c = s.dieF2c ∧ u.dieC2f = s.dieC2f
  | .pairs => u.pairs = s.pairs
  | .strActive => u.str.active = s.str.active
  | .strApplying => u.str.applying = s.str.applying
  | .strCounter => u.str.storedCounter = s.str.storedCounter
  | .radioService => u.radio.l.inService = s.radio.l.inService ∧ u.radio.l.isolated = s.radio.l.isolated ∧
      u.radio.l.barred = s.radio.l.barred ∧ u.radio.m.inService = s.radio.m.inService ∧
      u.radio.m.isolated = s.radio.m.isolated ∧ u.radio.m.barred = s.radio.m.barred ∧
      u.radio.h.inService = s.radio.h.inService ∧ u.radio.h.isolated = s.radio.h.isolated ∧
      u.radio.h.barred = s.radio.h.barred
  | .radioLo => u.radio.l.loLocked = s.radio.l.loLocked ∧ u.radio.l.centre = s.radio.l.centre ∧
      u.radio.l.lockLost = s.radio.l.lockLost ∧ u.radio.m.loLocked = s.radio.m.loLocked ∧
      u.radio.m.centre = s.radio.m.centre ∧ u.radio.m.lockLost = s.radio.m.lockLost ∧
      u.radio.h.loLocked = s.radio.h.loLocked ∧ u.radio.h.centre = s.radio.h.centre ∧
      u.radio.h.lockLost = s.radio.h.lockLost
  | .radioCarriers => u.radio.l.carriers = s.radio.l.carriers ∧ u.radio.m.carriers = s.radio.m.carriers ∧
      u.radio.h.carriers = s.radio.h.carriers
  | .radioLines => u.radio.l.tr = s.radio.l.tr ∧ u.radio.l.paEn = s.radio.l.paEn ∧
      u.radio.l.paMode = s.radio.l.paMode ∧ u.radio.l.paBias = s.radio.l.paBias ∧
      u.radio.l.paLowAt = s.radio.l.paLowAt ∧ u.radio.l.paHighAt = s.radio.l.paHighAt ∧
      u.radio.l.paOff = s.radio.l.paOff ∧ u.radio.l.timing = s.radio.l.timing ∧ u.radio.m.tr = s.radio.m.tr ∧
      u.radio.m.paEn = s.radio.m.paEn ∧ u.radio.m.paMode = s.radio.m.paMode ∧ u.radio.m.paBias = s.radio.m.paBias ∧
      u.radio.m.paLowAt = s.radio.m.paLowAt ∧ u.radio.m.paHighAt = s.radio.m.paHighAt ∧
      u.radio.m.paOff = s.radio.m.paOff ∧ u.radio.m.timing = s.radio.m.timing ∧ u.radio.h.tr = s.radio.h.tr ∧
      u.radio.h.paEn = s.radio.h.paEn ∧ u.radio.h.paMode = s.radio.h.paMode ∧ u.radio.h.paBias = s.radio.h.paBias ∧
      u.radio.h.paLowAt = s.radio.h.paLowAt ∧ u.radio.h.paHighAt = s.radio.h.paHighAt ∧
      u.radio.h.paOff = s.radio.h.paOff ∧ u.radio.h.timing = s.radio.h.timing ∧ u.radio.l.trStep = s.radio.l.trStep ∧
      u.radio.m.trStep = s.radio.m.trStep ∧ u.radio.h.trStep = s.radio.h.trStep
  | .radioSamples => u.radio.l.rxValidAt = s.radio.l.rxValidAt ∧ u.radio.l.invalid = s.radio.l.invalid ∧
      u.radio.l.validFrom = s.radio.l.validFrom ∧ u.radio.m.rxValidAt = s.radio.m.rxValidAt ∧
      u.radio.m.invalid = s.radio.m.invalid ∧ u.radio.m.validFrom = s.radio.m.validFrom ∧
      u.radio.h.rxValidAt = s.radio.h.rxValidAt ∧ u.radio.h.invalid = s.radio.h.invalid ∧
      u.radio.h.validFrom = s.radio.h.validFrom ∧ u.radio.l.bad = s.radio.l.bad ∧ u.radio.m.bad = s.radio.m.bad ∧
      u.radio.h.bad = s.radio.h.bad
  | .radioDetector => u.radio.l.pdet = s.radio.l.pdet ∧ u.radio.l.pdetLevel = s.radio.l.pdetLevel ∧
      u.radio.l.tripped = s.radio.l.tripped ∧ u.radio.m.pdet = s.radio.m.pdet ∧
      u.radio.m.pdetLevel = s.radio.m.pdetLevel ∧ u.radio.m.tripped = s.radio.m.tripped ∧
      u.radio.h.pdet = s.radio.h.pdet ∧ u.radio.h.pdetLevel = s.radio.h.pdetLevel ∧
      u.radio.h.tripped = s.radio.h.tripped
  | .radioCoex => u.radio.l.coex = s.radio.l.coex ∧ u.radio.m.coex = s.radio.m.coex ∧ u.radio.h.coex = s.radio.h.coex
  | .radioRecal => u.radio.l.recal = s.radio.l.recal ∧ u.radio.m.recal = s.radio.m.recal ∧
      u.radio.h.recal = s.radio.h.recal
  | .radioCal => u.radio.l.corr = s.radio.l.corr ∧ u.radio.l.winLatch = s.radio.l.winLatch ∧
      u.radio.l.seededRun = s.radio.l.seededRun ∧ u.radio.m.corr = s.radio.m.corr ∧
      u.radio.m.winLatch = s.radio.m.winLatch ∧ u.radio.m.seededRun = s.radio.m.seededRun ∧
      u.radio.h.corr = s.radio.h.corr ∧ u.radio.h.winLatch = s.radio.h.winLatch ∧
      u.radio.h.seededRun = s.radio.h.seededRun
  | .rx => u.rx = s.rx
  | .lanes => u.lanes = s.lanes
  | .tx => u.tx = s.tx
  | .mac => u.mac = s.mac
  | .porchBookings => u.porch.bookings = s.porch.bookings ∧ u.porch.waiting = s.porch.waiting
  | .porchRest => u.porch.postAck = s.porch.postAck ∧ u.porch.floodOut = s.porch.floodOut
  | .dlsQueues => u.dls.queues = s.dls.queues
  | .dlsRest => u.dls.regions = s.dls.regions ∧ u.dls.records = s.dls.records ∧ u.dls.prof = s.dls.prof ∧
      u.dls.burst = s.dls.burst ∧ u.dls.lastRefill = s.dls.lastRefill
  | .tabNodes => u.tab.loft = s.tab.loft ∧ u.tab.cache = s.tab.cache
  | .tabEntries => u.tab.learn = s.tab.learn ∧ u.tab.spill = s.tab.spill ∧ u.tab.deletes = s.tab.deletes ∧
      u.tab.moving = s.tab.moving
  | .tabPrefixes => u.tab.prefixes = s.tab.prefixes ∧ u.tab.bloom = s.tab.bloom ∧ u.tab.rebuilding = s.tab.rebuilding
  | .jobs => u.jobs = s.jobs
  | .hifRings => u.hif.rings = s.hif.rings ∧ u.hif.cmdTurn = s.hif.cmdTurn
  | .hifLink => u.hif.linkUp = s.hif.linkUp ∧ u.hif.power = s.hif.power ∧ u.hif.l1 = s.hif.l1 ∧
      u.hif.pmeEn = s.hif.pmeEn ∧ u.hif.busMaster = s.hif.busMaster ∧ u.hif.msix = s.hif.msix ∧
      u.hif.pmeStatus = s.hif.pmeStatus
  | .hifPantry => u.hif.rxUsed = s.hif.rxUsed ∧ u.hif.safetyUsed = s.hif.safetyUsed ∧ u.hif.staging = s.hif.staging ∧
      u.hif.stalled = s.hif.stalled ∧ u.hif.safetySize = s.hif.safetySize
  | .hifPorts => u.hif.ports = s.hif.ports
  | .hifLanes => u.hif.rxJobs = s.hif.rxJobs ∧ u.hif.hbSeq = s.hif.hbSeq ∧ u.hif.hbPassed = s.hif.hbPassed ∧
      u.hif.busyOk = s.hif.busyOk ∧ u.hif.hbTaken = s.hif.hbTaken ∧ u.hif.hbWrong = s.hif.hbWrong
  | .tsuTime => u.tsu.base = s.tsu.base ∧ u.tsu.start = s.tsu.start ∧ u.tsu.incr = s.tsu.incr ∧
      u.tsu.latchSec = s.tsu.latchSec ∧ u.tsu.latchFrac = s.tsu.latchFrac ∧ u.tsu.step = s.tsu.step ∧
      u.tsu.accum = s.tsu.accum ∧ u.tsu.holdFrom = s.tsu.holdFrom ∧ u.tsu.cycleAt = s.tsu.cycleAt ∧
      u.tsu.past = s.tsu.past ∧ u.tsu.ratio = s.tsu.ratio
  | .tsuPins => u.tsu.pins = s.tsu.pins ∧ u.tsu.snaps = s.tsu.snaps ∧ u.tsu.snapPend = s.tsu.snapPend ∧
      u.tsu.hearthCaps = s.tsu.hearthCaps
  | .timers => u.timers = s.timers
  | .irqEvents => u.irq.events = s.irq.events
  | .irqSources => u.irq.srcs = s.irq.srcs ∧ u.irq.hostStack = s.irq.hostStack ∧ u.irq.supStack = s.irq.supStack ∧
      u.irq.told = s.irq.told ∧ u.irq.due = s.irq.due ∧ u.irq.hearthAt = s.irq.hearthAt ∧
      u.irq.hearthLeft = s.irq.hearthLeft ∧ u.irq.window = s.irq.window ∧ u.irq.supWoken = s.irq.supWoken ∧
      u.irq.supLine = s.irq.supLine ∧ u.irq.missA = s.irq.missA ∧ u.irq.missB = s.irq.missB
  | .irqWake => u.irq.wakeSeen = s.irq.wakeSeen ∧ u.irq.wakeSrc = s.irq.wakeSrc
  | .keyIdentity => u.key.lifecycle = s.key.lifecycle ∧ u.key.debugLatch = s.key.debugLatch ∧
      u.key.deviceId = s.key.deviceId ∧ u.key.devPub = s.key.devPub ∧ u.key.devPriv = s.key.devPriv ∧
      u.key.root = s.key.root
  | .keyStores => u.key.slotA = s.key.slotA ∧ u.key.slotB = s.key.slotB ∧ u.key.commitLive = s.key.commitLive ∧
      u.key.commitGen = s.key.commitGen ∧ u.key.commitCrc = s.key.commitCrc ∧ u.key.counter = s.key.counter
  | .keyEngine => u.key.integrity = s.key.integrity ∧ u.key.checked = s.key.checked ∧ u.key.cur = s.key.cur ∧
      u.key.prev = s.key.prev ∧ u.key.windowEnd = s.key.windowEnd ∧ u.key.sweep = s.key.sweep ∧
      u.key.sweepAt = s.key.sweepAt ∧ u.key.engineOwner = s.key.engineOwner ∧ u.key.wrapCtr = s.key.wrapCtr ∧
      u.key.regenDue = s.key.regenDue ∧ u.key.offTamper = s.key.offTamper ∧ u.key.staleJobs = s.key.staleJobs
  | .updFlash => u.upd.banks = s.upd.banks ∧ u.upd.slots = s.upd.slots ∧ u.upd.bundles = s.upd.bundles
  | .updNv => u.upd.nv0 = s.upd.nv0 ∧ u.upd.nv1 = s.upd.nv1 ∧ u.upd.fwMin = s.upd.fwMin ∧
      u.upd.bundleCounter = s.upd.bundleCounter
  | .updLock => u.upd.lock = s.upd.lock ∧ u.upd.lockAt = s.upd.lockAt ∧ u.upd.sessions = s.upd.sessions ∧
      u.upd.halves = s.upd.halves ∧ u.upd.answered = s.upd.answered
  | .updRun => u.upd.running = s.upd.running ∧ u.upd.runHdr = s.upd.runHdr ∧ u.upd.oldFw = s.upd.oldFw ∧
      u.upd.recordFormat = s.upd.recordFormat ∧ u.upd.handover = s.upd.handover ∧ u.upd.migrate = s.upd.migrate ∧
      u.upd.trialAt = s.upd.trialAt ∧ u.upd.warned = s.upd.warned ∧ u.upd.migrateAt = s.upd.migrateAt ∧
      u.upd.kept = s.upd.kept
  | .twinLine => u.twin.released = s.twin.released ∧ u.twin.ownDrive = s.twin.ownDrive ∧
      u.twin.probeAt = s.twin.probeAt ∧ u.twin.probeOk = s.twin.probeOk ∧ u.twin.claimFrom = s.twin.claimFrom ∧
      u.twin.claimAt = s.twin.claimAt ∧ u.twin.raise = s.twin.raise ∧ u.twin.lineReadback = s.twin.lineReadback ∧
      u.twin.gateFrom = s.twin.gateFrom
  | .twinLink => u.twin.l = s.twin.l ∧ u.twin.healthSeq = s.twin.healthSeq ∧ u.twin.lastHealth = s.twin.lastHealth ∧
      u.twin.cursor = s.twin.cursor ∧ u.twin.mirror = s.twin.mirror ∧ u.twin.acked = s.twin.acked ∧
      u.twin.offered = s.twin.offered ∧ u.twin.secured = s.twin.secured ∧ u.twin.peerDuty = s.twin.peerDuty ∧
      u.twin.offer = s.twin.offer ∧ u.twin.mirrorAt = s.twin.mirrorAt ∧ u.twin.mirrorLost = s.twin.mirrorLost ∧
      u.twin.silent = s.twin.silent
  | .twinSync => u.twin.sync = s.twin.sync ∧ u.twin.lastSync = s.twin.lastSync ∧ u.twin.hearthKept = s.twin.hearthKept
  | .safTests => u.saf.latentAt = s.saf.latentAt ∧ u.saf.latentFailed = s.saf.latentFailed ∧
      u.saf.tempFront = s.saf.tempFront ∧ u.saf.tempCore = s.saf.tempCore ∧ u.saf.hbAt = s.saf.hbAt
  | .safBeat => u.saf.hbRing = s.saf.hbRing
  | .dbg => u.dbg = s.dbg
  | .cellarRecords => u.cellar.records = s.cellar.records ∧ u.cellar.next = s.cellar.next
  | .cellarRest => u.cellar.opBase = s.cellar.opBase ∧ u.cellar.opFrom = s.cellar.opFrom ∧
      u.cellar.opSaved = s.cellar.opSaved ∧ u.cellar.powerCycles = s.cellar.powerCycles ∧
      u.cellar.lostFull = s.cellar.lostFull ∧ u.cellar.clearing = s.cellar.clearing ∧
      u.cellar.buckets = s.cellar.buckets ∧ u.cellar.hold = s.cellar.hold ∧ u.cellar.frozenAt = s.cellar.frozenAt ∧
      u.cellar.lostHold = s.cellar.lostHold ∧ u.cellar.unlearned = s.cellar.unlearned ∧
      u.cellar.latch = s.cellar.latch ∧ u.cellar.clearMsg = s.cellar.clearMsg
  | .safBg => u.saf.bg = s.saf.bg
  | .fwdBusy => u.tab.busy = s.tab.busy
  | .hifMsix => u.hif.msixTable = s.hif.msixTable ∧ u.hif.msixPending = s.hif.msixPending ∧
      u.hif.msixMask = s.hif.msixMask
  | .dutySaved => u.upd.dutyAt = s.upd.dutyAt

/-- `u` agrees with `s` in every piece of state but those listed. -/
def Frame (F : List Field) (s u : State) : Prop := ∀ f, F.contains f = false → agree s u f

/-- What an event of the Cellar may change. -/
def records : List Field := [.regs, .irqEvents, .cellarRecords, .cellarRest]

/-- What the end of a transmission may change. -/
def traffic : List Field := [.regs, .freeCtr, .outbox, .radioCarriers, .radioCoex, .tx, .mac, .porchBookings,
      .porchRest, .dlsQueues, .dlsRest, .tabNodes, .hifRings, .hifLink, .hifPantry, .hifPorts, .hifLanes, .irqEvents,
      .twinLink, .cellarRecords, .cellarRest, .hifMsix]

/-- What a change of mode may change. -/
def modeChange : List Field := [.regs, .freeCtr, .outbox, .sysMode, .sysTransition, .sysStage, .sysStart,
      .sysDomains, .dieLink, .pairs, .strApplying, .radioLo, .radioCarriers, .radioLines, .radioSamples,
      .radioDetector, .radioCoex, .radioRecal, .radioCal, .rx, .lanes, .tx, .mac, .porchBookings, .porchRest,
      .dlsRest, .tabNodes, .tabEntries, .tabPrefixes, .jobs, .hifRings, .hifLink, .hifPantry, .hifPorts, .hifLanes,
      .tsuTime, .tsuPins, .timers, .irqEvents, .irqSources, .irqWake, .keyEngine, .updLock, .updRun, .twinLine,
      .twinLink, .twinSync, .safTests, .safBeat, .dbg, .cellarRecords, .cellarRest, .safBg, .fwdBusy, .hifMsix]

/-- What entering SAFE may change. -/
def safeEntry : List Field := [.regs, .freeCtr, .outbox, .sysMode, .sysTransition, .sysStart, .sysDomains, .sysWake,
      .dieLink, .pairs, .strActive, .strApplying, .radioService, .radioLo, .radioCarriers, .radioLines,
      .radioSamples, .radioDetector, .radioCoex, .radioRecal, .radioCal, .rx, .lanes, .tx, .mac, .porchBookings,
      .porchRest, .dlsQueues, .dlsRest, .tabNodes, .tabEntries, .tabPrefixes, .jobs, .hifRings, .hifLink, .hifPantry,
      .hifPorts, .hifLanes, .tsuTime, .tsuPins, .timers, .irqEvents, .irqSources, .irqWake, .keyEngine, .updLock,
      .updRun, .twinLine, .twinLink, .twinSync, .safTests, .safBeat, .dbg, .cellarRecords, .cellarRest, .safBg,
      .fwdBusy, .hifMsix]

/-- What a reset of the package changes. -/
def packageResets : List Field := [.regs, .loftReady, .oos, .oosClusters, .sysMode, .sysTransition, .sysCommand,
      .sysStage, .sysStart, .sysDomains, .sysBoard, .sysWake, .dieLink, .pairs, .strActive, .strApplying,
      .radioService, .radioLo, .radioCarriers, .radioLines, .radioSamples, .radioDetector, .radioCoex, .radioRecal,
      .radioCal, .rx, .lanes, .tx, .mac, .porchBookings, .porchRest, .dlsQueues, .dlsRest, .tabNodes, .tabEntries,
      .tabPrefixes, .jobs, .hifRings, .hifLink, .hifPantry, .hifPorts, .hifLanes, .tsuTime, .tsuPins, .timers,
      .irqEvents, .irqSources, .irqWake, .keyIdentity, .keyEngine, .updFlash, .updLock, .updRun, .twinLine,
      .twinLink, .twinSync, .safTests, .safBeat, .dbg, .cellarRest, .safBg, .fwdBusy, .hifMsix, .dutySaved]

/-- The pieces of state that a command may change; it leaves every other as it was. -/
def touches : Instr → List Field
  -- registers and the structure image (chapters 0 and 2)
  | .registerWrite .. => packageResets ++ [.now, .readData, .freeCtr, .outbox, .strCounter, .updNv, .cellarRecords]
  | .strNone .. => [.regs, .irqEvents]
  | .strValidate .. => records
  | .strApply .. => modeChange ++ [.now, .oos, .oosClusters, .sysCommand, .strActive, .strCounter, .radioService,
      .dlsQueues]
  | .strStore .. => records ++ [.updFlash]
  | .strSetDefault .. => records ++ [.updNv]
  | .strOpRefused .. => [.regs, .irqEvents]
  | .defaultImageLoad .. => safeEntry ++ [.now, .oos, .oosClusters, .sysCommand, .sysStage, .strCounter]
  -- clocks, power domains, modes and start-up (chapter 3)
  | .tcxoFailure .. => safeEntry ++ [.now, .sysBoard]
  | .pllUnlock .. => safeEntry ++ [.now]
  | .ethReferenceLoss .. => [.now, .regs, .freeCtr, .outbox, .sysBoard, .jobs, .hifRings, .hifLink, .hifPorts,
      .irqEvents, .twinLine, .twinLink, .twinSync, .hifMsix]
  | .pcieReferenceLoss .. => [.now, .regs, .sysBoard, .hifRings, .hifLink, .hifPantry, .hifMsix]
  | .slowCrystalStop .. => records ++ [.now, .loftReady, .sysMode, .sysStage, .sysStart, .sysBoard, .sysWake,
      .strActive, .strApplying, .radioService, .irqWake]
  | .pgTimeout .. => safeEntry ++ [.now, .sysStage]
  | .modeCmdHearth .. => modeChange ++ [.now, .sysCommand, .radioService, .dlsQueues]
  | .modeCmdConfigure .. => modeChange ++ [.now, .sysCommand, .radioService, .dlsQueues]
  | .modeCmdActive .. => modeChange ++ [.now, .sysCommand, .radioService, .dlsQueues]
  | .modeCmdQuiet .. => modeChange ++ [.now, .sysCommand, .radioService, .dlsQueues]
  | .modeCmdStandby .. => modeChange ++ [.now, .sysCommand, .radioService, .dlsQueues]
  | .heldModeCommand .. => modeChange ++ [.now, .sysCommand, .radioService, .dlsQueues]
  | .hearthWake .. => [.now, .regs, .loftReady, .sysMode, .sysStage, .sysStart, .sysWake, .strActive, .strApplying,
      .radioService, .irqWake]
  | .unitFault .. => safeEntry ++ [.now, .oos, .sysStage]
  | .clusterFault .. => modeChange ++ [.now, .oosClusters]
  | .radioRegionFault .. => safeEntry ++ [.now, .sysStage]
  | .coreRegionFault .. => safeEntry ++ [.now]
  | .powerOn .. => packageResets ++ [.now]
  | .supplyLoss .. => packageResets ++ [.now]
  | .pinReset .. => packageResets ++ [.now, .outbox]
  | .watchdogReset .. => packageResets ++ [.now, .updNv]
  | .hostReset .. => packageResets ++ [.now]
  | .recoveryReset .. => packageResets ++ [.now]
  | .pcieReset .. => [.now, .regs, .loftReady, .sysMode, .sysStage, .sysStart, .sysWake, .strActive, .strApplying,
      .radioService, .hifRings, .hifLink, .hifPantry, .irqEvents, .irqWake, .hifMsix]
  | .brownOut .. => packageResets ++ [.now]
  | .supplyOutOfRange .. => safeEntry ++ [.now, .sysCommand, .sysStage, .sysBoard]
  | .powerCoreGoodLow .. => packageResets ++ [.now]
  | .hearthFeedChange .. => [.now, .regs, .loftReady, .sysMode, .sysStage, .sysStart, .sysBoard, .sysWake,
      .strActive, .strApplying, .radioService, .irqEvents, .irqWake]
  | .rootPllLock .. => records ++ [.now, .freeCtr, .outbox, .sysStage, .sysStart, .sysDomains, .dieLink, .pairs,
      .strApplying, .radioLo, .radioCarriers, .radioLines, .radioSamples, .radioDetector, .radioCoex, .radioRecal,
      .radioCal, .rx, .lanes, .tx, .mac, .porchBookings, .porchRest, .dlsRest, .tabNodes, .tabEntries, .tabPrefixes,
      .jobs, .hifRings, .hifLink, .hifPantry, .hifPorts, .hifLanes, .tsuTime, .tsuPins, .timers, .irqSources,
      .irqWake, .keyEngine, .updLock, .updRun, .twinLine, .twinLink, .twinSync, .safTests, .safBeat, .dbg, .safBg,
      .fwdBusy, .hifMsix]
  | .pllLockTimeout .. => [.now, .sysStage]
  | .dieLinkTrained .. => [.now, .sysStage, .dieLink]
  | .dieLinkTrainTimeout .. => [.now, .regs, .sysStage]
  | .pcieLinkUp .. => [.now, .regs, .outbox, .sysStage, .hifRings, .hifLink, .hifPantry, .hifPorts, .hifLanes,
      .irqSources, .hifMsix]
  | .bootBankSelect .. => records ++ [.now, .freeCtr, .outbox, .sysStage, .sysStart, .sysDomains, .sysWake, .dieLink,
      .pairs, .strApplying, .radioLo, .radioCarriers, .radioLines, .radioSamples, .radioDetector, .radioCoex,
      .radioRecal, .radioCal, .rx, .lanes, .tx, .mac, .porchBookings, .porchRest, .dlsRest, .tabNodes, .tabEntries,
      .tabPrefixes, .jobs, .hifRings, .hifLink, .hifPantry, .hifPorts, .hifLanes, .tsuTime, .tsuPins, .timers,
      .irqSources, .irqWake, .keyIdentity, .keyStores, .keyEngine, .updNv, .updLock, .updRun, .twinLine, .twinLink,
      .twinSync, .safTests, .safBeat, .dbg, .safBg, .fwdBusy, .hifMsix]
  | .lpddr5Trained .. => records ++ [.now, .loftReady, .sysStage]
  | .selfTestComplete .. => safeEntry ++ [.now, .oos, .sysStage]
  | .flitCrcFail .. => safeEntry ++ [.now]
  | .dieLinkNak .. => safeEntry ++ [.now]
  | .dieLinkRetrainDone .. => safeEntry ++ [.now]
  -- radio front ends (chapter 4)
  | .rfcRecalNow .. => [.regs, .radioRecal]
  | .recalIntervalExpiry .. => [.now, .radioRecal]
  | .recalTemperatureDue .. => [.now, .radioRecal, .radioCal]
  | .recalStart .. => [.now, .regs, .radioService, .radioLo, .radioCarriers, .radioLines, .radioSamples,
      .radioDetector, .radioCoex, .radioRecal, .radioCal, .lanes]
  | .recalDeferLimit .. => [.now, .regs, .radioRecal]
  | .recalDone .. => traffic ++ [.now, .radioService, .radioLo, .radioLines, .radioSamples, .radioDetector,
      .radioRecal, .radioCal, .lanes]
  | .transmitCommand .. => traffic ++ [.now]
  | .backoffEnd .. => traffic ++ [.now]
  | .ccaEnd .. => traffic ++ [.now]
  | .startInstantReached .. => [.now, .radioCarriers]
  | .backoffDeadline .. => traffic ++ [.now]
  | .txStart .. => traffic ++ [.now, .radioService, .radioLo, .radioLines, .radioSamples, .radioDetector,
      .radioRecal, .radioCal, .lanes]
  | .paSettleExpiry .. => [.now, .radioCarriers]
  | .txEnd .. => traffic ++ [.now, .radioLines]
  | .paOffExpiry .. => traffic ++ [.now, .radioService, .radioLo, .radioLines, .radioSamples, .radioDetector,
      .radioRecal, .radioCal, .lanes]
  | .rxSettleExpiry .. => traffic ++ [.now, .radioSamples]
  | .loLock .. => traffic ++ [.now, .radioLo]
  | .loLockLost .. => safeEntry ++ [.now, .sysStage]
  | .pdetSample .. => safeEntry ++ [.now]
  | .txTimeoutExpiry .. => safeEntry ++ [.now, .oos, .sysStage]
  | .coexGrantRise .. => [.now, .radioCoex]
  | .coexGrantFall .. => traffic ++ [.now, .radioLines]
  | .coexWaitExpiry .. => traffic ++ [.now]
  | .coexRequestRise .. => [.now, .radioCoex]
  | .coexRequestFall .. => traffic ++ [.now]
  | .coexMaxGrantExpiry .. => traffic ++ [.now]
  | .rfcWinDataRead .. => [.regs, .readData, .radioCal]
  | .rfcWinDataWrite .. => [.regs, .radioCal]
  | .profileMessage .. => records ++ [.now, .outbox, .radioService, .dlsRest, .jobs, .hifRings, .hifLink,
      .keyIdentity, .keyStores, .keyEngine, .hifMsix]
  -- whole-band reception (chapter 5)
  | .detectionReport .. => traffic ++ [.now, .rx, .lanes]
  | .headerCheck .. => traffic ++ [.now, .rx, .lanes, .safBeat]
  | .headerDeadlineExpiry .. => traffic ++ [.now, .rx, .lanes, .safBeat]
  | .pendingExpiry .. => traffic ++ [.now, .rx]
  | .quarantineExpiry .. => [.now, .rx]
  | .frameEnd .. => traffic ++ [.now, .rx, .lanes, .jobs, .safBeat]
  | .noiseFloorUpdate .. => [.now, .regs, .rx]
  | .binPowerUpdate .. => [.now, .regs, .rx]
  | .gainCommand .. => [.now, .regs, .rx, .lanes]
  | .gainTimedApply .. => [.now, .regs, .rx, .lanes]
  | .gainDeferredApply .. => [.now, .regs, .rx, .lanes]
  | .histogramSnapshot .. => [.now, .regs, .rx, .irqEvents]
  -- loading maps, medium access and the Porch (chapters 6 and 7)
  | .mapWinDataRead .. => [.regs, .readData, .tx]
  | .macReceive .. => traffic ++ [.now, .jobs, .keyEngine]
  | .dutySecondTick .. => [.now, .mac, .twinLink]
  | .dutySave .. => [.now, .updNv, .updRun, .dutySaved]
  | .downlinkRequest .. => records ++ [.now, .freeCtr, .outbox, .porchBookings, .porchRest, .dlsQueues, .tabNodes,
      .jobs, .hifRings, .hifLink, .hifPantry, .hifPorts, .hifLanes, .twinLink, .hifMsix]
  | .poolWaitResume .. => records ++ [.now, .freeCtr, .outbox, .porchBookings, .porchRest, .dlsQueues, .tabNodes,
      .hifRings, .hifLink, .hifPantry, .hifPorts, .hifLanes, .twinLink, .hifMsix]
  | .calendarFullRetry .. => records ++ [.now, .freeCtr, .outbox, .porchBookings, .porchRest, .dlsQueues, .tabNodes,
      .hifRings, .hifLink, .hifPantry, .hifPorts, .hifLanes, .twinLink, .hifMsix]
  | .bookingRelease .. => records ++ [.now, .freeCtr, .outbox, .radioCarriers, .mac, .porchBookings, .porchRest,
      .dlsQueues, .dlsRest, .tabNodes, .jobs, .hifRings, .hifLink, .hifPantry, .hifPorts, .hifLanes, .keyEngine,
      .twinLink, .hifMsix]
  | .bookingDeadline .. => traffic ++ [.now]
  | .ackWindowExpiry .. => traffic ++ [.now]
  | .strobeGapExpiry .. => traffic ++ [.now]
  | .beaconInstant .. => [.now, .regs, .freeCtr, .radioCarriers, .mac]
  -- downlink scheduling (chapter 10)
  | .shaperRefill .. => records ++ [.now, .freeCtr, .outbox, .radioCarriers, .mac, .porchBookings, .porchRest,
      .dlsQueues, .dlsRest, .tabNodes, .hifRings, .hifLink, .hifPantry, .hifPorts, .hifLanes, .twinLink, .hifMsix]
  | .dlsHistogramSample .. => [.now, .regs, .dlsRest]
  | .dlsHistClear .. => [.regs]
  | .dlsHistDataRead .. => [.regs, .readData, .dlsRest]
  -- forwarding and learning (chapter 8)
  | .fwdRead .. => records ++ [.freeCtr, .tabNodes, .fwdBusy]
  | .fwdWrite .. => records ++ [.freeCtr, .tx, .tabNodes, .tabEntries, .tabPrefixes, .twinLink, .fwdBusy]
  | .fwdInsert .. => records ++ [.freeCtr, .tabNodes, .tabEntries, .tabPrefixes, .fwdBusy]
  | .fwdDelete .. => records ++ [.freeCtr, .outbox, .radioService, .radioLo, .radioCarriers, .radioLines,
      .radioSamples, .radioDetector, .radioCoex, .radioRecal, .radioCal, .tx, .porchBookings, .porchRest, .dlsQueues,
      .tabNodes, .tabEntries, .tabPrefixes, .hifRings, .hifLink, .hifPantry, .hifPorts, .hifLanes, .twinLink,
      .fwdBusy, .hifMsix]
  | .fwdSearch .. => [.regs, .freeCtr, .irqEvents, .fwdBusy]
  | .prefixRebuild .. => [.regs, .tabPrefixes]
  | .prefixRebuildDone .. => [.now, .regs, .tabEntries, .tabPrefixes, .irqEvents]
  | .nodeWindowWrite .. => records ++ [.tabNodes, .twinLink]
  -- jobs and host rings (chapter 9)
  | .jobDispatch .. => records ++ [.freeCtr, .tabNodes, .tabEntries, .jobs, .twinLink]
  | .cryptoJob .. => [.regs, .jobs]
  | .submissionDoorbell .. => [.regs, .jobs, .hifRings]
  | .submissionDescriptor .. => records ++ [.now, .freeCtr, .outbox, .jobs, .hifRings, .hifLink, .hifPantry,
      .hifPorts, .hifLanes, .hifMsix]
  | .stagingResume .. => [.now, .hifPantry]
  | .commandDoorbell .. => [.regs, .jobs, .hifRings]
  | .echoMessage .. => records ++ [.outbox, .jobs, .hifRings, .hifLink, .hifMsix]
  | .deliveryHeadWrite .. => [.now, .regs, .outbox, .hifRings, .hifLink, .hifPantry, .hifPorts, .hifLanes, .hifMsix]
  | .ringEnable .. => [.now, .regs, .outbox, .hifRings, .hifLink, .hifPantry, .hifPorts, .hifLanes, .hifMsix]
  | .ringDisable .. => [.regs]
  | .ringReset .. => records ++ [.outbox, .radioService, .radioLo, .radioCarriers, .radioLines, .radioSamples,
      .radioDetector, .radioCoex, .radioRecal, .radioCal, .porchBookings, .porchRest, .dlsQueues, .tabNodes, .jobs,
      .hifRings, .hifLink, .hifPantry, .hifPorts, .hifLanes, .twinLink, .hifMsix]
  | .ringIrqMask .. => [.regs, .outbox, .hifRings, .hifLink, .hifMsix]
  | .ringDmaError .. => records ++ [.now, .hifRings]
  | .modTimerExpiry .. => [.now, .regs, .outbox, .hifRings, .hifLink, .hifMsix]
  | .hostSleepWrite .. => [.regs]
  | .pciePowerStateChange .. => [.now, .regs, .outbox, .hifRings, .hifLink, .hifPantry, .hifPorts, .hifLanes,
      .irqSources, .hifMsix]
  | .ethFrameReceive .. => [.now, .regs, .outbox, .jobs, .hifRings, .hifLink, .hifPantry, .hifPorts, .hifLanes,
      .hifMsix]
  | .pauseRefresh .. => [.now, .outbox, .hifPorts]
  | .ethPauseReceived .. => [.now, .hifPorts]
  | .ethFrameDepart .. => [.now, .regs, .outbox, .hifRings, .hifLink, .hifPantry, .hifPorts, .hifLanes, .irqEvents,
      .hifMsix]
  -- time, pins and timers (chapter 11)
  | .incrCommit .. => [.regs, .radioCarriers, .radioCoex, .tsuTime, .tsuPins]
  | .nowNsRead .. => [.readData, .tsuTime]
  | .timebaseStepOffset .. => [.regs, .tsuTime]
  | .timebaseStepSet .. => [.regs, .tsuTime]
  | .stepApply .. => records ++ [.now, .freeCtr, .outbox, .radioCarriers, .radioCoex, .porchBookings, .porchRest,
      .dlsQueues, .tabNodes, .hifRings, .hifLink, .hifPantry, .hifPorts, .hifLanes, .tsuTime, .tsuPins, .twinLink,
      .hifMsix]
  | .disciplinedWrite .. => [.regs, .tsuTime]
  | .holdoverExpiry .. => [.now, .regs]
  | .pinArm .. => [.regs, .tsuPins]
  | .pinStop .. => [.tsuPins]
  | .pinPulseStart .. => [.now, .regs, .tsuTime, .tsuPins]
  | .pinPulseEnd .. => [.now, .regs, .tsuPins]
  | .pinCapture .. => [.now, .regs, .tsuPins]
  | .pinStatusRead .. => [.regs, .readData, .tsuPins]
  | .snapshotReady .. => [.now, .regs, .tsuPins]
  | .snapDataRead .. => [.regs, .readData, .freeCtr]
  | .timerArm .. => [.regs, .timers]
  | .timerStop .. => [.timers]
  | .terminalCommit .. => [.regs, .timers]
  | .groupArm .. => [.regs, .timers]
  | .timerCountRead .. => [.readData, .timers]
  | .timerExpiry .. => [.now, .regs, .jobs, .timers]
  | .slowRatioMeasure .. => [.now, .regs, .tsuTime]
  -- interrupts (chapter 12)
  | .irqSourceEvent .. => safeEntry ++ [.now, .loftReady, .sysStage, .keyIdentity, .keyStores]
  | .irqStormWindow .. => [.now, .irqSources]
  | .irqClaim .. => [.readData, .outbox, .hifLink, .irqSources, .hifMsix]
  | .irqEoi .. => records ++ [.outbox, .hifLink, .irqSources, .hifMsix]
  | .irqSwi .. => records ++ [.outbox, .hifLink, .irqSources, .hifMsix]
  | .hearthTimerExpiry .. => [.now, .regs, .loftReady, .sysMode, .sysStage, .sysStart, .sysWake, .strActive,
      .strApplying, .radioService, .irqEvents, .irqSources, .irqWake]
  -- keys, lifecycle and debug (chapter 13)
  | .keyUpdateOwnerAuthority .. => records ++ [.now, .outbox, .jobs, .hifRings, .hifLink, .keyIdentity, .keyStores,
      .keyEngine, .hifMsix]
  | .keyUpdateNetworkKek .. => records ++ [.now, .outbox, .jobs, .hifRings, .hifLink, .keyIdentity, .keyStores,
      .keyEngine, .hifMsix]
  | .keyUpdateTwinLink .. => records ++ [.now, .outbox, .jobs, .hifRings, .hifLink, .keyIdentity, .keyStores,
      .keyEngine, .hifMsix]
  | .keyUpdateImage .. => records ++ [.now, .outbox, .jobs, .hifRings, .hifLink, .keyIdentity, .keyStores,
      .keyEngine, .hifMsix]
  | .keyUpdateTamperPolicy .. => records ++ [.now, .outbox, .jobs, .hifRings, .hifLink, .keyIdentity, .keyStores,
      .keyEngine, .hifMsix]
  | .keyUpdateZeroize .. => safeEntry ++ [.now, .keyIdentity, .keyStores]
  | .keyUpdateNodeKeys .. => records ++ [.now, .outbox, .tabNodes, .jobs, .hifRings, .hifLink, .keyIdentity,
      .keyStores, .keyEngine, .twinLink, .hifMsix]
  | .staleGenerationJob .. => records ++ [.tabNodes, .keyEngine, .twinLink]
  | .rolloverSweep .. => records ++ [.now, .tabNodes, .jobs, .keyEngine]
  | .rolloverWindowEnd .. => [.now, .regs, .irqEvents, .keyIdentity, .keyStores, .keyEngine]
  | .tamperDetected .. => safeEntry ++ [.now, .loftReady, .sysStage, .keyIdentity, .keyStores]
  | .keyRegeneration .. => [.now, .freeCtr, .keyIdentity, .keyEngine]
  | .maintenanceMessage .. => modeChange ++ [.now, .strActive, .radioService, .keyIdentity, .keyStores]
  | .tapBypass .. => [.outbox, .dbg]
  | .tapIdcode .. => [.outbox, .dbg]
  | .tapSamplePreload .. => [.outbox, .dbg]
  | .tapExtest .. => [.outbox, .dbg]
  | .tapClamp .. => [.outbox, .dbg]
  | .tapHighz .. => [.outbox, .dbg]
  | .tapDebugAccess .. => [.regs, .freeCtr, .outbox, .pairs, .dbg]
  | .tapPrivateTest .. => [.outbox, .dbg]
  | .dbgCoreHalt .. => [.regs, .pairs]
  | .dbgCoreStep .. => [.regs, .pairs]
  | .dbgMemDataAccess .. => [.regs, .readData, .freeCtr, .dbg]
  -- firmware update and recovery (chapter 14)
  | .fwOfferStore .. => records ++ [.now, .freeCtr, .outbox, .jobs, .hifRings, .hifLink, .updFlash, .updNv, .updLock,
      .updRun, .twinLink, .hifMsix]
  | .fwOfferActivate .. => records ++ [.now, .freeCtr, .outbox, .jobs, .hifRings, .hifLink, .updFlash, .updNv,
      .updLock, .updRun, .twinLink, .hifMsix]
  | .fwOfferReadBlock .. => records ++ [.freeCtr, .outbox, .jobs, .hifRings, .hifLink, .hifMsix]
  | .updateLockTimeout .. => [.now, .regs, .outbox, .jobs, .hifRings, .hifLink, .irqEvents, .updLock, .updRun,
      .twinLink, .hifMsix]
  | .idlePairReady .. => [.now, .regs, .outbox, .pairs, .jobs, .hifRings, .hifLink, .irqEvents, .updLock, .updRun,
      .twinLink, .hifMsix]
  | .handoverTimeout .. => [.now, .regs, .outbox, .jobs, .hifRings, .hifLink, .irqEvents, .updLock, .updRun,
      .twinLink, .hifMsix]
  | .firmwareConfirmation .. => records ++ [.now, .outbox, .jobs, .hifRings, .hifLink, .updNv, .updRun, .hifMsix]
  | .trialWarning .. => [.now, .irqEvents, .updRun]
  | .trialFallback .. => records ++ [.now, .sysStart, .pairs, .radioService, .radioLo, .radioCarriers, .radioLines,
      .radioSamples, .radioDetector, .radioCoex, .radioRecal, .radioCal, .keyEngine, .updNv, .updRun, .twinLink,
      .twinSync, .safTests, .dutySaved]
  | .nvStartModeWrite .. => [.regs, .updNv]
  | .recoveryChunk .. => records ++ [.now, .outbox, .updFlash, .updNv, .updLock, .updRun, .twinLink]
  | .ethSessionHello .. => [.outbox]
  | .ethSessionStart .. => records ++ [.now, .outbox, .updFlash, .updLock, .twinLink]
  | .ethSessionData .. => records ++ [.now, .outbox, .updFlash, .updLock, .twinLink]
  | .ethSessionEnd .. => [.now, .regs, .outbox, .irqEvents, .updFlash, .updNv, .updLock, .updRun, .twinLink]
  | .ethSessionReboot .. => packageResets ++ [.now]
  | .ethSessionAbort .. => [.updFlash, .updNv, .updLock, .updRun, .dutySaved]
  -- twin operation and functional safety (chapter 15)
  | .twinOwnChange .. => safeEntry ++ [.now, .loftReady, .sysStage]
  | .claimDelayExpiry .. => modeChange ++ [.now, .sysCommand, .radioService, .dlsQueues]
  | .lineFault .. => safeEntry ++ [.now]
  | .takeoverComplete .. => modeChange ++ [.now, .dlsQueues]
  | .takeoverTimeout .. => safeEntry ++ [.now]
  | .twinRxHello .. => [.now, .regs, .freeCtr, .outbox, .jobs, .hifRings, .hifLink, .irqEvents, .twinLine, .twinLink,
      .twinSync, .hifMsix]
  | .twinRxConfirm .. => safeEntry ++ [.now, .sysStage]
  | .twinRxClaim .. => modeChange ++ [.now, .radioService, .dlsQueues]
  | .twinRxYield .. => modeChange ++ [.now, .radioService, .dlsQueues]
  | .twinRxHealth .. => modeChange ++ [.now, .radioService, .dlsQueues]
  | .twinRxKeepalive .. => modeChange ++ [.now, .radioService, .dlsQueues]
  | .twinRxProbe .. => modeChange ++ [.now, .radioService, .dlsQueues]
  | .twinRxMirror .. => modeChange ++ [.now, .radioService, .dlsQueues]
  | .twinRxResyncReq .. => modeChange ++ [.now, .radioService, .dlsQueues]
  | .twinRxResyncData .. => modeChange ++ [.now, .radioService, .dlsQueues]
  | .twinRxResyncDone .. => modeChange ++ [.now, .radioService, .dlsQueues]
  | .twinRxXferStart .. => modeChange ++ [.now, .radioService, .dlsQueues, .updFlash]
  | .twinRxXferData .. => modeChange ++ [.now, .radioService, .dlsQueues, .updFlash]
  | .twinRxXferEnd .. => modeChange ++ [.now, .radioService, .dlsQueues, .updFlash, .updNv]
  | .twinRxXferRsp .. => modeChange ++ [.now, .radioService, .dlsQueues]
  | .twinHelloTimer .. => [.now, .freeCtr, .outbox, .irqEvents, .twinLink]
  | .twinRetransmitTimer .. => [.now, .outbox, .twinLink]
  | .twinKeepaliveTimer .. => [.now, .outbox, .twinLink]
  | .twinLinkTimeout .. => [.now, .regs, .freeCtr, .outbox, .jobs, .hifRings, .hifLink, .irqEvents, .twinLine,
      .twinLink, .twinSync, .hifMsix]
  | .twinHealthPeriod .. => [.now, .outbox, .twinLine, .twinLink, .safBg]
  | .standbyAckTimeout .. => modeChange ++ [.now, .radioService, .dlsQueues]
  | .heartbeatPeriod .. => safeEntry ++ [.now, .oos, .oosClusters, .sysStage]
  | .latentTestRun .. => safeEntry ++ [.now, .oosClusters, .sysStage]
  | .safRunLatent .. => [.regs]
  | .overtemp .. => safeEntry ++ [.now, .sysBoard]
  | .lockstepMiscompare .. => safeEntry ++ [.now, .updNv, .dutySaved]
  | .eccUncorrectable .. => safeEntry ++ [.now, .oosClusters, .sysStage]
  -- the Cellar (chapter 16)
  | .cellarClear .. => records ++ [.now, .outbox, .jobs, .hifRings, .hifLink, .keyIdentity, .keyStores, .keyEngine,
      .hifMsix]
  | .returnMessage .. => modeChange ++ [.now, .strActive, .radioService, .dlsQueues, .keyIdentity, .keyStores]
  | .cellarFreeze .. => [.now, .regs, .cellarRest]
  | .cellarUnfreeze .. => records ++ [.now]
  | .freezeTimeout .. => records ++ [.now]
  | .recWin0Read .. => [.regs, .readData, .cellarRest]
  | .recWin7Read .. => [.regs, .readData]
  | .opTimeSave .. => [.now, .cellarRest]
  -- the table's later rows
  | .twinBlockLockLoss .. => [.now, .regs, .freeCtr, .outbox, .jobs, .hifRings, .hifLink, .irqEvents, .twinLine,
      .twinLink, .twinSync, .hifMsix]
  | .ethLinkChange .. => [.now, .outbox, .hifRings, .hifLink, .hifPantry, .hifPorts, .hifLanes, .hifMsix]
  | .ethPauseQuantaExpiry .. => [.now, .hifPorts]
  | .msixEnableChange .. => [.now, .regs, .outbox, .hifRings, .hifLink, .hifPantry, .hifPorts, .hifLanes,
      .irqSources, .hifMsix]
  | .handoverCompleted .. => records ++ [.now, .outbox, .sysStart, .pairs, .jobs, .hifRings, .hifLink, .updNv,
      .updLock, .updRun, .twinLink, .hifMsix]
  | .modeTransitionComplete .. => safeEntry ++ [.now, .loftReady, .oos, .oosClusters, .sysCommand, .sysStage,
      .strCounter, .keyIdentity, .updNv, .dutySaved]
  | .powerCoreGoodRise .. => [.now, .sysBoard]
  | .migrationBackgroundPass .. => records ++ [.now, .tabNodes, .updRun, .twinLink]
  | .twinFrameSend .. => records ++ [.now, .outbox, .tabNodes, .twinLink]
  | .supervisorControlCycle .. => records ++ [.now, .outbox, .radioRecal, .jobs, .hifRings, .hifLink, .tsuTime,
      .hifMsix]
  | .ethReferenceRestored .. => [.now, .regs, .sysBoard]
  | .pcieReferenceRestored .. => [.now, .regs, .sysBoard]
  | .tcxoRestored .. => [.now, .sysBoard]
  | .rootPllRelock .. => [.now, .regs]
  | .supplyBackInRange .. => [.now, .sysBoard]
  | .overtempCleared .. => [.now, .sysBoard, .safTests]
  | .hearthSupplyLoss .. => [.now, .regs, .sysMode, .sysTransition, .sysCommand, .sysStage, .sysStart, .sysDomains,
      .sysBoard, .sysWake, .tsuTime, .tsuPins, .irqEvents, .irqSources, .irqWake, .twinLine, .twinLink, .twinSync]
  | .hearthSupplyReturn .. => [.now, .sysDomains, .sysBoard]
  | .coexPriChange .. => traffic ++ [.now]

/-- The third of the table a command stands in: registers, modes and radio front ends with the later rows (1), traffic, tables,
host, time and interrupts (2), keys, update, twin and Cellar (3). -/
def part : Instr → Nat
  | .registerWrite .. | .strNone .. | .strValidate .. | .strApply .. | .strStore .. | .strSetDefault ..
  | .strOpRefused .. | .defaultImageLoad .. | .tcxoFailure .. | .pllUnlock .. | .ethReferenceLoss ..
  | .pcieReferenceLoss .. | .slowCrystalStop .. | .pgTimeout .. | .modeCmdHearth .. | .modeCmdConfigure ..
  | .modeCmdActive .. | .modeCmdQuiet .. | .modeCmdStandby .. | .heldModeCommand .. | .hearthWake .. | .unitFault ..
  | .clusterFault .. | .radioRegionFault .. | .coreRegionFault .. | .powerOn .. | .supplyLoss .. | .pinReset ..
  | .watchdogReset .. | .hostReset .. | .recoveryReset .. | .pcieReset .. | .brownOut .. | .supplyOutOfRange ..
  | .powerCoreGoodLow .. | .hearthFeedChange .. | .rootPllLock .. | .pllLockTimeout .. | .dieLinkTrained ..
  | .dieLinkTrainTimeout .. | .pcieLinkUp .. | .bootBankSelect .. | .lpddr5Trained .. | .selfTestComplete ..
  | .flitCrcFail .. | .dieLinkNak .. | .dieLinkRetrainDone .. | .rfcRecalNow .. | .recalIntervalExpiry ..
  | .recalTemperatureDue .. | .recalStart .. | .recalDeferLimit .. | .recalDone .. | .transmitCommand ..
  | .backoffEnd .. | .ccaEnd .. | .startInstantReached .. | .backoffDeadline .. | .txStart .. | .paSettleExpiry ..
  | .txEnd .. | .paOffExpiry .. | .rxSettleExpiry .. | .loLock .. | .loLockLost .. | .pdetSample ..
  | .txTimeoutExpiry .. | .coexGrantRise .. | .coexGrantFall .. | .coexWaitExpiry .. | .coexRequestRise ..
  | .coexRequestFall .. | .coexMaxGrantExpiry .. | .rfcWinDataRead .. | .rfcWinDataWrite .. | .profileMessage ..
  | .twinBlockLockLoss .. | .ethLinkChange .. | .ethPauseQuantaExpiry .. | .msixEnableChange ..
  | .handoverCompleted .. | .modeTransitionComplete .. | .powerCoreGoodRise .. | .migrationBackgroundPass ..
  | .twinFrameSend .. | .supervisorControlCycle .. | .ethReferenceRestored .. | .pcieReferenceRestored ..
  | .tcxoRestored .. | .rootPllRelock .. | .supplyBackInRange .. | .overtempCleared .. | .hearthSupplyLoss ..
  | .hearthSupplyReturn .. | .coexPriChange .. => 1
  | .detectionReport .. | .headerCheck .. | .headerDeadlineExpiry .. | .pendingExpiry .. | .quarantineExpiry ..
  | .frameEnd .. | .noiseFloorUpdate .. | .binPowerUpdate .. | .gainCommand .. | .gainTimedApply ..
  | .gainDeferredApply .. | .histogramSnapshot .. | .mapWinDataRead .. | .macReceive .. | .dutySecondTick ..
  | .dutySave .. | .downlinkRequest .. | .poolWaitResume .. | .calendarFullRetry .. | .bookingRelease ..
  | .bookingDeadline .. | .ackWindowExpiry .. | .strobeGapExpiry .. | .beaconInstant .. | .shaperRefill ..
  | .dlsHistogramSample .. | .dlsHistClear .. | .dlsHistDataRead .. | .fwdRead .. | .fwdWrite .. | .fwdInsert ..
  | .fwdDelete .. | .fwdSearch .. | .prefixRebuild .. | .prefixRebuildDone .. | .nodeWindowWrite .. | .jobDispatch ..
  | .cryptoJob .. | .submissionDoorbell .. | .submissionDescriptor .. | .stagingResume .. | .commandDoorbell ..
  | .echoMessage .. | .deliveryHeadWrite .. | .ringEnable .. | .ringDisable .. | .ringReset .. | .ringIrqMask ..
  | .ringDmaError .. | .modTimerExpiry .. | .hostSleepWrite .. | .pciePowerStateChange .. | .ethFrameReceive ..
  | .pauseRefresh .. | .ethPauseReceived .. | .ethFrameDepart .. | .incrCommit .. | .nowNsRead ..
  | .timebaseStepOffset .. | .timebaseStepSet .. | .stepApply .. | .disciplinedWrite .. | .holdoverExpiry ..
  | .pinArm .. | .pinStop .. | .pinPulseStart .. | .pinPulseEnd .. | .pinCapture .. | .pinStatusRead ..
  | .snapshotReady .. | .snapDataRead .. | .timerArm .. | .timerStop .. | .terminalCommit .. | .groupArm ..
  | .timerCountRead .. | .timerExpiry .. | .slowRatioMeasure .. | .irqSourceEvent .. | .irqStormWindow ..
  | .irqClaim .. | .irqEoi .. | .irqSwi .. | .hearthTimerExpiry .. => 2
  | .keyUpdateOwnerAuthority .. | .keyUpdateNetworkKek .. | .keyUpdateTwinLink .. | .keyUpdateImage ..
  | .keyUpdateTamperPolicy .. | .keyUpdateZeroize .. | .keyUpdateNodeKeys .. | .staleGenerationJob ..
  | .rolloverSweep .. | .rolloverWindowEnd .. | .tamperDetected .. | .keyRegeneration .. | .maintenanceMessage ..
  | .tapBypass .. | .tapIdcode .. | .tapSamplePreload .. | .tapExtest .. | .tapClamp .. | .tapHighz ..
  | .tapDebugAccess .. | .tapPrivateTest .. | .dbgCoreHalt .. | .dbgCoreStep .. | .dbgMemDataAccess ..
  | .fwOfferStore .. | .fwOfferActivate .. | .fwOfferReadBlock .. | .updateLockTimeout .. | .idlePairReady ..
  | .handoverTimeout .. | .firmwareConfirmation .. | .trialWarning .. | .trialFallback .. | .nvStartModeWrite ..
  | .recoveryChunk .. | .ethSessionHello .. | .ethSessionStart .. | .ethSessionData .. | .ethSessionEnd ..
  | .ethSessionReboot .. | .ethSessionAbort .. | .twinOwnChange .. | .claimDelayExpiry .. | .lineFault ..
  | .takeoverComplete .. | .takeoverTimeout .. | .twinRxHello .. | .twinRxConfirm .. | .twinRxClaim ..
  | .twinRxYield .. | .twinRxHealth .. | .twinRxKeepalive .. | .twinRxProbe .. | .twinRxMirror ..
  | .twinRxResyncReq .. | .twinRxResyncData .. | .twinRxResyncDone .. | .twinRxXferStart .. | .twinRxXferData ..
  | .twinRxXferEnd .. | .twinRxXferRsp .. | .twinHelloTimer .. | .twinRetransmitTimer .. | .twinKeepaliveTimer ..
  | .twinLinkTimeout .. | .twinHealthPeriod .. | .standbyAckTimeout .. | .heartbeatPeriod .. | .latentTestRun ..
  | .safRunLatent .. | .overtemp .. | .lockstepMiscompare .. | .eccUncorrectable .. | .cellarClear ..
  | .returnMessage .. | .cellarFreeze .. | .cellarUnfreeze .. | .freezeTimeout .. | .recWin0Read .. | .recWin7Read ..
  | .opTimeSave .. => 3

/-! Words the claims share. -/

/-- No register outside the list reads differently. -/
def SameRegs (s u : State) (l : List Nat) : Prop := ∀ a, l.contains a = false → u.rg a = s.rg a

/-- `STR.CMD` takes a command (R14, R61, R64): its domain is on, the running firmware serves it, none is in progress. -/
def strReady (s : State) : Prop :=
  s.domOn 12 = true ∧ s.sys.mode ≠ .recovery ∧ s.sys.mode ≠ .returned ∧ s.rb Reg.strCmd 31 = false

/-- What an edge source's event adds to those that wait (R362, R364): nothing where the source is not ENABLED. -/
def heard (s : State) (n : Nat) : List Nat := if s.hears n then [n] else []

/-- An edge source's event is kept for the interrupt controller, where the source is ENABLED (R362, R364). -/
def raised (s u : State) (n : Nat) : Prop := s.hears n = true → u.irq.events.contains n = true

/-- A SAFE cause (R84, R88): from a mode with a row for it the router is in SAFE with that cause, and no transition is in
progress; in any other mode the mode and the cause read on. -/
def entersSafe (s u : State) (cause : Nat) : Prop :=
  if s.sys.mode.canSafe then
    u.sys.mode = .safe ∧ u.sys.previous = s.sys.mode ∧ u.sys.safeCause = BitVec.ofNat 8 cause ∧ u.sys.transition = none
  else u.sys.mode = s.sys.mode ∧ u.sys.previous = s.sys.previous ∧ u.sys.safeCause = s.sys.safeCause

/-- What a package reset leaves (R91): every register but the latched reset causes at its reset value, the start-up at stage
0 with only the always-on domain powered, and what the MRAM and the flash hold as it was. -/
def afterReset (s u : State) : Prop :=
  u.sys.mode = (if s.key.lifecycle = .returned then .returned else .off) ∧ u.sys.stage = 0 ∧ u.sys.domains = 0x0001 ∧
  u.str.active = none ∧ u.hif.linkUp = false ∧ (∀ a, a ≠ Reg.sysResetCause → u.rg a = regReset a) ∧
  u.key.lifecycle = s.key.lifecycle ∧ u.key.slotA = s.key.slotA ∧ u.key.slotB = s.key.slotB ∧ u.key.cur = none ∧
  u.upd.banks = s.upd.banks ∧ u.upd.slots = s.upd.slots ∧ u.cellar.records = s.cellar.records ∧ u.cellar.next = s.cellar.next

/-- Whether no carrier of a region is on air. -/
def quietAir (s : State) : Bool := allRegions.all (fun r => (s.carriersOn r).isEmpty)

/-- The writes of `SYS.MODE_CMD` and the mode each asks for (R85). -/
def modeCommands : List ((Bool → Nat → Instr) × Mode) :=
  [(.modeCmdHearth, .hearth), (.modeCmdConfigure, .configure), (.modeCmdActive, .active), (.modeCmdQuiet, .quiet),
   (.modeCmdStandby, .standby)]

/-- The job of a carrier that is in a phase whose end is due at tick `t`. -/
def jobAt (s : State) (r : Region) (c : Nat) (ph : CPhase) (t : Nat) : Option TxJob :=
  if (s.carrier r c).phase = ph ∧ (s.carrier r c).due ≤ max s.now t then (s.carrier r c).job else none

/-- A gain index applied or deferred (R162): applied at once while fewer than 16 changes lie within 2 ms, else held back. -/
def gainApplied (s u : State) (r : Region) (t i : Nat) : Prop :=
  let log := (s.rxr r).gainLog.filter (fun k => decide (max s.now t < k + msTicks 2))
  if log.length < 16 then
    u.gainIndex r = i ∧ (u.rxr r).gainLog = log ++ [max s.now t] ∧ (u.rxr r).gainTimed = false ∧ (u.rxr r).gainDeferred = none
  else (u.rxr r).gainDeferred = some i ∧ (u.rxr r).gainTimed = false ∧ u.gainIndex r = s.gainIndex r

/-- The commands of a block of `FWD` with their OP (R269). -/
def fwdCommands : List ((FwdFrom → Fin 5 → Instr) × Nat) :=
  [(.fwdRead, 1), (.fwdWrite, 2), (.fwdInsert, 3), (.fwdDelete, 4), (.fwdSearch, 5)]

/-- A block takes a command: its domains are on, an engine serves it, none is in progress. -/
def fwdOpen (s : State) (sup : Bool) (b : Nat) : Prop :=
  s.domOn 9 = true ∧ (sup = true → s.domOn 12 = true) ∧ s.fwdBusy (fwdSource sup b) = false ∧ s.blockOut b = false


/-- No other ring than `k` is touched. -/
def RingsBut (s u : State) (k : Nat) : Prop := ∀ j, j ≠ k → u.ring j = s.ring j

/-- A source reads as it did, but for the count of its changes in the window. -/
def SameSource (s u : State) (m : Nat) : Prop := { u.src m with changes := 0 } = { s.src m with changes := 0 }

/-- An edge of a source (R363, R364, R371): lost where it is disabled, merged where it is pending; otherwise it pends, or the
65th change of the window masks the source. -/
def edgeTaken (s u : State) (n : Nat) : Prop :=
  let x := s.src n
  let y := u.src n
  if x.enabled = false then y.pending = x.pending ∧ y.enabled = false
  else if x.pending = true then
    y.pending = true ∧ y.enabled = true ∧
      (if mergesEdge n then y.merged = true ∧ u.rb Reg.irqTrouble 2 = true else y.merged = x.merged)
  else
    let k := (s.irqRoll.src n).changes + 1
    if k ≤ 64 then y.pending = true ∧ y.enabled = true ∧ y.changes = k
    else y.pending = false ∧ y.enabled = false ∧ y.storm = true ∧ u.rb Reg.irqTrouble 1 = true

/-- A level source's condition (R364): PENDING follows it while the source is enabled and not ACTIVE, but for a change that
masks it. -/
def levelTaken (s u : State) (n : Nat) (cond : Bool) : Prop :=
  let x := s.src n
  let y := u.src n
  (x.active = true → y.pending = false ∧ y.enabled = x.enabled) ∧
  (x.active = false → if cond && x.enabled && ! x.pending && decide (64 ≤ (s.irqRoll.src n).changes) then
      y.pending = false ∧ y.enabled = false ∧ y.storm = true
    else y.pending = (cond && x.enabled) ∧ y.enabled = x.enabled)

/-- A message of a type that the supervisor takes up: it can be served, its lengths are right and its request was read (R294). -/
def taken (s : State) (m : Msg) (type : Nat) (lens : Nat → Bool) (rsp : Nat) : Prop :=
  s.mailReady m = true ∧ m.desc.msgType = type ∧ m.desc.reqLen ≤ 65536 ∧ lens m.desc.reqLen = true ∧ rsp ≤ m.desc.rspMax ∧
  m.req.isSome = true

/-- The request of a message. -/
def request (m : Msg) : Bytes := fit (m.req.getD []) m.desc.reqLen

/-- The message was answered with a RESULT and a response of which `P` holds. -/
def answered (s u : State) (m : Msg) (result : Nat) (P : Bytes → Prop) : Prop :=
  ∃ l l' rsp, u.outbox = s.outbox ++ l ++ [.answer m.ring.val m.desc.tag 0 result rsp] ++ l' ∧ P rsp

/-- The message was answered with a RESULT and no response. -/
def refusedWith (s u : State) (m : Msg) (result : Nat) : Prop := answered s u m result (fun rsp => rsp = [])

/-- The key updates with their SLOT (R389). -/
def keyRows : List ((Msg → Nat → Instr) × Nat) :=
  [(.keyUpdateOwnerAuthority, 0), (.keyUpdateNetworkKek, 1), (.keyUpdateTwinLink, 2), (.keyUpdateImage, 3),
   (.keyUpdateTamperPolicy, 4), (.keyUpdateZeroize, 5), (.keyUpdateNodeKeys, 0x10)]

/-- The first of checks 1 to 5 of R385 that a key update fails. -/
def keyRefusal (s : State) (b : Bytes) : Option Nat :=
  s.omCheck (omFormat 2 (fun k => k == 0x90 + 44 * kuEntries (slice b 0x40 0x90)) b && kuFields (omBody b)) (s.kuPermitted b) b

/-- The store committed in both slots holds a content at a new generation (R393). -/
def committed (s u : State) (P : KeyStore → Prop) : Prop :=
  ∃ y : KeyStore, u.key.slotA = ⟨some y, s.key.root.getD [], true⟩ ∧ u.key.slotB = u.key.slotA ∧ s.key.commitGen < y.gen ∧
    y.gen = u.key.commitGen ∧ u.key.commitOk = true ∧ u.key.cur = s.key.clear y.kek ∧ u.key.prev = s.key.clear y.prev ∧ P y

/-- The keys are destroyed, and what identifies the part is kept (R410). -/
def keysErased (s u : State) : Prop :=
  u.key.cur = none ∧ u.key.prev = none ∧ u.key.slotA = KeySlot.erased ∧ u.key.slotB = KeySlot.erased ∧ u.key.root = none ∧
  u.key.devPriv = none ∧ u.key.commitGen = s.key.commitGen ∧ u.key.deviceId = s.key.deviceId ∧ u.key.devPub = s.key.devPub

/-- What shifts out of the TAP. -/
def shifted (s u : State) (b : Bytes) : Prop := u.outbox = s.outbox ++ [.tdo b]

/-- A handover ended with an answer (R431): its ring's message is answered and the lock is free. -/
def handoverEnded (s u : State) (h : Handover) (result rule : Nat) : Prop :=
  u.upd.handover = none ∧ ∀ k, h.ring = some k → u.upd.lock = none ∧
    ∃ l, u.outbox = s.outbox ++ [.answer k h.tag 0 result (offerRsp h.counter h.bank.toNat rule 0)] ++ l

/-- An offer answered: RESULT, `UPD.LAST_RESULT` and source 0x110 (R426, R445). -/
def offerAnswered (s u : State) (m : Msg) (result : Nat) : Prop :=
  answered s u m result (fun rsp => rsp.length = 16) ∧ u.rg Reg.updLastResult = BitVec.ofNat 32 (2 * 2 ^ 24 + result) ∧
  raised s u 0x110

/-- A session frame was acknowledged to its sender with a status and the next offset expected (R443). -/
def acked (s u : State) (h : Nat) (peer : Bytes) (seq : BitVec 16) (target status next : Nat) : Prop :=
  u.outbox = s.outbox ++
    [.sessionAnswer (h - 4) (peer ++ s.sessAddr (h - 4) ++ [0x88, 0xB5] ++ s.sessBody 5 seq.toNat target status next [])]

/-- A session ended with a result (R426, R443): it is closed, and its lock is free. -/
def sessionOver (u : State) (h result : Nat) : Prop :=
  u.sess h = none ∧ u.upd.lock ≠ some h ∧ u.rg Reg.updLastResult = BitVec.ofNat 32 (h * 2 ^ 24 + result)

/-- The commands that receive an encrypted frame, with its type (R455). -/
def twinRows (ok : Bool) : List ((Bytes → Nat → Instr) × Nat) :=
  [(.twinRxConfirm, 2), (.twinRxClaim, 3), (.twinRxYield, 4), (.twinRxHealth, 0x10), (.twinRxKeepalive, 0x11),
   (.twinRxProbe, 0x12), (.twinRxMirror, 0x20), (.twinRxResyncReq, 0x22), (.twinRxResyncData, 0x23), (.twinRxResyncDone, 0x24),
   (.twinRxXferStart, 0x40), (fun raw t => .twinRxXferData raw ok t, 0x41), (fun raw t => .twinRxXferEnd raw ok t, 0x42),
   (.twinRxXferRsp, 0x43)]

/-- The payload of a received frame, where its tag verifies (R454, R458). -/
def twinOpen (s : State) (raw : Bytes) : Option Bytes :=
  Config.gcmOpen s.peerKey (twinIv (! s.isB) (le raw 4 8)) (raw.take 20) (slice raw 20 (rawLen raw))
    (slice raw (20 + rawLen raw) 16)

/-- The link takes frames of a type: the lane runs and keys are derived. -/
def twinListens (s : State) (type : Nat) (raw : Bytes) : Prop :=
  s.laneUp = true ∧ 2 ≤ s.twin.l.link ∧ takesType type raw = true

/-- A frame of a type is the next one in order, and it is genuine; `p` is its payload. -/
def twinNext (s : State) (type : Nat) (raw p : Bytes) : Prop :=
  s.laneUp = true ∧ 2 ≤ s.twin.l.link ∧ twinCrcOk raw = true ∧ byteAt raw 0 = type ∧ byteAt raw 1 = 1 ∧
  twinOpen s raw = some p ∧ le raw 4 8 = s.twin.l.rxNext

/-- What an authentication failure leaves at tick `now` (R458): it is counted, and the fourth within 1 s takes the link down. -/
def authFailed (s u : State) (now : Nat) : Prop :=
  let recent := s.twin.l.authFails.filter (fun t => decide (now < t + secTicks 1))
  (u.rg Reg.twnAuthFailCnt).toNat = min 0xFFFFFFFF ((s.rg Reg.twnAuthFailCnt).toNat + 1) ∧ u.rb Reg.twnStatus 5 = true ∧
  if 3 ≤ recent.length then u.twin.l.link = 0
  else u.twin.l = { s.twin.l with authFails := recent ++ [now] } ∧ u.twin.sync = s.twin.sync

/-- What the loss of a link leaves (R458): frames, window and stream are gone; SYNC is LOST after IN_SYNC. -/
def linkLost (s u : State) : Prop :=
  if s.twin.l.link = 0 then u.twin = s.twin
  else
    u.twin.l = s.twin.l.again ∧ u.twin.offer = none ∧ u.twin.mirror = [] ∧ u.twin.mirrorLost = true ∧
    u.twin.cursor = none ∧ u.twin.ownDrive = s.twin.ownDrive ∧
    u.twin.sync = (if s.twin.sync = 2 then 3 else if s.twin.sync = 1 then 0 else s.twin.sync) ∧
    (s.twin.l.link = 3 → u.rb Reg.twnStatus 1 = true)

/-- A claim under way begins, or is given up (R449). -/
def claimed (u : State) (at_ : Nat) : Prop := u.twin.claimFrom = some at_
def unclaimed (u : State) : Prop := u.twin.claimFrom = none ∧ u.twin.probeAt = none ∧ u.twin.probeOk = false

/-- `DBG.MEM_ADDR` names neither supervisor memory nor a word of the keys. -/
def memStops (s : State) : Bool :=
  decide (0x200000 ≤ (s.rg Reg.dbgMemAddr).toNat) && ! s.dbg.keyWords.contains ((s.rg Reg.dbgMemAddr).toNat / 4)

/-- The commands that stop, and where: an access to `DBG.MEM_DATA` outside supervisor memory, a private test instruction in
RETURNED (NOTES.md, Stops). -/
def stops (s : State) : Instr → Bool
  | .registerWrite a _ => s.debugStop a
  | .dbgMemDataAccess _ _ => s.dbgBar && memStops s
  | .tapDebugAccess a =>
    s.debugState == .open_ && decide (a.addr % 0x40000 = 12) && memStops s
  | .tapPrivateTest _ => s.lifecycle == .returned && s.debugState != .none_
  | _ => false

/-- An access of the host to BAR0 is taken: the start-up has reached stage 3 and `SYS` is powered. -/
def barUp (s : State) : Prop := 3 ≤ s.sys.stage ∧ s.domOn 10 = true

/-- The registers that a write only stores to, as their access codes say: those of `CLK`, `PWR`, `TXP`, `DLS`, `KEY` and `CRY`. -/
def storedOnly (a : Nat) : Bool :=
  decide (0x10000 ≤ a ∧ a < 0x20000) || decide (0xC0000 ≤ a ∧ a < 0x100000) || decide (0x240000 ≤ a ∧ a < 0x280000) ||
    decide (0x300000 ≤ a ∧ a < 0x340000)

/-- What a register of the table holds after a write of `w` over `old` (R4); `kept` are the bits an event sets on the same tick,
which stay set (R5). -/
def written (x : RegRow) (old kept w : Word) : Word :=
  ((old &&& ~~~(x.rw ||| x.rwl)) ||| (w &&& (x.rw ||| x.rwl)) ||| (w &&& x.w1s)) &&& ~~~(w &&& x.w1c &&& ~~~kept)

/-- The registers a write to which is a row of its own, with that row. -/
def writeRows (w : Word) (now : Nat) : List (Nat × Instr) :=
  [(Reg.rfcWinData 0, .rfcWinDataWrite .L w), (Reg.rfcWinData 1, .rfcWinDataWrite .M w), (Reg.rfcWinData 2, .rfcWinDataWrite .H w),
   (Reg.rxpGainCtrl 0, .gainCommand .L w now), (Reg.rxpGainCtrl 1, .gainCommand .M w now),
   (Reg.rxpGainCtrl 2, .gainCommand .H w now), (Reg.hifHostSleep, .hostSleepWrite w), (Reg.tsuCtrl, .disciplinedWrite w),
   (Reg.tsuIncrFrac, .incrCommit w), (Reg.tmrGroupArm, .groupArm w), (Reg.irqHostEoi, .irqEoi .host w),
   (Reg.irqSwi, .irqSwi w), (Reg.updNvStartMode, .nvStartModeWrite w)]

/-- The registers a read of which is a row of its own, with that row. -/
def readRows : List (Nat × Instr) :=
  [(Reg.rfcWinData 0, .rfcWinDataRead .L), (Reg.rfcWinData 1, .rfcWinDataRead .M), (Reg.rfcWinData 2, .rfcWinDataRead .H),
   (Reg.txpMapWinData 0, .mapWinDataRead .L), (Reg.txpMapWinData 1, .mapWinDataRead .M),
   (Reg.txpMapWinData 2, .mapWinDataRead .H), (Reg.dlsHistData 0, .dlsHistDataRead .L), (Reg.dlsHistData 1, .dlsHistDataRead .M),
   (Reg.dlsHistData 2, .dlsHistDataRead .H), (Reg.tsuNowNs, .nowNsRead), (Reg.tsuSnapData, .snapDataRead),
   (Reg.irqHostClaim, .irqClaim .host), (Reg.recWin 0, .recWin0Read), (Reg.recWin 7, .recWin7Read)]

/-- The lifecycle states a step may lead to (R382). -/
def lifecycleTo : Lifecycle → List Lifecycle
  | .blank => [.blank, .field, .returned]
  | .field => [.field, .zeroized, .returned]
  | .fieldDebug => []
  | .zeroized => [.zeroized, .field, .returned]
  | .returned => [.returned]


/-- A mode command that no more is held off begins its transition (R85, R88); STANDBY by way of the twin is entered at once
where nothing waits to be mirrored (R453). -/
def begins (s u : State) (target m : Mode) (k : TransKind) (t : Nat) : Prop :=
  u.sys.heldCmd = none ∧
  ((u.sys.mode = s.sys.mode ∧ u.sys.transition = some ⟨m, k, max s.now t⟩ ∧ u.sys.quietClaim = (target == .quiet)) ∨
    (k = .yieldWait ∧ quietAir s = true ∧ u.sys.mode = .standby ∧ u.sys.previous = s.sys.mode ∧ u.sys.transition = none))

/-- Every table entry, node record and prefix filter stands as it did; only the blocks' times in progress may differ. -/
def SameTables (s u : State) : Prop := { u.tab with busy := s.tab.busy } = s.tab
end Sys2Proof
end

