-- ==== Sys2Proof/Certificates/Slice0/Obligations.lean ====
section
/-! DEFINITION. Certificates/Slice0/Obligations.lean: the statements for the provers. -/

open Sys2Proof Sys2Proof.Machine

/-- In a state in which `STR.CMD` takes commands (its domain is on, mode neither RECOVERY nor RETURNED, no command in
progress): OP NONE stores the fields, raises source 0x020 and leaves RESULT; an OP or a SOURCE the register does not name
answers REFUSED with rule 0x08 at package level; OP VALIDATE, with the update lock free, answers VALIDATED or the first
broken rule. No register but `STR.CMD` and `STR.RESULT` changes, and no other piece of state but the waiting events.
With the update lock free: OP STORE of a container that validates writes it to DEST_SLOT and answers STORED, every other
slot staying as it was; OP SET_DEFAULT of a slot whose container validates records the slot in the settings of the running
firmware and answers DEFAULT_SET; a container that does not validate leaves slots and settings as they were. -/
def Obligations.StructureCommands : Prop :=
  (∀ (s : State) (w : StrWord), strReady s →
     (Completes (.strNone w) s fun u => u.rg Reg.strCmd = BitVec.ofNat 32 (strFields w 0) ∧
       u.irq.events = s.irq.events ++ heard s 0x020 ∧ SameRegs s u [Reg.strCmd] ∧ Frame [.regs, .irqEvents] s u) ∧
     (∀ op : Fin 16, 5 ≤ op.val ∨ (op.val ≠ 0 ∧ 5 ≤ w.source.val) →
       Completes (.strOpRefused w op) s fun u => u.rg Reg.strResult = BitVec.ofNat 32 (Broken.pkg 0x08 noIx).word ∧
         u.irq.events = s.irq.events ++ heard s 0x020 ∧ SameRegs s u [Reg.strCmd, Reg.strResult] ∧ Frame [.regs, .irqEvents] s u) ∧
     (∀ e : StrEnv, w.source.val < 5 → s.upd.lock = none →
       Completes (.strValidate w e) s fun u =>
         u.rg Reg.strResult = (match s.strVerdict w e with | .broken b => BitVec.ofNat 32 b.word | .good _ _ => 4) ∧
         u.irq.events = s.irq.events ++ heard s 0x020 ∧ SameRegs s u [Reg.strCmd, Reg.strResult] ∧ Frame [.regs, .irqEvents] s u)) ∧
  (∀ (s : State) (w : StrWord) (e : StrEnv), strReady s → s.upd.lock = none → w.source.val < 5 →
     (Completes (.strStore w e) s fun u =>
       match s.strVerdict w e with
       | .broken b => u.rg Reg.strResult = BitVec.ofNat 32 b.word ∧ u.upd = s.upd
       | .good _ _ =>
         u.rg Reg.strResult = 9 ∧
         sget [] u.upd.slots w.dest.val = (if w.source.val = 0 then (e.host.getD []).take (s.rg Reg.strSrcLen).toNat
           else sget [] s.upd.slots (w.source.val - 1)) ∧
         ∀ k, k ≠ w.dest.val → sget [] u.upd.slots k = sget [] s.upd.slots k) ∧
     (Completes (.strSetDefault w e) s fun u =>
       match s.slotVerdict w.dest.val e.peer with
       | .broken b => u.rg Reg.strResult = BitVec.ofNat 32 b.word ∧ u.upd = s.upd
       | .good _ _ => u.rg Reg.strResult = 11 ∧ (s.nvOwn.isSome → u.nv.defaultSlot = w.dest.val)))

/-- OP APPLY with the update lock free: a broken container answers its rule; a good image equal in every section answers
UNCHANGED; live changes are applied and answer APPLIED_LIVE; structural changes outside CONFIGURE with AUTO 0 answer
NOT_IN_CONFIGURE and change no image; otherwise a structural application is in progress: RESULT is IN_PROGRESS, GO reads 1,
the update lock is held for it, and the mode stays. -/
def Obligations.StructureApplyAnswers : Prop :=
  ∀ (s : State) (w : StrWord) (e : StrEnv) (t : Nat), strReady s → s.upd.lock = none → w.source.val < 5 →
    Completes (.strApply w e t) s fun u =>
      match (s.tick t).strVerdict w e with
      | .broken b => u.rg Reg.strResult = BitVec.ofNat 32 b.word ∧ u.str = s.str
      | .good im _ =>
        if s.changedSecs im = [] then u.rg Reg.strResult = 10
        else if s.structural im = false then u.rg Reg.strResult = 2
        else if w.auto = false ∧ s.sys.mode ≠ .configure then u.rg Reg.strResult = 6 ∧ u.str = s.str
        else u.rg Reg.strResult = 1 ∧ u.rb Reg.strCmd 31 = true ∧ u.str.applying = some (im, s.sys.mode) ∧
          u.upd.lock = some 1 ∧ u.sys.mode = s.sys.mode ∧
          u.sys.transition = some ⟨s.sys.mode, .structural, max s.now t⟩

/-- From every state: a TCXO failure or a PLL unlock is SAFE cause 0x05 while the clock domain is on, a rail out of range
cause 0x04 while the switched rails are monitored, a fault of the supervisor cause 0x07 and one of the network region or the
Strongroom cause 0x08; in a mode with no row to SAFE the mode stays. The condition that caused it is remembered, and
TCXO_RESTORED, ROOT_PLL_RELOCK and SUPPLY_BACK_IN_RANGE only end their condition.
A lost Ethernet reference takes both ports and the twin link down; a lost PCIe reference takes the PCIe link down; the
loss and the return show in `CLK.STATUS` while domain 10 is on; a stopped slow crystal is recorded once and moves the Hearth
to its RC oscillator, with source 0x007. -/
def Obligations.SafeCausesAndReferenceClocks : Prop :=
  (∀ (s : State) (t : Nat),
     (Completes (.tcxoFailure t) s fun u => u.sys.tcxoBad = true ∧
       if s.domOn 2 then entersSafe s u 0x05 else u.sys = { s.sys with tcxoBad := true } ∧ u.regs = s.regs) ∧
     (Completes (.pllUnlock t) s fun u =>
       if s.domOn 2 ∧ s.rb Reg.clkStatus 0 then entersSafe s u 0x05 else u = s.tick t) ∧
     (∀ p, Completes (.coreRegionFault p t) s fun u =>
       if s.domOn 10 then entersSafe s u (match p with | .supervisor => 0x07 | _ => 0x08) else u = s.tick t) ∧
     (∀ rail, Completes (.supplyOutOfRange rail t) s fun u =>
       if s.sys.mainGood ∧ s.sys.coreEn then u.sys.supplyBad = true ∧ entersSafe s u 0x04 else u = s.tick t) ∧
     (Completes (.tcxoRestored t) s fun u => u.sys = { s.sys with tcxoBad := false } ∧ Frame [.now, .sysBoard] s u) ∧
     (Completes (.supplyBackInRange t) s fun u => u.sys = { s.sys with supplyBad := false } ∧ Frame [.now, .sysBoard] s u) ∧
     (Completes (.rootPllRelock t) s fun u =>
       (s.domOn 2 → u.rb Reg.clkStatus 0 = true) ∧ SameRegs s u [Reg.clkStatus] ∧ Frame [.now, .regs] s u)) ∧
  (∀ (s : State) (t : Nat),
     (Completes (.ethReferenceLoss t) s fun u => u.sys.ethRefBad = true ∧ (s.domOn 10 → u.rb Reg.clkStatus 2 = false) ∧
       (∀ p : Fin 2, (u.port p.val).up = false) ∧ u.twin.l.link = 0 ∧ u.sys.mode = s.sys.mode) ∧
     (Completes (.ethReferenceRestored t) s fun u => u.sys = { s.sys with ethRefBad := false } ∧
       (s.domOn 10 → u.rb Reg.clkStatus 2 = true) ∧ SameRegs s u [Reg.clkStatus] ∧ Frame [.now, .regs, .sysBoard] s u) ∧
     (Completes (.pcieReferenceLoss t) s fun u => u.sys.pcieRefBad = true ∧ u.hif.linkUp = false ∧
       (s.domOn 10 → u.rb Reg.clkStatus 3 = false) ∧ (s.hif.linkUp → u.hif.busMaster = false ∧ u.hif.msix = false ∧ u.hif.power = .d0)) ∧
     (Completes (.pcieReferenceRestored t) s fun u => u.sys = { s.sys with pcieRefBad := false } ∧
       (s.domOn 10 → u.rb Reg.clkStatus 3 = true) ∧ SameRegs s u [Reg.clkStatus] ∧ Frame [.now, .regs, .sysBoard] s u) ∧
     (Completes (.slowCrystalStop t) s fun u =>
       if s.sys.slowBad ∨ s.sys.hearthOn = false then u = s.tick t
       else u.sys.slowBad = true ∧ (s.sys.wake = none → s.sys.transition = none →
         u.sys = { s.sys with slowBad := true } ∧ (s.domOn 10 → s.domOn 12 = false →
           u.rb Reg.clkStatus 1 = false ∧ u.rb Reg.clkStatus 5 = true ∧ u.irq.events = s.irq.events ++ heard s 0x007))))

/-- A write of `SYS.MODE_CMD` that reaches the block is held while a transition is in progress, the start-up runs, the locks
of R87 are not set or a handover is about to take over; otherwise a target with no row from the present mode sets
REFUSED_STK and is discarded, TARGET as it was unless it takes the place of a command held before, and one with a row begins its transition and returns
the jobs that are not on air: the mode itself does not change yet, but for a STANDBY by way of the twin whose mirror has
nothing left to send, which is entered at once. A held command executes in the same way once nothing holds it. -/
def Obligations.ModeCommandsAreHeldRefusedOrBegun : Prop :=
  ∀ (s : State) (t : Nat), ∀ p ∈ modeCommands,
    (∀ host, Completes (p.1 host t) s fun u =>
      if s.domOn 10 = false ∨ s.sys.stage < 3 then u = s.tick t
      else if s.holdsCmd p.2 then
        u.sys.heldCmd = some p.2 ∧ u.sys.mode = s.sys.mode ∧ u.sys.transition = s.sys.transition ∧
          u.rf Reg.sysModeCmd 0 4 = p.2.code ∧ SameRegs s u [Reg.sysModeCmd]
      else match (s.tick t).commandRow p.2 with
        | none => u.rb Reg.sysModeCmd 29 = true ∧ u.sys.heldCmd = none ∧
          u.rf Reg.sysModeCmd 0 4 = (if s.sys.heldCmd = none then s.rf Reg.sysModeCmd 0 4 else p.2.code) ∧ u.sys.mode = s.sys.mode ∧ u.sys.transition = s.sys.transition ∧
          SameRegs s u [Reg.sysModeCmd]
        | some (m, k) => u.rf Reg.sysModeCmd 0 4 = p.2.code ∧ begins s u p.2 m k t) ∧
    (s.sys.heldCmd = some p.2 → Completes (.heldModeCommand t) s fun u =>
      if s.holdsCmd p.2 ∨ s.domOn 12 = false then u = s.tick t
      else match (s.tick t).commandRow p.2 with
        | none => u.rb Reg.sysModeCmd 29 = true ∧ u.sys.heldCmd = none ∧ u.sys.mode = s.sys.mode ∧
          u.sys.transition = s.sys.transition
        | some (m, k) => begins s u p.2 m k t)

/-- With no carrier on air a commanded transition enters its target (ACTIVE is DEGRADED while units are out), with PREVIOUS
the mode left and no transition in progress; entry to HEARTH is followed at once by the wakes latched meanwhile; STANDBY by
way of the twin waits for its mirror. With nothing in progress, or a carrier on air, nothing happens. In HEARTH a source of
the wake context starts a warm start from OFF with RESET_CAUSE bit 7, and is recorded as the wake source unless one was;
while the entry is in progress every source of the context is latched once; while the host domain is off a source is recorded. -/
def Obligations.TransitionsComplete : Prop :=
  ∀ (s : State) (t : Nat),
    (∀ e, Completes (.modeTransitionComplete e t) s fun u =>
      match s.sys.transition with
      | none => u = s.tick t
      | some ⟨m, .command, _⟩ =>
        if quietAir s then u.sys.mode = (if m = .active then s.activeMode else m) ∧ u.sys.previous = s.sys.mode ∧
          u.sys.transition = none
        else u = s.tick t
      | some ⟨_, .hearthEntry, _⟩ =>
        if quietAir s then u.sys.mode = (if s.sys.latchedWake = [] then .hearth else .off) ∧ u.sys.transition = none
        else u = s.tick t
      | some ⟨_, .yieldWait, _⟩ =>
        if quietAir s ∧ (s.tick t).mirrorDone then u.sys.mode = .standby ∧ u.sys.previous = s.sys.mode ∧
          u.sys.transition = none
        else u = s.tick t
      | some ⟨_, .structural, _⟩ => if s.str.applying = none then u = s.tick t else u.sys.transition = none) ∧
    (∀ n, Completes (.hearthWake n t) s fun u =>
      if (s.sys.transition.map (·.kind)) = some .hearthEntry then
        u.sys = { s.sys with latchedWake := if (s.tick t).wakeCtx.watch.contains n.val ∧ n.val ∉ s.sys.latchedWake then
          s.sys.latchedWake ++ [n.val] else s.sys.latchedWake } ∧ Frame [.now, .sysWake] s u
      else if (s.sys.mode = .hearth ∨ s.domOn 10 = false) ∧ (s.sys.wake.map (·.watch.contains n.val)) = some true then
        u.irq.wakeSrc = some (s.irq.wakeSrc.getD n.val) ∧ n.val ∈ u.irq.wakeSeen ∧
        (if s.sys.mode = .hearth then
          u.sys.mode = .off ∧ u.sys.warm = true ∧ u.sys.stage = 0 ∧ u.sys.coreEn = true ∧ u.str.active = none ∧
          u.rb Reg.sysResetCause 7 = true
        else u.sys = s.sys ∧ u.regs = s.regs)
      else u = s.tick t)

/-- While domain 10 is on, a faulty unit joins the units out of service and a faulty cluster the clusters, its lanes FREE;
a mode of ACTIVE becomes DEGRADED, a transition in progress going on, and every other mode stays; what is out already, by
itself or with its cluster, changes nothing, and the last unit of a kind without which the network region or the Strongroom
does not run is SAFE cause 0x08 (the model's choice, log entry 189). A radio region in service
that faults, itself or by its power domain's failed switching, leads at most to SAFE cause 0x09 or to DEGRADED. -/
def Obligations.FaultsTakeUnitsOut : Prop :=
  ∀ (s : State) (t : Nat) (cause : Word),
    (∀ x, Completes (.unitFault x cause t) s fun u =>
      if s.domOn 10 = false ∨ s.isOut x then u = s.tick t
      else u.oos = s.oos ++ [x] ∧
        if u.coreLost ∧ s.coreLost = false then entersSafe s u 0x08
        else u.sys.transition = s.sys.transition ∧ u.sys.mode = (if s.sys.mode = .active then .degraded else s.sys.mode)) ∧
    (∀ c, Completes (.clusterFault c cause t) s fun u =>
      if s.domOn 10 = false ∨ s.oosClusters.contains c.val then u = s.tick t
      else u.oosClusters = s.oosClusters ++ [c.val] ∧ (s.sys.mode ≠ .active → ∀ i, i < 32 → u.lane (32 * c.val + i) = none) ∧
        u.sys.mode = (if s.sys.mode = .active then .degraded else s.sys.mode)) ∧
    (∀ r, Completes (.radioRegionFault r cause t) s fun u =>
      if (s.radio.get r).inService then (u.radio.get r).inService = false ∧
        (u.sys.mode = (if s.sys.mode = .active then .degraded else s.sys.mode) ∨ s.sys.mode.needsRadio ∧ entersSafe s u 0x09)
      else u = s.tick t) ∧
    (∀ d, Completes (.pgTimeout d t) s fun u =>
      if s.domOn 10 = false ∨ d.val = 0 then u = s.tick t
      else if d.val = 10 ∨ d.val = 8 ∨ d.val = 9 then entersSafe s u 0x08
      else if d.val = 11 then entersSafe s u 0x07
      else if d.val = 1 ∨ 12 ≤ d.val then u.sys = s.sys ∧ SameRegs s u [Reg.pwrDomainState, Reg.recSuppressedCnt,
        Reg.recHoldOvfCnt, Reg.recStatus] ∧ u.rb Reg.pwrDomainState (16 + d.val) = true
      else u.sys.mode = (if s.sys.mode = .active then .degraded else s.sys.mode) ∨ u.sys.mode = s.sys.mode ∨
        entersSafe s u 0x09)

/-- Where it applies, each reset leaves what `afterReset` says; the latched cause is POR alone at a power-on and a core-rail
loss, POR and SUPPLY at a brown-out, and joins the causes already there for a pin, watchdog, host or recovery reset. Where
it does not apply nothing happens. While `RESET_N` is low the flash's pins are at high impedance, and what a board programmer writes then is
in the flash. Losing the supplies leads to OFF from every mode. -/
def Obligations.PackageResets : Prop :=
  ∀ (s : State) (st : Straps) (t : Nat),
    (Completes (.powerOn st t) s fun u =>
      if s.sys.mainGood = false ∨ (s.sys.stage = 0 ∧ s.sys.warm = false ∧ (s.sys.mode = .off ∨ s.sys.mode = .returned)) then
        afterReset s u ∧ u.rg Reg.sysResetCause = 0x1 ∧ u.sys.mainGood = true ∧ u.sys.straps = st
      else u = s.tick t) ∧
    (∀ flash, Completes (.pinReset ⟨st, flash⟩ t) s fun u =>
      ∃ v : State, u = (flash.foldl (fun y x => y.flashWrite x.1 x.2) (v.out .qspiHighZ)).keep (s.tick t) ∧
        if s.canReset then afterReset s v ∧ v.rb Reg.sysResetCause 1 = true ∧ v.sys.straps = st else v = s.tick t) ∧
    (Completes (.watchdogReset st t) s fun u =>
      if s.domOn 12 ∧ s.canReset then afterReset s u ∧ u.rb Reg.sysResetCause 3 = true else u.sys = s.sys) ∧
    (∀ w, Completes (.hostReset w st t) s fun u =>
      if s.resetWrite w 1 ∧ s.canReset then afterReset s u ∧ u.rb Reg.sysResetCause 4 = true else u = s.tick t) ∧
    (∀ w, Completes (.recoveryReset w st t) s fun u =>
      if s.resetWrite w 2 ∧ s.canReset then afterReset s u ∧ u.rb Reg.sysResetCause 5 = true ∧ u.sys.recoveryCmd = true
      else u = s.tick t) ∧
    (Completes (.brownOut st t) s fun u =>
      if s.canReset ∧ s.sys.coreEn then afterReset s u ∧ u.rg Reg.sysResetCause = 0x5 else u = s.tick t) ∧
    (Completes (.powerCoreGoodLow ⟨t, st⟩) s fun u => u.sys.coreGood = false ∧
      if s.sys.mode = .hearth ∨ (s.sys.mode = .off ∧ s.sys.stage = 0) ∨ s.canReset = false then
        u.sys.mode = s.sys.mode ∧ u.regs = s.regs
      else afterReset s u ∧ u.rg Reg.sysResetCause = 0x1 ∧ u.sys.straps = st) ∧
    (Completes (.supplyLoss t) s fun u => u.sys.mode = .off ∧ u.sys.mainGood = false ∧ u.sys.coreEn = false ∧
      u.loftReady = false ∧ u.sys.onBackup = true ∧ (∀ a, a ≠ Reg.sysResetCause → u.rg a = regReset a) ∧
      u.rg Reg.sysResetCause = s.rg Reg.sysResetCause ∧ u.key.slotA = s.key.slotA ∧ u.upd.banks = s.upd.banks)

/-- A PCIe reset while domains 10 and 15 are on stops bus mastering and MSI-X, returns the function to D0 and latches
RESET_CAUSE bit 6, without a change of mode; a link that went down is down, and `PERST_N` raises source 0x004, which the
Hearth notes while those domains are off. The Hearth's feed is noted with source 0x006; with the main supplies absent its loss empties the Hearth, and its return starts it empty.
A flit that arrives with its CRC-32C wrong asks for a replay, the transmitter keeping its last 128 flits, and the eighth
failure of one flit in a row retrains the direction; a flit whose NAK stands replays from the flit it names, counts, and
retrains after more than 1,024 within 1 ms; retraining that succeeds brings the direction up and ends its gap, and one that
fails names its bad lane and is SAFE cause 0x06. -/
def Obligations.SupplyPcieAndDieLinkEvents : Prop :=
  (∀ (s : State) (t : Nat),
     (∀ k, Completes (.pcieReset k t) s fun u =>
       if s.domOn 15 ∧ s.domOn 10 then
         u.hif.busMaster = false ∧ u.hif.msix = false ∧ u.hif.power = .d0 ∧ u.rb Reg.sysResetCause 6 = true ∧
         (k ≠ .perst ∨ (s.sys.wake = none ∧ s.sys.transition = none) → u.sys = s.sys) ∧ u.tab = s.tab ∧ u.key = s.key ∧
         (match k with
          | .linkDown => u.hif.linkUp = false
          | .perst => u.irq.events = s.irq.events ++ heard s 0x004 ∧ u.rb Reg.hifHostSleep 0 = false
          | _ => u.hif.linkUp = s.hif.linkUp)
       else if k = .perst then u = (s.tick t).hearthPend 0x004
       else u = s.tick t) ∧
     (∀ b, Completes (.hearthFeedChange b t) s fun u => u.sys.onBackup = b ∧
       u.irq.events = s.irq.events ++ heard s 0x006 ∧
       (s.sys.wake = none ∧ s.sys.transition = none →
         u.sys = { s.sys with onBackup := b } ∧ Frame [.now, .sysBoard, .irqEvents] s u)) ∧
     (Completes (.powerCoreGoodRise t) s fun u =>
       u.sys = (if s.sys.mainGood ∧ s.sys.coreEn then { s.sys with coreGood := true } else s.sys) ∧
       Frame [.now, .sysBoard] s u) ∧
     (Completes (.hearthSupplyLoss t) s fun u =>
       if s.sys.mainGood then u = s.tick t
       else u.sys.hearthOn = false ∧ u.sys.domains = 0 ∧ u.sys.wake = none ∧ u.rg Reg.sysResetCause = 0 ∧
         u.tsu.accum = 0 ∧ u.twin.hearthKept = false ∧ SameRegs s u [Reg.sysResetCause]) ∧
     (Completes (.hearthSupplyReturn t) s fun u =>
       if s.sys.mainGood ∨ s.sys.hearthOn then u = s.tick t
       else u.sys = { s.sys with hearthOn := true, onBackup := true, domains := 0x0001 } ∧ u.regs = s.regs)) ∧
  (∀ (s : State) (d : LinkDir) (t : Nat),
     (∀ f, Completes (.flitCrcFail d f t) s fun u =>
       let y := f.slots.foldl (fun y w => y.send (s.dieBack d) d w) (s.die d)
       let kept := y.kept
       let q := (kept.getLast?.map flitSeq).getD (flitSeq f.raw)
       let n := if (s.die d).failSeq = some q then (s.die d).failStreak + 1 else 1
       if (s.die d).up = false then u = s.tick t
       else if flitGood f.raw then u.die d = y ∧ u.regs = s.regs
       else if n < 8 then
         u.die d = { y with failSeq := some q, failStreak := n, nak := some q } ∧ u.regs = s.regs
       else (u.die d).up = false ∧ (u.die d).retraining = true ∧ (u.die d).failStreak = 0 ∧ (u.die d).nak = none ∧
         (u.die d).kept = []) ∧
     (∀ raw, Completes (.dieLinkNak d raw t) s fun u =>
       let recent := (s.die d).replays.filter (fun k => decide (max s.now t < k + msTicks 1))
       if ¬ ((s.die d).up ∧ flitGood raw ∧ flitNak raw ∧ (s.die d).nak = some (flitAck raw)) then u = s.tick t
       else if recent.length < 1024 then
         u.die d = { s.die d with replays := recent ++ [max s.now t], nak := none,
                                  replayed := flitsFrom (s.die d).kept (flitAck raw) } ∧
           SameRegs s u [Reg.clkDlinkReplayCnt] ∧
           (u.rg Reg.clkDlinkReplayCnt).toNat = min 0xFFFFFFFF ((s.rg Reg.clkDlinkReplayCnt).toNat + 1)
       else (u.die d).up = false ∧ (u.die d).retraining = true) ∧
     (∀ ok b, Completes (.dieLinkRetrainDone d ok b t) s fun u =>
       if (s.die d).retraining = false then u = s.tick t
       else if ok then
         u.die d = { s.die d with up := true, retraining := false, gaps := (s.tick t).spansEnd (s.die d).gaps } ∧
         u.sys = s.sys ∧ u.regs = s.regs
       else (u.die d).retraining = false ∧ entersSafe s u 0x06))

/-- Each event of the start-up counts in its own stage only: the root PLL's lock ends stage 0 with domains 1, 2, 10 and 15 on,
die-link training stage 1, the PCIe link stage 2, the choice of a firmware bank stage 3 (by way of 0xE where RECOVERY is asked
for or no bank is good), LPDDR5 training stage 4, the self-tests stage 5, in CONFIGURE, which a standing cause leaves for
SAFE; the default images load once. A PLL
or die-link step out of time is retried 8 times or twice, then the start-up halts at 0xF. -/
def Obligations.StartUpStages : Prop :=
  ∀ (s : State) (t : Nat),
    (Completes (.rootPllLock t) s fun u =>
      if s.sys.stage = 0 ∧ (s.sys.mode = .off ∨ s.sys.mode = .returned) ∧ s.domOn 1 ∧ s.sys.mainGood ∧ s.sys.coreGood ∧
          s.sys.coreEn ∧ s.sys.tcxoBad = false then
        u.sys.stage = 1 ∧ u.sys.mode = s.sys.mode ∧ u.cellar.opFrom = some (max s.now t)
      else u = s.tick t) ∧
    (Completes (.pllLockTimeout t) s fun u =>
      if s.sys.stage = 0 ∧ s.sys.mainGood ∧ s.sys.coreGood ∧ s.sys.coreEn ∧ s.sys.mode ≠ .hearth ∧
          s.sys.startTick + usTicks 200 ≤ max s.now t then
        u.sys = (if 8 ≤ s.sys.startTries then { s.sys with stage := 0xF }
          else { s.sys with startTries := s.sys.startTries + 1 }) ∧ u.regs = s.regs
      else u = s.tick t) ∧
    (Completes (.dieLinkTrained t) s fun u =>
      if s.sys.stage = 1 then u.sys.stage = 2 ∧ u.dieF2c.up = true ∧ u.dieC2f.up = true ∧ u.regs = s.regs
      else u = s.tick t) ∧
    (∀ b, Completes (.dieLinkTrainTimeout b t) s fun u =>
      if s.sys.stage = 1 ∧ s.sys.startTick + usTicks 1200 ≤ max s.now t then
        u.sys.stage = (if 2 ≤ s.sys.startTries then 0xF else 1) ∧ u.rf Reg.clkDlinkStatus 8 8 = b.val ∧
        SameRegs s u [Reg.clkDlinkStatus]
      else u = s.tick t) ∧
    (Completes (.pcieLinkUp t) s fun u =>
      if s.domOn 15 = false ∨ s.sys.pcieRefBad ∨ s.sys.stage < 2 ∨ s.sys.stage = 0xF then u = s.tick t
      else u.hif.linkUp = true ∧ u.sys.stage = (if s.sys.stage = 2 then 3 else s.sys.stage)) ∧
    (∀ a, Completes (.bootBankSelect a t) s fun u =>
      if s.sys.stage = 3 then
        u.sys.stage = (if s.key.lifecycle = .returned then 4
          else if s.sys.straps.recovery ∨ s.sys.recoveryCmd ∨ a = false ∨ s.bankPick = none then 0xE else 4)
      else u = s.tick t) ∧
    (∀ ok, Completes (.lpddr5Trained ok t) s fun u =>
      if s.sys.stage = 4 then u.sys.stage = 5 ∧ u.loftReady = ok else u = s.tick t) ∧
    (∀ f, Completes (.selfTestComplete f t) s fun u =>
      if s.sys.stage = 0xE ∧ s.sys.mode = .off then u.sys.mode = .recovery ∧ u.sys.previous = .off
      else if s.sys.stage = 5 then u.sys.stage = 7 ∧ (∀ x ∈ f, u.isOut x) ∧
        if s.key.lifecycle = .returned then u.sys.mode = s.sys.mode
        else match s.standingCause with
          | none => u.sys.mode = .configure
          | some c => u.sys.mode = .safe ∧ u.sys.previous = .configure ∧ u.sys.safeCause = BitVec.ofNat 8 c
      else u = s.tick t) ∧
    (∀ e, Completes (.defaultImageLoad e t) s fun u =>
      if s.sys.stage = 7 ∧ s.sys.mode = .configure ∧ s.sys.loadDone = false then u.sys.loadDone = true else u = s.tick t)

/-- RECAL.NOW, the interval and the temperature make a recalibration of the region due, and no other region's; it starts when
the region allows it, with the T/R lines at 00 and an end one blind time B away; one deferred for its limit is forced; at its
end none is running or due and the interval counts from then. A standby's loopback into the dummy load follows the same interval.
A lock lost is remembered for 10 s and leaves the LO unlocked, except that a recalibration begins again and the calibration
of an application goes on with its samples invalid; the third within 10 s puts the region out of service, unless an application
calibrates it. Half of the last 100 uncommanded comparator samples over the trip level are SAFE cause
0x0B. A carrier on air past the transmit timeout it started under goes out of service. -/
def Obligations.RecalibrationAndSafeguards : Prop :=
  (∀ (s : State) (r : Region) (t : Nat),
     (Completes (.rfcRecalNow r) s fun u =>
       if s.domOn r.frontDom then u.rb (Reg.rfcRecal r.ix) 31 = true ∧ (u.rad r).recal.due = true ∧
         (∀ q, q ≠ r → u.rad q = s.rad q) ∧ SameRegs s u [Reg.rfcRecal r.ix]
       else u.rad r = s.rad r ∧ SameRegs s u [Reg.sysAccessErr]) ∧
     (Completes (.recalIntervalExpiry r t) s fun u =>
       let looped := s.sys.mode = .standby ∧ s.calRegion r ∧
         (s.rad r).recal.loopAt + secTicks (s.calF r 0x40 4) ≤ max s.now t
       (u.rad r).recal.loopAt = (if looped then max s.now t else (s.rad r).recal.loopAt) ∧ u.regs = s.regs ∧
       if (s.tick t).recalOld r then (u.rad r).recal.due = true ∧
         (u.rad r).recal.dueAt = (if (s.rad r).recal.due then (s.rad r).recal.dueAt else max s.now t)
       else u = { s.tick t with radio := u.radio } ∧ (u.rad r).recal.due = (s.rad r).recal.due ∧ (∀ q, q ≠ r → u.rad q = s.rad q)) ∧
     (∀ temp : Byte, Completes (.recalTemperatureDue r temp t) s fun u =>
       (u.rad r).recal.due = ((s.rad r).recal.due || (s.calRegion r && s.sys.mode.recals && (s.rad r).recal.running.isNone &&
         decide (s.calF r 0x44 1 ≤ ((s.rad r).recal.lastTemp.toInt - temp.toInt).natAbs))) ∧
       (∀ q, q ≠ r → u.rad q = s.rad q) ∧ u.regs = s.regs) ∧
     (Completes (.recalStart r t) s fun u =>
       if s.calRegion r && s.sys.mode.recals && (s.rad r).recal.due && (s.rad r).recal.running.isNone && (s.rad r).loLocked &&
           ! (s.rad r).paEn && (s.tick t).recalClear r (usTicks (s.blindUs r + 100)) then
         (u.rad r).recal.running = some (max s.now t + usTicks (s.blindUs r)) ∧ (u.rad r).tr = 0 ∧ (u.rad r).invalid = true ∧
         (u.rad r).recal.blindUs = s.blindUs r ∧ u.rb (Reg.rfcRecal r.ix) 31 = false ∧ SameRegs s u [Reg.rfcRecal r.ix]
       else u = s.tick t) ∧
     (Completes (.recalDeferLimit r t) s fun u =>
       if s.calRegion r && s.sys.mode.recals && (s.rad r).recal.due && (s.rad r).recal.running.isNone &&
           ! (s.rad r).recal.forced && decide ((s.rad r).recal.dueAt + secTicks 1 ≤ max s.now t) then
         (u.rad r).recal = { (s.rad r).recal with forced := true } ∧ SameRegs s u [Reg.rfcRecalDeferCnt r.ix]
       else u = s.tick t) ∧
     (∀ cals corrs, Completes (.recalDone r cals corrs t) s fun u =>
       match (s.rad r).recal.running with
       | some e => if e ≤ max s.now t then
           (u.rad r).recal.running = none ∧ (u.rad r).recal.due = false ∧ (u.rad r).recal.lastAt = max s.now t ∧
           (u.rad r).loLocked = true ∧ (u.rad r).centre = 0
         else u = s.tick t
       | none => u = s.tick t)) ∧
  (∀ (s : State) (r : Region) (t : Nat),
     (Completes (.loLock r t) s fun u =>
       if s.calRegion r ∧ (s.rad r).loLocked = false then (u.rad r).loLocked = true ∧ (u.rad r).centre = 0 ∧ u.sys = s.sys
       else u = s.tick t) ∧
     (Completes (.loLockLost r t) s fun u =>
       let recent := (s.rad r).lockLost.filter (fun k => decide (max s.now t < k + secTicks 10))
       if (s.tick t).applyCal r ∨ (s.calRegion r ∧ (s.rad r).loLocked) then
         if recent.length < 2 ∨ (s.tick t).applyCal r then
           (u.rad r).lockLost = recent ++ [max s.now t] ∧ u.sys.mode = s.sys.mode ∧ (u.rad r).inService = (s.rad r).inService ∧
           (if (s.tick t).applyCal r then (u.rad r).loLocked = (s.rad r).loLocked ∧ (u.rad r).invalid = true
            else (u.rad r).loLocked = (s.rad r).recal.running.isSome)
         else (u.rad r).inService = false
       else u = s.tick t) ∧
     (∀ level : Byte, Completes (.pdetSample r level t) s fun u =>
       let l := ((decide (s.safF r.ix 1 < level.toNat) && (s.tick t).uncommanded r) :: (s.rad r).pdet).take 100
       if s.domOn r.frontDom = false ∨ s.str.active = none then u = s.tick t
       else if 50 ≤ l.countP id then entersSafe s u 0x0B
       else (u.rad r).pdet = l ∧ (u.rad r).pdetLevel = level ∧ u.regs = s.regs ∧ u.sys = s.sys) ∧
     (∀ c : Fin 4, Completes (.txTimeoutExpiry r c t) s fun u =>
       match (s.carrier r c.val).job with
       | none => u = s.tick t
       | some j =>
         if (s.carrier r c.val).phase = .onAir ∧
             (s.carrier r c.val).first + msTicks j.air.limitMs ≤ max s.now t + usTicks 2 then
           u.oos.contains (.carrier r c) = true ∧ (s.oos.contains (.carrier r c) = false → u.sys.mode ≠ .active)
         else u = s.tick t))

/-- A transmit command with a CCA begins a backoff, one without waits for its start instant, one that may not go on is held,
and one that the profile, the mode or the timeout refuses ends; a backoff ends in a CCA of its slot, which a reception, invalid
samples or a gap of the die link spoils, an idle CCA in the wait for the start, a command whose deadline has passed LATE, and
a slot another carrier took meanwhile holds it. A command that is not due changes nothing; beacons due are served first. -/
def Obligations.ListenBeforeTalk : Prop :=
  ∀ (s : State) (r : Region) (c : Fin 4) (t : Nat),
    (Completes (.transmitCommand r c t) s fun u =>
      match jobAt s r c.val .assigned t with
      | none => u = s.tick t
      | some j =>
        if (s.tick t).ackLate r j then u = ((s.tick t).jobEnd r c.val .late).keep (s.tick t)
        else match (s.tick t).txRefused r j with
        | some o => u = ((s.tick t).jobEnd r c.val o).keep (s.tick t)
        | none =>
        if s.slotOnAir r c.val j.slot ∨ (s.tick t).jobBlocked r j then (u.carrier r c.val).phase = .held
        else if s.jobCca r j then
          (u.carrier r c.val).phase = .backoff ∧ (u.carrier r c.val).job = some j ∧ (u.carrier r c.val).nb = 0
        else (u.carrier r c.val).phase = .wait ∧ (u.carrier r c.val).due = (s.tick t).t0For r j.start) ∧
    (Completes (.backoffEnd r c t) s fun u =>
      match jobAt s r c.val .backoff t with
      | none => u = s.tick t
      | some j =>
        if s.backoffLate r j (s.carrier r c.val).due then u = ((s.tick t).jobEnd r c.val .late).keep (s.tick t)
        else if (s.tick t).jobBlocked r j ∨ s.slotOnAir r c.val j.slot then (u.carrier r c.val).phase = .held
        else (u.carrier r c.val).phase = .cca ∧ (u.carrier r c.val).job = some j ∧
          (u.carrier r c.val).spoiled = (s.slotHeard r j.slot || (s.rad r).invalid || ! s.dieF2c.up) ∧ (u.carrier r c.val).due = max s.now t + usTicks (s.ccaDur r j.slot)) ∧
    (∀ power, Completes (.ccaEnd r c power t) s fun u =>
      match jobAt s r c.val .cca t with
      | none => u = s.tick t
      | some j =>
        if s.ccaThresh r j.slot ≤ power ∨ (s.carrier r c.val).spoiled then
          u = (((s.tick t).ccaBusy r c.val j).coexGrant r).keep (s.tick t)
        else if s.slotOnAir r c.val j.slot then (u.carrier r c.val).phase = .held ∧ u.regs = s.regs
        else match ((s.tick t).admitTx r j).2 with
        | none =>
          (u.carrier r c.val).phase = .starting ∧ (u.carrier r c.val).due = (s.tick t).t0For r j.start ∧ u.regs = s.regs
        | some o => u = (((s.tick t).admitTx r j).1.jobEnd r c.val o).keep (s.tick t)) ∧
    (Completes (.startInstantReached r c t) s fun u =>
      match jobAt s r c.val .wait t with
      | none => u = s.tick t
      | some j => u.carrier r c.val = { s.carrier r c.val with
            phase := if s.slotOnAir r c.val j.slot then .held else .starting, due := max s.now t, job := some j } ∧
          (∀ d, d ≠ c.val → u.carrier r d = s.carrier r d) ∧ u.regs = s.regs) ∧
    (Completes (.backoffDeadline r c t) s fun u =>
      let v := (s.tick t).beaconServe r
      match (v.carrier r c.val).job with
      | none => u = v.keep (s.tick t)
      | some j =>
        let ph := (v.carrier r c.val).phase
        if (ph = .backoff ∧ s.backoffLate r j (v.carrier r c.val).due) ∨
            ((ph = .held ∨ ph = .wait ∨ ph = .backoff ∨ ph = .cca) ∧ j.deadline < max s.now t) then
          u = ((v.jobEnd r c.val .late).coexGrant r).keep (s.tick t)
        else u = v.keep (s.tick t))

/-- At t0, put off while the PA of an earlier frame is still high, an admitted command raises `PAEN_x` 2 µs later with the carrier settling, or joins the carriers on air; after PA_SETTLE each
settled carrier is on air until its frame ends; at its end the frame has gone out, without what the ownership line withheld, and a downlink frame waits for its
acknowledgement; with no carrier on air `PAEN_x` falls and 1 µs later the T/R lines rest; after RX_SETTLE in receive the samples are valid. -/
def Obligations.TransmissionSequence : Prop :=
  ∀ (s : State) (r : Region) (t : Nat),
    (∀ c : Fin 4, Completes (.txStart r c t) s fun u =>
      match jobAt s r c.val .starting t with
      | none => u = s.tick t
      | some j =>
        if (s.tick t).regionBlocked r ∨ s.slotOnAir r c.val j.slot then (u.carrier r c.val).phase = .held
        else if (s.tick t).t0Wait r j.start then
          (u.carrier r c.val).phase = .starting ∧ (u.carrier r c.val).due = j.start - usTicks 2 ∧ u.regs = s.regs
        else if s.coexRole r = 1 ∧ (s.rad r).coex.gnt = false then u = s.tick t
        else match ((s.tick t).admitTx r j).2 with
        | none =>
          (u.rad r).paEn = true ∧
          (u.carrier r c.val).phase = (if (s.rad r).paAt (max s.now t) ∧
            (u.carrier r c.val).first ≤ max s.now t + usTicks 2 then .onAir else .settle) ∧
          (u.carrier r c.val).t0 = max s.now t ∧ u.sys = s.sys ∧
          ((s.rad r).paEn = false → (u.rad r).paHighAt = max s.now t + usTicks 2 ∧
            (u.carrier r c.val).first = max j.start (max s.now t + usTicks (4 + s.paOnUs r)))
        | some o => u = ((((s.tick t).admitTx r j).1.jobEnd r c.val o).airMoved r).keep (s.tick t)) ∧
    (Completes (.paSettleExpiry r t) s fun u => u.regs = s.regs ∧ ∀ c : Fin 4,
      match jobAt s r c.val .settle t with
      | none => u.carrier r c.val = s.carrier r c.val
      | some j => u.carrier r c.val = { s.carrier r c.val with
          phase := .onAir, due := (s.carrier r c.val).first + usTicks j.airtime }) ∧
    (∀ c : Fin 4, Completes (.txEnd r c t) s fun u =>
      match jobAt s r c.val .onAir t with
      | none => u = s.tick t
      | some j => ∃ v : State, u = ((v.airEnd r (2 + getBits (s.rad r).timing 16 8)).airMoved r).keep (s.tick t) ∧
          (j.kind = .downlink ∧ j.pre ≠ .strobe →
            v.outbox = s.outbox ++ [.air r c.val (s.carrier r c.val).first
              (match s.twin.gateFrom with | some g => j.hole g (max s.now t) | none => j)] ∧
            (v.carrier r c.val).phase = .ackWait ∧ (v.carrier r c.val).ended = max s.now t ∧
            (v.carrier r c.val).due = max s.now t + j.ackWindow)) ∧
    (Completes (.paOffExpiry r t) s fun u =>
      match (s.rad r).paOff with
      | some e => if e ≤ max s.now t ∧ (s.carriersOn r).isEmpty then
          (u.rad r).paEn = false ∧ (u.rad r).paOff = none ∧ (u.rad r).paBias = 0 ∧
          (u.rad r).trAt (max s.now t + usTicks 1) = s.trRest r
        else u = s.tick t
      | none => u = s.tick t) ∧
    (Completes (.rxSettleExpiry r t) s fun u =>
      match (s.rad r).rxValidAt with
      | some e => if e ≤ max s.now t ∧ (s.rad r).recal.running = none ∧ (s.rad r).trAt (max s.now t) = 1 then
          (u.rad r).invalid = false ∧ (u.rad r).validFrom = max s.now t ∧ (u.rad r).rxValidAt = none
        else u = s.tick t
      | none => u = s.tick t)

/-- For a requester a grant that rises is noted, and one that falls ends every carrier on air COEX_ABORT; a start that has
waited its time without a grant ends COEX_DENIED. For an arbiter a request is noted with its priority and `RFC.COEX` as it
stands, its end withdraws the grant, and a grant that has lasted its maximum while commands wait ends. In any other role the
wire changes nothing.
Reading the first word of an entry answers that word, a later one the word of the entry latched then, and INDEX advances;
in MAINTENANCE a write of table 0 replaces one word of its correction record; elsewhere it is a locked write that leaves
every record as it was. -/
def Obligations.CoexistenceAndRadioWindow : Prop :=
  (∀ (s : State) (r : Region) (t : Nat),
     (Completes (.coexGrantRise r t) s fun u =>
       if s.coexRole r = 1 then (u.rad r).coex = { (s.rad r).coex with gnt := true, since := max s.now t } ∧ u.regs = s.regs ∧
         (∀ q, q ≠ r → u.rad q = s.rad q)
       else u = s.tick t) ∧
     (Completes (.coexGrantFall r t) s fun u =>
       if s.coexRole r = 1 then
         ∃ v : State, v.rad r = { s.rad r with coex := { (s.rad r).coex with gnt := false, since := max s.now t } } ∧
           u = ((((s.carriersOn r).foldl (fun s c => s.jobEnd r c .coexAbort) v).airEnd r 3).airMoved r).keep (s.tick t)
       else u = s.tick t) ∧
     (∀ c : Fin 4, Completes (.coexWaitExpiry r c t) s fun u =>
       match jobAt s r c.val .starting t with
       | none => u = s.tick t
       | some j =>
         if s.coexRole r = 1 ∧ (s.rad r).coex.gnt = false ∧
             ((s.carrier r c.val).due + usTicks (getBits (s.rad r).coex.cfg 12 10 * 10) ≤ max s.now t ∨
               j.deadline ≤ max s.now t) then
           u = (((s.tick t).jobEnd r c.val .coexDenied).airMoved r).keep (s.tick t)
         else u = s.tick t) ∧
     (∀ pri, Completes (.coexRequestRise r pri t) s fun u =>
       if s.coexRole r = 2 ∧ s.domOn r.frontDom ∧ (s.rad r).coex.req = false then
         (u.rad r).coex.req = true ∧ (u.rad r).coex.pri = pri ∧ (u.rad r).coex.cfg = s.rg (Reg.rfcCoex r.ix) ∧ u.regs = s.regs ∧
         ((s.carriersOn r).isEmpty → pri → (u.rad r).coex.gnt = true ∧ (u.rad r).coex.since = max s.now t)
       else u = s.tick t) ∧
     (Completes (.coexRequestFall r t) s fun u =>
       if s.coexRole r = 2 then
         ∃ v : State, (v.rad r).coex.req = false ∧ (v.rad r).coex.gnt = false ∧ (v.rad r).coex.wanted = false ∧
           v.regs = s.regs ∧ u = (v.airMoved r).keep (s.tick t)
       else u = s.tick t) ∧
     (∀ pri, Completes (.coexPriChange r pri t) s fun u =>
       if s.coexRole r = 2 ∧ s.domOn r.frontDom then
         ∃ v : State, (v.rad r).coex = { (s.rad r).coex with pri := pri } ∧ v.regs = s.regs ∧
           u = (v.airMoved r).keep (s.tick t)
       else u = s.tick t) ∧
     (Completes (.coexMaxGrantExpiry r t) s fun u =>
       if s.coexRole r = 2 ∧ (s.rad r).coex.gnt ∧
           (s.rad r).coex.since + msTicks (getBits (s.rad r).coex.cfg 22 10) ≤ max s.now t ∧ s.commandsWait r then
         ∃ v : State, (v.rad r).coex = { (s.rad r).coex with gnt := false, since := max s.now t } ∧
           u = (v.airMoved r).keep (s.tick t)
       else u = s.tick t)) ∧
  (∀ (s : State) (r : Region),
     let ix := s.rf (Reg.rfcWinSel r.ix) 0 12
     let table := s.rf (Reg.rfcWinSel r.ix) 30 2
     let n := winWords table
     (Completes (.rfcWinDataRead r) s fun u =>
       if s.domOn r.frontDom then
         u.rf (Reg.rfcWinSel r.ix) 0 12 = (ix + 1) % 4096 ∧ SameRegs s u [Reg.rfcWinSel r.ix] ∧
         (ix % n = 0 → u.readData = ((s.winEntry r table (ix / n)).getD 0 0).zeroExtend 64 ∧
           (u.rad r).winLatch = some (table * 4096 + ix / n, s.winEntry r table (ix / n))) ∧
         (ix % n ≠ 0 → ∀ l, (s.rad r).winLatch = some (table * 4096 + ix / n, l) →
           u.readData = (l.getD (ix % n) 0).zeroExtend 64)
       else u.readData = 0 ∧ u.regs = s.regs) ∧
     (∀ w, Completes (.rfcWinDataWrite r w) s fun u =>
       if s.domOn r.frontDom ∧ s.sys.mode = .maintenance ∧ table = 0 then
         u.corrRec r (ix / 8) = setBits (s.corrRec r (ix / 8)) (32 * (ix % 8)) 32 w.toNat ∧
         (∀ k, k ≠ ix / 8 → u.corrRec r k = s.corrRec r k) ∧ u.rf (Reg.rfcWinSel r.ix) 0 12 = (ix + 1) % 4096
       else u.radio = s.radio ∧ SameRegs s u [Reg.sysAccessErr]))

/-- A report below its slot's thresholds, earlier than its mode allows, or where no watcher looks, changes nothing; one within
the hold-off of a report of its mode is merged; a suppressed one takes no lane; otherwise the lane that the allocator picks, a
region's reports one a fabric cycle, starts on it, not confirmed, with the header deadline of its mode counted from the report.
Expiry removes exactly the pending detections that are too old. -/
def Obligations.DetectionsTakeLanes : Prop :=
  ∀ (s : State) (r : Region) (t : Nat),
    (∀ (slot : Fin 512) (mode : Fin 8) (preStart : Nat) (level : Int) (quarter : Bool) (corr : Nat) (seen : SlotSeen),
      Completes (.detectionReport r slot mode preStart level quarter corr seen t) s fun u =>
        let x := s.tick t
        let y : State := { x with now := max x.now ((s.rxr r).allocAt + 1) }
        let d : Detection := ⟨slot, mode, preStart, level, x.now⟩
        let z := y.rssiNow r slot seen.rssi
        if ¬ (x.watches r slot mode preStart ∧ preStart + usTicks (earliestReport mode) ≤ x.now ∧
            s.detects r slot level quarter corr seen.rival) then u = x
        else if (s.slotRx r slot).reports.any (fun p => p.1 == mode.val && decide (x.now < p.2.1 + usTicks (holdOff mode)) &&
            (s.captureDb r slot == 0 || decide (level < p.2.2 + s.captureDb r slot))) then
          u.lanes = s.lanes ∧ u.rx = s.rx ∧ SameRegs s u [Reg.rxpSlotDetectMergedCnt r.ix slot]
        else (u.rxr r).allocAt = y.now ∧
          if z.suppresses r d then
            u.lanes = z.lanes ∧
              SameRegs s u [Reg.rxpSlotDetectCnt r.ix slot, Reg.rxpSlotSuppressedCnt r.ix slot]
          else ∀ n, y.tooOld d = false → z.takeFreeLane r slot = some n →
            ∃ l, u.lane n = some l ∧ l.confirmed = false ∧ l.region = r ∧ l.slot = slot ∧ l.mode = mode ∧
              l.preStart = preStart ∧ l.started = y.now ∧ l.deadline = x.now + usTicks (headerDeadline mode)) ∧
    (Completes (.pendingExpiry r t) s fun u =>
      ∀ d, d ∈ (u.rxr r).pending ↔ d ∈ (s.rxr r).pending ∧ (s.tick t).tooOld d = false) ∧
    (∀ slot : Fin 512, Completes (.quarantineExpiry r slot t) s fun u =>
      match (s.slotRx r slot).quarUntil with
      | some e => if e ≤ max s.now t then u.slotRx r slot = { s.slotRx r slot with quarUntil := none } ∧ u.regs = s.regs
          else u = s.tick t
      | none => u = s.tick t)

/-- A header check of a lane not yet confirmed, within its deadline, confirms it with the header's fields, its Pantry cells and the trim of its timestamp,
or ends its reception; a passed deadline ends it, and so does the end of a confirmed frame, as good or bad by its FCS. A lane whose reception ended is
FREE or decodes a pending detection, not confirmed. Any other lane event changes nothing. -/
def Obligations.LanesEndTheirReceptions : Prop :=
  ∀ (s : State) (n : Fin 384) (t : Nat),
    (∀ (h : HeaderRead) (cfo rssi : Int), Completes (.headerCheck n h cfo rssi t) s fun u =>
      match s.lane n with
      | none => u = s.tick t
      | some l =>
        if l.confirmed ∨ l.deadline < max s.now t then u = s.tick t
        else
          match s.headerOutcome l h cfo with
          | none => u = s.tick t
          | some (.pass f) =>
            (match s.pantryReserve (cellsFor f.length) (s.slotSafety l.region l.slot) with
             | none => (u.lane n).all (! ·.confirmed) = true
             | some (rx, safety) => u.lane n = some
                 { l with confirmed := true, level := rssi, levelAt := max s.now t, trim := s.rg (Reg.txpTsTrimRx l.region.ix),
                          length := f.length, map := f.map, rate := f.rate,
                          dlHeld := f.dlHeld, mcs := f.mcs, codes := if l.mode = 4 then (s.lmap l.region f.map).codes else 0,
                          fcs2 := f.fcs2, seed := f.seed, dw := f.dw, rxCells := rx, safetyCells := safety })
          | some _ => (u.lane n).all (! ·.confirmed) = true) ∧
    (Completes (.headerDeadlineExpiry n t) s fun u =>
      match s.lane n with
      | none => u = s.tick t
      | some l => if l.confirmed = false ∧ l.deadline ≤ max s.now t then (u.lane n).all (! ·.confirmed) = true
          else u = s.tick t) ∧
    (∀ rx, Completes (.frameEnd n rx t) s fun u =>
      match s.lane n with
      | none => u = s.tick t
      | some l => if l.confirmed ∧ rx.fits l then (u.lane n).all (! ·.confirmed) = true ∧ u.sys = s.sys ∧
          (let a := if fcsGood l.fcs2 (rx.air.psdu l) then Reg.rxpSlotFrameOkCnt l.region.ix l.slot
            else Reg.rxpSlotFcsFailCnt l.region.ix l.slot
           (u.rg a).toNat = min 0xFFFFFFFF ((s.rg a).toNat + 1))
        else u = s.tick t)

/-- A block updates the noise floor of a slot of a receiving region to the 10th percentile of the blocks that count; with the
DSP domain on the bin powers show the measured words, the amplitude counts accumulate, and a snapshot asked for shows them, the
clip counts and the span since the last one, starts them anew and raises its source.
A write of `RXP.GAIN_CTRL` stores its index and TIMED; GO applies it at once, or with TIMED waits for an instant that has
not passed; the instant and the log's oldest entry growing old apply what waits. With the DSP domain off it changes nothing. -/
def Obligations.ReceiveMeasurementsAndGain : Prop :=
  (∀ (s : State) (r : Region) (t : Nat),
     (∀ (slot : Fin 512) (block : Int), Completes (.noiseFloorUpdate r slot block t) s fun u =>
       if s.rxLive r && decide (slot.val < s.slotCount r) then
         (u.slotRx r slot).blocks = (s.tick t).noiseBlocks r slot block ∧
         match tenthPercentile (((s.tick t).noiseBlocks r slot block).map (·.2)) with
         | some f => u.rf (Reg.rxpSlotStatus r.ix slot) 0 16 = unsgn 16 (clampI (-32768) 32767 f) ∧
             SameRegs s u [Reg.rxpSlotStatus r.ix slot]
         | none => u.regs = s.regs
       else u = s.tick t) ∧
     (∀ bins, Completes (.binPowerUpdate r bins t) s fun u =>
       if s.domOn r.dspDom then ∀ (i : Nat) (w : Word), i < 1024 → bins.power[i]? = some w → u.rg (Reg.rxpBinPwr r.ix i) = w
       else u = s.tick t) ∧
     (∀ counts clipI clipQ, Completes (.histogramSnapshot r counts clipI clipQ t) s fun u =>
       let acc := ((s.tick t).histTake r counts clipI clipQ).rxr r |>.histAcc
       if s.domOn r.dspDom = false then u = s.tick t
       else if s.rb (Reg.rxpHistCtrl r.ix) 31 = false then (u.rxr r).histAcc = acc ∧ u.regs = s.regs
       else
         (∀ i, i < 64 → (u.rg (Reg.rxpHist r.ix i)).toNat = min 0xFFFFFFFF (acc.getD i 0)) ∧
         (u.rg (Reg.rxpClipISnap r.ix)).toNat = min 0xFFFFFFFF (acc.getD 64 0) ∧
         (u.rg (Reg.rxpClipQSnap r.ix)).toNat = min 0xFFFFFFFF (acc.getD 65 0) ∧ u.rb (Reg.rxpHistCtrl r.ix) 31 = false ∧
         (u.rg (Reg.rxpHistSpanUs r.ix)).toNat = min 0xFFFFFFFF (ticksUs (max s.now t - (s.rxr r).histFrom)) ∧
         (u.rxr r).histFrom = max s.now t ∧ (u.rxr r).histAcc = [] ∧ u.irq.events = s.irq.events ++ heard s (0x83 + r.ix))) ∧
  (∀ (s : State) (r : Region) (t : Nat),
     (∀ w, Completes (.gainCommand r w t) s fun u =>
       if s.domOn r.dspDom = false then u = s.tick t
       else if getBit w 31 = false then u.rf (Reg.rxpGainCtrl r.ix) 0 5 = getBits w 0 5 ∧ u.rx = s.rx ∧
         SameRegs s u [Reg.rxpGainCtrl r.ix]
       else if getBit w 30 ∧ ¬ ((s.tick t).gainAt r * 2 ^ 32 < (s.tick t).tbRaw) then
         (u.rxr r).gainTimed = true ∧ (u.rxr r).gainDeferred = none ∧ u.gainIndex r = s.gainIndex r
       else gainApplied s u r t (getBits w 0 5)) ∧
     (Completes (.gainTimedApply r t) s fun u =>
       if (s.rxr r).gainTimed ∧ (s.tick t).gainAt r * 2 ^ 32 ≤ (s.tick t).tbRaw then
         gainApplied s u r t (s.rf (Reg.rxpGainCtrl r.ix) 0 5)
       else u = s.tick t) ∧
     (Completes (.gainDeferredApply r t) s fun u =>
       match (s.rxr r).gainDeferred with
       | some i => i < 32 → gainApplied s u r t i
       | none => u = s.tick t))

/-- Outside STANDBY, with a node's record: a counter above the stored one, or any but 0xFFFFFFFF while none is stored, is new
and is stored; the stored one is a duplicate and changes nothing; a lower one or 0xFFFFFFFF is dropped as a replay, counted,
with REPLAY_STK set and the stored counter kept. An unsecured sequence number seen among the last four is a duplicate; any other
is new, and is a duplicate when it is checked again; the stored number itself, where host software has cleared its bit of the
history, is accepted and changes nothing. -/
def Obligations.DuplicatesAndReplays : Prop :=
  (∀ (s : State) (r : Region) (h c : Nat) (p : Bytes), s.sys.mode ≠ .standby → c < 2 ^ 32 →
    let x := s.node h
    let v := s.fcCheck r h c p
    if c = 0xFFFFFFFF ∨ (recFcValid x ∧ c < recF x 0x50 4) then
      v.2 = .drop ∧ v.1.rb Reg.macTrouble 1 = true ∧ recF (v.1.node h) 0x50 4 = recF x 0x50 4
    else if recFcValid x ∧ c = recF x 0x50 4 then v = (s, .ok p true)
    else v.2 = .ok p false ∧ recFcValid (v.1.node h) = true ∧ recF (v.1.node h) 0x50 4 = c) ∧
  (∀ (x : Rec) (q : Nat), q < 256 →
    let v := seqCheck x q
    (recSeqValid x = false → v.1 = true ∧ recF v.2 0x58 1 = q) ∧
    (v.1 = false → v.2 = x ∧ recSeqValid x = true ∧ (recF x 0x58 1 + 256 - q) % 256 ≤ 3) ∧
    recSeqValid v.2 = true ∧
    (if recSeqValid x ∧ recF x 0x58 1 = q ∧ bit (recBits x 0x59 0 4) 0 = false then v = (true, x)
     else (seqCheck v.2 q).1 = false))

/-- A handed receive job takes the oldest report of its region, and leaves the dispatcher; a handed downlink request takes the
first frame of staging that does not wait; without one of either nothing happens. Reading a map's word 0 answers it from the
map as it stands, later words as they stood then, and WORD advances.
A boundary of a second begins the next one and drops exactly the airtime older than 3,600 s, of every region, and only in a twin package that holds the
line adds to the mirroring stream. A 1 ms refill that is due takes effect and assigns; a sample that is due counts once, ends
CLEAR and is stamped; CLEAR written reads 1 until then. -/
def Obligations.MacJobsAndSchedulerTimers : Prop :=
  (∀ (s : State) (t : Nat),
     (∀ r, Completes (.macReceive r t) s fun u =>
       match s.handedJob 0 r.ix, s.hif.rxJobs.get r with
       | some j, q :: rest => u.hif.rxJobs = s.hif.rxJobs.set r rest ∧ u.sys = s.sys ∧ u.lanes = s.lanes ∧
           ∃ v : State, v.jobs = ((s.tick t).jobDone j).jobs ∧ u = (v.macFrame r q).keep (s.tick t)
       | _, _ => u = s.tick t) ∧
     (Completes (.downlinkRequest t) s fun u =>
       match s.handedJob 3 0, s.stagingFind false with
       | some j, some (f, i) => u.jobs = ((s.tick t).jobDone j).jobs ∧ u.sys = s.sys ∧
           u = (((s.tick t).jobDone j).dlServe i f).keep (s.tick t)
       | some j, none => u = ((s.tick t).jobDone j).keep (s.tick t)
       | none, _ => u = s.tick t) ∧
     (Completes (.poolWaitResume t) s fun u =>
       match s.stagingFind true with
       | some _ => u.jobs = s.jobs ∧ u.sys = s.sys ∧
           (u.hif.staging.any (fun f => f.waiting && (match f.source with | .submission _ => true | .ethernet _ => false)) = false →
             u.hif.stalled = false)
       | none => u = s.tick t) ∧
     (∀ r, Completes (.mapWinDataRead r) s fun u =>
       let a := Reg.txpMapWinSel r.ix
       let m := s.rf a 8 8
       let w := s.rf a 0 4
       if s.domOn r.dspDom then
         u.rf a 0 4 = (w + 1) % 16 ∧ SameRegs s u [a] ∧
         (w = 0 → u.readData = ((s.mapWinWords r m).getD 0 0).zeroExtend 64 ∧
           (u.tx.get r).winLatch = BitVec.ofNat 32 m :: s.mapWinWords r m) ∧
         (w ≠ 0 → ∀ l, (s.tx.get r).winLatch = BitVec.ofNat 32 m :: l → u.readData = (l.getD w 0).zeroExtend 64)
       else u.readData = 0 ∧ u.regs = s.regs ∧ u.tx = s.tx)) ∧
  (∀ (s : State) (t : Nat),
     (Completes (.dutySecondTick t) s fun u =>
       if (s.tick t).boundaryDue 1000000000 (s.mac.get .L).secAt then
         (∀ r, (u.mac.get r).sec = (s.mac.get r).sec + 1 ∧ (u.mac.get r).secAt = some (max s.now t) ∧ (u.mac.get r).duty =
           (s.mac.get r).duty.filter (fun kv => decide ((s.mac.get r).sec + 1 < kv.1 % 2 ^ 40 + 3600))) ∧
         (∃ l, u.twin.mirror = s.twin.mirror ++ l) ∧
         ((s.twinMode && s.twin.l.link == 3 && s.twin.ownDrive) = false → u.twin = s.twin) ∧ u.regs = s.regs
       else u = s.tick t) ∧
     (Completes (.shaperRefill t) s fun u =>
       if s.domOn 9 ∧ (s.tick t).boundaryDue 1000000 s.dls.lastRefill then
         ∃ v : State, v.dls.lastRefill = some (max s.now t) ∧ v.dls.queues = s.dls.queues ∧ v.regs = s.regs ∧
           u = (allRegions.foldl (fun s r => s.assign r) v.expireReady).keep (s.tick t)
       else u = s.tick t) ∧
     (∀ r, Completes (.dlsHistogramSample r t) s fun u =>
       if s.domOn 9 ∧ s.sampleMs r ≠ 0 ∧ (s.tick t).boundaryDue (s.sampleMs r * 1000000) (s.dlsR r).lastSample then
         (u.dlsR r).lastSample = some (max s.now t) ∧ u.rb (Reg.dlsHistCtrl r.ix) 31 = false ∧
         (u.rg (Reg.dlsSampleCnt r.ix)).toNat = min 0xFFFFFFFF ((s.rg (Reg.dlsSampleCnt r.ix)).toNat + 1) ∧
         SameRegs s u [Reg.dlsHistCtrl r.ix, Reg.dlsSampleCnt r.ix] ∧ (∀ q, q ≠ r → u.dlsR q = s.dlsR q)
       else u = s.tick t) ∧
     (∀ r, Completes (.dlsHistClear r) s fun u =>
       if s.domOn 9 then u.rb (Reg.dlsHistCtrl r.ix) 31 = true ∧ SameRegs s u [Reg.dlsHistCtrl r.ix] ∧ u.dls = s.dls
       else u.dls = s.dls ∧ SameRegs s u [Reg.sysAccessErr]))

/-- A node that waits for a full calendar is booked first come first served once there is room. A booking whose release has
come, put on the stepped timebase, is formed and joins its ready set, or ends LATE where it may not be formed; before that, or while the mode does not
transmit, it stays. An acknowledgement window that ends with nothing heard is NO_ACK; a strobe gap that ends sends the next copy
or ends the train. A due beacon takes the first free carrier on the next slot that may carry it, or waits for one until half a
period has passed; one that still waits at the next instant is skipped and counted. -/
def Obligations.PorchAndAcknowledgementTimers : Prop :=
  ∀ (s : State) (t : Nat),
    (Completes (.calendarFullRetry t) s fun u =>
      match s.porch.waiting with
      | h :: rest => u = ((s.tick t).porchBook h).keep (s.tick t) ∧
          u.porch.waiting.filter (fun k => k ≠ h) = rest.filter (fun k => k ≠ h) ∧
          (s.calCount < 65536 → s.timeSet → s.domOn 9 → s.writesNode → (s.booking (4 * h)).isNone → s.queue h ≠ [] →
            h ∉ u.porch.waiting)
      | [] => u = s.tick t) ∧
    (∀ h : Fin 262144, Completes (.bookingRelease h t) s fun u =>
      let x := s.tick t
      match s.booking (4 * h.val), s.queue h with
      | some k, f :: _ =>
        let b := x.bookTimed k
        if b.released = false ∧ b.release ≤ x.fixNow ∧ s.txMode ∧ s.timeSet then
          match (x.formData (b.via.getD h) f.seq (x.bookPayload b f) (! b.flood) (decide (1 < (s.queue h).length))).2 with
          | none => ∃ v : State, u = (v.bookLate h b).keep x
          | some (mac, seq) =>
            b.flood = false → ∃ v : State, v.booking (4 * h.val) = some { b with mac := mac, seq := seq, released := true } ∧
              u = (v.assign b.region).keep x
        else u = x
      | _, _ => u = x) ∧
    (∀ h : Fin 262144, Completes (.bookingDeadline h t) s fun u =>
      ((List.range 4).all (fun i => match s.booking (4 * h.val + i) with
        | some b => b.deadline.all (fun d => decide ((if b.released then ((s.tick t).tbNs : Int) else (s.tick t).fixNow) < d))
        | none => true) = true → u = s.tick t) ∧
      u = ((List.range 4).foldl (fun s i => s.bookDeadline (4 * h.val + i)) (s.tick t)).keep (s.tick t)) ∧
    (∀ r (c : Fin 4), Completes (.ackWindowExpiry r c t) s fun u =>
      match jobAt s r c.val .ackWait t with
      | none => u = s.tick t
      | some j => if s.hearing r j.slot (s.carrier r c.val) then u = s.tick t
          else u = (((s.tick t).jobEnd r c.val .noAck).airMoved r).keep (s.tick t)) ∧
    (∀ r (c : Fin 4), Completes (.strobeGapExpiry r c t) s fun u =>
      match (s.carrier r c.val).job with
      | none => u = s.tick t
      | some j =>
        let ph := (s.carrier r c.val).phase
        if ph = .gap ∧ (s.carrier r c.val).due ≤ max s.now t then
          if j.copies = 0 then u = (((s.tick t).jobEnd r c.val j.trainEnd).airMoved r).keep (s.tick t)
          else u = ((s.tick t).lbtBegin r c.val).keep (s.tick t)
        else if ph = .withheld ∧ s.hearing r j.slot (s.carrier r c.val) = false then
          u = (((s.tick t).strobeSkip r c.val j).airMoved r).keep (s.tick t)
        else u = s.tick t) ∧
    (∀ r, Completes (.beaconInstant r t) s fun u =>
      let x := s.tick t
      if x.beaconDue r then
        (u.mac.get r).lastBeacon = some x.now ∧
        (if (s.mac.get r).beacon.isSome then SameRegs s u [Reg.rfcTxLateCnt r.ix, Reg.macBeaconSkipCnt r.ix]
         else u.regs = s.regs) ∧
        match s.beaconNext r with
        | none => u.radio = s.radio ∧ (u.mac.get r).beacon = none
        | some slot =>
          (u.mac.get r).beaconSlot = (slot + 1) % s.slotCount r ∧
          match (List.range 4).find? (fun c => s.carrierOk r c && (s.carrier r c).phase == .idle) with
          | some c => (u.mac.get r).beacon = none ∧ (u.carrier r c).phase = .assigned ∧
              ((u.carrier r c).job.map (·.slot)) = some slot ∧ ((u.carrier r c).job.map (·.kind)) = some .beacon
          | none => u.radio = s.radio ∧ (u.mac.get r).beacon.map (fun j => (j.slot, j.kind, j.deadline)) =
              some (slot, .beacon, x.now + msTicks (s.beaconMs r) / 2)
      else u = x)

/-- R323. With the network domain on, a read of `DLS.HIST_DATA` answers the bin that `DLS.HIST_SEL` names and advances BIN. At
bin 0 it latches all 16 bins of the selected histogram as they stand; at any other bin it answers from the bins latched, whatever
has been sampled since. With the domain off it reads 0 (R14). -/
def Obligations.HistogramReadsOneSample : Prop :=
  ∀ (s : State) (r : Region),
    let a := Reg.dlsHistSel r.ix
    let c := s.rf a 16 10
    let k := s.rf a 8 1
    let b := s.rf a 0 4
    Completes (.dlsHistDataRead r) s fun u =>
      if s.domOn 9 then
        u.rf a 0 4 = (b + 1) % 16 ∧ u.rf a 16 10 = c ∧ u.rf a 8 1 = k ∧ SameRegs s u [a] ∧
        (b = 0 → u.readData = ((s.histWords r c k).getD 0 0).zeroExtend 64 ∧
          (u.dlsR r).latch = BitVec.ofNat 32 (histKey c k 0) :: s.histWords r c k) ∧
        (b ≠ 0 → ∀ l, (s.dlsR r).latch = BitVec.ofNat 32 (histKey c k 0) :: l →
          u.readData = (l.getD b 0).zeroExtend 64 ∧ u.dls = s.dls)
      else u.readData = 0 ∧ u.regs = s.regs ∧ u.dls = s.dls

/-- Of each of the five commands of a block: without power nothing but ACCESS_ERR changes, and the supervisor's set answers
DOMAIN_OFF while only the tables have none, and where no engine serves the block (log 189, the model's choice); while GO reads 1
the block sets its REJECT bit and changes nothing else; otherwise it stores its OP, answers in STATUS with one of the results of R271, keeps RELOCATIONS unless it is an INSERT, raises the
block's event as the last of its events while the controller is on, and GO reads 1 for at most 20 µs. -/
def Obligations.ForwardingBlocksAnswer : Prop :=
  ∀ (s : State) (by_ : FwdFrom) (b : Fin 5), ∀ p ∈ fwdCommands,
    Completes (p.1 by_ b) s fun u =>
      let sup := fromSup by_
      let l := s.fwdLoad by_ b
      let a := fwdBase sup b
      let src := (if sup then 0xB8 else 0xA8) + b.val
      if sup = true ∧ s.domOn 12 = false ∨ sup = false ∧ s.domOn 9 = false then
        u.tab = s.tab ∧ SameRegs s u [Reg.sysAccessErr]
      else if s.domOn 9 = false then u.tab = s.tab ∧ u.irq = s.irq ∧ u.rf (a + 4) 0 4 = 7 ∧ SameRegs l u [a + 4]
      else if s.fwdBusy src then u.rb a 29 = true ∧ u.tab = s.tab ∧ u.irq = s.irq ∧ SameRegs s u [a]
      else
        u.rf a 0 4 = p.2 ∧ (s.hears src = true → u.irq.events.getLast? = some src) ∧
        (if s.blockOut b then u.rf (a + 4) 0 4 = 7 ∧ SameTables s u else u.rf (a + 4) 0 4 ∈ [0, 1, 2, 3, 4, 5, 6]) ∧
        (p.2 ≠ 3 → u.rf (a + 4) 24 8 = s.rf (a + 4) 24 8) ∧
        s.now < sget 0 u.tab.busy src ∧ sget 0 u.tab.busy src ≤ s.now + usTicks 20

/-- READ of a learning or prefix table answers the valid entry at INDEX, or NOT_FOUND or BAD_ARG; SEARCH answers the entry with
the key of the data registers where there is one, or NOT_FOUND; the entry or the node record is in the data registers, and
neither command changes an entry of any table. -/
def Obligations.ForwardingReadsAndSearches : Prop :=
  ∀ (s : State) (by_ : FwdFrom) (b : Fin 5), fwdOpen s (fromSup by_) b →
    let sup := fromSup by_
    let l := s.fwdLoad by_ b
    let st := fwdBase sup b + 4
    (Completes (.fwdRead by_ b) s fun u =>
      let ix := l.fwdArg sup b % 2 ^ 19
      if b.val < 3 then
        let e := sget 0 (s.learnTab b) ix
        SameTables s u ∧
        (if s.learnN b ≤ ix then u.rf st 0 4 = 4
         else if getBit e 95 then u.rf st 0 4 = 0 ∧ u.rf st 4 19 = ix ∧ u.fwdData sup b 4 = e.toNat
         else u.rf st 0 4 = 1)
      else if b.val = 3 then
        let e := sget 0 s.tab.prefixes ix
        SameTables s u ∧
        (if s.tabF 0x0C 4 ≤ ix then u.rf st 0 4 = 4
         else if getBit e 191 then u.rf st 0 4 = 0 ∧ u.fwdData sup b 8 = e.toNat
         else u.rf st 0 4 = 1)
      else u.rf st 0 4 = 0 ∧ u.fwdData sup b 64 = (s.node (l.fwdArg sup b % 2 ^ 18)).toNat ∧
        u.tab.learn = s.tab.learn ∧ u.tab.prefixes = s.tab.prefixes) ∧
    (Completes (.fwdSearch by_ b) s fun u => SameTables s u ∧
      if b.val < 3 then
        (if s.learnN b = 0 then u.rf st 0 4 = 4
         else
           match s.learnFind b (leKey (l.fwdEntry sup b)) (leType (l.fwdEntry sup b)) with
           | some w => u.rf st 0 4 = 0 ∧ u.fwdData sup b 4 = (s.learnAt b w).toNat
           | none => u.rf st 0 4 = 1)
      else if b.val = 3 then
        (if s.tabF 0x0C 4 = 0 then u.rf st 0 4 = 4
         else
           match s.prefixFind (pePrefix (l.fwdPrefix sup)) (peLength (l.fwdPrefix sup)) with
           | some p => u.rf st 0 4 = 0 ∧ u.fwdData sup b 8 = (sget 0 s.tab.prefixes p).toNat
           | none => u.rf st 0 4 = 1)
      else u.rf st 0 4 = 4)

/-- WRITE replaces the entry with the key, VALID set, and DELETE clears it, each advancing the VERSION of its position modulo
64; a key that is not there is NOT_FOUND and changes no entry. INSERT of an entry with reserved fields set, or of a record that
is not provisioned, changes no entry; node records have no INSERT.
A WRITE of a node record that is accepted takes the masked groups, keeps HEARD and HEARD_REGION and leaves a valid CRC; one
that is refused leaves the record as it was. DELETE outside STANDBY leaves the record cleared but for the host's bytes and no
frame queued. The window writes only bytes 0xC0 to 0xEF. A rebuild runs for its length until it is done, which is counted, with
event 0xA5. -/
def Obligations.ForwardingTablesAndNodeRecords : Prop :=
  (∀ (s : State) (by_ : FwdFrom) (b : Fin 5), fwdOpen s (fromSup by_) b → b.val < 3 → s.learnN b ≠ 0 →
     let sup := fromSup by_
     let l := s.fwdLoad by_ b
     let st := fwdBase sup b + 4
     let e := l.fwdEntry sup b
     (Completes (.fwdDelete by_ b) s fun u =>
       match s.learnFind b (leKey e) (leType e) with
       | some w => u.rf st 0 4 = 0 ∧ getBit (u.learnAt b w) 95 = false ∧
           getBits (u.learnAt b w) 88 6 = (getBits (s.learnAt b w) 88 6 + 1) % 64
       | none => u.rf st 0 4 = 1 ∧ SameTables s u) ∧
     (Completes (.fwdWrite by_ b) s fun u =>
       if leFieldsOk e = false then u.rf st 0 4 = 4 ∧ SameTables s u
       else if (s.leNamed e).2 = false then u.rf st 0 4 = 6 ∧ u.tab.learn = s.tab.learn ∧ u.tab.spill = s.tab.spill
       else
         match s.learnFind b (leKey e) (leType e) with
         | some w => u.rf st 0 4 = 0 ∧ getBit (u.learnAt b w) 95 = true ∧ leKey (u.learnAt b w) = leKey e ∧
             leHandle (u.learnAt b w) = leHandle e ∧ leRoute (u.learnAt b w) = leRoute e ∧
             getBits (u.learnAt b w) 88 6 = (getBits (s.learnAt b w) 88 6 + 1) % 64
         | none => u.rf st 0 4 = 1 ∧ u.tab.learn = s.tab.learn ∧ u.tab.spill = s.tab.spill) ∧
     (Completes (.fwdInsert by_ b) s fun u =>
       if leFieldsOk e = false then u.rf st 0 4 = 4 ∧ SameTables s u
       else if (s.leNamed e).2 = false then u.rf st 0 4 = 6 ∧ u.tab.learn = s.tab.learn ∧ u.tab.spill = s.tab.spill
       else u.rf st 0 4 = ((l.leNamed e).1.learnInsert b e).2.result)) ∧
  (∀ (s : State),
     (∀ by_, fwdOpen s (fromSup by_) 4 →
       let sup := fromSup by_
       let l := s.fwdLoad by_ 4
       let h := l.fwdArg sup 4 % 2 ^ 18
       let mask := bits (l.fwdArg sup 4) 19 13
       let d : Rec := BitVec.ofNat 2048 (l.fwdData sup 4 64)
       (Completes (.fwdWrite by_ 4) s fun u =>
         (u.rf (fwdBase sup 4 + 4) 0 4 ≠ 0 → u.node h = s.node h) ∧
         (u.rf (fwdBase sup 4 + 4) 0 4 = 0 → (bit mask 0 = true → recF (u.node h) 0 8 = recF d 0 8) ∧
           recBits (u.node h) 0x0C 22 4 = recBits (s.node h) 0x0C 22 4 ∧ recF (u.node h) 0xFC 4 = recCrc (u.node h)) ∧
         (s.maskForbidden mask → u.rf (fwdBase sup 4 + 4) 0 4 = 4)) ∧
       (Completes (.fwdDelete by_ 4) s fun u =>
         if s.sys.mode = .standby then u.rf (fwdBase sup 4 + 4) 0 4 = 4 ∧ SameTables s u
         else recProv (u.node h) = false ∧ recF (u.node h) 0xC0 48 = recF (s.node h) 0xC0 48 ∧
           u.queue h = []) ∧
       (Completes (.fwdInsert by_ 4) s fun u => u.rf (fwdBase sup 4 + 4) 0 4 = 4 ∧ SameTables s u)) ∧
     (∀ (addr size : Nat) (data : BitVec 64), Completes (.nodeWindowWrite addr size data) s fun u =>
       let o := addr % 256
       if addr < 0x2000000 ∧ s.domOn 9 ∧ 0xC0 ≤ o ∧ o + size ≤ 0xF0 then
         recF (u.node (s.rf Reg.fwdWinPage 0 2 * 65536 + (addr - 0x1000000) / 256)) o size = data.toNat % 256 ^ size
       else u.tab = s.tab ∧ SameRegs s u [Reg.sysAccessErr, Reg.hifTrouble, Reg.fwdTrouble]) ∧
     (∀ length : Byte, Completes (.prefixRebuild length) s fun u =>
       if s.domOn 9 then
         u.rf Reg.fwdPfxRebuild 0 8 = length.toNat ∧ u.tab.prefixes = s.tab.prefixes ∧ u.tab.bloom = s.tab.bloom ∧
         (∀ l, l ≤ 128 → (length = 255 ∨ length.toNat = l) → l ∈ u.tab.rebuilding)
       else u.tab = s.tab ∧ SameRegs s u [Reg.sysAccessErr]) ∧
     (∀ (length t : Nat), Completes (.prefixRebuildDone length t) s fun u =>
       if s.domOn 9 ∧ s.tab.rebuilding.contains length then
         u.tab.rebuilding = s.tab.rebuilding.erase length ∧ u.tab.prefixes = s.tab.prefixes ∧
         u.irq.events = s.irq.events ++ heard s 0xA5 ∧ SameRegs s u [Reg.fwdRebuildCnt] ∧
         (u.rg Reg.fwdRebuildCnt).toNat = min 0xFFFFFFFF ((s.rg Reg.fwdRebuildCnt).toNat + 1)
       else u = s.tick t))

/-- With its domains on, a crypto request joins its group's queue where it may take a job and nothing waits ahead of it;
otherwise it waits and WAIT_STK is set. A visit goes to the next group that holds jobs. One whose engines accept none of its
head jobs keeps its deficit and its jobs; otherwise a visit whose deficit becomes positive serves at least one job, and a group
that empties has no deficit. Jobs of the other groups stay queued, and the pool's count stays the number of jobs in it. A learning job
handed over runs, and a management job whose message another has served ends. -/
def Obligations.JobsAreTakenAndDispatched : Prop :=
  ∀ s : State,
    (∀ n : Nat, Completes (.cryptoJob n) s fun u =>
      let x := s.newJob 1 (max 1 (ceilDiv n 256)) 0
      if s.domOn 10 ∧ s.domOn 11 then
        if s.jobRoom 1 ∧ s.jobs.waiting.all (fun y => y.kind != 1) then
          u.jobs.queued = s.jobs.queued ++ [x] ∧ u.jobs.waiting = s.jobs.waiting ∧ u.jobs.inFlight = s.jobs.inFlight + 1 ∧
          SameRegs s u [Reg.jobHwm] ∧ (u.rf Reg.jobHwm 0 13 = s.rf Reg.jobHwm 0 13 ∨
            u.rf Reg.jobHwm 0 13 = u.jobs.inFlight % 8192)
        else u.jobs.queued = s.jobs.queued ∧ u.jobs.waiting = s.jobs.waiting ++ [x] ∧ u.rb Reg.jobTrouble 1 = true ∧
          SameRegs s u [Reg.jobTrouble]
      else u = s) ∧
    (∀ accepts : List (Fin 7), Completes (.jobDispatch accepts) s fun u =>
      match s.domOn 10, s.nextGroup with
      | true, some g =>
        let d := sget 0 s.jobs.deficit g
        u.jobs.next = (g + 1) % 16 ∧ (∀ x ∈ s.jobs.queued, x.group ≠ g → x ∈ u.jobs.queued) ∧
        (∀ k, k ≠ g → sget 0 u.jobs.deficit k = sget 0 s.jobs.deficit k) ∧
        (s.jobs.inFlight = s.jobs.queued.length + s.jobs.handed.length →
          u.jobs.inFlight = u.jobs.queued.length + u.jobs.handed.length) ∧
        (match groupHead s.jobs.queued g accepts with
          | none => sget 0 u.jobs.deficit g = d ∧ (∃ l, u.jobs.queued = s.jobs.queued ++ l ∧ (s.jobs.waiting = [] → l = [])) ∧
            (s.jobs.handed.all (fun x => x.kind != 2 && x.kind != 6) = true → u.regs = s.regs)
          | some _ =>
            (u.jobs.queued.any (fun x => x.group == g) = false → sget 0 u.jobs.deficit g = 0) ∧
            (0 < d + s.weight g * 4 → (u.rg (Reg.jobGroupServedCnt g)).toNat = 0xFFFFFFFF ∨
              (s.rg (Reg.jobGroupServedCnt g)).toNat < (u.rg (Reg.jobGroupServedCnt g)).toNat))
      | true, none => u = ((List.range 4).foldl (fun s i => s.mailTrim i) s).keep s
      | false, _ => u = s)

/-- While domain 10 is off, or beyond command ring 3, a write to a ring's block reaches nothing. Otherwise a doorbell sets
TAIL, a command ring's with a management job for each descriptor gained; a HEAD inside the entries from HEAD to TAIL is taken, any other is discarded and sets HEAD_ERR_STK. ENABLE lets held
records be written, oldest first; disabling holds what follows; IRQ_MASK set sends nothing; RESET empties the ring and what
staging and the scheduler still held of it. No other ring is touched, but for the completions a submission ring's RESET gives. -/
def Obligations.RingRegisterWrites : Prop :=
  ∀ (s : State) (t : Nat),
    (∀ (i : Fin 32) (v : BitVec 16), Completes (.submissionDoorbell i v) s fun u =>
      if s.domOn 10 then u.ring (32 + i.val) = { s.ring (32 + i.val) with tail := v.toNat } ∧
        RingsBut s u (32 + i.val) ∧ u.regs = s.regs
      else u.hif = s.hif ∧ SameRegs s u [Reg.sysAccessErr]) ∧
    (∀ (i : Fin 4) (v : BitVec 16), Completes (.commandDoorbell i v) s fun u =>
      let n := s.ringSize (64 + i.val)
      if s.domOn 10 then u.ring (64 + i.val) = { s.ring (64 + i.val) with tail := v.toNat } ∧
        RingsBut s u (64 + i.val) ∧ SameRegs s u [Reg.jobHwm, Reg.jobTrouble] ∧
        u.jobs.queued.length + u.jobs.waiting.length =
          s.jobs.queued.length + s.jobs.waiting.length + (v.toNat % n + n - (s.ring (64 + i.val)).tail % n) % n
      else u.hif = s.hif ∧ SameRegs s u [Reg.sysAccessErr]) ∧
    (∀ (i : Fin 32) (v : BitVec 16), Completes (.deliveryHeadWrite i v t) s fun u =>
      let n := s.ringSize i.val
      let r := s.ring i.val
      if s.domOn 10 then
        if v.toNat < n ∧ (v.toNat + n - r.head) % n ≤ (r.tail + n - r.head) % n then
          (u.ring i.val).head = v.toNat ∧ (∃ l, r.held = l ++ (u.ring i.val).held) ∧ RingsBut s u i.val
        else u.hif = s.hif ∧ u.rb (ringBase i.val + 0x14) 29 = true ∧ SameRegs s u [ringBase i.val + 0x14]
      else u.hif = s.hif ∧ SameRegs s u [Reg.sysAccessErr]) ∧
    (∀ (k : RingKind) (i : Fin 32),
      let n := ringNo k i.val
      let a := ringBase n + 0x10
      let open_ : Prop := s.domOn 10 = true ∧ (k = .command → i.val < 4)
      Completes (.ringEnable k i t) s (fun u =>
        if open_ then u.rb a 31 = true ∧ u.rb a 30 = s.rb a 30 ∧ (u.ring n).head = (s.ring n).head ∧
          (∃ l, (s.ring n).held = l ++ (u.ring n).held) ∧ RingsBut s u n
        else u.hif = s.hif ∧ SameRegs s u [Reg.sysAccessErr]) ∧
      Completes (.ringDisable k i) s (fun u =>
        if open_ then u.rb a 31 = false ∧ u.ringRuns n = false ∧ u.hif = s.hif ∧ SameRegs s u [a]
        else u.hif = s.hif ∧ SameRegs s u [Reg.sysAccessErr]) ∧
      (∀ mask : Bool, Completes (.ringIrqMask k i mask) s fun u =>
        if open_ then u.rb a 30 = mask ∧ u.rb a 31 = s.rb a 31 ∧ (mask = true → u.hif = s.hif ∧ u.outbox = s.outbox) ∧
          RingsBut s u n
        else u.hif = s.hif ∧ SameRegs s u [Reg.sysAccessErr]) ∧
      Completes (.ringReset k i) s (fun u =>
        if open_ then (u.ring n).head = 0 ∧ (u.ring n).stopped = false ∧
          (k ≠ .submission → (u.ring n).tail = 0 ∧ (u.ring n).held = [] ∧ RingsBut s u n) ∧
          (k = .submission → u.hif.staging = s.hif.staging.filter (fun f => ! f.fromRing i.val))
        else u.hif = s.hif ∧ SameRegs s u [Reg.sysAccessErr]))

/-- A DMA error stops a running ring and says so; a ring that does not run is not touched. A moderation timer that has run
out makes the ring's interrupt due, or sends it; before that nothing happens. HOST_SLEEP takes SLEEP and clears WAKE_SENT_STK by
1. A change of power state, of PME or of MSI-X with its table is stored; in D3cold the link is down, in D0 what can be written
or sent is; a power state that repeats wakes nobody. -/
def Obligations.RingEventsAndPower : Prop :=
  ∀ (s : State) (t : Nat),
    (∀ (k : RingKind) (i : Fin 32),
      let n := ringNo k i.val
      Completes (.ringDmaError k i t) s (fun u =>
        if s.ringRuns n ∧ s.canDma then u.ring n = { s.ring n with stopped := true } ∧ u.ringRuns n = false ∧
          RingsBut s u n ∧ u.rb (ringBase n + 0x14) 27 = true ∧ u.rb Reg.hifTrouble 1 = true
        else u = s.tick t) ∧
      Completes (.modTimerExpiry k i t) s (fun u =>
        match (s.ring n).timer with
        | some t0 =>
          if t0 + usTicks (s.modTimer n) ≤ max s.now t then
            (u.ring n).head = (s.ring n).head ∧ (u.ring n).tail = (s.ring n).tail ∧ (u.ring n).held = (s.ring n).held ∧
            RingsBut s u n ∧ ((u.ring n).due = true ∧ (u.ring n).p = (s.ring n).p ∨
              (u.ring n).due = false ∧ (u.ring n).p = 0 ∧ (u.ring n).timer = none)
          else u = s.tick t
        | none => u = s.tick t)) ∧
    (∀ w : Word, Completes (.hostSleepWrite w) s fun u =>
      if s.domOn 10 then u.rb Reg.hifHostSleep 31 = w.getLsbD 31 ∧
        u.rb Reg.hifHostSleep 1 = (s.rb Reg.hifHostSleep 1 && ! w.getLsbD 1) ∧ SameRegs s u [Reg.hifHostSleep]
      else u.hif = s.hif ∧ SameRegs s u [Reg.sysAccessErr]) ∧
    (∀ (p : PciePower) (l1 : Bool) (pme : PmeCtl), Completes (.pciePowerStateChange p l1 pme t) s fun u =>
      if s.domOn 10 ∧ s.domOn 15 then
        u.hif.power = p ∧ u.hif.pmeEn = pme.enable ∧ u.hif.linkUp = (s.hif.linkUp && p != .d3cold) ∧
        u.hif.busMaster = s.hif.busMaster ∧ u.hif.msix = s.hif.msix ∧ (u.hif.l1 = true → l1 = true ∧ p ≠ .d3cold) ∧
        (p ≠ .d3hot ∨ pme.enable = false → u.hif.pmeStatus = (s.hif.pmeStatus && ! pme.clear)) ∧
        (p ≠ .d0 → u.hif.rings = s.hif.rings ∧ u.irq = s.irq) ∧
        (p ≠ .d0 → s.hif.power = p → (s.hif.pmeEn = true ∨ pme.enable = false) → u.outbox = s.outbox ∧ u.regs = s.regs)
      else u = s.tick t) ∧
    (∀ (m : MsixCtl) (bm : Bool), Completes (.msixEnableChange m bm t) s fun u =>
      if s.domOn 10 ∧ s.domOn 15 then u.hif.msix = m.enable ∧ u.hif.msixMask = m.mask ∧ u.hif.busMaster = bm ∧
        u.hif.power = s.hif.power ∧ u.hif.linkUp = s.hif.linkUp ∧ (∀ n, (u.ring n).head = (s.ring n).head) ∧
        (∀ n, ∃ l, (s.ring n).held = l ++ (u.ring n).held) ∧
        u.hif.msixTable = s.hif.msixTable
      else u = s.tick t)

/-- A descriptor is read only on a ring that runs and is not stalled. A failed read stops the ring with HEAD where it was. A
descriptor whose completion ring cannot be used, or that breaks R293, is passed, staging nothing; a NOP is passed. One to send
enters staging, or its port, once there are cells, and HEAD passes it; without cells HEAD stays, and for a node reading stalls
until STAGING_RESUME. An ECHO's response is its request. -/
def Obligations.DescriptorsAndMessages : Prop :=
  ∀ (s : State) (t : Nat),
    (∀ (i : Fin 32) (desc buf : Option Bytes), Completes (.submissionDescriptor i desc buf t) s fun u =>
      let k := 32 + i.val
      let passed : Prop := (u.ring k).head = ((s.ring k).head + 1) % s.ringSize k ∧ (u.ring k).tail = (s.ring k).tail
      let kept : Prop := (u.ring k).head = (s.ring k).head ∧ (u.ring k).tail = (s.ring k).tail
      if s.ringRuns k ∧ s.canDma ∧ s.domOn 16 ∧ s.ringPending k ∧ s.hif.stalled = false then
        match desc.map descOf with
        | none => kept ∧ (u.ring k).stopped = true ∧ u.hif.staging = s.hif.staging
        | some d =>
          if s.complOk d = false ∨ d.ok = false ∨ d.op = 0 then passed ∧ u.hif.staging = s.hif.staging ∧ u.jobs = s.jobs
          else
            match buf with
            | none => kept ∧ (u.ring k).stopped = true ∧ u.hif.staging = s.hif.staging
            | some b =>
              let n := ceilDiv d.length 256
              if d.op = 3 then
                let p := (bit d.flags 2).toNat
                if (s.port p).waiting ≠ [] ∨ 128 < (s.port p).egressCells + n then u = s.tick t
                else passed ∧ u.hif.staging = s.hif.staging ∧ ∃ x : EthOut, x.frame = fit b d.length ∧
                  (u.port p).egress = (s.port p).egress ++ [x]
              else if 256 < s.stagingCells + n then kept ∧ u.hif.stalled = true ∧ u.hif.staging = s.hif.staging
              else passed ∧ ∃ f : DlFrame, u.hif.staging = s.hif.staging ++ [f] ∧ f.payload = fit b d.length ∧
                f.op = d.op ∧ f.handle = d.handle % 2 ^ 18 ∧ f.cookie = d.cookie ∧ f.complRing = d.complRing ∧
                f.source = .submission i.val
      else u = s.tick t) ∧
    Completes (.stagingResume t) s (fun u =>
      if s.stagingCells < 256 ∧ (s.hif.staging.all (fun f => ! f.waiting || (match f.source with
          | .submission _ => false
          | .ethernet _ => true))) = true then
        u.hif.stalled = false ∧ u.hif.staging = s.hif.staging ∧ u.hif.rings = s.hif.rings
      else u = s.tick t) ∧
    (∀ (m : Msg) (b : Bytes), m.desc.msgType = 0x20 → m.req = some b → Completes (.echoMessage m) s fun u =>
      let k := 64 + m.ring.val
      if s.mailReady m then
        (u.ring k).head = ((s.ring k).head + 1) % s.ringSize k ∧ RingsBut s u k ∧
        ∃ l, u.outbox = s.outbox ++ [if 65536 < m.desc.reqLen ∨ m.desc.rspMax < m.desc.reqLen then
            .answer m.ring.val m.desc.tag 2 0 [] else .answer m.ring.val m.desc.tag 0 0 (fit b m.desc.reqLen)] ++ l
      else u = s)

/-- A frame at a port that is up is dropped and counted when it is over 2,048 octets or the ingress pool is full; one not for
the port leaves all as it was. A pause sets until when nothing leaves, of the port or of its priority, where the image obeys it;
0 ends it; what has run out is forgotten. PAUSE goes out again only while the occupancy stays above XON and half the pause time
has passed. The first frame that nothing stops departs and makes room for those that wait, and a link that goes down forgets the pauses
but no frame.
For message parts of an even number of octets up to 18 (the correctionField and the timestamp), the updated checksum and
the new words sum to what the old checksum and the old words summed to, in one's complement arithmetic. -/
def Obligations.EthernetPorts : Prop :=
  (∀ (s : State) (p : Fin 2) (t : Nat),
     let x := s.port p.val
     (∀ f : Bytes, Completes (.ethFrameReceive p f t) s fun u =>
       let a := Reg.hifEthRxDropCnt p.val
       if s.domOn 14 ∧ s.domOn 10 ∧ s.domOn 16 ∧ x.up then
         if 2048 < f.length ∨ (ethForPort p.val f ∧ be f 12 2 ≠ 0x8808 ∧ be f 12 2 ≠ 0x88B5 ∧ 256 < x.ingress + cellsFor f.length) then
           (u.rg a).toNat = min 0xFFFFFFFF ((s.rg a).toNat + 1) ∧ SameRegs s u [a] ∧ u.hif = s.hif ∧ u.outbox = s.outbox
         else if ethForPort p.val f = false ∨ be f 12 2 = 0x8808 ∨ be f 12 2 = 0x88B5 then u = s.tick t
         else if be f 12 2 = 0x86DD ∧ s.fastpath p.val then
           (u.port p.val).ingress = x.ingress + cellsFor f.length ∧
           ∃ d : DlFrame, d.payload = f ∧ d.source = .ethernet p.val ∧ u.hif.staging = s.hif.staging ++ [d]
         else u.hif.staging = s.hif.staging ∧ u.jobs = s.jobs
       else u = s.tick t) ∧
     Completes (.pauseRefresh p t) s (fun u =>
       match x.sentPause with
       | some t0 =>
         if s.domOn 14 ∧ x.up ∧ s.pauseEn p.val ∧ s.rf Reg.hifEthPause 0 8 * 1024 < x.ingress * 256 ∧
             2 * t0 + quantaTicks (s.rf Reg.hifEthPause 16 16) ≤ 2 * max s.now t then
           u.outbox = s.outbox ++ [.pauseFrame p.val (s.rf Reg.hifEthPause 16 16)] ∧
           u.port p.val = { x with sentPause := some (max s.now t) } ∧ (∀ q, q ≠ p.val → u.port q = s.port q)
         else u = s.tick t
       | none => u = s.tick t) ∧
     (∀ (pfc : Option (Fin 8)) (q : BitVec 16), Completes (.ethPauseReceived p pfc q t) s fun u =>
       let till := if q = 0 then none else some (max s.now t + quantaTicks q.toNat)
       if s.domOn 14 ∧ x.up then
         match pfc with
         | none => u.port p.val = (if s.pauseEn p.val then { x with pausedUntil := till } else x)
         | some n => (∀ k, sget none (u.port p.val).pfcUntil k =
             if s.pfcEn n.val ∧ k = n.val then till else sget none x.pfcUntil k) ∧
           (u.port p.val).pausedUntil = x.pausedUntil ∧ (u.port p.val).egress = x.egress
       else u = s.tick t) ∧
     Completes (.ethPauseQuantaExpiry p t) s (fun u =>
       (sRising none x.pfcUntil = true → ∀ y : EthOut, u.mayDepart p.val y = (s.tick t).mayDepart p.val y) ∧
       (∀ e, (u.port p.val).pausedUntil = some e → u.now < e) ∧ (u.port p.val).egress = x.egress ∧
       ∀ q, q ≠ p.val → u.port q = s.port q) ∧
     Completes (.ethFrameDepart p t) s (fun u =>
       match s.domOn 14 && s.domOn 10 && x.up, x.egress.find? (fun y => (s.tick t).mayDepart p.val y) with
       | true, some y =>
         (∃ l, (u.port p.val).egress = x.egress.erase y ++ l ∧ (x.waiting = [] → l = [])) ∧
         ∃ f l, u.outbox = s.outbox ++ [.ethFrame p.val f] ++ l ∧ f.length = y.frame.length ∧
           (s.ptpEvent y.frame = none → f = y.frame)
       | _, _ => u = s.tick t) ∧
     (∀ up : Bool, Completes (.ethLinkChange p up t) s fun u =>
       if s.domOn 14 then
         (u.port p.val).up = (up && ! s.sys.ethRefBad) ∧
         (∃ l, (u.port p.val).egress = x.egress ++ l ∧ (up = false ∨ x.waiting = [] → l = [])) ∧
         (u.port p.val).ingress = x.ingress ∧
         (up = false → (u.port p.val).pausedUntil = none ∧ (u.port p.val).pfcUntil = [] ∧
           (u.port p.val).sentPause = none ∧ u.outbox = s.outbox) ∧
         (∀ q, q ≠ p.val → u.port q = s.port q)
       else u = s.tick t)) ∧
  (∀ (sum : Nat) (old new : Bytes), sum < 65536 → old.length = new.length → old.length % 2 = 0 → old.length ≤ 18 →
     let words (b : Bytes) : Nat := ((List.range (b.length / 2)).map (fun i => be b (2 * i) 2)).sum
     sumUpdate sum old new < 65536 ∧ (sumUpdate sum old new + words new) % 65535 = (sum + words old) % 65535)

/-- A commit in range sets the rate from this tick and restarts the holdover; one out of range is discarded and flagged. A
read of NOW_NS answers NS and latches SEC and FRAC. A GO with STEP_NS too large leaves a pending step as it was; any other
becomes the pending step, flagged where it replaces one or is past, and moves the timebase not yet. A write of 1 to DISCIPLINED
starts the holdover period, and the end of it clears the bit. With domain 10 off nothing happens and reads answer 0. -/
def Obligations.TimebaseRegisters : Prop :=
  ∀ (s : State) (t : Nat),
    (∀ w : Word, Completes (.incrCommit w) s fun u =>
      let v := s.rf Reg.tsuIncrNs 0 4 * 2 ^ 32 + w.toNat
      if s.domOn 10 then
        if 0x138300000 ≤ v ∧ v ≤ 0x138D00000 then
          u.tsu.incr = v ∧ (∀ k, (u.tick (s.now + k)).tbRaw = s.tbRaw + k * v) ∧ u.tsu.holdFrom = s.now ∧
          u.rg Reg.tsuIncrFrac = w ∧ SameRegs s u [Reg.tsuIncrFrac]
        else u.tsu = s.tsu ∧ u.rb Reg.tsuStatus 5 = true ∧ SameRegs s u [Reg.tsuStatus]
      else u = s) ∧
    Completes .nowNsRead s (fun u =>
      if s.domOn 10 then u.readData.toNat = s.tbRaw / 2 ^ 32 % 1000000000 ∧ u.tsu.latchSec = s.tbRaw / 2 ^ 32 / 1000000000 ∧
        u.tsu.latchFrac = s.tbRaw % 2 ^ 32 ∧ (∀ k, (u.tick (s.now + k)).tbRaw = (s.tick (s.now + k)).tbRaw)
      else u.readData = 0 ∧ u.tsu = s.tsu) ∧
    (∀ e ∈ [(Instr.timebaseStepOffset, false), (Instr.timebaseStepSet, true)], ∀ timed : Bool, Completes (e.1 timed) s fun u =>
      let p := s.stepWritten e.2 timed
      let late := timed && decide (p.instant * 2 ^ 32 < s.tbRaw)
      if s.domOn 10 then
        SameRegs s u [Reg.tsuStepCtrl, Reg.tsuStatus] ∧ u.rb Reg.tsuStepCtrl 30 = timed ∧ u.rb Reg.tsuStepCtrl 29 = e.2 ∧
        (if 999999999 < (s.rg Reg.tsuStepNs).toNat then
          u.tsu = s.tsu ∧ u.rb Reg.tsuStatus 3 = true ∧ u.rb Reg.tsuStatus 4 = s.rb Reg.tsuStatus 4
        else
          u.tsu = { s.tsu with step := some { p with timed := timed && ! late } } ∧
          u.rb Reg.tsuStatus 3 = (s.rb Reg.tsuStatus 3 || late) ∧
          u.rb Reg.tsuStatus 4 = (s.rb Reg.tsuStatus 4 || s.tsu.step.isSome))
      else u = s) ∧
    (∀ w : Word, Completes (.disciplinedWrite w) s fun u =>
      if s.domOn 10 then u.rb Reg.tsuCtrl 31 = w.getLsbD 31 ∧ u.rf Reg.tsuCtrl 0 16 = w.toNat % 65536 ∧
        SameRegs s u [Reg.tsuCtrl] ∧ u.tsu = { s.tsu with holdFrom := if w.getLsbD 31 then s.now else s.tsu.holdFrom }
      else u = s) ∧
    Completes (.holdoverExpiry t) s (fun u =>
      let h := s.rf Reg.tsuCtrl 0 16
      if s.domOn 10 ∧ s.rb Reg.tsuCtrl 31 ∧ h ≠ 0 ∧ s.tsu.holdFrom + secTicks h ≤ max s.now t then
        u.rb Reg.tsuCtrl 31 = false ∧ u.rf Reg.tsuCtrl 0 16 = h ∧ u.rb Reg.tsuStatus 6 = true ∧
        SameRegs s u [Reg.tsuCtrl, Reg.tsuStatus] ∧ u.tsu = s.tsu
      else u = s.tick t)

/-- A step that is not due changes nothing. A due one whose result lies in the timebase's range loads it, advancing at the
rate from there: an OFFSET step moves STEP_ACCUM by its offset, so the fix scale stands; a SET step keeps it, sets TIME_SET and
clears DISCIPLINED. STEP_CNT counts it, armed pins are flagged, source 0x0E3 is raised, no timer moves. A result out of range
leaves the timebase as it was and sets STEP_LATE_STK. The Porch then books what waited for TIME_SET. -/
def Obligations.StepsApply : Prop :=
  ∀ (s : State) (t : Nat), Completes (.stepApply t) s fun u =>
    let x := s.tick t
    match s.domOn 10, s.tsu.step with
    | true, some p =>
      if p.since < x.now ∧ (p.timed = true → p.instant ≤ x.tbNs) then
        ∃ y : State, y.tsu.step = none ∧ y.timers = s.timers ∧ y.now = x.now ∧
          (let v := x.stepResult p
            if 0 ≤ v ∧ v < (2 ^ 48 * 1000000000 * 2 ^ 32 : Int) then
              (∀ k : Nat, ((y.tick (x.now + k)).tbRaw : Int) = v + k * s.tsu.incr) ∧
              (y.rg Reg.tsuStepCnt).toNat = min 0xFFFFFFFF ((s.rg Reg.tsuStepCnt).toNat + 1) ∧
              y.irq.events = s.irq.events ++ heard s 0x0E3 ∧
              (∀ n < 8, (s.pin n).armed = true → y.rb (Reg.tsuPinStatus n) 4 = true) ∧
              (if p.set then y.tsu.accum = s.tsu.accum ∧ y.timeSet = true ∧ y.rb Reg.tsuCtrl 31 = false
              else y.timeSet = s.timeSet ∧ y.rb Reg.tsuCtrl 31 = s.rb Reg.tsuCtrl 31 ∧
                (-(2 : Int) ^ 63 ≤ s.tsu.accum + p.offset → s.tsu.accum + p.offset < (2 : Int) ^ 63 →
                  y.tsu.accum = s.tsu.accum + p.offset ∧ y.fixNow = x.fixNow))
            else (∀ k : Nat, (y.tick (x.now + k)).tbRaw = (x.tick (x.now + k)).tbRaw) ∧ y.tsu.accum = s.tsu.accum ∧
              y.rb Reg.tsuStatus 3 = true ∧ SameRegs s y [Reg.tsuStatus]) ∧
          u = (if y.timeSet && ! s.timeSet then (y.dls.queues.map (·.1)).foldl (fun s h => s.porchBook h) y else y).keep x
      else u = x
    | _, _ => u = x

/-- R333. With domain 10 on, a pending step due at this tick with a result in range, and an increment in the accepted range,
the step and the commit together, in either order, leave the timebase at the stepped value on this tick, and the new increment is
added from the next. -/
def Obligations.StepAndCommitBothTakeEffect : Prop :=
  ∀ (s : State) (p : StepPend) (w : Word), s.domOn 10 = true → s.tsu.step = some p → p.since < s.now →
    (p.timed = true → p.instant ≤ s.tbNs) → 0 ≤ s.stepResult p → s.stepResult p < (2 ^ 48 * 1000000000 * 2 ^ 32 : Int) →
    let incr (a : State) : Nat := a.rf Reg.tsuIncrNs 0 4 * 2 ^ 32 + w.toNat
    let both (v : Nat) (u : State) : Prop := ∀ k : Nat, ((u.tick (s.now + k)).tbRaw : Int) = s.stepResult p + k * v
    (0x138300000 ≤ incr s → incr s ≤ 0x138D00000 →
      Completes (.incrCommit w) s fun a => Completes (.stepApply s.now) a (both (incr s))) ∧
    Completes (.stepApply s.now) s (fun a => 0x138300000 ≤ incr a → incr a ≤ 0x138D00000 →
      Completes (.incrCommit w) a (both (incr a)))

/-- Arming an output pin arms it at its instant, or a train at the first grid point not before the present; a past instant is
flagged. STOP disarms, but lets a pulse in progress end. A pulse starts at the first tick not before the instant and lasts its
width in ticks; a one-shot's end disarms, and sets FIRED_STK. A capture fills the current buffer, with OVERRUN_STK where NEW was
set; a status read copies it and clears NEW, one on the capture's own tick what stood before it, NEW staying set and
nothing overrun. The first edge of a HEARTH_WAKE pin is kept until domain 10 is back. A snapshot is READY once stored, and its last sample read clears READY. -/
def Obligations.TimePins : Prop :=
  (∀ start period time : Nat, 0 < period → let g := gridNext start period time
    time ≤ g ∧ (∃ k, g = start + k * period) ∧ ∀ k, time ≤ start + k * period → g ≤ start + k * period) ∧
  ∀ (s : State) (n : Fin 8) (t : Nat),
    let p := s.pin n.val
    let f := s.pinFn n.val
    let x := s.tick t
    let a := Reg.tsuPinStatus n.val
    let rest (u : State) : Prop := ∀ m, m ≠ n.val → u.pin m = s.pin m
    Completes (.pinArm n) s (fun u =>
      let at_ := s.pinAt n.val
      if s.domOn 10 ∧ (f = 1 ∨ f = 2 ∨ f = 4) then
        u.pin n.val = { p with armed := true, stopping := false, next :=
          if f = 2 then gridNext at_ (s.pinF n.val 8 4) s.tbCeilNs else at_ } ∧ rest u ∧
        u.rb a 2 = (s.rb a 2 || decide (at_ * 2 ^ 32 < s.tbRaw)) ∧ SameRegs s u [a]
      else u = s) ∧
    Completes (.pinStop n) s (fun u =>
      if s.domOn 10 ∧ (f = 1 ∨ f = 2 ∨ f = 4) then
        u.pin n.val = (if p.pulseEnd.isSome then { p with stopping := true } else { p with armed := false }) ∧ rest u ∧
        u.regs = s.regs
      else u = s) ∧
    Completes (.pinPulseStart n t) s (fun u =>
      let r := s.pinF n.val 2 1
      if s.domOn 10 ∧ p.armed ∧ p.pulseEnd = none ∧ p.next ≤ x.tbNs ∧ (f = 1 ∨ f = 2 ∨ f = 4) then
        u.pin n.val = { p with pulseEnd := some (x.now + nsTicks (s.pinF n.val 4 4)),
                               next := if f = 2 then p.next + s.pinF n.val 8 4 else p.next } ∧ rest u ∧
        (f ≠ 4 → u.regs = s.regs ∧ u.tsu.snapPend = s.tsu.snapPend) ∧
        (f = 4 → r = 3 → u.tsu.cycleAt = x.now - msTicks 10 ∧ u.regs = s.regs) ∧
        (f = 4 → r < 3 → if s.domOn (Region.ofIx r).frontDom then
            (∃ k, sget none u.tsu.snapPend r = some k ∧ x.now ≤ k ∧ k < x.now + 4 ∧ k % 4 = 0) ∧
            u.rb Reg.tsuSnapStatus (4 + r) = (s.rb Reg.tsuSnapStatus (4 + r) || s.rb Reg.tsuSnapStatus r)
          else u.rb Reg.tsuSnapStatus (8 + r) = true ∧ u.tsu.snapPend = s.tsu.snapPend)
      else u = x) ∧
    Completes (.pinPulseEnd n t) s (fun u =>
      match s.domOn 10, p.pulseEnd with
      | true, some e =>
        if e ≤ x.now then
          u.pin n.val = { p with pulseEnd := none, armed := f == 2 && ! p.stopping, stopping := false } ∧ rest u ∧ u.rb a 1 = true ∧ SameRegs s u [a]
        else u = x
      | _, _ => u = x) ∧
    Completes (.pinCapture n t) s (fun u =>
      if s.domOn 10 then
        if f = 3 then
          u.pin n.val = { p with curSec := x.tbNs / 1000000000, curNs := x.tbNs % 1000000000, curCoarse := false,
                                 seq := (p.seq + 1) % 65536, fresh := true, capAt := x.now,
                                 oldSec := p.curSec, oldNs := p.curNs, oldCoarse := p.curCoarse, oldSeq := p.seq,
                                 oldFresh := p.fresh, oldOverrun := s.rb a 3 } ∧ rest u ∧
          u.rb a 3 = (s.rb a 3 || p.fresh) ∧ SameRegs s u [a]
        else u = x
      else if (s.sys.wake.any fun w => w.capPins.contains n.val) ∧ s.domOn 1 ∧ sget none s.tsu.hearthCaps n.val = none then
        sget none u.tsu.hearthCaps n.val = some x.now ∧ u.regs = s.regs ∧ u.tsu.pins = s.tsu.pins
      else u = x) ∧
    Completes (.pinStatusRead n) s (fun u =>
      if s.domOn 10 then
        let old : Pin := { p with curSec := p.oldSec, curNs := p.oldNs, curCoarse := p.oldCoarse, seq := p.oldSeq, fresh := p.oldFresh }
        let q : Pin := if p.fresh ∧ p.capAt = s.now then old else p
        let ov := s.rb a 3 && ! (p.fresh && decide (p.capAt = s.now) && ! p.oldOverrun)
        u.pin n.val = { p with readSec := q.curSec, readNs := q.curNs, readSeq := q.seq,
                               fresh := p.fresh && decide (p.capAt = s.now) } ∧ rest u ∧
        u.rb a 3 = ov ∧ u.readData.getLsbD 3 = ov ∧ SameRegs s u [a] ∧ u.readData.getLsbD 31 = q.fresh ∧ u.readData.getLsbD 30 = q.curCoarse ∧
        u.readData.getLsbD 29 = p.armed ∧ u.readData.getLsbD 28 = s.pinLevel n.val ∧ (∀ i ∈ [1, 2, 4], u.readData.getLsbD i = s.rb a i)
      else u.readData = 0 ∧ u.tsu = s.tsu) ∧
    (∀ (r : Region) (l : List Word), Completes (.snapshotReady r l t) s fun u =>
      match s.domOn 10, sget none s.tsu.snapPend r.ix with
      | true, some k =>
        sget [] u.tsu.snaps r.ix = l ∧ sget none u.tsu.snapPend r.ix = none ∧ u.rb Reg.tsuSnapStatus r.ix = true ∧
        (let ns := x.tbRawAt k / 2 ^ 32 - 180;
          (u.rg (Reg.tsuSnapStartNs r.ix)).toNat = ns % 1000000000 ∧
          (u.rg (Reg.tsuSnapStartSecLo r.ix)).toNat = ns / 1000000000 % 2 ^ 32) ∧
        SameRegs s u [Reg.tsuSnapStartNs r.ix, Reg.tsuSnapStartSecLo r.ix, Reg.tsuSnapStartSecHi r.ix, Reg.tsuSnapStatus]
      | _, _ => u = x) ∧
    Completes .snapDataRead s (fun u =>
      let r := s.rf Reg.tsuSnapSel 16 2
      let i := s.rf Reg.tsuSnapSel 0 14
      if s.domOn 10 then
        u.rf Reg.tsuSnapSel 0 14 = (i + 1) % 16384 ∧ u.rf Reg.tsuSnapSel 16 2 = r ∧ u.tsu = s.tsu ∧
        SameRegs s u [Reg.tsuSnapSel, Reg.tsuSnapStatus] ∧
        (r ≠ 3 → u.readData = (((sget [] s.tsu.snaps r)[i]?).getD 0).zeroExtend 64 ∧
          (∀ k < 16, u.rb Reg.tsuSnapStatus k = (s.rb Reg.tsuSnapStatus k && ! (i == 16383 && k == r))))
      else u.readData = 0 ∧ u.regs = s.regs)

/-- ARM counts from 0 to TERMINAL unless the channel is out of service; STOP holds COUNT; a commit keeps COUNT and expires on
the next tick where it lies below. An expiry stops the channel, sets EXPIRED_STK and asks for one job, one that fell in sleep only for its job. A group armed of N
channels over P expires in channel order, floor(P / N) apart, the last after P, but for those out of service; P below N, or no channel, arms nothing. A count
read latches the high part. A measured slow ratio is the count × 64. -/
def Obligations.TimerChannels : Prop :=
  ∀ (s : State) (c : Fin 16) (t : Nat),
    let x := s.timer c.val
    let k := s.timerCount c.val
    let rest (u : State) : Prop := ∀ j, j ≠ c.val → u.timer j = s.timer j
    Completes (.timerArm c) s (fun u =>
      if s.domOn 10 ∧ s.timerOut c.val = false then
        (u.timer c.val).running = true ∧ (u.timer c.val).due = s.now + max 1 x.terminal ∧ rest u ∧
        (∀ j, (u.tick (s.now + j)).timerCount c.val = min x.terminal j) ∧ SameRegs s u [Reg.tmrChStatus c.val]
      else u = s) ∧
    Completes (.timerStop c) s (fun u =>
      if s.domOn 10 ∧ x.running then
        (u.timer c.val).running = false ∧ (∀ j, (u.tick j).timerCount c.val = k) ∧ rest u ∧ u.regs = s.regs ∧ u.jobs = s.jobs
      else u = s) ∧
    (∀ hi : BitVec 16, Completes (.terminalCommit c hi) s fun u =>
      let v := hi.toNat * 2 ^ 32 + (s.rg (Reg.tmrTerminalLo c.val)).toNat
      if s.domOn 10 then
        (u.timer c.val).terminal = v ∧ (u.timer c.val).running = x.running ∧ rest u ∧
        u.rg (Reg.tmrTerminalHi c.val) = hi.zeroExtend 32 ∧ SameRegs s u [Reg.tmrTerminalHi c.val] ∧
        u.timerCount c.val = k ∧
        (x.running = true → (u.timer c.val).due = s.now + max 1 (v - k) ∧ ((u.timer c.val).shortened = decide (v < k)))
      else u = s) ∧
    (∀ w : Word, Completes (.groupArm w) s fun u =>
      let p := s.rf Reg.tmrGroupPeriodHi 0 16 * 2 ^ 32 + (s.rg Reg.tmrGroupPeriodLo).toNat
      let l := (List.range 16).filter (fun j => w.getLsbD j)
      if s.domOn 10 then
        u.rg Reg.tmrGroupArm = w &&& 0xFFFF ∧
        (if w.getLsbD 31 ∧ l ≠ [] ∧ l.length ≤ p then
          (∀ i j, l[i]? = some j → s.timerOut j = false → (u.timer j).running = true ∧ (u.timer j).terminal = p ∧
            (u.timer j).due = s.now + (p - (l.length - 1 - i) * (p / l.length))) ∧
          (∀ j, (j ∉ l ∨ s.timerOut j = true) → u.timer j = s.timer j)
        else u.timers = s.timers ∧ (w.getLsbD 31 = true → u.rb Reg.tmrStatus 1 = true))
      else u = s) ∧
    Completes (.timerCountRead c) s (fun u =>
      if s.domOn 10 then u.readData.toNat = k % 2 ^ 32 ∧ (u.timer c.val).latchHi = BitVec.ofNat 16 (k / 2 ^ 32) ∧
        u.timerCount c.val = k ∧ rest u ∧ u.regs = s.regs
      else u.readData = 0 ∧ u.timers = s.timers) ∧
    Completes (.timerExpiry c t) s (fun u =>
      if s.domOn 10 ∧ x.jobAt.any (fun k => decide (k ≤ max s.now t)) then
        u.timer c.val = { x with jobAt := none } ∧ rest u ∧
        u.jobs.queued.length + u.jobs.waiting.length = s.jobs.queued.length + s.jobs.waiting.length + 1
      else if s.domOn 10 ∧ x.running ∧ x.due ≤ max s.now t then
        (u.timer c.val).running = false ∧ u.timerCount c.val = (if x.shortened then x.base else x.terminal) ∧ rest u ∧
        u.rb (Reg.tmrChStatus c.val) 1 = true ∧ (x.shortened = true → u.rb (Reg.tmrChStatus c.val) 2 = true) ∧
        u.jobs.queued.length + u.jobs.waiting.length = s.jobs.queued.length + s.jobs.waiting.length + 1
      else u = s.tick t) ∧
    (∀ n : Nat, Completes (.slowRatioMeasure n t) s fun u =>
      if s.domOn 10 then u.rg Reg.tmrSlowRatio = BitVec.ofNat 32 (n * 64) ∧ u.rb Reg.tmrStatus 0 = true ∧ u.tsu.ratio = n * 64 % 2 ^ 32 ∧
        SameRegs s u [Reg.tmrSlowRatio, Reg.tmrStatus]
      else u = s.tick t)

/-- A source that is reserved, or an edge not raised or of a block still busy, changes nothing. An edge on an enabled source pends it; one on a pending
source merges, counted where the source has a glitch filter; one on a disabled source is lost. A level source that is not ACTIVE
is PENDING just when enabled and its condition holds, and while ACTIVE it is not PENDING. The 65th change of a window masks the
source and is counted. A new window clears the counts. A software interrupt is such an edge for each bit set. An external pad acts
through its 10 ns filter, several transitions in it merging. A sample of an armed mesh that differs from what is expected pends source
0x000 or 0x001, and is tamper where the one before differed too (R409; that the level operand of these sources is the sample is the
model's reading, log 188).
A timer that runs and has reached 0 stops and raises source 0x005; before that, or stopped, nothing happens. It reads one
less after each slow tick, and once it has ended it stays at 0. -/
def Obligations.InterruptSources : Prop :=
  (∀ s : State, swf (fun _ => IrqSrc.reset) s.irq.srcs = true →
     (∀ (n : Fin 512) (lv : Bool) (t : Nat), Completes (.irqSourceEvent n lv t) s fun u =>
       let x := s.tick t
       let k := srcKind n
       let y := (s.src n.val).settle x.now
       let ext := s.extLevel n.val y.1.pin
       if n.val ≤ 1 ∧ s.armed = true ∧ s.domOn 1 = true ∧ lv ≠ x.tamperExpect n.val then
         let v := (x.tamperNote n.val).hearthSource n.val
         u = (if x.tamperMiss n.val = some (x.now / slowTick - 1) then v.tamper n.val else v).keep x
       else if s.domOn 10 = false ∧ k = .ext ∧ s.domOn 1 = true then
         (u.src n.val).pad = lv ∧ { u.src n.val with pin := false, moves := [] } = { s.src n.val with pin := false, moves := [] } ∧
         (∀ m, m ≠ n.val → u.src m = s.src m) ∧ u.regs = s.regs ∧ u.sys = s.sys
       else if s.domOn 10 = false ∨ k = .reserved ∨ (k = .edge ∧ (s.irq.events.contains n.val = false ∨ x.fwdBusy n.val)) then u = x
       else
         (∀ m, m ≠ n.val → SameSource s u m) ∧
         (k = .edge → edgeTaken x u n.val ∧
           (n.val ≠ 0x142 → s.irq.events.count n.val = u.irq.events.count n.val + 1)) ∧
         (k = .level → (u.src n.val).raw = s.levelCond n.val ∧ levelTaken x u n.val (s.levelCond n.val)) ∧
         (k = .ext → (u.src n.val).pad = lv ∧ (y.2 = true → (u.src n.val).merged = true ∧ u.rb Reg.irqTrouble 2 = true)) ∧
         (k = .ext → (s.src n.val).edge = false → levelTaken x u n.val ext) ∧
         (k = .ext → (s.src n.val).edge = true → (u.src n.val).raw = ext ∧
           (ext = true → (s.src n.val).raw = false → y.2 = false → edgeTaken x u n.val) ∧
           (ext = false ∨ (s.src n.val).raw = true → (u.src n.val).pending = (s.src n.val).pending))) ∧
     (∀ t : Nat, Completes (.irqStormWindow t) s fun u =>
       u.irq.window = (s.tick t).stormWindow ∧ (∀ m, SameSource s u m) ∧
       (s.irq.window ≠ (s.tick t).stormWindow → ∀ m, (u.src m).changes = 0)) ∧
     (∀ w : Word, Completes (.irqSwi w) s fun u =>
       if s.domOn 10 then
         (∀ m, m < 0x1E0 → SameSource s u m) ∧ (∀ i < 32, w.getLsbD i = false → SameSource s u (0x1E0 + i)) ∧
         (∀ i < 32, w.getLsbD i = true → let x := s.src (0x1E0 + i); let y := u.src (0x1E0 + i)
           (x.enabled = false ∨ x.pending = true → y.pending = x.pending ∧ y.enabled = x.enabled) ∧
           (x.enabled = true → x.pending = false → (y.pending = true ∧ y.enabled = true) ∨
             (y.pending = false ∧ y.enabled = false ∧ y.storm = true)))
       else u = s)) ∧
  (∀ (s : State) (t : Nat), Completes (.hearthTimerExpiry t) s fun u =>
     let x := s.tick t
     (if s.irq.hearthLeft ≠ 0 ∧ x.hearthCount = 0 then
       (∀ k, (u.tick (x.now + k)).hearthCount = 0) ∧ u.irq.srcs = s.irq.srcs ∧
       u.irq.events = s.irq.events ++ heard s 0x005 ∧
       Completes (.hearthTimerExpiry t) u (fun v => v.irq.events = u.irq.events)
     else u = x) ∧
     ∀ k, s.irq.hearthAt ≤ x.now → (x.tick (x.now + k * slowTick)).hearthCount = x.hearthCount - k)

/-- A claim of a context answers its top eligible source with VALID and its level, clears its PENDING, sets it ACTIVE and pushes
its level; with none eligible, or in a frozen supervisor (R431), it answers 0 and
changes no source and no stack. An end of interrupt completes a source that is
ACTIVE in that context with its level on top of the stack: it pops, clears ACTIVE, keeps an edge that came meanwhile, and counts
EMPTY. Any other is discarded, flagged and counted. The top source is eligible, and no eligible one has a higher level. -/
def Obligations.ClaimAndEndOfInterrupt : Prop :=
  (∀ (s : State) (c : IrqCtx) (n : Nat), swf (fun _ => IrqSrc.reset) s.irq.srcs = true → s.topEligible c = some n →
    s.eligible c (s.src n) = true ∧ ∀ m, s.eligible c (s.src m) = true →
      (s.src m).level < (s.src n).level ∨ ((s.src m).level = (s.src n).level ∧ n ≤ m)) ∧
  ∀ (s : State) (c : IrqCtx), swf (fun _ => IrqSrc.reset) s.irq.srcs = true →
    Completes (.irqClaim c) s (fun u =>
      if s.domOn 10 ∧ (c = .host ∨ s.supFrozen = false) then
        match s.topEligible c with
        | some n =>
          u.readData.toNat = (2 ^ 31 + (s.src n).level * 2 ^ 24 + n) % 2 ^ 64 ∧
          u.src n = { s.src n with pending := false, active := true } ∧ (∀ m, m ≠ n → u.src m = s.src m) ∧
          u.irqStack c = (s.src n).level :: s.irqStack c ∧ (∀ d, d ≠ c → u.irqStack d = s.irqStack d)
        | none => u.readData = 0 ∧ u.irq.srcs = s.irq.srcs ∧ (∀ d, u.irqStack d = s.irqStack d)
      else u.readData = 0 ∧ u.irq = s.irq) ∧
    (∀ w : Word, Completes (.irqEoi c w) s fun u =>
      let n := getBits w 0 9
      let x := s.src n
      if s.domOn 10 then
        if x.active = true ∧ x.ctx = c ∧ (s.irqStack c).head? = some x.level then
          u.irqStack c = (s.irqStack c).tail ∧ (u.src n).active = false ∧ (∀ m, m ≠ n → SameSource s u m) ∧
          (x.edge = true ∨ srcKind n = .edge → (u.src n).pending = x.pending) ∧
          (w.getLsbD 31 = true → (u.rg Reg.irqClaimEmptyCnt).toNat = min 0xFFFFFFFF ((s.rg Reg.irqClaimEmptyCnt).toNat + 1)) ∧
          (x.edge = false → srcKind n = .level → (u.src n).pending = true → s.levelCond n = true) ∧
          (x.heldLevel = none → (u.src n).level = x.level ∧ (u.src n).target = x.target) ∧
          (∀ l g, x.heldLevel = some (l, g) → (u.src n).level = l ∧ (u.src n).target = g)
        else u.irq.srcs = s.irq.srcs ∧ (∀ d, u.irqStack d = s.irqStack d) ∧ u.rb Reg.irqTrouble 0 = true ∧
          (u.rg Reg.irqEoiErrCnt).toNat = min 0xFFFFFFFF ((s.rg Reg.irqEoiErrCnt).toNat + 1) ∧
          SameRegs s u [Reg.irqTrouble, Reg.irqEoiErrCnt]
      else u = s)

/-- For each key update of its SLOT: where the mailbox cannot serve it nothing happens; one that fails a check of R385 is
answered with that check's value, counted, and leaves the Strongroom as it was; one that passes them either commits with its own
COUNTER, which lies above the old one, or is refused with 6, 7 or 8 and leaves the Strongroom as it was. -/
def Obligations.KeyUpdatesCommitOrAreRefused : Prop :=
  ∀ (s : State) (m : Msg) (t : Nat), ∀ e ∈ keyRows, Completes (e.1 m t) s fun u =>
    let x := s.tick t
    let b := request m
    (s.mailReady m = false → u = x) ∧
    (taken s m 2 (fun k => decide (0x110 ≤ k) && k % 44 == 0x110 % 44 && decide (k ≤ 0x110 + 44 * 1024))
        (if e.2 = 0x10 then (m.desc.reqLen - 0x110) / 44 else 0) → kuSlot (omBody b) = e.2 →
      let a := Reg.keyMsgRefusedCnt
      let counted : Prop := (u.rg a).toNat = min 0xFFFFFFFF ((s.rg a).toNat + 1)
      match keyRefusal x b with
      | some r => u.key = s.key ∧ refusedWith s u m r ∧ counted
      | none => (s.key.counter < omCounter b ∧ u.key.counter = omCounter b) ∨
          (u.key = s.key ∧ counted ∧ (refusedWith s u m 6 ∨ refusedWith s u m 7 ∨ refusedWith s u m 8)))

/-- Of an update that passes the checks of R385 while no other holder has the update lock: OWNER_AUTHORITY stores the key and
makes the part FIELD; NETWORK_KEK loads the new generation and keeps the old one for its window; TWIN_LINK, IMAGE and
TAMPER_POLICY store theirs, sealed; each leaves the rest of the store. ZEROIZE destroys the keys and leads to SAFE with cause 0x0C.
NODE_KEYS answers one result an entry and leaves the store. -/
def Obligations.KeyUpdateEffects : Prop :=
  ∀ (s : State) (m : Msg) (t : Nat),
    let x := s.tick t
    let b := request m
    let y := omBody b
    let base := s.storeBase
    s.upd.lock = none →
    taken s m 2 (fun k => decide (0x110 ≤ k) && k % 44 == 0x110 % 44 && decide (k ≤ 0x110 + 44 * 1024))
      ((m.desc.reqLen - 0x110) / 44) → keyRefusal x b = none →
    (kuSlot y = 0 → Completes (.keyUpdateOwnerAuthority m t) s fun u => u.key.lifecycle = .field ∧
      committed s u fun z => { z with gen := 0 } = { base with gen := 0, owner := some (slice y 0x50 64) }) ∧
    (kuSlot y = 1 → ∀ k, x.transported b 24 = some k → (s.key.prev = none ∨ kuFlag y = true) →
      Completes (.keyUpdateNetworkKek m t) s fun u =>
        u.key.windowEnd = (if base.kek.isSome then some (x.now + secTicks (kuRollover y)) else none) ∧
        committed s u fun z => z.kek = (s.key.wrap k).map (fun c => (kuGen y, c)) ∧ z.prev = base.kek ∧ z.owner = base.owner ∧ z.twin = base.twin ∧
          z.image = base.image ∧ z.profile = base.profile ∧ z.armed = base.armed) ∧
    (kuSlot y = 2 → ∀ k, x.transported b 40 = some k → Completes (.keyUpdateTwinLink m t) s fun u =>
      committed s u fun z => { z with gen := 0 } = { base with gen := 0, twin := s.key.wrap k }) ∧
    (kuSlot y = 3 → ∀ k, x.transported b 40 = some k → Completes (.keyUpdateImage m t) s fun u =>
      committed s u fun z => { z with gen := 0 } = { base with gen := 0, image := s.key.wrap k }) ∧
    (kuSlot y = 4 → Completes (.keyUpdateTamperPolicy m t) s fun u =>
      committed s u fun z => { z with gen := 0 } = { base with gen := 0, armed := kuFlag y }) ∧
    (kuSlot y = 5 → Completes (.keyUpdateZeroize m t) s fun u => keysErased s u ∧ u.key.counter = omCounter b ∧
      u.key.lifecycle = (if s.key.lifecycle = .field then .zeroized else s.key.lifecycle) ∧ u.sys.mode = .safe ∧
      u.sys.safeCause = 0x0C ∧ u.str.active = none) ∧
    (kuSlot y = 0x10 → Completes (.keyUpdateNodeKeys m t) s fun u =>
      u.key.slotA = s.key.slotA ∧ u.key.slotB = s.key.slotB ∧ u.key.cur = s.key.cur ∧
      (answered s u m 0 (fun r => r.length = kuEntries y ∧ r.all (· == 0) = true) ∨
        answered s u m 9 (fun r => r.length = kuEntries y ∧ r.all (· == 0) = false)))

/-- A stale-generation job leaves the list, in STANDBY with no effect; where the record no longer has the generation and counter that
were read it is abandoned and counted. The sweep takes the next handle only in its turn and never in STANDBY. The end of the window clears the
previous generation. Tamper acts only while armed: in OFF it is latched, in HEARTH it wakes into SAFE, awake it leads to SAFE with
cause TAMPER; each time the keys are destroyed. New keys are made once they are due and the supplies are present. -/
def Obligations.RolloverTamperAndRegeneration : Prop :=
  ∀ (s : State) (t : Nat),
    let x := s.tick t
    (∀ h : Fin 262144, Completes (.staleGenerationJob h) s fun u =>
      match s.key.staleJobs.find? (fun j => j.1 == h.val) with
      | some j =>
        u.key.staleJobs = s.key.staleJobs.erase j ∧ u.key.cur = s.key.cur ∧ u.key.slotA = s.key.slotA ∧
        (s.sys.mode = .standby → u.node h.val = s.node h.val) ∧
        (s.sys.mode ≠ .standby → s.domOn 9 = true → s.domOn 11 = true → recGen (s.node h.val) ≠ j.2.1 ∨ recWrapCtr (s.node h.val) ≠ j.2.2 →
          (u.rg Reg.keyRewrapAbandonCnt).toNat = min 0xFFFFFFFF ((s.rg Reg.keyRewrapAbandonCnt).toNat + 1) ∧
          u.node h.val = s.node h.val)
      | none => u = s) ∧
    Completes (.rolloverSweep t) s (fun u =>
      match s.key.sweep, s.key.prev with
      | some h, some (g, _) =>
        if s.sys.mode = .standby ∨ s.domOn 9 = false ∨ s.domOn 11 = false ∨ (h ≠ 0 ∧ x.now < s.key.sweepAt + 8192) then u = x
        else u.key.sweep = (if h + 1 < 262144 then some (h + 1) else none) ∧ u.key.sweepAt = x.now ∧
          u.key.staleJobs = s.key.staleJobs ++ (if recProv (s.node h) ∧ recGen (s.node h) = g then
            [(h, g, recWrapCtr (s.node h))] else [])
      | _, _ => u = x) ∧
    Completes (.rolloverWindowEnd t) s (fun u =>
      match s.key.windowEnd, s.key.prev with
      | some e, some _ =>
        if e ≤ x.now ∧ s.domOn 11 then
          u.key.prev = none ∧ u.key.windowEnd = none ∧ u.key.sweep = none ∧ u.key.counter = s.key.counter ∧
          committed s u (fun z => z.kek = s.storeBase.kek ∧ z.owner = s.storeBase.owner ∧ z.prev = none) ∧
          raised s u 0x102
        else u = x
      | _, _ => u = x) ∧
    (∀ l : TamperLine, Completes (.tamperDetected l t) s fun u =>
      if s.armed = false ∨ s.domOn 1 = false ∨ s.sys.mode = .returned then u = x
      else
        keysErased s u ∧ u.key.counter = s.key.counter ∧ u.key.regenDue = true ∧
        (s.sys.mode = .off → u.sys.mode = .off ∧ if s.key.checked then
            u.key.lifecycle = (if s.key.lifecycle = .field then .zeroized else s.key.lifecycle)
          else u.key.offTamper = true ∧ u.key.lifecycle = s.key.lifecycle) ∧
        (s.sys.mode = .hearth → u.key.offTamper = true ∧ u.sys.safeCause = 2) ∧
        (s.sys.mode ≠ .off → s.sys.mode ≠ .hearth → u.sys.mode = .safe ∧ u.sys.safeCause = 2 ∧ u.str.active = none ∧
          u.key.lifecycle = (if s.key.lifecycle = .field then .zeroized else s.key.lifecycle) ∧ u.key.debugLatch = false)) ∧
    Completes (.keyRegeneration t) s (fun u =>
      if s.key.regenDue ∧ s.key.lifecycle = .zeroized ∧ s.sys.mainGood ∧ s.domOn 11 then
        u.key.root.isSome = true ∧ u.key.regenDue = false ∧ u.key.slotA = s.key.slotA ∧ u.key.deviceId = s.key.deviceId ∧
        u.key.lifecycle = .zeroized
      else u = x)

/-- A maintenance message that passes its checks commits its COUNTER, clears the working key register, makes the part
FIELD_DEBUG in MAINTENANCE and opens the scopes named; a refused one changes no key. A profile that passes R128 is stored, at the
counter as it was, and each region bars the slots it breaks; a refused one changes no key and no bar. -/
def Obligations.MaintenanceAndProfileMessages : Prop :=
  ∀ (s : State) (m : Msg) (t : Nat),
    let x := s.tick t
    let b := request m
    let y := omBody b
    (taken s m 3 (· == 0x90) 0 → Completes (.maintenanceMessage m t) s fun u =>
      let format := omFormat 3 (· == 16) b && byteAt y 0 == 1 && decide (byteAt y 1 ≤ 3) && slice y 2 14 == zeros 14
      let permitted := omSigner b == 0 && s.lifecycle == .field && (s.sys.mode == .configure || s.sys.mode == .safe) &&
        s.key.checked && ! s.key.integrity
      match x.omCheck format permitted b with
      | some r => u.key = s.key ∧ u.sys.mode = s.sys.mode ∧ refusedWith s u m r
      | none => u.lifecycle = .fieldDebug ∧ u.sys.mode = .maintenance ∧ u.sys.transition = none ∧
          u.key.counter = omCounter b ∧ u.key.cur = none ∧ u.key.prev = none ∧ u.dbg.scopeTap = bit (byteAt y 1) 0 ∧
          u.dbg.scopeBar = bit (byteAt y 1) 1 ∧ u.key.slotA = s.key.slotA ∧ u.key.lifecycle = s.key.lifecycle ∧
          refusedWith s u m 0) ∧
    (taken s m 1 (· == 4848) 0 → Completes (.profileMessage m t) s fun u =>
      match x.profCheck b with
      | some r => u.key = s.key ∧ u.radio = s.radio ∧ refusedWith s u m r
      | none => u.key.counter = s.key.counter ∧ u.key.lifecycle = s.key.lifecycle ∧
          (∀ r, (u.radio.get r).barred = s.barsOf (slice b 0x40 4720) r) ∧
          committed s u (fun z => { z with gen := 0 } = { s.storeBase with gen := 0, profile := some (slice b 0x40 4720) }) ∧
          refusedWith s u m 0) ∧
    (s.mailReady m = false → Completes (.maintenanceMessage m t) s (fun u => u = x) ∧
      Completes (.profileMessage m t) s (fun u => u = x))

/-- In OFF and HEARTH the TAP does not answer. Otherwise BYPASS and IDCODE are always taken, boundary scan in BOUNDARY and OPEN,
debug access in OPEN; an instruction that is not permitted shifts out BYPASS. `DBG` halts, steps and reaches memory only in an open
session with its scope; otherwise writes are unmapped and reads are 0. A word written reads back; MEM_ADDR advances by 4; a word
of the key cells or the working key register reads 0 and takes no write; beyond 2 MiB the access stops, and so does a private test instruction in RETURNED. -/
def Obligations.DebugPortObeysItsState : Prop :=
  ∀ s : State,
    let open_ := s.debugState = .open_
    let scan := s.debugState = .open_ ∨ s.debugState = .boundary
    let bypass (u : State) : Prop := u.dbg = { s.dbg with ir := 0xFF, pinsDriven := false, pinsHighZ := false } ∧ shifted s u [0]
    (s.debugState = .none_ → ∀ i ∈ [Instr.tapBypass, .tapIdcode, .tapExtest, .tapClamp, .tapHighz], Completes i s (fun u => u = s)) ∧
    (s.debugState ≠ .none_ →
      Completes .tapBypass s bypass ∧
      Completes .tapIdcode s (fun u => u.dbg.ir = 0x01 ∧ shifted s u [0xB5, 0x84, 0x61, 0x22]) ∧
      (∀ p q : Bytes, Completes (.tapSamplePreload p q) s fun u => (scan → u.dbg.ir = 0x02 ∧ u.dbg.boundary = q ∧
        u.dbg.captured = p ∧ u.dbg.pinsDriven = false ∧ shifted s u p) ∧ (¬ scan → bypass u)) ∧
      Completes .tapExtest s (fun u => (scan → u.dbg.ir = 0x00 ∧ u.dbg.pinsDriven = true ∧ u.dbg.boundary = s.dbg.boundary ∧
        shifted s u s.dbg.boundary) ∧ (¬ scan → bypass u)) ∧
      Completes .tapClamp s (fun u => (scan → u.dbg.ir = 0x03 ∧ u.dbg.pinsDriven = true ∧ shifted s u [0]) ∧ (¬ scan → bypass u)) ∧
      Completes .tapHighz s (fun u => (scan → u.dbg.ir = 0x04 ∧ u.dbg.pinsHighZ = true ∧ u.dbg.pinsDriven = false ∧
        shifted s u [0]) ∧ (¬ scan → bypass u)) ∧
      (∀ a : Access, ¬ open_ → Completes (.tapDebugAccess a) s bypass) ∧
      (∀ c : Fin 64, if s.lifecycle = .returned then exec (.tapPrivateTest c) s = .refused .privateTest
        else Completes (.tapPrivateTest c) s bypass)) ∧
    (∀ a : Access, open_ →
      (a.addr % 0x40000 = 4 → a.write = true → Completes (.tapDebugAccess a) s fun u => u.dbg.ir = 0x10 ∧
        (a.data.toNat / 16 % 4 = 0 → u.pairs = { s.pairs with halted0 := a.data.getLsbD 0 }) ∧
        (a.data.toNat / 16 % 4 = 1 → u.pairs = { s.pairs with halted1 := a.data.getLsbD 0 })) ∧
      (a.addr % 0x40000 = 0 → a.write = false → Completes (.tapDebugAccess a) s fun u => u.dbg.ir = 0x10 ∧
        shifted s u (bvBytes 4 s.dbgSession)) ∧
      (a.addr % 0x40000 = 12 → a.write = true → (s.rg Reg.dbgMemAddr).toNat < 0x200000 →
        s.dbg.keyWords.contains ((s.rg Reg.dbgMemAddr).toNat / 4) = false → Completes (.tapDebugAccess a) s fun u =>
        sget none u.dbg.supMem ((s.rg Reg.dbgMemAddr).toNat / 4) = some (a.data.setWidth 32) ∧
        (u.rg Reg.dbgMemAddr).toNat = (s.rg Reg.dbgMemAddr).toNat + 4)) ∧
    (∀ p : Fin 2, ∀ halt : Bool, Completes (.dbgCoreHalt p halt) s fun u =>
      if s.dbgBar then u.pairs = (if p = 0 then { s.pairs with halted0 := halt } else { s.pairs with halted1 := halt }) ∧
        u.rf Reg.dbgCoreCtrl 4 2 = p.val ∧ SameRegs s u [Reg.dbgCoreCtrl]
      else u.pairs = s.pairs ∧ SameRegs s u [Reg.sysAccessErr]) ∧
    (∀ p : Fin 2, Completes (.dbgCoreStep p) s fun u => u.pairs = s.pairs ∧
      (s.dbgBar = true → u.rf Reg.dbgCoreCtrl 4 2 = p.val) ∧ SameRegs s u [Reg.dbgCoreCtrl, Reg.sysAccessErr]) ∧
    (∀ (w : Word) (write : Bool),
      let a := (s.rg Reg.dbgMemAddr).toNat
      if s.dbgBar then
        if s.dbg.keyWords.contains (a / 4) then Completes (.dbgMemDataAccess write w) s fun u =>
          (u.rg Reg.dbgMemAddr).toNat = (a + 4) % 2 ^ 32 ∧ SameRegs s u [Reg.dbgMemAddr] ∧ u.dbg = s.dbg ∧ (write = false → u.readData = 0)
        else if 0x200000 ≤ a then exec (.dbgMemDataAccess write w) s = .fault .debugAddress
        else Completes (.dbgMemDataAccess write w) s fun u => (u.rg Reg.dbgMemAddr).toNat = a + 4 ∧
          SameRegs s u [Reg.dbgMemAddr] ∧
          (∀ k, sget none u.dbg.supMem k = if write ∧ k = a / 4 then some w else sget none s.dbg.supMem k) ∧
          (write = false → ∀ v, sget none s.dbg.supMem (a / 4) = some v → u.readData = v.zeroExtend 64)
      else Completes (.dbgMemDataAccess write w) s fun u => u.dbg = s.dbg ∧ SameRegs s u [Reg.sysAccessErr] ∧
        (write = false → u.readData = 0))

/-- An offer met by a held lock is SLOT_BUSY and frees nothing; fields out of range, an open trial, a bad header and, for
ACTIVATE, an old COUNTER leave the flash as it was. Past them the idle bank is erased: it holds the container once every block and
the payload header pass, else nothing. ACTIVATE then holds the lock for a handover, or is refused where no idle pair serves. A
bundle is stored in plaintext with its COUNTER. READ_BLOCK answers 4,096 bytes of a bundle in a slot that exists. An
offer to the peer waits, one at a time, for the XFER frames of its container (R459; its answers here are the model's choice, log
202). -/
def Obligations.OffersAreCheckedAndStored : Prop :=
  ∀ (s : State) (m : Msg) (env : OfferEnv) (t : Nat),
    let b := request m
    let c := (env.container.getD []).take (le b 8 4)
    let bank := s.idleBank
    (∀ e ∈ [(Instr.fwOfferStore, 0), (Instr.fwOfferActivate, 1)], Completes (e.1 m env t) s fun u =>
      (s.mailReady m = false → u = s.tick t) ∧
      (taken s m 0x10 (· == 32) 16 → byteAt b 0xC = e.2 →
        sget [] u.upd.banks (! bank).toNat = sget [] s.upd.banks (! bank).toNat ∧
        match env.twin with
        | some k => u.upd = s.upd ∧
          (if le b 0 8 % 4 ≠ 0 ∨ byteAt b 0xC ≠ 0 ∨ byteAt b 0xD ≠ 0 ∨ le b 0xE 2 ≠ 0 ∨ le b 0x10 4 ≠ 0 ∨ slice b 0x14 12 ≠ zeros 12 then
            offerAnswered s u m 2
          else if s.twin.offer.isSome then offerAnswered s u m 8
          else if s.twin.l.link ≠ 3 then ∃ r, offerAnswered s u m r
          else u.outbox = s.outbox ∧ u.twin.offer = some ⟨m.ring.val, m.desc.tag, conCounter c, k.val, xferFrames k.val c⟩)
        | none =>
        (if s.upd.lock.isSome then u.upd = s.upd ∧ u.rb Reg.updStatus 2 = true ∧ offerAnswered s u m 8
        else if s.offerFields b (le c 4 2 == 2) = false then u.upd = s.upd ∧ offerAnswered s u m 2
        else if le c 4 2 = 2 then
          let header := checkHeader { s.fwRuleNow with stated := some (le b 8 4) } c
          let blocks := (List.range (conBlocks c)).findSome? (fun i => checkBlock c i)
          let now := sget [] u.upd.banks bank.toNat
          if s.nv.trial.active then u.upd = s.upd ∧ offerAnswered s u m 15
          else if header.isSome then u.upd = s.upd ∧ ∃ x, header = some x ∧ offerAnswered s u m x.result
          else if e.2 = 1 ∧ conCounter c ≤ s.upd.running then u.upd = s.upd ∧ offerAnswered s u m 4
          else if env.flashOk = false then now = [] ∧ u.upd.lock = none ∧ offerAnswered s u m 9
          else if blocks.isSome then now = [] ∧ u.upd.lock = none ∧ ∃ x, blocks = some x ∧ offerAnswered s u m x.result
          else if fwHeaderOk c = false then now = [] ∧ u.upd.lock = none ∧ offerAnswered s u m 2
          else
            now = c.take (128 + 4132 * conBlocks c) ∧
            (if e.2 = 1 ∧ s.pairOk s.idlePair then u.upd.lock = some 2 ∧ u.outbox = s.outbox ∧
              ∃ h : Handover, u.upd.handover = some h ∧ h.bank = bank ∧ h.counter = conCounter c ∧ h.ready = false ∧
                h.ring = some m.ring.val ∧ h.confirmS = (if le b 0xE 2 = 0 then 600 else le b 0xE 2)
            else u.upd.lock = none ∧ offerAnswered s u m (if e.2 = 1 then 10 else 1))
        else
          u.upd.banks = s.upd.banks ∧ u.upd.lock = none ∧
          match checkHeader (s.bundleRule (le b 8 4)) c, (List.range (conBlocks c)).findSome? (fun i => checkBlock c i),
              bundleHeaderOk (conPayload c), s.bundlePlain c with
          | none, none, true, some p => sget [] u.upd.bundles (byteAt b 0xD) = p ∧ u.upd.bundleCounter = conCounter c ∧
              offerAnswered s u m 1
          | some x, _, _, _ => u.upd = s.upd ∧ offerAnswered s u m x.result
          | _, _, _, _ => sget [] u.upd.bundles (byteAt b 0xD) = [] ∧ u.upd.bundleCounter = s.upd.bundleCounter ∧
              ∃ r, offerAnswered s u m r))) ∧
    Completes (.fwOfferReadBlock m) s (fun u =>
      (s.mailReady m = false → u = s) ∧
      (taken s m 0x10 (· == 32) 4096 → byteAt b 0xC = 2 →
        let p := sget [] s.upd.bundles (byteAt b 0xD)
        let k := le b 0x10 4
        u.upd = s.upd ∧ if s.bundleSlots ≤ byteAt b 0xD ∨ p = [] ∨ p.length ≤ 4096 * k ∨ le b 0xE 2 ≠ 0 ∨ slice b 0x14 12 ≠ zeros 12 then
          answered s u m 2 (fun rsp => rsp.length = 16)
        else ∃ r, answered s u m r (fun rsp => rsp = fit (slice p (4096 * k) 4096) 4096)))

/-- The lock of a holder but STR that made no progress for ten seconds is freed and its holder answered TIMEOUT. A ready report
loads the image and lets a handover begin unless the self-test, the formats or the image refuse it, which is answered HANDOVER_REFUSED. A handover
resumed by 2.0 ms on a state record that is good makes the other pair and the new bank run and opens the trial, with the old
firmware and what the record holds kept; one not resumed by
then is answered HANDOVER_REFUSED and the old pair stays active.
A confirmation with the trial's COUNTER is answered CONFIRMED: FW_MIN takes the COUNTER, the TRIAL record clears, the other
NV set is erased, and migration starts where the format is newer; any other is answered 14, or 2 where its reserved bytes are
not 0, and changes nothing. A fall-back of an
active trial gives the old pair, with its image, and bank control and ends the trial. A start mode of 3 to 5 is stored; any other is
LOCKED. A migration pass goes one handle on, no sooner than 10 µs after the one before. -/
def Obligations.LockHandoverTrialAndSettings : Prop :=
  (∀ (s : State) (t : Nat),
     let x := s.tick t
     Completes (.updateLockTimeout t) s (fun u =>
       match s.upd.lock with
       | some h =>
         if h = 1 ∨ x.now < s.upd.lockAt + secTicks 10 ∨ s.domOn 12 = false then u = x
         else
           match s.upd.handover with
           | some hd => handoverEnded s u hd 11 0
           | none => u.upd.lock = none ∧ u.sess h = none ∧ u.rg Reg.updLastResult = BitVec.ofNat 32 (h * 2 ^ 24 + 11)
       | none => u = x) ∧
     (∀ (passed : Bool) (rule : Byte), Completes (.idlePairReady passed rule t) s fun u =>
       match s.upd.handover with
       | some h =>
         let hdr := conBlock (s.bank h.bank.toNat) 0
         if h.ready = true ∨ s.domOn 12 = false then u = x
         else if passed = false ∨ s.fwField 0x16 2 < le hdr 0x18 2 ∨ s.fwField 0x10 2 < le hdr 0x12 2 then
           handoverEnded s u h 10 0 ∧ u.pairs = s.pairs
         else if rule ≠ 0 then handoverEnded s u h 10 rule.toNat ∧ u.pairs = s.pairs
         else u.upd.handover = some { h with ready := true, since := x.now, record := some (x.recordFor h) } ∧ u.upd.lock = s.upd.lock ∧
           u.half s.idlePair = some (s.bankImage h.bank) ∧ u.half s.pairs.active = s.half s.pairs.active ∧ u.pairs.active = s.pairs.active ∧
           u.outbox = s.outbox
       | none => u = x) ∧
     Completes (.handoverCompleted t) s (fun u =>
       match s.upd.handover with
       | some h =>
         if h.ready = true ∧ s.pairOk s.idlePair = true ∧ x.now ≤ h.since + msTicks 2 ∧ s.domOn 12 ∧
             (h.record.map (fun r => stateRecordOk (conBlock (s.bank h.bank.toNat) 0) r.2)) = some true then
           handoverEnded s u h 0 0 ∧ u.pairs = { s.pairs with active := s.idlePair } ∧ u.sys.bank = h.bank ∧
           u.upd.running = h.counter ∧ u.upd.oldFw = some (s.upd.running, s.sys.bank, s.upd.runHdr) ∧
           u.nv.trial.active = true ∧ u.nv.trial.bank = h.bank ∧ u.nv.trial.left = h.confirmS ∧
           u.nv.trial.counter = h.counter ∧ raised s u 0x111 ∧ u.upd.banks = s.upd.banks ∧
           u.upd.kept = h.record.map (·.1)
         else u = x
       | none => u = x) ∧
     Completes (.handoverTimeout t) s (fun u =>
       match s.upd.handover with
       | some h =>
         if h.ready = true ∧ h.since + msTicks 2 ≤ x.now then handoverEnded s u h 10 0 ∧ u.pairs = s.pairs ∧ u.sys.bank = s.sys.bank
         else u = x
       | none => u = x)) ∧
  (∀ (s : State) (t : Nat),
     let x := s.tick t
     (∀ m : Msg, Completes (.firmwareConfirmation m t) s fun u =>
       let b := request m
       let tr := s.nv.trial
       (s.mailReady m = false → u = x) ∧
       (taken s m 0x11 (· == 16) 16 →
         if slice b 8 8 ≠ zeros 8 then u.upd = s.upd ∧ u.nv = s.nv ∧ answered s u m 2 (fun r => r = offerRsp (le b 0 8) s.sys.bank.toNat 0 0)
         else if tr.active = true ∧ tr.counter = le b 0 8 then
           answered s u m 13 (fun r => r = offerRsp (le b 0 8) s.sys.bank.toNat 0 0) ∧ u.upd.fwMin = le b 0 8 ∧
           u.nv.trial = Trial.reset ∧ u.nvOwn = s.nvOwn ∧ (∀ i, s.nvOwn = some i → (u.nvSet (1 - i)).pick = none) ∧
           u.upd.oldFw = none ∧ u.upd.kept = none ∧ u.upd.recordFormat = max s.upd.recordFormat (max 1 (s.fwField 0x10 2)) ∧
           (s.upd.recordFormat < max 1 (s.fwField 0x10 2) → u.upd.migrate = some 0)
         else u.upd = s.upd ∧ answered s u m 14 (fun r => r = offerRsp (le b 0 8) s.sys.bank.toNat 0 0))) ∧
     Completes (.trialWarning t) s (fun u =>
       if s.domOn 12 ∧ s.nv.trial.active = true ∧ s.upd.warned = false ∧ x.trialLeft ≤ 60 then
         u.upd.warned = true ∧ u.irq.events = s.irq.events ++ heard s 0x117 ∧ u.nv = s.nv
       else u = x) ∧
     (∀ why : FallbackWhy, Completes (.trialFallback why t) s fun u =>
       if s.domOn 12 ∧ s.nv.trial.active = true ∧ (why = .windowEnded → x.trialLeft = 0) then
         u.nv.trial.active = false ∧ (u.half u.pairs.active).isSome = true ∧ u.half s.pairs.active = s.half s.pairs.active ∧
         { u.pairs with half0 := none, half1 := none } = { s.pairs with active := s.idlePair, half0 := none, half1 := none } ∧ u.rb Reg.updStatus 4 = true ∧
         u.upd.oldFw = none ∧ u.upd.fwMin = s.upd.fwMin ∧ u.upd.banks = s.upd.banks ∧
         (∀ o, s.upd.oldFw = some o → u.upd.running = o.1 ∧ u.sys.bank = o.2.1 ∧ u.upd.runHdr = o.2.2) ∧
         (s.upd.oldFw = none → u.sys.bank = ! s.nv.trial.bank)
       else u = x) ∧
     (∀ w : Word, Completes (.nvStartModeWrite w) s fun u =>
       let v := w.toNat % 16
       if s.domOn 12 = false then u.upd = s.upd ∧ SameRegs s u [Reg.sysAccessErr]
       else if v = 3 ∨ v = 4 ∨ v = 5 then
         u.rf Reg.updNvStartMode 0 4 = v ∧ SameRegs s u [Reg.updNvStartMode] ∧
         (s.nvOwn.isSome = true → u.nv.startMode = v ∧ u.nv.trial = s.nv.trial) ∧ u.upd.banks = s.upd.banks
       else u.upd = s.upd ∧ u.rb Reg.sysAccessErr 2 = true ∧ SameRegs s u [Reg.sysAccessErr]) ∧
     Completes (.migrationBackgroundPass t) s (fun u =>
       match s.upd.migrate with
       | some h =>
         if s.domOn 12 ∧ s.domOn 9 ∧ s.upd.migrateAt + 8192 ≤ x.now then
           u.upd.migrateAt = x.now ∧ u.upd.migrate = (if h + 1 < 262144 then some (h + 1) else none) ∧ recF (u.node h) 0xF0 2 = s.upd.recordFormat % 65536
         else u = x
       | none => u = x))

/-- A frame that a port may not take changes nothing. HELLO is answered and changes nothing. START against a held lock ends the
session SLOT_BUSY. A repeated frame or a wrong offset is acknowledged and takes no bytes; good bytes join the session, and a
session of target 2 never writes the bank that runs. END of a container that is not whole ends it with 2; of one that is whole and
whose blocks and payload header are good, its bank holds it, and the session ends STORED or begins a handover. ABORT closes the session
and frees its lock. A repeat of the last frame of a closed session is answered as it was. REBOOT resets in RECOVERY only. A chunk outside RECOVERY does nothing; one of a bad length ends with 2. -/
def Obligations.RecoveryAndEthernetSessions : Prop :=
  ∀ (s : State) (p : Fin 2) (f : SessFrame) (t : Nat) (ok : Bool) (st : Straps),
    let x := s.tick t
    let h := 4 + p.val
    let running (u : State) : Prop := sget [] u.upd.banks s.sys.bank.toNat = sget [] s.upd.banks s.sys.bank.toNat
    let held := s.upd.handover.map (·.holder) = some h
    (Completes (.ethSessionHello p f) s fun u =>
      if s.sessTakes p f 1 then u.upd = s.upd ∧ ∃ b, u.outbox = s.outbox ++ [.sessionAnswer p.val b] else u = s) ∧
    (Completes (.ethSessionStart p f t) s fun u =>
      if s.sessTakes p f 3 then
        match s.sess h with
        | some v =>
          if v.lastSeq = f.seq ∨ held then u.upd = s.upd ∧ acked s u h f.src v.lastSeq v.target 0xFF v.data.length
          else s.sys.mode ≠ .recovery → f.target.toNat ≤ 2 → s.upd.lock.isSome → s.upd.lock ≠ some h → sessionOver u h 8
        | none =>
          if s.sessSaid h f.seq then u = (x.sessAgain h f.src f.seq).keep x
          else if (if s.sys.mode = .recovery then 1 else 2) < f.target.toNat then sessionOver u h 2
          else s.upd.lock.isSome → s.upd.lock ≠ some h → sessionOver u h 8
      else u = x) ∧
    (Completes (.ethSessionData p f ok t) s fun u =>
      match s.sessTakes p f 4, s.sess h with
      | true, some v =>
        (v.target = 2 → running u) ∧
        if f.seq = v.lastSeq ∨ f.offset ≠ v.data.length then u.upd = s.upd ∧ acked s u h f.src f.seq v.target 0xFF v.data.length
        else if v.data.length + f.data.length < 64 then
          u.sess h = some { v with data := v.data ++ f.data, lastSeq := f.seq, peer := f.src } ∧ u.upd.banks = s.upd.banks ∧
          acked s u h f.src f.seq v.target 0xFF (v.data.length + f.data.length)
        else u.sess h = none ∨ ∃ w : Session, u.sess h = some w ∧ w.data = v.data ++ f.data ∧ w.target = v.target ∧
          acked s u h f.src f.seq v.target 0xFF w.data.length
      | true, none => u = (x.sessAgain h f.src f.seq).keep x
      | false, _ => u = x) ∧
    (Completes (.ethSessionEnd p f ok t) s fun u =>
      match s.sessTakes p f 6, s.sess h with
      | true, some v =>
        (v.target = 2 → running u) ∧
        if held then u = x
        else if v.checked = false ∨ v.data.length ≠ 128 + 4132 * conBlocks v.data then sessionOver u h 2 ∧ u.upd.banks = s.upd.banks
        else if ok = false then sessionOver u h 9
        else
          match (List.range (conBlocks v.data)).findSome? (fun i => checkBlock v.data i) with
          | some k => sessionOver u h k.result
          | none =>
            if fwHeaderOk v.data = false then sessionOver u h 2
            else
              sget [] u.upd.banks (s.targetBank h v.target).toNat = v.data ∧
              (if v.target ≠ 2 then sessionOver u h 1
                else if s.pairOk s.idlePair = true then ∃ d : Handover, u.upd.handover = some d ∧ d.holder = h ∧
                  d.bank = s.idleBank ∧ d.counter = conCounter v.data ∧ d.confirmS = 600 ∧ d.ready = false
                else sessionOver u h 10)
      | true, none => u = (x.sessAgain h f.src f.seq).keep x
      | false, _ => u = x) ∧
    (Completes (.ethSessionAbort p f) s fun u =>
      if s.sessTakes p f 8 then
        u.sess h = none ∧ u.upd.lock = (if s.upd.lock = some h then none else s.upd.lock) ∧ u.upd.banks = s.upd.banks ∧
        (s.upd.lock = some h → u.upd.handover.map (·.holder) ≠ some h)
      else u = s) ∧
    (Completes (.ethSessionReboot p f st t) s fun u =>
      if s.sessTakes p f 7 ∧ s.sys.mode = .recovery ∧ s.canReset then afterReset s u ∧ u.rb Reg.sysResetCause 4 = true
      else u = x) ∧
    (∀ (w : Word) (half : Bytes), Completes (.recoveryChunk w half ok t) s fun u =>
      if s.sys.mode ≠ .recovery ∨ s.domOn 12 = false ∨ w.getLsbD 31 = false then u = x
      else
        let n := w.toNat % 65536
        u.rb Reg.updRecChunk 31 = false ∧ raised s u 0x116 ∧
        u.upd.halves = (s.halfWrite (0x8000 * getBits w 24 1) (half.take 0x8000)).upd.halves ∧
        (n = 0 ∨ 32768 < n → sessionOver u 7 2 ∧ u.upd.banks = s.upd.banks) ∧
        (1 ≤ n → n ≤ 32768 → s.upd.lock.isSome → s.upd.lock ≠ some 7 → sessionOver u 7 8 ∧ u.upd.banks = s.upd.banks))

/-- While the lane is down or keys are not derived a frame does nothing. A wrong CRC is counted and no more; a frame that does not
authenticate is counted, and the fourth within a second takes the link down; a genuine frame out of order is counted, and is heard, but no
more. The next frame in order advances RX_NEXT, and frees every frame below its ACK (CONFIRM apart, which may lead to SAFE). A HELLO
that matches derives keys and answers, unless its version is too old. A frame may end the wait of a STANDBY command (R467). -/
def Obligations.TwinFramesAreTakenInOrder : Prop :=
  ∀ (s : State) (raw : Bytes) (t : Nat) (ok : Bool),
    let x := s.tick t
    (∀ e ∈ twinRows ok, Completes (e.1 raw t) s fun v => ∃ u : State, v = u.yieldCheck.keep x ∧
      (¬ twinListens s e.2 raw → u = x) ∧
      (twinListens s e.2 raw →
        if twinCrcOk raw = false then u.twin = s.twin ∧ SameRegs s u [Reg.twnCrcFailCnt]
        else if byteAt raw 0 ≠ e.2 ∨ byteAt raw 1 ≠ 1 ∨ twinOpen s raw = none then authFailed s u x.now
        else if le raw 4 8 ≠ s.twin.l.rxNext then
          u.twin = { s.twin with l := { s.twin.l with lastRx := x.now } } ∧ SameRegs s u [Reg.twnRetransmitCnt]
        else e.2 ≠ 2 → u.twin.l.rxNext = s.twin.l.rxNext + 1 ∧ u.twin.l.lastRx = x.now ∧ u.twin.l.link = s.twin.l.link ∧
          u.twin.l.unacked = s.twin.l.unacked.filter (fun e => decide (le raw 12 8 ≤ e.seq)))) ∧
    Completes (.twinRxHello raw t) s (fun u =>
      let p := slice raw 0x14 (rawLen raw)
      let fits := rawLen raw = 40 ∧ byteAt p 2 = (! s.isB).toNat ∧ le p 4 4 = s.twnF 4 4 ∧ slice p 8 16 = s.peerId
      if s.laneUp = false ∨ takesType 1 raw = false then u = x
      else if twinCrcOk raw = false then u.twin = s.twin ∧ SameRegs s u [Reg.twnCrcFailCnt]
      else if byteAt raw 0 ≠ 1 then authFailed s u x.now
      else if fits ∧ s.twin.l.link < 3 then
        if byteAt p 0 = 0 ∨ 1 < byteAt p 1 then u.rb Reg.twnStatus 4 = true ∧ u.twin.l.slowHello = true ∧ u.outbox = s.outbox
        else if s.twin.l.link = 2 ∧ s.twin.l.peerNonce = slice p 24 16 then
          (∃ b, u.outbox = s.outbox ++ [.twinFrame b]) ∧ u.twin.l.rxNext = s.twin.l.rxNext ∧ u.twin.l.link = 2
        else u.twin.l.link = 2 ∧ u.twin.l.peerNonce = slice p 24 16 ∧ u.twin.l.rxNext = 1 ∧ u.twin.l.txSeq = 2 ∧
          ∃ a b, u.outbox = s.outbox ++ [.twinFrame a, .twinFrame b]
      else u = x)

/-- CONFIRM brings the link up, and equal digests clear PEER_UNCHECKED, and a claim under way probes. HEALTH stores the peer's word, raises 0x122 on a change of
GOOD or SYNC and answers a probe that the peer has taken: a peer that holds the line ends the claim, and an
answer later than the link's timeout counts for nothing. PROBE sends the next health word. RESYNC_REQ starts
the stream of a package that drives the line. MIRROR and RESYNC_DATA change a standby alone, and mark LAST_SYNC; RESYNC_DONE makes
it IN_SYNC. A transfer is ignored unless enabled, keeps its offsets, and never writes the bank that runs;
XFER_RSP answers the offer that was sent (R459). -/
def Obligations.TwinFrameEffects : Prop :=
  ∀ (s : State) (raw p : Bytes) (t : Nat) (ok : Bool),
    let x := s.tick t
    let running (u : State) : Prop := sget [] u.upd.banks s.sys.bank.toNat = sget [] s.upd.banks s.sys.bank.toNat
    let marked (u : State) : Prop := u.twin.lastSync = some (x.now / slowTick) ∧ u.twin.hearthKept = true
    (twinNext s 2 raw p → Completes (.twinRxConfirm raw t) s fun v => ∃ u : State, v = u.yieldCheck.keep x ∧
      if s.twin.l.link = 2 ∧ p.length = 56 then
        if p.take 32 = (s.str.active.map (·.pairDigest)).getD (zeros 32) then
          u.twin.l.link = 3 ∧ u.twin.silent = false ∧ u.twin.l.peerConfirmed = true ∧ u.twin.l.peerHealth = BitVec.ofNat 32 (le p 40 4) ∧
          u.rb Reg.strState 15 = false ∧ u.sys.mode = s.sys.mode ∧
          (s.twin.claimFrom.isSome = true → u.twin.probeAt = some x.now ∧ u.twin.probeOk = false) ∧
          u.twin.sync = (if s.sys.mode = .standby ∧ s.twin.sync ≠ 2 then 1 else s.twin.sync)
        else s.twin.ownDrive = true → u.rb Reg.twnStatus 3 = true ∧ u.sys.mode = s.sys.mode ∧ u.twin.l.link = 3
      else u.twin.l.link = s.twin.l.link ∧ u.sys = s.sys) ∧
    (twinNext s 0x10 raw p → p.length = 16 → Completes (.twinRxHealth raw t) s fun v => ∃ u : State, v = u.yieldCheck.keep x ∧
      let w : Word := BitVec.ofNat 32 (le p 0 4)
      let old := s.twin.l.peerHealth
      u.twin.l.peerHealth = w ∧ u.twin.l.peerAt = x.now ∧
      (getBits w 28 2 = getBits old 28 2 ∧ w.getLsbD 31 = old.getLsbD 31 ∨ raised s u 0x122) ∧
      (s.twin.probeAt.isSome = true → s.twin.claimFrom.isSome = true → x.probeLate = false → (x.twinAck (le raw 12 8)).probeSeen = true →
        if w.getLsbD 30 then unclaimed u ∧ u.rb Reg.twnStatus 7 = true
        else u.twin.probeOk = true ∧ u.twin.probeAt = none ∧ u.twin.claimFrom = s.twin.claimFrom)) ∧
    (twinNext s 0x12 raw p → Completes (.twinRxProbe raw t) s fun v => ∃ u : State, v = u.yieldCheck.keep x ∧
      u.twin.healthSeq = (s.twin.healthSeq + 1) % 256 ∧ u.twin.l.outQueue.length = s.twin.l.outQueue.length +
        (if s.twin.l.link = 3 then 1 else 0)) ∧
    (twinNext s 0x22 raw p → Completes (.twinRxResyncReq raw t) s fun v => ∃ u : State, v = u.yieldCheck.keep x ∧
      u.twin.cursor = if s.twin.ownDrive then some 0 else s.twin.cursor) ∧
    (twinNext s 0x20 raw p → Completes (.twinRxMirror raw t) s fun v => ∃ u : State, v = u.yieldCheck.keep x ∧
      if s.applies then marked u else u.tab = s.tab ∧ u.tx = s.tx ∧ u.twin.lastSync = s.twin.lastSync) ∧
    (twinNext s 0x23 raw p → Completes (.twinRxResyncData raw t) s fun v => ∃ u : State, v = u.yieldCheck.keep x ∧
      if s.applies ∧ 1 ≤ le p 4 4 ∧ le p 4 4 ≤ 7 ∧ p.length = 8 + 256 * le p 4 4 then marked u
      else u.tab = s.tab ∧ u.twin.lastSync = s.twin.lastSync) ∧
    (twinNext s 0x24 raw p → Completes (.twinRxResyncDone raw t) s fun v => ∃ u : State, v = u.yieldCheck.keep x ∧
      if s.applies ∧ s.twin.sync = 1 then u.twin.sync = 2 ∧ u.irq.events = s.irq.events ++ heard s 0x123 ∧ marked u
      else u.twin.sync = s.twin.sync ∧ u.irq = s.irq) ∧
    (twinNext s 0x40 raw p → Completes (.twinRxXferStart raw t) s fun v => ∃ u : State, v = u.yieldCheck.keep x ∧ running u ∧
      (s.rb Reg.updCtrl 1 = false → u.upd = s.upd ∧ u.irq = s.irq) ∧
      (s.rb Reg.updCtrl 1 = true → 4 < byteAt p 0 → sessionOver u 6 2 ∧ raised s u 0x126) ∧
      (s.rb Reg.updCtrl 1 = true → byteAt p 0 ≤ 4 → s.upd.lock.isSome = true → s.upd.lock ≠ some 6 →
        sessionOver u 6 8 ∧ u.upd.lock = s.upd.lock ∧ u.upd.banks = s.upd.banks)) ∧
    (twinNext s 0x41 raw p → Completes (.twinRxXferData raw ok t) s fun v => ∃ u : State, v = u.yieldCheck.keep x ∧ running u ∧
      match s.sess 6 with
      | some v =>
        if le p 0 4 + (p.drop 4).length ≤ v.data.length then u.upd = s.upd
        else if le p 0 4 ≠ v.data.length then sessionOver u 6 2
        else u.sess 6 = none ∨ ∃ w : Session, u.sess 6 = some w ∧ w.data = v.data ++ p.drop 4 ∧ w.target = v.target
      | none => u.upd = s.upd) ∧
    (twinNext s 0x42 raw p → Completes (.twinRxXferEnd raw ok t) s fun v => ∃ u : State, v = u.yieldCheck.keep x ∧ running u ∧
      match s.sess 6 with
      | some v => (le p 0 4 ≠ v.data.length → sessionOver u 6 2 ∧ u.upd.banks = s.upd.banks) ∧ raised s u 0x126
      | none => u.upd = s.upd) ∧
    (twinNext s 0x43 raw p → Completes (.twinRxXferRsp raw t) s fun v => ∃ u : State, v = u.yieldCheck.keep x ∧ u.upd = s.upd ∧
      match s.twin.offer with
      | some o => u.twin.offer = none ∧ u.rg Reg.updLastResult = BitVec.ofNat 32 (2 * 2 ^ 24 + byteAt p 0) ∧ raised s u 0x110 ∧
        raised s u 0x126 ∧ (s.ringPending (64 + o.ring) = true →
          ∃ l, u.outbox = s.outbox ++ [.answer o.ring o.tag 0 (byteAt p 0) (offerRsp o.counter o.place 0 0)] ++ l)
      | none => u.irq.events = s.irq.events ++ heard s 0x126)

/-- A HELLO goes out where the link is not up, at its interval. Frames not acknowledged for 100 µs go out again, in order. An idle
link sends a keepalive each millisecond. A link silent for its timeout, a reservation unacknowledged as long, or a lost
block lock takes it down, and a
standby whose peer holds the line says so once. Each health period sends the next word, renews a standby's self-test and lets it claim a released line,
again where its probe was not answered in time. A send takes one frame: what waits first, then, at the pace the image gives, the
mirroring items in order, then a transfer's frames, and nothing where nothing waits. A standby command whose items stay unacknowledged is refused. -/
def Obligations.TwinLinkTimers : Prop :=
  ∀ (s : State) (t : Nat),
    let x := s.tick t
    let l := s.twin.l
    Completes (.twinHelloTimer t) s (fun u =>
      if s.laneUp = true ∧ (l.link = 0 ∨ (l.link = 1 ∧ l.lastTx + (if l.slowHello then secTicks 1 else msTicks 10) ≤ x.now)) then
        (∃ b, u.outbox = s.outbox ++ [.twinFrame b]) ∧ u.twin.l.link = 1 ∧ u.twin.l.lastTx = x.now
      else u = x) ∧
    Completes (.twinRetransmitTimer t) s (fun u =>
      if s.laneUp = true ∧ 2 ≤ l.link ∧ l.unacked ≠ [] ∧ l.ackAt + usTicks 100 ≤ x.now then
        u.outbox = s.outbox ++ l.unacked.map (fun e => .twinFrame e.raw) ∧
        u.twin.l = { l with ackAt := x.now, lastTx := x.now }
      else u = x) ∧
    Completes (.twinKeepaliveTimer t) s (fun u =>
      if s.laneUp = true ∧ 2 ≤ l.link ∧ l.outQueue = [] ∧ s.twin.mirror = [] ∧ s.twin.cursor = none ∧ s.offerIdle = true ∧
          l.lastTx + msTicks 1 ≤ x.now ∧ s.twinRoom = true then
        u.twin.l.txSeq = l.txSeq + 1 ∧ ∃ raw, u.outbox = s.outbox ++ [.twinFrame raw] ∧
          u.twin.l.unacked = l.unacked ++ [⟨l.txSeq, 0x11, [], raw, x.now⟩]
      else u = x) ∧
    Completes (.twinLinkTimeout t) s (fun u =>
      let down : Prop := 2 ≤ l.link ∧ (l.lastRx + s.linkTimeout ≤ x.now ∨ x.reservationLate = true)
      let silent : Prop := s.twinMode = true ∧ s.sys.mode = .standby ∧ s.twin.released = false ∧ s.twin.silent = false ∧
        l.lastRx + s.linkTimeout ≤ x.now
      (down → linkLost s u) ∧ (¬ down → u.twin = { s.twin with silent := u.twin.silent }) ∧
      (silent → u.twin.silent = true ∧ u.rb Reg.twnStatus 2 = true) ∧ (¬ silent → u.twin.silent = s.twin.silent) ∧
      (¬ down → ¬ silent → u = x)) ∧
    Completes (.twinBlockLockLoss t) s (fun u => linkLost s u) ∧
    Completes (.twinHealthPeriod t) s (fun u =>
      if s.twinMode = true ∧ s.domOn 12 = true then
        u.twin.healthSeq = (s.twin.healthSeq + 1) % 256 ∧
        (u.saf.bg.map (·.since) = (if s.sys.mode = .standby then some ((s.saf.bg.map (·.since)).getD x.now) else none) ∧
          ∀ n < 384, u.saf.bg.any (·.lanes.contains n) = (s.sys.mode == .standby && s.hbLane n && (s.lane n).isNone)) ∧
        (if (s.sys.mode = .standby ∨ s.sys.mode = .handover) ∧ (s.twin.claimFrom = none ∨ x.probeLate = true) ∧ s.twin.released = true ∧
            s.twin.ownDrive = false ∧ s.good = true then claimed u x.now ∧ u.twin.probeOk = false ∧ u.twin.probeAt = (if l.link = 3 then some x.now else none)
        else u.twin.claimFrom = s.twin.claimFrom)
      else u = x) ∧
    Completes (.twinFrameSend t) s (fun u =>
      if l.link < 2 ∨ s.laneUp = false ∨ s.twinRoom = false then u = x
      else
        u.twin.l.unacked.length ≤ l.unacked.length + 1 ∧ (∃ out, u.outbox = s.outbox ++ out ∧ out.length ≤ 1) ∧
        match l.outQueue with
        | _ :: rest => u.twin.l.txSeq = l.txSeq + 1 ∧ (∃ more, u.twin.l.outQueue = rest ++ more) ∧ u.twin.mirror = s.twin.mirror
        | [] => s.healthChanged = false → l.link = 3 →
          if x.mirrorPaced = false then u = x
          else
            (s.twin.mirror ≠ [] → u.twin.l.txSeq = l.txSeq + 1 ∧ u.twin.cursor = s.twin.cursor ∧
              ∃ now_, s.twin.mirror = now_ ++ u.twin.mirror ∧
                u.twin.mirrorAt = max s.twin.mirrorAt (tickAs x.now) + bytesAs now_.flatten.length (s.twnF 0x2E 2)) ∧
            (s.twin.mirror = [] → s.twin.cursor = none →
              match s.twin.offer with
              | some o =>
                match o.left with
                | _ :: rest => u.twin.offer = some { o with left := rest } ∧ u.twin.l.txSeq = l.txSeq + 1 ∧
                  ∃ raw, u.outbox = s.outbox ++ [.twinFrame raw]
                | [] => u = x
              | none => u = x)) ∧
    Completes (.standbyAckTimeout t) s (fun u =>
      match s.sys.transition with
      | some ⟨_, .yieldWait, since⟩ =>
        if since + s.linkTimeout ≤ x.now ∧ s.mirrorDone = false then
          u.sys.transition = none ∧ u.sys.mode = s.sys.mode ∧ u.rb Reg.sysModeCmd 29 = true
        else u = x.yieldCheck.keep x
      | _ => u = x)

/-- A change of the line's level begins a claim in a good standby where it is released, and ends a claim where the peer takes it.
At the end of the delay the line is driven where it still reads released, and the claim given up where it does not or the package
is no longer good; a standby then enters HANDOVER. A line fault, a driven line that has read released for more than 10 µs, leads to SAFE with cause SELF_DIAG, as does a takeover that is not
complete in time, which lets the line go; one that is complete makes the package ACTIVE, DEGRADED or QUIET. What the supervisor's own
domain holds is stated where the masks of these modes keep that domain on, as rule 0x52 has every image do (R80, R81). -/
def Obligations.TwinLineAndTakeover : Prop :=
  ∀ (s : State) (t : Nat),
    let x := s.tick t
    let stays := ∀ m ∈ [Mode.handover, Mode.active, Mode.quiet, Mode.degraded], (s.modeMask m).getLsbD 11 = true
    (∀ released : Bool, Completes (.twinOwnChange released t) s fun u =>
      if s.domOn 1 = false ∨ s.twin.released = released then u = x
      else
        u.twin.released = released ∧
        (released = true → u.twin.gateFrom = (if s.twin.ownDrive then some x.now else none) ∧
          (s.sys.mode ≠ .hearth → u.sys.mode = s.sys.mode) ∧ if s.sys.mode = .standby ∧ s.twinMode = true ∧ s.twin.ownDrive = false ∧
            s.good = true then claimed u x.now else u.twin.claimFrom = s.twin.claimFrom) ∧
        (released = false → s.twin.ownDrive = true → u.twin.claimFrom = s.twin.claimFrom ∧ u.twin.gateFrom = none ∧
          (s.sys.mode ≠ .hearth → u.sys.mode = s.sys.mode)) ∧
        (released = false → s.twin.ownDrive = false → s.twin.claimFrom.isSome = true ∨ s.sys.mode = .handover →
          u.twin.claimFrom = none ∧
            (s.sys.mode ≠ .hearth → u.sys.mode = if s.sys.mode = .handover then .standby else s.sys.mode))) ∧
    Completes (.claimDelayExpiry t) s (fun u =>
      match s.twin.claimFrom with
      | some f =>
        if x.now < f + usTicks 50 + s.claimDelay ∨ (s.twin.probeOk = false ∧ s.twin.l.link = 3) ∨
            (s.sys.mode ≠ .standby ∧ s.sys.mode ≠ .handover) then u = x
        else if s.good = false then unclaimed u ∧ u.sys = s.sys ∧ u.twin.ownDrive = s.twin.ownDrive
        else if s.twin.released = true then
          unclaimed u ∧ u.twin.released = false ∧ u.sys.mode = .handover ∧
          (stays → u.twin.ownDrive = true ∧ u.twin.claimAt = x.now ∧ u.twin.raise = some x.claimRaise)
        else unclaimed u ∧ u.sys.mode = .standby
      | none => u = x) ∧
    Completes (.lineFault t) s (fun u =>
      if s.twinMode = true ∧ s.twin.ownDrive = true ∧ s.twin.released = true ∧
          s.twin.gateFrom.any (fun g => decide (g + usTicks 10 < x.now)) then entersSafe x u 0x01 else u = x) ∧
    Completes (.takeoverComplete t) s (fun u =>
      if s.sys.mode = .handover ∧ s.twin.ownDrive = true ∧ x.now < s.twin.claimAt + s.takeoverLimit then
        u.sys.mode = (if s.sys.quietClaim then .quiet else s.activeMode) ∧ u.sys.transition = none ∧
        u.twin.peerDuty = [] ∧ (stays → u.twin.ownDrive = true)
      else u = x) ∧
    Completes (.takeoverTimeout t) s (fun u =>
      if s.sys.mode = .handover ∧ s.twin.ownDrive = true ∧ s.twin.claimAt + s.takeoverLimit ≤ x.now then
        u.twin.ownDrive = false ∧ u.sys.mode = .safe ∧ u.sys.safeCause = 0x01
      else u = x)

/-- A duty save, 10 s after the last, stores each sub-band's total in ms, rounded up, and the time a trial has left. A control cycle
that is due raises the calibrations that are old and no other, and ends a clear of the Cellar (log entry 68, the model's choice):
index 0 holds CELLAR_CLEARED, the return record stays. The operating time is saved once 60 s have passed since the last save. Nothing but that
is done while a handover freezes the supervisor. Corrected memory errors are counted with the cycle (log 143).
A heartbeat period starts the next once it is over, and takes out no lane that did not fail. A latent run that is due reports
what failed, on top of what failed before, and is not due again by command; each pair whose test failed is out of service. OVERTEMP is a SAFE cause in every mode with a row
to SAFE, and clears 5 °C below. A lockstep pair that miscompares is out of service, and SAFE follows when the other is too. An uncorrectable
error is flagged and counted. What the supervisor's own domain holds is stated where the masks of SAFE and DEGRADED keep that domain
on (R80, R81). -/
def Obligations.SupervisionAndSafety : Prop :=
  (∀ (s : State) (t : Nat),
     let x := s.tick t
     Completes (.dutySave t) s (fun u =>
       if s.domOn 12 ∧ s.supFrozen = false ∧ s.upd.dutyAt + secTicks 10 ≤ x.now then
         u.upd.banks = s.upd.banks ∧ u.nvOwn = s.nvOwn ∧ u.upd.dutyAt = x.now ∧
         (s.nvOwn.isSome = true →
           (∀ (r : Region) (k : Nat), k < 16 → sget 0 u.nv.duty (r.ix * 16 + k) = ceilDiv (x.dutyTotal r k) 1000) ∧
           u.nv.trial = (if s.nv.trial.active then { s.nv.trial with left := x.trialLeft } else s.nv.trial) ∧
           u.nv.startMode = s.nv.startMode)
       else u = x) ∧
     (∀ n : Nat, Completes (.supervisorControlCycle ⟨t, n⟩) s fun u =>
       (s.domOn 12 = true → (u.rg Reg.safEccCorrCnt).toNat = min 0xFFFFFFFF ((s.rg Reg.safEccCorrCnt).toNat + n)) ∧
       if s.domOn 12 ∧ s.supHalted = false ∧ s.supFrozen = false ∧ s.tsu.cycleAt + msTicks 10 ≤ x.now then
         u.tsu.cycleAt = x.now ∧ (s.cellar.clearing = false → u.cellar = s.cellar) ∧
         (s.cellar.clearing = true → u.cellar.clearing = false ∧ u.cellar.clearMsg = none ∧ getBits (u.cellAt 0) 0 16 = 0xF00 ∧
           sget 0 u.cellar.records returnIx = sget 0 s.cellar.records returnIx ∧
           (s.cellar.frozenAt.isSome = true → u.cellar.next = 1 ∧ u.cellar.lostFull = 0 ∧ u.cellar.hold = s.cellar.hold)) ∧
         (∀ r, (u.rad r).recal.due = ((s.rad r).recal.due || x.recalOld r) ∧
           ((s.rad r).recal.due = true → (u.rad r).recal.dueAt = (s.rad r).recal.dueAt) ∧
           ((s.rad r).recal.due = false → x.recalOld r = true → (u.rad r).recal.dueAt = x.now))
       else u.tsu = s.tsu ∧ u.cellar = s.cellar ∧ u.radio = s.radio ∧ (if s.domOn 12 then SameRegs s u [Reg.safEccCorrCnt] else u = x)) ∧
     Completes (.opTimeSave t) s (fun u =>
       if s.domOn 12 ∧ s.cellar.opSaved + 60 ≤ x.opTime then
         u.cellar = { s.cellar with opSaved := x.opTime }
       else u = x)) ∧
  (∀ (s : State) (t : Nat),
     let x := s.tick t
     let stays := ∀ m ∈ [Mode.safe, Mode.degraded], (s.maskFor m).getLsbD 11 = true
     (∀ w, Completes (.heartbeatPeriod ⟨t, w⟩) s fun u =>
       if s.str.active.isSome ∧ s.domOn 12 ∧ (s.saf.hbAt = 0 ∨ s.saf.hbAt + msTicks (s.safF 6 2) ≤ x.now) then
         u.saf.hbAt = x.now ∧ u.hif.busyOk = [] ∧ u.hif.hbWrong = w ∧
         (s.saf.hbAt = 0 ∨ x.hbFailing = [] → u.oos = s.oos ∧ u.oosClusters = s.oosClusters ∧ u.sys = s.sys)
       else u = x) ∧
     (∀ (failed : List (Fin 8)) (r : LatentSeen) (p : List (Fin 2)), Completes (.latentTestRun failed r p t) s fun u =>
       if s.domOn 12 ∧ (s.rb Reg.safCmd 0 = true ∨ s.saf.latentAt = 0 ∨
           (s.str.active.isSome = true ∧ s.saf.latentAt + secTicks (s.safF 8 1 * 3600) ≤ x.now)) then
         ∃ y : State, (∀ i : Fin 8, y.rb Reg.safLatentResult i.val = failed.contains i) ∧ y.rb Reg.safCmd 0 = false ∧
           y.saf.latentAt = x.now ∧ y.saf.latentFailed = s.saf.latentFailed ∧ y.twin.lineReadback = s.twin.lineReadback ∧ y.sys = s.sys ∧ y.oos = s.oos ∧
           y.pairs = s.pairs ∧ y.irq.events = s.irq.events ++ heard s 0x132 ∧ (failed = [] → u = y.keep x) ∧
           (stays → u.saf.latentAt = x.now ∧ u.saf.latentFailed = (s.saf.latentFailed || ! failed.isEmpty) ∧
             (failed.contains 3 = true → ∀ q ∈ p, u.pairOk q = false))
       else u = x) ∧
     Completes .safRunLatent s (fun u =>
       if s.domOn 12 then u.rb Reg.safCmd 0 = true ∧ SameRegs s u [Reg.safCmd] else SameRegs s u [Reg.sysAccessErr]) ∧
     (∀ f c : Byte, Completes (.overtemp f c t) s fun u =>
       u.saf.tempFront = f ∧ u.saf.tempCore = c ∧
       if s.domOn 2 ∧ (s.overtempC ≤ f.toInt ∨ s.overtempC ≤ c.toInt) then
         u.sys.hot = true ∧ entersSafe x u 0x03 else u.sys = s.sys ∧ u.regs = s.regs) ∧
     (∀ f c : Byte, Completes (.overtempCleared f c t) s fun u =>
       u.saf.tempFront = f ∧ u.saf.tempCore = c ∧ u.sys.mode = s.sys.mode ∧ u.regs = s.regs ∧
       u.sys.hot = (s.sys.hot && ! (decide (f.toInt < s.overtempC - 5) && decide (c.toInt < s.overtempC - 5)))) ∧
     (∀ p : Fin 2, Completes (.lockstepMiscompare p t) s fun u =>
       if s.domOn 12 ∧ s.pairOk p = true then
         (stays → u.pairOk p = false) ∧
         (s.pairOk (if p = 0 then 1 else 0) = false → s.sys.mode.canSafe = true → u.sys.mode = .safe ∧ u.sys.safeCause = 0x07) ∧
         (s.pairOk (if p = 0 then 1 else 0) = true → u.sys.mode = s.sys.mode ∧ u.pairOk (if p = 0 then 1 else 0) = true)
       else u = x) ∧
     (∀ (n : Fin 8) (a : Nat), Completes (.eccUncorrectable n a t) s fun u =>
       if s.domOn 12 then
         ∃ y : State, (y.rg Reg.safEccUncorrCnt).toNat = min 0xFFFFFFFF ((s.rg Reg.safEccUncorrCnt).toNat + 1) ∧
           y.rb Reg.safTrouble 2 = true ∧ y.sys = s.sys ∧ u = (y.eccOwner n.val a).keep x
       else u = x))

/-- A clear that passes its checks takes its COUNTER and goes on, its answer to come when it is done; a refused one changes no
key. A freeze starts or restarts; thawing writes what was held, but for a clear that still goes on. A return that passes destroys the keys,
makes the part RETURNED for good and writes its record at its own index. A window read of word 0 latches the record at the
cursor; of word 7 it answers from the latch and the cursor advances. -/
def Obligations.CellarCommands : Prop :=
  ∀ (s : State) (m : Msg) (t : Nat),
    let x := s.tick t
    let b := request m
    let y := omBody b
    (taken s m 5 (· == 0x90) 0 → Completes (.cellarClear m t) s fun u =>
      let permitted := omSigner b == 0 && s.lifecycle == .field && ! s.noOwner && le y 0 4 == s.cellar.next
      match x.omCheck (omFormat 5 (· == 16) b && slice y 4 12 == zeros 12) permitted b with
      | some r => u.key = s.key ∧ refusedWith s u m r
      | none => u.key.counter = omCounter b ∧ u.outbox = s.outbox ∧
          u.cellar = { s.cellar with clearing := true, clearMsg := some (m.ring.val, m.desc.tag) }) ∧
    (taken s m 4 (· == 0x90) 0 → Completes (.returnMessage m t) s fun u =>
      let permitted := match s.lifecycle with
        | .field => omSigner b == 0 && ! s.noOwner
        | .fieldDebug => omSigner b == 0
        | .returned => false
        | _ => omSigner b == 1 && (s.sys.mode == .configure || s.sys.mode == .safe)
      match x.omCheck (omFormat 4 (· == 16) b && decide (byteAt y 0 ≤ 4) && slice y 1 7 == zeros 7) permitted b with
      | some r => u.key = s.key ∧ u.sys.mode = s.sys.mode ∧ refusedWith s u m r
      | none => keysErased s u ∧ u.key.lifecycle = .returned ∧ u.lifecycle = .returned ∧ u.sys.mode = .returned ∧
          u.key.counter = omCounter b ∧ u.str.active = none ∧ u.cellar.frozenAt = none ∧
          getBits (sget 0 u.cellar.records returnIx) 0 16 = 0xF02 ∧ u.dbg.scopeTap = false ∧ u.dbg.scopeBar = false) ∧
    Completes (.cellarFreeze t) s (fun u =>
      if s.domOn 12 = false then u.cellar = s.cellar ∧ SameRegs s u [Reg.sysAccessErr]
      else if s.key.lifecycle = .returned then u = x
      else u.cellar = { s.cellar with frozenAt := some x.now }) ∧
    Completes (.cellarUnfreeze t) s (fun u =>
      if s.domOn 12 = false then u.cellar = s.cellar ∧ SameRegs s u [Reg.sysAccessErr]
      else u.cellar.frozenAt = none ∧ (s.cellar.clearing = true → u.cellar = { s.cellar with frozenAt := none }) ∧
        (s.cellar.frozenAt.isSome = true → s.cellar.clearing = false → u.cellar.hold = [] ∧
        (s.cellar.next + s.cellar.hold.length ≤ returnIx → u.cellar.next = s.cellar.next + s.cellar.hold.length ∧
          ∀ i v, s.cellar.hold[i]? = some v → sget 0 u.cellar.records (s.cellar.next + i) = v))) ∧
    Completes (.freezeTimeout t) s (fun u =>
      match s.cellar.frozenAt with
      | some f => if f + secTicks 10 ≤ x.now then u.cellar.frozenAt = none ∧
          u.cellar.hold = (if s.cellar.clearing then s.cellar.hold else []) ∧ u.rb Reg.recStatus 3 = true
          else u = x
      | none => u = x) ∧
    Completes .recWin0Read s (fun u =>
      if s.domOn 12 then
        let v := s.cellAt s.recCursor
        u.readData = (v.setWidth 32).zeroExtend 64 ∧ u.cellar = { s.cellar with latch := v } ∧
        u.rb Reg.recStatus 0 = cellGood v ∧ SameRegs s u [Reg.recStatus]
      else u.readData = 0 ∧ u.cellar = s.cellar ∧ u.regs = s.regs) ∧
    Completes .recWin7Read s (fun u =>
      if s.domOn 12 then
        u.readData.toNat = s.cellar.latch.toNat / 2 ^ 224 ∧ u.recCursor = (s.recCursor + 1) % 65536 ∧
        SameRegs s u [Reg.recCursor] ∧ u.cellar = s.cellar
      else u.readData = 0 ∧ u.cellar = s.cellar ∧ u.regs = s.regs)

/-- With BAR0 up: a write that is not an aligned 32-bit one is discarded and sets SIZE_STK. A narrow read within one register is
the 32-bit read of that register, cut to the bytes addressed. A wide or spanning read gives 0 and sets SIZE_STK. A 32-bit read
of an unassigned address gives 0, a write to one is discarded and sets UNMAPPED_STK; so it is where the register's domain is off. -/
def Obligations.RegisterAccesses : Prop :=
  ∀ (s : State) (a : Access) (e : BusEnv), barUp s → a.bar = .bar0 → a.addr < 0x1000000 →
    let x := s.tick e.tick
    (a.write = true → ¬ (a.size = 4 ∧ a.addr % 4 = 0) →
      Completes (.registerWrite a e) s fun u => u = x.stk Reg.sysAccessErr 0) ∧
    (a.write = false → 0 < a.size → a.addr % 4 + a.size ≤ 4 → s.debugStop a = false →
      ∃ v, exec (.registerWrite ⟨false, a.addr - a.addr % 4, 4, 0, .bar0⟩ e) s = .next v ∧
        Completes (.registerWrite a e) s fun u =>
          u = { v with readData := BitVec.ofNat 64 (v.readData.toNat / 256 ^ (a.addr % 4) % 256 ^ a.size) }) ∧
    (a.write = false → 4 < a.addr % 4 + a.size →
      Completes (.registerWrite a e) s fun u => u = { x.stk Reg.sysAccessErr 0 with readData := 0 }) ∧
    (a.size = 4 → a.addr % 4 = 0 → regDesc a.addr = none ∨ s.domOn (addrDom a.addr) = false →
      Completes (.registerWrite a e) s fun u =>
        if a.write then u = x.stk Reg.sysAccessErr 1 else u = { x with readData := 0 })

/-- Before stage 3 an access does nothing. At a register that answers, a 32-bit write to one that only stores leaves there what
the access codes say, a bit an event sets on the same tick staying set, and changes nothing else; a write that would change a locked field is discarded, sets LOCKED_STK and, as the
first, gives its block. Writes and reads that are rows of their own do what those rows do. A window write is a
NODE_WINDOW_WRITE. An access to `DBG.MEM_DATA` outside supervisor memory stops (log entry 41). BAR2/3 holds the MSI-X
table and pending bits; BAR4/5 the halves of RECOVERY, and is unassigned in any other mode. -/
def Obligations.RegisterWrites : Prop :=
  ∀ (s : State) (e : BusEnv),
    let y := s.tick e.tick
    (∀ a : Access, s.sys.stage < 3 → Completes (.registerWrite a e) s fun u => u = y) ∧
    (∀ a : Access, s.debugStop a = true → exec (.registerWrite a e) s = .fault .debugAddress) ∧
    (barUp s →
      (∀ (n : Nat) (x : RegRow) (w : Word), s.answers n = true → regDesc n = some x → n % 4 = 0 → storedOnly n = true →
        Completes (.registerWrite ⟨true, n, 4, w.setWidth 64, .bar0⟩ e) s fun u =>
          u = y.setRg n (written x (s.rg n) (y.setNow n) w)) ∧
      (∀ (n : Nat) (x : RegRow) (w : Word), s.answers n = true → regDesc n = some x → n % 4 = 0 → s.rwlLocked n = true →
        (n = Reg.rfcCtrl 0 ∨ n = Reg.rfcCtrl 1 ∨ n = Reg.rfcCtrl 2 ∨ (Reg.macSelfEuiLo ≤ n ∧ n < Reg.macLock)) →
        Completes (.registerWrite ⟨true, n, 4, w.setWidth 64, .bar0⟩ e) s fun u =>
          if (s.rg n ^^^ w) &&& x.rwl = 0 then u = y.setRg n (written x (s.rg n) (y.setNow n) w)
          else
            u.rb Reg.sysAccessErr 2 = true ∧ SameRegs s u [Reg.sysAccessErr] ∧ Frame [.now, .regs] s u ∧
            (s.rb Reg.sysAccessErr 2 = false → u.rf Reg.sysAccessErr 16 16 = blockBase n / 65536)) ∧
      (∀ (w : Word) (p : Nat × Instr), p ∈ writeRows w y.now → s.answers p.1 = true →
        exec (.registerWrite ⟨true, p.1, 4, w.setWidth 64, .bar0⟩ e) s = exec p.2 y) ∧
      (∀ p ∈ readRows, s.answers p.1 = true → ∃ v, exec p.2 y = .next v ∧
        Completes (.registerWrite ⟨false, p.1, 4, 0, .bar0⟩ e) s fun u =>
          u = { v with readData := BitVec.ofNat 64 (v.readData.toNat % 2 ^ 32) }) ∧
      (∀ a : Access, a.bar = .bar0 → a.write = true → 0x1000000 ≤ a.addr →
        exec (.registerWrite a e) s = exec (.nodeWindowWrite a.addr a.size a.data) y)) ∧
    (∀ a : Access, 3 ≤ s.sys.stage → a.bar = .bar2 → Completes (.registerWrite a e) s fun u =>
      if s.domOn 15 = false then u = y
      else if a.write then (0x400 ≤ a.addr → u.hif.msixTable = s.hif.msixTable) ∧
        (∀ v : Nat, sRising none s.hif.msixTable = true → (16 * v + 16 ≤ a.addr ∨ a.addr + a.size ≤ 16 * v) →
          sget msixReset u.hif.msixTable v = sget msixReset s.hif.msixTable v)
      else u = { y with readData := readOf s.bar2Byte a.addr a.size }) ∧
    (∀ a : Access, 3 ≤ s.sys.stage → a.bar = .bar4 → Completes (.registerWrite a e) s fun u =>
      if s.sys.mode = .recovery then
        if a.write then u.upd.banks = s.upd.banks ∧ (sRising none s.upd.halves = true → ∀ i < a.size, a.addr + i < 0x10000 →
          sget 0 u.upd.halves (a.addr + i) = BitVec.ofNat 8 (a.data.toNat / 256 ^ i))
        else u.readData = BitVec.ofNat 64 (leNat (s.halfRead a.addr a.size)) ∧ u.upd = s.upd
      else if a.write then u = y.unmapped else u = { y with readData := 0 })

/-- For every command and state: the step with the command at the front of the queue is what the command does to the state with
the queue's rest. With nothing waiting a step passes one fabric tick and changes nothing else (the model's choice, log entry 1). -/
def Obligations.StepTakesTheFront : Prop :=
  (∀ (c : Instr) (rest : List Instr) (s : State),
    step { s with pending := c :: rest } = exec c { s with pending := rest }) ∧
  (∀ s : State, step { s with pending := [] } = .next { s with pending := [], now := s.now + 1 })

/-- Every command of the first part of the table answers a next state, but where `stops` names its stop; and it leaves every piece
of state outside its list `touches` as it was. -/
def Obligations.CommandsCompleteInFrame1 : Prop :=
  ∀ (i : Instr) (s : State), part i = 1 → stops s i = false → Completes i s (Frame (touches i) s)

/-- Every command of the second part of the table answers a next state and leaves every piece of state outside its list `touches`
as it was. -/
def Obligations.CommandsCompleteInFrame2 : Prop :=
  ∀ (i : Instr) (s : State), part i = 2 → Completes i s (Frame (touches i) s)

/-- Every command of the third part of the table answers a next state, but where `stops` names its stop; and it leaves every piece
of state outside its list `touches` as it was. -/
def Obligations.CommandsCompleteInFrame3 : Prop :=
  ∀ (i : Instr) (s : State), part i = 3 → stops s i = false → Completes i s (Frame (touches i) s)

/-- Whatever the state: a step never goes back in time and takes exactly the front command from the queue; it faults only on an
access to `DBG.MEM_DATA` outside supervisor memory, and is refused only for a private test instruction in RETURNED. -/
def Obligations.OnlyNamedStops : Prop :=
  ∀ s : State,
    match step s with
    | .next u => s.now ≤ u.now ∧ u.pending = s.pending.tail ∧ ∀ c ∈ s.pending.head?, stops { s with pending := s.pending.tail } c = false
    | .fault f => f = .debugAddress ∧ ∃ c rest, s.pending = c :: rest ∧ stops { s with pending := rest } c = true ∧
        0x200000 ≤ (s.rg Reg.dbgMemAddr).toNat
    | .refused r => r = .privateTest ∧ s.lifecycle = .returned ∧ ∃ c rest, s.pending = .tapPrivateTest c :: rest

/-- From a state whose stored lifecycle is one that MRAM holds (not FIELD_DEBUG), a step leads to a stored lifecycle that R382
allows from it, again one that MRAM holds; so a part that is RETURNED stays so. -/
def Obligations.LifecyclePaths : Prop :=
  ∀ s u : State, s.key.lifecycle ≠ .fieldDebug → step s = .next u →
    u.key.lifecycle ≠ .fieldDebug ∧ u.key.lifecycle ∈ lifecycleTo s.key.lifecycle

/-- For every step, over every command: the counter of owner messages reads at least what it read before. -/
def Obligations.OwnerCounterNeverGoesBack : Prop :=
  ∀ s u : State, step s = .next u → s.key.counter ≤ u.key.counter

/-- The table of interrupt sources lists numbers strictly rising and no source that stands as after reset; every step keeps it so,
so equal controllers are equal data. That it is so after reset is said in AfterPowerOn. -/
def Obligations.SourcesStayOrdered : Prop :=
  ∀ s u : State, swf (fun _ => IrqSrc.reset) s.irq.srcs = true → step s = .next u →
    swf (fun _ => IrqSrc.reset) u.irq.srcs = true

/-- After a power-on reset the router is OFF at start-up stage 0 with only the Hearth's domain on; every register reads its reset
value; no image is active, the link is down, no source pends, no transition and no command waits. That the part is BLANK with
its counter at 0 is the model's choice (log entry 2). -/
def Obligations.AfterPowerOn : Prop :=
  let s := State.reset
  s.sys.mode = .off ∧ s.sys.stage = 0 ∧ s.sys.domains = 0x0001 ∧ (∀ a, s.rg a = regReset a) ∧ s.str.active = none ∧
  s.hif.linkUp = false ∧ (∀ n, s.src n = IrqSrc.reset) ∧ swf (fun _ => IrqSrc.reset) s.irq.srcs = true ∧ s.sys.transition = none ∧ s.pending = [] ∧
  s.key.lifecycle = .blank ∧ s.key.counter = 0
end

