-- ==== Sys2Proof/Laws/Frame.lean ====
section
/-! SUPPORT. Laws/Frame.lean: frames compose. -/

namespace Sys2Proof

open Sys2Proof.Machine

variable {F G : List Field} {s x u : State}

theorem agree_refl (s : State) (f : Field) : agree s s f := by
  cases f <;> first | rfl | exact ⟨rfl, rfl⟩ | simp [agree]

theorem agree_trans {f : Field} (h : agree s x f) (k : agree x u f) : agree s u f := by
  cases f <;> simp_all [agree]

theorem Frame.refl (F : List Field) (s : State) : Frame F s s := fun f _ => agree_refl s f

theorem Frame.mono (hs : F.all G.contains = true) (h : Frame F s u) : Frame G s u := by
  intro f hf
  refine h f ?_
  cases hc : F.contains f with
  | false => rfl
  | true =>
    have := List.all_eq_true.1 hs f (by simpa using hc)
    rw [hf] at this; cases this

theorem Frame.mem {f : Field} (hs : F.all G.contains = true) (hf : F.contains f = true) : G.contains f = true :=
  List.all_eq_true.1 hs f (by simpa using hf)

theorem Frame.sub {E : List Field} (h : E.all F.contains = true) (k : F.all G.contains = true) :
    E.all G.contains = true :=
  List.all_eq_true.2 fun f hf => Frame.mem k (List.all_eq_true.1 h f hf)

/-- First one, then the other. -/
theorem Frame.after (h : Frame F s x) (k : Frame F x u) : Frame F s u := fun f hf => agree_trans (h f hf) (k f hf)

theorem Frame.ite {c : Prop} [Decidable c] {a b : State} (ha : c → Frame F s a) (hb : ¬ c → Frame F s b) :
    Frame F s (if c then a else b) := by split <;> simp_all

theorem Frame.iteFst {α : Type} {c : Prop} [Decidable c] {a b : State × α} (ha : c → Frame F s a.1)
    (hb : ¬ c → Frame F s b.1) : Frame F s (if c then a else b).1 := by split <;> simp_all

theorem Frame.foldl {α : Type} {l : List α} {f : State → α → State} {i : State} (hi : Frame F s i)
    (hf : ∀ x y, Frame F s x → Frame F s (f x y)) : Frame F s (l.foldl f i) := by
  induction l generalizing i with
  | nil => exact hi
  | cons y l ih => exact ih (hf i y hi)

theorem Frame.foldlFst {α β : Type} {l : List α} {f : State × β → α → State × β} {i : State × β}
    (hi : Frame F s i.1) (hf : ∀ p y, Frame F s p.1 → Frame F s (f p y).1) : Frame F s (l.foldl f i).1 := by
  induction l generalizing i with
  | nil => exact hi
  | cons y l ih => exact ih (hf i y hi)

theorem Frame.pair {α : Type} {e : State × α} {x : State} {y : α} (he : e = (x, y)) (h : Frame F s e.1) :
    Frame F s x := by rw [he] at h; exact h

/-- An update that changes only what is listed. -/
theorem Frame.upd (h : Frame F s x)
    (h_now : agree x u .now ∨ F.contains .now = true)
    (h_pending : agree x u .pending ∨ F.contains .pending = true)
    (h_regs : agree x u .regs ∨ F.contains .regs = true)
    (h_readData : agree x u .readData ∨ F.contains .readData = true)
    (h_freeCtr : agree x u .freeCtr ∨ F.contains .freeCtr = true)
    (h_outbox : agree x u .outbox ∨ F.contains .outbox = true)
    (h_loftGiB : agree x u .loftGiB ∨ F.contains .loftGiB = true)
    (h_loftReady : agree x u .loftReady ∨ F.contains .loftReady = true)
    (h_oos : agree x u .oos ∨ F.contains .oos = true)
    (h_oosClusters : agree x u .oosClusters ∨ F.contains .oosClusters = true)
    (h_sysMode : agree x u .sysMode ∨ F.contains .sysMode = true)
    (h_sysTransition : agree x u .sysTransition ∨ F.contains .sysTransition = true)
    (h_sysCommand : agree x u .sysCommand ∨ F.contains .sysCommand = true)
    (h_sysStage : agree x u .sysStage ∨ F.contains .sysStage = true)
    (h_sysStart : agree x u .sysStart ∨ F.contains .sysStart = true)
    (h_sysDomains : agree x u .sysDomains ∨ F.contains .sysDomains = true)
    (h_sysBoard : agree x u .sysBoard ∨ F.contains .sysBoard = true)
    (h_sysWake : agree x u .sysWake ∨ F.contains .sysWake = true)
    (h_dieLink : agree x u .dieLink ∨ F.contains .dieLink = true)
    (h_pairs : agree x u .pairs ∨ F.contains .pairs = true)
    (h_strActive : agree x u .strActive ∨ F.contains .strActive = true)
    (h_strApplying : agree x u .strApplying ∨ F.contains .strApplying = true)
    (h_strCounter : agree x u .strCounter ∨ F.contains .strCounter = true)
    (h_radioService : agree x u .radioService ∨ F.contains .radioService = true)
    (h_radioLo : agree x u .radioLo ∨ F.contains .radioLo = true)
    (h_radioCarriers : agree x u .radioCarriers ∨ F.contains .radioCarriers = true)
    (h_radioLines : agree x u .radioLines ∨ F.contains .radioLines = true)
    (h_radioSamples : agree x u .radioSamples ∨ F.contains .radioSamples = true)
    (h_radioDetector : agree x u .radioDetector ∨ F.contains .radioDetector = true)
    (h_radioCoex : agree x u .radioCoex ∨ F.contains .radioCoex = true)
    (h_radioRecal : agree x u .radioRecal ∨ F.contains .radioRecal = true)
    (h_radioCal : agree x u .radioCal ∨ F.contains .radioCal = true)
    (h_rx : agree x u .rx ∨ F.contains .rx = true)
    (h_lanes : agree x u .lanes ∨ F.contains .lanes = true)
    (h_tx : agree x u .tx ∨ F.contains .tx = true)
    (h_mac : agree x u .mac ∨ F.contains .mac = true)
    (h_porchBookings : agree x u .porchBookings ∨ F.contains .porchBookings = true)
    (h_porchRest : agree x u .porchRest ∨ F.contains .porchRest = true)
    (h_dlsQueues : agree x u .dlsQueues ∨ F.contains .dlsQueues = true)
    (h_dlsRest : agree x u .dlsRest ∨ F.contains .dlsRest = true)
    (h_tabNodes : agree x u .tabNodes ∨ F.contains .tabNodes = true)
    (h_tabEntries : agree x u .tabEntries ∨ F.contains .tabEntries = true)
    (h_tabPrefixes : agree x u .tabPrefixes ∨ F.contains .tabPrefixes = true)
    (h_jobs : agree x u .jobs ∨ F.contains .jobs = true)
    (h_hifRings : agree x u .hifRings ∨ F.contains .hifRings = true)
    (h_hifLink : agree x u .hifLink ∨ F.contains .hifLink = true)
    (h_hifPantry : agree x u .hifPantry ∨ F.contains .hifPantry = true)
    (h_hifPorts : agree x u .hifPorts ∨ F.contains .hifPorts = true)
    (h_hifLanes : agree x u .hifLanes ∨ F.contains .hifLanes = true)
    (h_tsuTime : agree x u .tsuTime ∨ F.contains .tsuTime = true)
    (h_tsuPins : agree x u .tsuPins ∨ F.contains .tsuPins = true)
    (h_timers : agree x u .timers ∨ F.contains .timers = true)
    (h_irqEvents : agree x u .irqEvents ∨ F.contains .irqEvents = true)
    (h_irqSources : agree x u .irqSources ∨ F.contains .irqSources = true)
    (h_irqWake : agree x u .irqWake ∨ F.contains .irqWake = true)
    (h_keyIdentity : agree x u .keyIdentity ∨ F.contains .keyIdentity = true)
    (h_keyStores : agree x u .keyStores ∨ F.contains .keyStores = true)
    (h_keyEngine : agree x u .keyEngine ∨ F.contains .keyEngine = true)
    (h_updFlash : agree x u .updFlash ∨ F.contains .updFlash = true)
    (h_updNv : agree x u .updNv ∨ F.contains .updNv = true)
    (h_updLock : agree x u .updLock ∨ F.contains .updLock = true)
    (h_updRun : agree x u .updRun ∨ F.contains .updRun = true)
    (h_twinLine : agree x u .twinLine ∨ F.contains .twinLine = true)
    (h_twinLink : agree x u .twinLink ∨ F.contains .twinLink = true)
    (h_twinSync : agree x u .twinSync ∨ F.contains .twinSync = true)
    (h_safTests : agree x u .safTests ∨ F.contains .safTests = true)
    (h_safBeat : agree x u .safBeat ∨ F.contains .safBeat = true)
    (h_dbg : agree x u .dbg ∨ F.contains .dbg = true)
    (h_cellarRecords : agree x u .cellarRecords ∨ F.contains .cellarRecords = true)
    (h_cellarRest : agree x u .cellarRest ∨ F.contains .cellarRest = true)
    (h_safBg : agree x u .safBg ∨ F.contains .safBg = true)
    (h_fwdBusy : agree x u .fwdBusy ∨ F.contains .fwdBusy = true)
    (h_hifMsix : agree x u .hifMsix ∨ F.contains .hifMsix = true)
    (h_dutySaved : agree x u .dutySaved ∨ F.contains .dutySaved = true) : Frame F s u := by
  intro f hf
  cases f
  · exact agree_trans (h _ hf) (h_now.resolve_right (by rw [hf]; exact Bool.false_ne_true))
  · exact agree_trans (h _ hf) (h_pending.resolve_right (by rw [hf]; exact Bool.false_ne_true))
  · exact agree_trans (h _ hf) (h_regs.resolve_right (by rw [hf]; exact Bool.false_ne_true))
  · exact agree_trans (h _ hf) (h_readData.resolve_right (by rw [hf]; exact Bool.false_ne_true))
  · exact agree_trans (h _ hf) (h_freeCtr.resolve_right (by rw [hf]; exact Bool.false_ne_true))
  · exact agree_trans (h _ hf) (h_outbox.resolve_right (by rw [hf]; exact Bool.false_ne_true))
  · exact agree_trans (h _ hf) (h_loftGiB.resolve_right (by rw [hf]; exact Bool.false_ne_true))
  · exact agree_trans (h _ hf) (h_loftReady.resolve_right (by rw [hf]; exact Bool.false_ne_true))
  · exact agree_trans (h _ hf) (h_oos.resolve_right (by rw [hf]; exact Bool.false_ne_true))
  · exact agree_trans (h _ hf) (h_oosClusters.resolve_right (by rw [hf]; exact Bool.false_ne_true))
  · exact agree_trans (h _ hf) (h_sysMode.resolve_right (by rw [hf]; exact Bool.false_ne_true))
  · exact agree_trans (h _ hf) (h_sysTransition.resolve_right (by rw [hf]; exact Bool.false_ne_true))
  · exact agree_trans (h _ hf) (h_sysCommand.resolve_right (by rw [hf]; exact Bool.false_ne_true))
  · exact agree_trans (h _ hf) (h_sysStage.resolve_right (by rw [hf]; exact Bool.false_ne_true))
  · exact agree_trans (h _ hf) (h_sysStart.resolve_right (by rw [hf]; exact Bool.false_ne_true))
  · exact agree_trans (h _ hf) (h_sysDomains.resolve_right (by rw [hf]; exact Bool.false_ne_true))
  · exact agree_trans (h _ hf) (h_sysBoard.resolve_right (by rw [hf]; exact Bool.false_ne_true))
  · exact agree_trans (h _ hf) (h_sysWake.resolve_right (by rw [hf]; exact Bool.false_ne_true))
  · exact agree_trans (h _ hf) (h_dieLink.resolve_right (by rw [hf]; exact Bool.false_ne_true))
  · exact agree_trans (h _ hf) (h_pairs.resolve_right (by rw [hf]; exact Bool.false_ne_true))
  · exact agree_trans (h _ hf) (h_strActive.resolve_right (by rw [hf]; exact Bool.false_ne_true))
  · exact agree_trans (h _ hf) (h_strApplying.resolve_right (by rw [hf]; exact Bool.false_ne_true))
  · exact agree_trans (h _ hf) (h_strCounter.resolve_right (by rw [hf]; exact Bool.false_ne_true))
  · exact agree_trans (h _ hf) (h_radioService.resolve_right (by rw [hf]; exact Bool.false_ne_true))
  · exact agree_trans (h _ hf) (h_radioLo.resolve_right (by rw [hf]; exact Bool.false_ne_true))
  · exact agree_trans (h _ hf) (h_radioCarriers.resolve_right (by rw [hf]; exact Bool.false_ne_true))
  · exact agree_trans (h _ hf) (h_radioLines.resolve_right (by rw [hf]; exact Bool.false_ne_true))
  · exact agree_trans (h _ hf) (h_radioSamples.resolve_right (by rw [hf]; exact Bool.false_ne_true))
  · exact agree_trans (h _ hf) (h_radioDetector.resolve_right (by rw [hf]; exact Bool.false_ne_true))
  · exact agree_trans (h _ hf) (h_radioCoex.resolve_right (by rw [hf]; exact Bool.false_ne_true))
  · exact agree_trans (h _ hf) (h_radioRecal.resolve_right (by rw [hf]; exact Bool.false_ne_true))
  · exact agree_trans (h _ hf) (h_radioCal.resolve_right (by rw [hf]; exact Bool.false_ne_true))
  · exact agree_trans (h _ hf) (h_rx.resolve_right (by rw [hf]; exact Bool.false_ne_true))
  · exact agree_trans (h _ hf) (h_lanes.resolve_right (by rw [hf]; exact Bool.false_ne_true))
  · exact agree_trans (h _ hf) (h_tx.resolve_right (by rw [hf]; exact Bool.false_ne_true))
  · exact agree_trans (h _ hf) (h_mac.resolve_right (by rw [hf]; exact Bool.false_ne_true))
  · exact agree_trans (h _ hf) (h_porchBookings.resolve_right (by rw [hf]; exact Bool.false_ne_true))
  · exact agree_trans (h _ hf) (h_porchRest.resolve_right (by rw [hf]; exact Bool.false_ne_true))
  · exact agree_trans (h _ hf) (h_dlsQueues.resolve_right (by rw [hf]; exact Bool.false_ne_true))
  · exact agree_trans (h _ hf) (h_dlsRest.resolve_right (by rw [hf]; exact Bool.false_ne_true))
  · exact agree_trans (h _ hf) (h_tabNodes.resolve_right (by rw [hf]; exact Bool.false_ne_true))
  · exact agree_trans (h _ hf) (h_tabEntries.resolve_right (by rw [hf]; exact Bool.false_ne_true))
  · exact agree_trans (h _ hf) (h_tabPrefixes.resolve_right (by rw [hf]; exact Bool.false_ne_true))
  · exact agree_trans (h _ hf) (h_jobs.resolve_right (by rw [hf]; exact Bool.false_ne_true))
  · exact agree_trans (h _ hf) (h_hifRings.resolve_right (by rw [hf]; exact Bool.false_ne_true))
  · exact agree_trans (h _ hf) (h_hifLink.resolve_right (by rw [hf]; exact Bool.false_ne_true))
  · exact agree_trans (h _ hf) (h_hifPantry.resolve_right (by rw [hf]; exact Bool.false_ne_true))
  · exact agree_trans (h _ hf) (h_hifPorts.resolve_right (by rw [hf]; exact Bool.false_ne_true))
  · exact agree_trans (h _ hf) (h_hifLanes.resolve_right (by rw [hf]; exact Bool.false_ne_true))
  · exact agree_trans (h _ hf) (h_tsuTime.resolve_right (by rw [hf]; exact Bool.false_ne_true))
  · exact agree_trans (h _ hf) (h_tsuPins.resolve_right (by rw [hf]; exact Bool.false_ne_true))
  · exact agree_trans (h _ hf) (h_timers.resolve_right (by rw [hf]; exact Bool.false_ne_true))
  · exact agree_trans (h _ hf) (h_irqEvents.resolve_right (by rw [hf]; exact Bool.false_ne_true))
  · exact agree_trans (h _ hf) (h_irqSources.resolve_right (by rw [hf]; exact Bool.false_ne_true))
  · exact agree_trans (h _ hf) (h_irqWake.resolve_right (by rw [hf]; exact Bool.false_ne_true))
  · exact agree_trans (h _ hf) (h_keyIdentity.resolve_right (by rw [hf]; exact Bool.false_ne_true))
  · exact agree_trans (h _ hf) (h_keyStores.resolve_right (by rw [hf]; exact Bool.false_ne_true))
  · exact agree_trans (h _ hf) (h_keyEngine.resolve_right (by rw [hf]; exact Bool.false_ne_true))
  · exact agree_trans (h _ hf) (h_updFlash.resolve_right (by rw [hf]; exact Bool.false_ne_true))
  · exact agree_trans (h _ hf) (h_updNv.resolve_right (by rw [hf]; exact Bool.false_ne_true))
  · exact agree_trans (h _ hf) (h_updLock.resolve_right (by rw [hf]; exact Bool.false_ne_true))
  · exact agree_trans (h _ hf) (h_updRun.resolve_right (by rw [hf]; exact Bool.false_ne_true))
  · exact agree_trans (h _ hf) (h_twinLine.resolve_right (by rw [hf]; exact Bool.false_ne_true))
  · exact agree_trans (h _ hf) (h_twinLink.resolve_right (by rw [hf]; exact Bool.false_ne_true))
  · exact agree_trans (h _ hf) (h_twinSync.resolve_right (by rw [hf]; exact Bool.false_ne_true))
  · exact agree_trans (h _ hf) (h_safTests.resolve_right (by rw [hf]; exact Bool.false_ne_true))
  · exact agree_trans (h _ hf) (h_safBeat.resolve_right (by rw [hf]; exact Bool.false_ne_true))
  · exact agree_trans (h _ hf) (h_dbg.resolve_right (by rw [hf]; exact Bool.false_ne_true))
  · exact agree_trans (h _ hf) (h_cellarRecords.resolve_right (by rw [hf]; exact Bool.false_ne_true))
  · exact agree_trans (h _ hf) (h_cellarRest.resolve_right (by rw [hf]; exact Bool.false_ne_true))
  · exact agree_trans (h _ hf) (h_safBg.resolve_right (by rw [hf]; exact Bool.false_ne_true))
  · exact agree_trans (h _ hf) (h_fwdBusy.resolve_right (by rw [hf]; exact Bool.false_ne_true))
  · exact agree_trans (h _ hf) (h_hifMsix.resolve_right (by rw [hf]; exact Bool.false_ne_true))
  · exact agree_trans (h _ hf) (h_dutySaved.resolve_right (by rw [hf]; exact Bool.false_ne_true))

/-- An update of the Strongroom. -/
theorem Frame.keyUpd {f : Key → Key} (h : Frame F s x)
    (h_keyIdentity : agree x (x.keyUpd f) .keyIdentity ∨ F.contains .keyIdentity = true)
    (h_keyStores : agree x (x.keyUpd f) .keyStores ∨ F.contains .keyStores = true)
    (h_keyEngine : agree x (x.keyUpd f) .keyEngine ∨ F.contains .keyEngine = true) :
    Frame F s (x.keyUpd f) := by
  intro k hk
  cases k
  · exact h _ hk
  · exact h _ hk
  · exact h _ hk
  · exact h _ hk
  · exact h _ hk
  · exact h _ hk
  · exact h _ hk
  · exact h _ hk
  · exact h _ hk
  · exact h _ hk
  · exact h _ hk
  · exact h _ hk
  · exact h _ hk
  · exact h _ hk
  · exact h _ hk
  · exact h _ hk
  · exact h _ hk
  · exact h _ hk
  · exact h _ hk
  · exact h _ hk
  · exact h _ hk
  · exact h _ hk
  · exact h _ hk
  · exact h _ hk
  · exact h _ hk
  · exact h _ hk
  · exact h _ hk
  · exact h _ hk
  · exact h _ hk
  · exact h _ hk
  · exact h _ hk
  · exact h _ hk
  · exact h _ hk
  · exact h _ hk
  · exact h _ hk
  · exact h _ hk
  · exact h _ hk
  · exact h _ hk
  · exact h _ hk
  · exact h _ hk
  · exact h _ hk
  · exact h _ hk
  · exact h _ hk
  · exact h _ hk
  · exact h _ hk
  · exact h _ hk
  · exact h _ hk
  · exact h _ hk
  · exact h _ hk
  · exact h _ hk
  · exact h _ hk
  · exact h _ hk
  · exact h _ hk
  · exact h _ hk
  · exact h _ hk
  · exact agree_trans (h _ hk) (h_keyIdentity.resolve_right (by rw [hk]; exact Bool.false_ne_true))
  · exact agree_trans (h _ hk) (h_keyStores.resolve_right (by rw [hk]; exact Bool.false_ne_true))
  · exact agree_trans (h _ hk) (h_keyEngine.resolve_right (by rw [hk]; exact Bool.false_ne_true))
  · exact h _ hk
  · exact h _ hk
  · exact h _ hk
  · exact h _ hk
  · exact h _ hk
  · exact h _ hk
  · exact h _ hk
  · exact h _ hk
  · exact h _ hk
  · exact h _ hk
  · exact h _ hk
  · exact h _ hk
  · exact h _ hk
  · exact h _ hk
  · exact h _ hk
  · exact h _ hk

/-- An update of the twin state. -/
theorem Frame.twinUpd {f : Twin → Twin} (h : Frame F s x)
    (h_twinLine : agree x (x.twinUpd f) .twinLine ∨ F.contains .twinLine = true)
    (h_twinLink : agree x (x.twinUpd f) .twinLink ∨ F.contains .twinLink = true)
    (h_twinSync : agree x (x.twinUpd f) .twinSync ∨ F.contains .twinSync = true) :
    Frame F s (x.twinUpd f) := by
  intro k hk
  cases k
  · exact h _ hk
  · exact h _ hk
  · exact h _ hk
  · exact h _ hk
  · exact h _ hk
  · exact h _ hk
  · exact h _ hk
  · exact h _ hk
  · exact h _ hk
  · exact h _ hk
  · exact h _ hk
  · exact h _ hk
  · exact h _ hk
  · exact h _ hk
  · exact h _ hk
  · exact h _ hk
  · exact h _ hk
  · exact h _ hk
  · exact h _ hk
  · exact h _ hk
  · exact h _ hk
  · exact h _ hk
  · exact h _ hk
  · exact h _ hk
  · exact h _ hk
  · exact h _ hk
  · exact h _ hk
  · exact h _ hk
  · exact h _ hk
  · exact h _ hk
  · exact h _ hk
  · exact h _ hk
  · exact h _ hk
  · exact h _ hk
  · exact h _ hk
  · exact h _ hk
  · exact h _ hk
  · exact h _ hk
  · exact h _ hk
  · exact h _ hk
  · exact h _ hk
  · exact h _ hk
  · exact h _ hk
  · exact h _ hk
  · exact h _ hk
  · exact h _ hk
  · exact h _ hk
  · exact h _ hk
  · exact h _ hk
  · exact h _ hk
  · exact h _ hk
  · exact h _ hk
  · exact h _ hk
  · exact h _ hk
  · exact h _ hk
  · exact h _ hk
  · exact h _ hk
  · exact h _ hk
  · exact h _ hk
  · exact h _ hk
  · exact h _ hk
  · exact h _ hk
  · exact agree_trans (h _ hk) (h_twinLine.resolve_right (by rw [hk]; exact Bool.false_ne_true))
  · exact agree_trans (h _ hk) (h_twinLink.resolve_right (by rw [hk]; exact Bool.false_ne_true))
  · exact agree_trans (h _ hk) (h_twinSync.resolve_right (by rw [hk]; exact Bool.false_ne_true))
  · exact h _ hk
  · exact h _ hk
  · exact h _ hk
  · exact h _ hk
  · exact h _ hk
  · exact h _ hk
  · exact h _ hk
  · exact h _ hk
  · exact h _ hk

/-- An update of a radio front end. -/
theorem Frame.radUpd {r : Region} {f : Radio → Radio} (h : Frame F s x)
    (h_radioService : (∀ d : Radio, (f d).inService = d.inService ∧ (f d).isolated = d.isolated ∧ (f d).barred = d.barred) ∨ F.contains .radioService = true)
    (h_radioLo : (∀ d : Radio, (f d).loLocked = d.loLocked ∧ (f d).centre = d.centre ∧ (f d).lockLost = d.lockLost) ∨ F.contains .radioLo = true)
    (h_radioCarriers : (∀ d : Radio, (f d).carriers = d.carriers) ∨ F.contains .radioCarriers = true)
    (h_radioLines : (∀ d : Radio, (f d).tr = d.tr ∧ (f d).paEn = d.paEn ∧ (f d).paMode = d.paMode ∧ (f d).paBias = d.paBias ∧ (f d).paLowAt = d.paLowAt ∧ (f d).paHighAt = d.paHighAt ∧ (f d).paOff = d.paOff ∧ (f d).timing = d.timing ∧ (f d).trStep = d.trStep) ∨ F.contains .radioLines = true)
    (h_radioSamples : (∀ d : Radio, (f d).rxValidAt = d.rxValidAt ∧ (f d).invalid = d.invalid ∧ (f d).validFrom = d.validFrom ∧ (f d).bad = d.bad) ∨ F.contains .radioSamples = true)
    (h_radioDetector : (∀ d : Radio, (f d).pdet = d.pdet ∧ (f d).pdetLevel = d.pdetLevel ∧ (f d).tripped = d.tripped) ∨ F.contains .radioDetector = true)
    (h_radioCoex : (∀ d : Radio, (f d).coex = d.coex) ∨ F.contains .radioCoex = true)
    (h_radioRecal : (∀ d : Radio, (f d).recal = d.recal) ∨ F.contains .radioRecal = true)
    (h_radioCal : (∀ d : Radio, (f d).corr = d.corr ∧ (f d).winLatch = d.winLatch ∧ (f d).seededRun = d.seededRun) ∨ F.contains .radioCal = true) :
    Frame F s (x.radUpd r f) := by
  intro k hk
  cases k
  · exact h _ hk
  · exact h _ hk
  · exact h _ hk
  · exact h _ hk
  · exact h _ hk
  · exact h _ hk
  · exact h _ hk
  · exact h _ hk
  · exact h _ hk
  · exact h _ hk
  · exact h _ hk
  · exact h _ hk
  · exact h _ hk
  · exact h _ hk
  · exact h _ hk
  · exact h _ hk
  · exact h _ hk
  · exact h _ hk
  · exact h _ hk
  · exact h _ hk
  · exact h _ hk
  · exact h _ hk
  · exact h _ hk
  · refine agree_trans (h _ hk) ?_
    have w := h_radioService.resolve_right (by rw [hk]; exact Bool.false_ne_true)
    cases r <;> simp [agree, State.radUpd, Per3.upd, Per3.set, Per3.get, w]
  · refine agree_trans (h _ hk) ?_
    have w := h_radioLo.resolve_right (by rw [hk]; exact Bool.false_ne_true)
    cases r <;> simp [agree, State.radUpd, Per3.upd, Per3.set, Per3.get, w]
  · refine agree_trans (h _ hk) ?_
    have w := h_radioCarriers.resolve_right (by rw [hk]; exact Bool.false_ne_true)
    cases r <;> simp [agree, State.radUpd, Per3.upd, Per3.set, Per3.get, w]
  · refine agree_trans (h _ hk) ?_
    have w := h_radioLines.resolve_right (by rw [hk]; exact Bool.false_ne_true)
    cases r <;> simp [agree, State.radUpd, Per3.upd, Per3.set, Per3.get, w]
  · refine agree_trans (h _ hk) ?_
    have w := h_radioSamples.resolve_right (by rw [hk]; exact Bool.false_ne_true)
    cases r <;> simp [agree, State.radUpd, Per3.upd, Per3.set, Per3.get, w]
  · refine agree_trans (h _ hk) ?_
    have w := h_radioDetector.resolve_right (by rw [hk]; exact Bool.false_ne_true)
    cases r <;> simp [agree, State.radUpd, Per3.upd, Per3.set, Per3.get, w]
  · refine agree_trans (h _ hk) ?_
    have w := h_radioCoex.resolve_right (by rw [hk]; exact Bool.false_ne_true)
    cases r <;> simp [agree, State.radUpd, Per3.upd, Per3.set, Per3.get, w]
  · refine agree_trans (h _ hk) ?_
    have w := h_radioRecal.resolve_right (by rw [hk]; exact Bool.false_ne_true)
    cases r <;> simp [agree, State.radUpd, Per3.upd, Per3.set, Per3.get, w]
  · refine agree_trans (h _ hk) ?_
    have w := h_radioCal.resolve_right (by rw [hk]; exact Bool.false_ne_true)
    cases r <;> simp [agree, State.radUpd, Per3.upd, Per3.set, Per3.get, w]
  · exact h _ hk
  · exact h _ hk
  · exact h _ hk
  · exact h _ hk
  · exact h _ hk
  · exact h _ hk
  · exact h _ hk
  · exact h _ hk
  · exact h _ hk
  · exact h _ hk
  · exact h _ hk
  · exact h _ hk
  · exact h _ hk
  · exact h _ hk
  · exact h _ hk
  · exact h _ hk
  · exact h _ hk
  · exact h _ hk
  · exact h _ hk
  · exact h _ hk
  · exact h _ hk
  · exact h _ hk
  · exact h _ hk
  · exact h _ hk
  · exact h _ hk
  · exact h _ hk
  · exact h _ hk
  · exact h _ hk
  · exact h _ hk
  · exact h _ hk
  · exact h _ hk
  · exact h _ hk
  · exact h _ hk
  · exact h _ hk
  · exact h _ hk
  · exact h _ hk
  · exact h _ hk
  · exact h _ hk
  · exact h _ hk
  · exact h _ hk
  · exact h _ hk
  · exact h _ hk

/-! The wrapper of every command. -/

theorem Frame.keep {v : State} (h : Frame F v x) : Frame F v (x.keep v) := by
  intro f hf
  have k := h f hf
  cases f <;> first | exact k | rfl

theorem Frame.act {t : Nat} {f : State → State} (hf : ∀ y, Frame F y (f y)) (hn : F.contains .now = true)
    (h : s.act t f = .next u) : Frame F s u := by
  injection h with h
  subst h
  intro g hg
  have k := Frame.keep (hf (s.tick t)) g hg
  cases g <;> first | exact k | (rw [hn] at hg; cases hg)

theorem Frame.go {f : State → State} (hf : ∀ y, Frame F y (f y)) (h : s.go f = .next u) : Frame F s u := by
  injection h with h
  subst h
  exact Frame.keep (hf s)

end Sys2Proof
end

