-- ==== Sys2Proof/Laws/Sparse.lean ====
section
/-! SUPPORT. Laws/Sparse.lean: what reading and writing a sparse map does, and that writing keeps the canonical form. -/

namespace Sys2Proof.Machine

variable {α : Type}

theorem sget_sdel (d : α) (m : Sparse α) (k j : Nat) : sget d (sdel m k) j = if j = k then d else sget d m j := by
  induction m with
  | nil => simp [sdel, sget]
  | cons e m ih =>
    obtain ⟨k', v⟩ := e
    by_cases h : k = k'
    · subst h; by_cases hj : j = k <;> simp_all [sdel, sget]
    · by_cases hj : j = k'
      · subst hj; simp [sdel, sget, h, Ne.symm h]
      · simp [sdel, sget, h, hj, ih]

theorem sget_sins (d : α) (m : Sparse α) (k : Nat) (v : α) (j : Nat) :
    sget d (sins m k v) j = if j = k then v else sget d m j := by
  induction m with
  | nil => simp [sins, sget]
  | cons e m ih =>
    obtain ⟨k', v'⟩ := e
    by_cases h : k < k'
    · simp only [sins, h, if_true, sget]
    · by_cases h2 : k = k'
      · subst h2; by_cases hj : j = k <;> simp [sins, sget, hj]
      · by_cases h3 : j = k' <;> simp [sins, sget, h, h2, h3, ih]
        intro hk; exact absurd hk.symm h2

/-- What a key reads as after a write. -/
theorem sget_sput [DecidableEq α] (d : α) (m : Sparse α) (k : Nat) (v : α) (j : Nat) :
    sget d (sput d m k v) j = if j = k then v else sget d m j := by
  unfold sput; split
  · rename_i h; rw [sget_sdel, h]
  · rw [sget_sins]

@[simp] theorem sget_sput_same [DecidableEq α] (d : α) (m : Sparse α) (k : Nat) (v : α) :
    sget d (sput d m k v) k = v := by rw [sget_sput]; simp

theorem sget_sput_ne [DecidableEq α] (d e : α) (m : Sparse α) {k j : Nat} (h : j ≠ k) (v : α) :
    sget d (sput e m k v) j = sget d m j := by
  unfold sput; split
  · rw [sget_sdel]; simp [h]
  · rw [sget_sins]; simp [h]

/-! The canonical form. -/

/-- Every key lies above a bound. -/
theorem sRising_mono {lo lo' : Nat} (m : Sparse α) (h : sRising (some lo) m = true) (hl : lo' ≤ lo) :
    sRising (some lo') m = true := by
  cases m with
  | nil => rfl
  | cons e m => obtain ⟨k, v⟩ := e; simp only [sRising, Bool.and_eq_true, decide_eq_true_eq] at *; exact ⟨by omega, h.2⟩

theorem sRising_some {lo : Nat} (m : Sparse α) (h : sRising (some lo) m = true) : sRising none m = true := by
  cases m with
  | nil => rfl
  | cons e m => obtain ⟨k, v⟩ := e; simp only [sRising, Bool.and_eq_true] at *; exact h.2

theorem sdel_rising_some {lo : Nat} (m : Sparse α) (k : Nat) (h : sRising (some lo) m = true) :
    sRising (some lo) (sdel m k) = true := by
  induction m generalizing lo with
  | nil => rfl
  | cons e m ih =>
    obtain ⟨k', v⟩ := e
    simp only [sRising, Bool.and_eq_true, decide_eq_true_eq] at h
    by_cases hk : k = k'
    · simp only [sdel, hk, if_true]; exact hk ▸ ih (sRising_mono m h.2 (by omega))
    · simp only [sdel, hk, if_false, sRising, Bool.and_eq_true, decide_eq_true_eq]; exact ⟨h.1, ih h.2⟩

theorem sdel_rising (m : Sparse α) (k : Nat) (h : sRising none m = true) : sRising none (sdel m k) = true := by
  cases m with
  | nil => rfl
  | cons e m =>
    obtain ⟨k', v⟩ := e
    simp only [sRising] at h
    by_cases hk : k = k'
    · simp only [sdel, hk, if_true]; exact hk ▸ sRising_some _ (sdel_rising_some m k h)
    · simp only [sdel, hk, if_false, sRising]; exact sdel_rising_some m k h

theorem sins_rising_some {lo : Nat} (m : Sparse α) (k : Nat) (v : α) (h : sRising (some lo) m = true) (hk : lo < k) :
    sRising (some lo) (sins m k v) = true := by
  induction m generalizing lo with
  | nil => simpa [sins, sRising] using hk
  | cons e m ih =>
    obtain ⟨k', v'⟩ := e
    simp only [sRising, Bool.and_eq_true, decide_eq_true_eq] at h
    unfold sins
    split
    · simp only [sRising, Bool.and_eq_true, decide_eq_true_eq]; exact ⟨hk, by assumption, h.2⟩
    · split
      · rename_i e; subst e; simp only [sRising, Bool.and_eq_true, decide_eq_true_eq]; exact ⟨hk, h.2⟩
      · simp only [sRising, Bool.and_eq_true, decide_eq_true_eq]; exact ⟨h.1, ih h.2 (by omega)⟩

theorem sins_rising (m : Sparse α) (k : Nat) (v : α) (h : sRising none m = true) : sRising none (sins m k v) = true := by
  cases m with
  | nil => rfl
  | cons e m =>
    obtain ⟨k', v'⟩ := e
    simp only [sRising] at h
    unfold sins
    split
    · simp only [sRising, Bool.and_eq_true, decide_eq_true_eq]; exact ⟨by assumption, h⟩
    · split
      · rename_i e; subst e; exact h
      · exact sins_rising_some m k v h (by omega)

/-- Writing keeps the canonical form. -/
theorem sput_wf [DecidableEq α] (d : Nat → α) (m : Sparse α) (k : Nat) (v : α) (h : swf d m = true) :
    swf d (sput (d k) m k v) = true := by
  simp only [swf, Bool.and_eq_true, List.all_eq_true, decide_eq_true_eq] at *
  obtain ⟨hr, hd⟩ := h
  unfold sput
  split
  · refine ⟨sdel_rising m k hr, ?_⟩
    have : ∀ x ∈ sdel m k, x ∈ m := by
      clear hr hd
      induction m with
      | nil => simp [sdel]
      | cons e m ih =>
        obtain ⟨k', v'⟩ := e
        unfold sdel; split
        · intro x hx; exact List.mem_cons_of_mem _ (ih x hx)
        · intro x hx; rcases List.mem_cons.1 hx with rfl | hx
          · exact List.mem_cons_self
          · exact List.mem_cons_of_mem _ (ih x hx)
    exact fun x hx => hd x (this x hx)
  · rename_i hv
    refine ⟨sins_rising m k v hr, ?_⟩
    have : ∀ x ∈ sins m k v, x = (k, v) ∨ x ∈ m := by
      clear hr hd
      induction m with
      | nil => simp [sins]
      | cons e m ih =>
        obtain ⟨k', v'⟩ := e
        unfold sins; split
        · intro x hx; simpa using hx
        · split
          · intro x hx; rcases List.mem_cons.1 hx with rfl | hx
            · exact .inl rfl
            · exact .inr (List.mem_cons_of_mem _ hx)
          · intro x hx; rcases List.mem_cons.1 hx with rfl | hx
            · exact .inr List.mem_cons_self
            · rcases ih x hx with h | h
              · exact .inl h
              · exact .inr (List.mem_cons_of_mem _ h)
    intro x hx
    rcases this x hx with rfl | hm
    · exact hv
    · exact hd x hm

end Sys2Proof.Machine
end

