-- ==== Sys2Proof/Laws/State.lean ====
section
/-! SUPPORT. Laws/State.lean: one lemma for each field of State and each shared update, and what the register file reads as
after a write. -/

namespace Sys2Proof.Machine

variable (s : State)

/-! `State.setRg`: changes only `regs`. -/
@[simp] theorem setRg_now (a : Nat) (w : Word) : (s.setRg a w).now = s.now := rfl
@[simp] theorem setRg_pending (a : Nat) (w : Word) : (s.setRg a w).pending = s.pending := rfl
@[simp] theorem setRg_setAt (a : Nat) (w : Word) : (s.setRg a w).setAt = s.setAt := rfl
@[simp] theorem setRg_readData (a : Nat) (w : Word) : (s.setRg a w).readData = s.readData := rfl
@[simp] theorem setRg_freeCtr (a : Nat) (w : Word) : (s.setRg a w).freeCtr = s.freeCtr := rfl
@[simp] theorem setRg_outbox (a : Nat) (w : Word) : (s.setRg a w).outbox = s.outbox := rfl
@[simp] theorem setRg_loftGiB (a : Nat) (w : Word) : (s.setRg a w).loftGiB = s.loftGiB := rfl
@[simp] theorem setRg_loftReady (a : Nat) (w : Word) : (s.setRg a w).loftReady = s.loftReady := rfl
@[simp] theorem setRg_oos (a : Nat) (w : Word) : (s.setRg a w).oos = s.oos := rfl
@[simp] theorem setRg_oosClusters (a : Nat) (w : Word) : (s.setRg a w).oosClusters = s.oosClusters := rfl
@[simp] theorem setRg_sys (a : Nat) (w : Word) : (s.setRg a w).sys = s.sys := rfl
@[simp] theorem setRg_dieF2c (a : Nat) (w : Word) : (s.setRg a w).dieF2c = s.dieF2c := rfl
@[simp] theorem setRg_dieC2f (a : Nat) (w : Word) : (s.setRg a w).dieC2f = s.dieC2f := rfl
@[simp] theorem setRg_pairs (a : Nat) (w : Word) : (s.setRg a w).pairs = s.pairs := rfl
@[simp] theorem setRg_str (a : Nat) (w : Word) : (s.setRg a w).str = s.str := rfl
@[simp] theorem setRg_radio (a : Nat) (w : Word) : (s.setRg a w).radio = s.radio := rfl
@[simp] theorem setRg_rx (a : Nat) (w : Word) : (s.setRg a w).rx = s.rx := rfl
@[simp] theorem setRg_lanes (a : Nat) (w : Word) : (s.setRg a w).lanes = s.lanes := rfl
@[simp] theorem setRg_tx (a : Nat) (w : Word) : (s.setRg a w).tx = s.tx := rfl
@[simp] theorem setRg_mac (a : Nat) (w : Word) : (s.setRg a w).mac = s.mac := rfl
@[simp] theorem setRg_porch (a : Nat) (w : Word) : (s.setRg a w).porch = s.porch := rfl
@[simp] theorem setRg_dls (a : Nat) (w : Word) : (s.setRg a w).dls = s.dls := rfl
@[simp] theorem setRg_tab (a : Nat) (w : Word) : (s.setRg a w).tab = s.tab := rfl
@[simp] theorem setRg_jobs (a : Nat) (w : Word) : (s.setRg a w).jobs = s.jobs := rfl
@[simp] theorem setRg_hif (a : Nat) (w : Word) : (s.setRg a w).hif = s.hif := rfl
@[simp] theorem setRg_tsu (a : Nat) (w : Word) : (s.setRg a w).tsu = s.tsu := rfl
@[simp] theorem setRg_timers (a : Nat) (w : Word) : (s.setRg a w).timers = s.timers := rfl
@[simp] theorem setRg_irq (a : Nat) (w : Word) : (s.setRg a w).irq = s.irq := rfl
@[simp] theorem setRg_key (a : Nat) (w : Word) : (s.setRg a w).key = s.key := rfl
@[simp] theorem setRg_upd (a : Nat) (w : Word) : (s.setRg a w).upd = s.upd := rfl
@[simp] theorem setRg_twin (a : Nat) (w : Word) : (s.setRg a w).twin = s.twin := rfl
@[simp] theorem setRg_saf (a : Nat) (w : Word) : (s.setRg a w).saf = s.saf := rfl
@[simp] theorem setRg_dbg (a : Nat) (w : Word) : (s.setRg a w).dbg = s.dbg := rfl
@[simp] theorem setRg_cellar (a : Nat) (w : Word) : (s.setRg a w).cellar = s.cellar := rfl

/-! `State.setRf`: changes only `regs`. -/
@[simp] theorem setRf_now (a lo n v : Nat) : (s.setRf a lo n v).now = s.now := rfl
@[simp] theorem setRf_pending (a lo n v : Nat) : (s.setRf a lo n v).pending = s.pending := rfl
@[simp] theorem setRf_setAt (a lo n v : Nat) : (s.setRf a lo n v).setAt = s.setAt := rfl
@[simp] theorem setRf_readData (a lo n v : Nat) : (s.setRf a lo n v).readData = s.readData := rfl
@[simp] theorem setRf_freeCtr (a lo n v : Nat) : (s.setRf a lo n v).freeCtr = s.freeCtr := rfl
@[simp] theorem setRf_outbox (a lo n v : Nat) : (s.setRf a lo n v).outbox = s.outbox := rfl
@[simp] theorem setRf_loftGiB (a lo n v : Nat) : (s.setRf a lo n v).loftGiB = s.loftGiB := rfl
@[simp] theorem setRf_loftReady (a lo n v : Nat) : (s.setRf a lo n v).loftReady = s.loftReady := rfl
@[simp] theorem setRf_oos (a lo n v : Nat) : (s.setRf a lo n v).oos = s.oos := rfl
@[simp] theorem setRf_oosClusters (a lo n v : Nat) : (s.setRf a lo n v).oosClusters = s.oosClusters := rfl
@[simp] theorem setRf_sys (a lo n v : Nat) : (s.setRf a lo n v).sys = s.sys := rfl
@[simp] theorem setRf_dieF2c (a lo n v : Nat) : (s.setRf a lo n v).dieF2c = s.dieF2c := rfl
@[simp] theorem setRf_dieC2f (a lo n v : Nat) : (s.setRf a lo n v).dieC2f = s.dieC2f := rfl
@[simp] theorem setRf_pairs (a lo n v : Nat) : (s.setRf a lo n v).pairs = s.pairs := rfl
@[simp] theorem setRf_str (a lo n v : Nat) : (s.setRf a lo n v).str = s.str := rfl
@[simp] theorem setRf_radio (a lo n v : Nat) : (s.setRf a lo n v).radio = s.radio := rfl
@[simp] theorem setRf_rx (a lo n v : Nat) : (s.setRf a lo n v).rx = s.rx := rfl
@[simp] theorem setRf_lanes (a lo n v : Nat) : (s.setRf a lo n v).lanes = s.lanes := rfl
@[simp] theorem setRf_tx (a lo n v : Nat) : (s.setRf a lo n v).tx = s.tx := rfl
@[simp] theorem setRf_mac (a lo n v : Nat) : (s.setRf a lo n v).mac = s.mac := rfl
@[simp] theorem setRf_porch (a lo n v : Nat) : (s.setRf a lo n v).porch = s.porch := rfl
@[simp] theorem setRf_dls (a lo n v : Nat) : (s.setRf a lo n v).dls = s.dls := rfl
@[simp] theorem setRf_tab (a lo n v : Nat) : (s.setRf a lo n v).tab = s.tab := rfl
@[simp] theorem setRf_jobs (a lo n v : Nat) : (s.setRf a lo n v).jobs = s.jobs := rfl
@[simp] theorem setRf_hif (a lo n v : Nat) : (s.setRf a lo n v).hif = s.hif := rfl
@[simp] theorem setRf_tsu (a lo n v : Nat) : (s.setRf a lo n v).tsu = s.tsu := rfl
@[simp] theorem setRf_timers (a lo n v : Nat) : (s.setRf a lo n v).timers = s.timers := rfl
@[simp] theorem setRf_irq (a lo n v : Nat) : (s.setRf a lo n v).irq = s.irq := rfl
@[simp] theorem setRf_key (a lo n v : Nat) : (s.setRf a lo n v).key = s.key := rfl
@[simp] theorem setRf_upd (a lo n v : Nat) : (s.setRf a lo n v).upd = s.upd := rfl
@[simp] theorem setRf_twin (a lo n v : Nat) : (s.setRf a lo n v).twin = s.twin := rfl
@[simp] theorem setRf_saf (a lo n v : Nat) : (s.setRf a lo n v).saf = s.saf := rfl
@[simp] theorem setRf_dbg (a lo n v : Nat) : (s.setRf a lo n v).dbg = s.dbg := rfl
@[simp] theorem setRf_cellar (a lo n v : Nat) : (s.setRf a lo n v).cellar = s.cellar := rfl

/-! `State.stk`: changes only `regs`. -/
@[simp] theorem stk_now (a i : Nat) : (s.stk a i).now = s.now := rfl
@[simp] theorem stk_pending (a i : Nat) : (s.stk a i).pending = s.pending := rfl
@[simp] theorem stk_readData (a i : Nat) : (s.stk a i).readData = s.readData := rfl
@[simp] theorem stk_freeCtr (a i : Nat) : (s.stk a i).freeCtr = s.freeCtr := rfl
@[simp] theorem stk_outbox (a i : Nat) : (s.stk a i).outbox = s.outbox := rfl
@[simp] theorem stk_loftGiB (a i : Nat) : (s.stk a i).loftGiB = s.loftGiB := rfl
@[simp] theorem stk_loftReady (a i : Nat) : (s.stk a i).loftReady = s.loftReady := rfl
@[simp] theorem stk_oos (a i : Nat) : (s.stk a i).oos = s.oos := rfl
@[simp] theorem stk_oosClusters (a i : Nat) : (s.stk a i).oosClusters = s.oosClusters := rfl
@[simp] theorem stk_sys (a i : Nat) : (s.stk a i).sys = s.sys := rfl
@[simp] theorem stk_dieF2c (a i : Nat) : (s.stk a i).dieF2c = s.dieF2c := rfl
@[simp] theorem stk_dieC2f (a i : Nat) : (s.stk a i).dieC2f = s.dieC2f := rfl
@[simp] theorem stk_pairs (a i : Nat) : (s.stk a i).pairs = s.pairs := rfl
@[simp] theorem stk_str (a i : Nat) : (s.stk a i).str = s.str := rfl
@[simp] theorem stk_radio (a i : Nat) : (s.stk a i).radio = s.radio := rfl
@[simp] theorem stk_rx (a i : Nat) : (s.stk a i).rx = s.rx := rfl
@[simp] theorem stk_lanes (a i : Nat) : (s.stk a i).lanes = s.lanes := rfl
@[simp] theorem stk_tx (a i : Nat) : (s.stk a i).tx = s.tx := rfl
@[simp] theorem stk_mac (a i : Nat) : (s.stk a i).mac = s.mac := rfl
@[simp] theorem stk_porch (a i : Nat) : (s.stk a i).porch = s.porch := rfl
@[simp] theorem stk_dls (a i : Nat) : (s.stk a i).dls = s.dls := rfl
@[simp] theorem stk_tab (a i : Nat) : (s.stk a i).tab = s.tab := rfl
@[simp] theorem stk_jobs (a i : Nat) : (s.stk a i).jobs = s.jobs := rfl
@[simp] theorem stk_hif (a i : Nat) : (s.stk a i).hif = s.hif := rfl
@[simp] theorem stk_tsu (a i : Nat) : (s.stk a i).tsu = s.tsu := rfl
@[simp] theorem stk_timers (a i : Nat) : (s.stk a i).timers = s.timers := rfl
@[simp] theorem stk_irq (a i : Nat) : (s.stk a i).irq = s.irq := rfl
@[simp] theorem stk_key (a i : Nat) : (s.stk a i).key = s.key := rfl
@[simp] theorem stk_upd (a i : Nat) : (s.stk a i).upd = s.upd := rfl
@[simp] theorem stk_twin (a i : Nat) : (s.stk a i).twin = s.twin := rfl
@[simp] theorem stk_saf (a i : Nat) : (s.stk a i).saf = s.saf := rfl
@[simp] theorem stk_dbg (a i : Nat) : (s.stk a i).dbg = s.dbg := rfl
@[simp] theorem stk_cellar (a i : Nat) : (s.stk a i).cellar = s.cellar := rfl

/-! `State.clrb`: changes only `regs`. -/
@[simp] theorem clrb_now (a i : Nat) : (s.clrb a i).now = s.now := rfl
@[simp] theorem clrb_pending (a i : Nat) : (s.clrb a i).pending = s.pending := rfl
@[simp] theorem clrb_setAt (a i : Nat) : (s.clrb a i).setAt = s.setAt := rfl
@[simp] theorem clrb_readData (a i : Nat) : (s.clrb a i).readData = s.readData := rfl
@[simp] theorem clrb_freeCtr (a i : Nat) : (s.clrb a i).freeCtr = s.freeCtr := rfl
@[simp] theorem clrb_outbox (a i : Nat) : (s.clrb a i).outbox = s.outbox := rfl
@[simp] theorem clrb_loftGiB (a i : Nat) : (s.clrb a i).loftGiB = s.loftGiB := rfl
@[simp] theorem clrb_loftReady (a i : Nat) : (s.clrb a i).loftReady = s.loftReady := rfl
@[simp] theorem clrb_oos (a i : Nat) : (s.clrb a i).oos = s.oos := rfl
@[simp] theorem clrb_oosClusters (a i : Nat) : (s.clrb a i).oosClusters = s.oosClusters := rfl
@[simp] theorem clrb_sys (a i : Nat) : (s.clrb a i).sys = s.sys := rfl
@[simp] theorem clrb_dieF2c (a i : Nat) : (s.clrb a i).dieF2c = s.dieF2c := rfl
@[simp] theorem clrb_dieC2f (a i : Nat) : (s.clrb a i).dieC2f = s.dieC2f := rfl
@[simp] theorem clrb_pairs (a i : Nat) : (s.clrb a i).pairs = s.pairs := rfl
@[simp] theorem clrb_str (a i : Nat) : (s.clrb a i).str = s.str := rfl
@[simp] theorem clrb_radio (a i : Nat) : (s.clrb a i).radio = s.radio := rfl
@[simp] theorem clrb_rx (a i : Nat) : (s.clrb a i).rx = s.rx := rfl
@[simp] theorem clrb_lanes (a i : Nat) : (s.clrb a i).lanes = s.lanes := rfl
@[simp] theorem clrb_tx (a i : Nat) : (s.clrb a i).tx = s.tx := rfl
@[simp] theorem clrb_mac (a i : Nat) : (s.clrb a i).mac = s.mac := rfl
@[simp] theorem clrb_porch (a i : Nat) : (s.clrb a i).porch = s.porch := rfl
@[simp] theorem clrb_dls (a i : Nat) : (s.clrb a i).dls = s.dls := rfl
@[simp] theorem clrb_tab (a i : Nat) : (s.clrb a i).tab = s.tab := rfl
@[simp] theorem clrb_jobs (a i : Nat) : (s.clrb a i).jobs = s.jobs := rfl
@[simp] theorem clrb_hif (a i : Nat) : (s.clrb a i).hif = s.hif := rfl
@[simp] theorem clrb_tsu (a i : Nat) : (s.clrb a i).tsu = s.tsu := rfl
@[simp] theorem clrb_timers (a i : Nat) : (s.clrb a i).timers = s.timers := rfl
@[simp] theorem clrb_irq (a i : Nat) : (s.clrb a i).irq = s.irq := rfl
@[simp] theorem clrb_key (a i : Nat) : (s.clrb a i).key = s.key := rfl
@[simp] theorem clrb_upd (a i : Nat) : (s.clrb a i).upd = s.upd := rfl
@[simp] theorem clrb_twin (a i : Nat) : (s.clrb a i).twin = s.twin := rfl
@[simp] theorem clrb_saf (a i : Nat) : (s.clrb a i).saf = s.saf := rfl
@[simp] theorem clrb_dbg (a i : Nat) : (s.clrb a i).dbg = s.dbg := rfl
@[simp] theorem clrb_cellar (a i : Nat) : (s.clrb a i).cellar = s.cellar := rfl

/-! `State.setb`: changes only `regs`. -/
@[simp] theorem setb_now (a i : Nat) (b : Bool) : (s.setb a i b).now = s.now := rfl
@[simp] theorem setb_pending (a i : Nat) (b : Bool) : (s.setb a i b).pending = s.pending := rfl
@[simp] theorem setb_setAt (a i : Nat) (b : Bool) : (s.setb a i b).setAt = s.setAt := rfl
@[simp] theorem setb_readData (a i : Nat) (b : Bool) : (s.setb a i b).readData = s.readData := rfl
@[simp] theorem setb_freeCtr (a i : Nat) (b : Bool) : (s.setb a i b).freeCtr = s.freeCtr := rfl
@[simp] theorem setb_outbox (a i : Nat) (b : Bool) : (s.setb a i b).outbox = s.outbox := rfl
@[simp] theorem setb_loftGiB (a i : Nat) (b : Bool) : (s.setb a i b).loftGiB = s.loftGiB := rfl
@[simp] theorem setb_loftReady (a i : Nat) (b : Bool) : (s.setb a i b).loftReady = s.loftReady := rfl
@[simp] theorem setb_oos (a i : Nat) (b : Bool) : (s.setb a i b).oos = s.oos := rfl
@[simp] theorem setb_oosClusters (a i : Nat) (b : Bool) : (s.setb a i b).oosClusters = s.oosClusters := rfl
@[simp] theorem setb_sys (a i : Nat) (b : Bool) : (s.setb a i b).sys = s.sys := rfl
@[simp] theorem setb_dieF2c (a i : Nat) (b : Bool) : (s.setb a i b).dieF2c = s.dieF2c := rfl
@[simp] theorem setb_dieC2f (a i : Nat) (b : Bool) : (s.setb a i b).dieC2f = s.dieC2f := rfl
@[simp] theorem setb_pairs (a i : Nat) (b : Bool) : (s.setb a i b).pairs = s.pairs := rfl
@[simp] theorem setb_str (a i : Nat) (b : Bool) : (s.setb a i b).str = s.str := rfl
@[simp] theorem setb_radio (a i : Nat) (b : Bool) : (s.setb a i b).radio = s.radio := rfl
@[simp] theorem setb_rx (a i : Nat) (b : Bool) : (s.setb a i b).rx = s.rx := rfl
@[simp] theorem setb_lanes (a i : Nat) (b : Bool) : (s.setb a i b).lanes = s.lanes := rfl
@[simp] theorem setb_tx (a i : Nat) (b : Bool) : (s.setb a i b).tx = s.tx := rfl
@[simp] theorem setb_mac (a i : Nat) (b : Bool) : (s.setb a i b).mac = s.mac := rfl
@[simp] theorem setb_porch (a i : Nat) (b : Bool) : (s.setb a i b).porch = s.porch := rfl
@[simp] theorem setb_dls (a i : Nat) (b : Bool) : (s.setb a i b).dls = s.dls := rfl
@[simp] theorem setb_tab (a i : Nat) (b : Bool) : (s.setb a i b).tab = s.tab := rfl
@[simp] theorem setb_jobs (a i : Nat) (b : Bool) : (s.setb a i b).jobs = s.jobs := rfl
@[simp] theorem setb_hif (a i : Nat) (b : Bool) : (s.setb a i b).hif = s.hif := rfl
@[simp] theorem setb_tsu (a i : Nat) (b : Bool) : (s.setb a i b).tsu = s.tsu := rfl
@[simp] theorem setb_timers (a i : Nat) (b : Bool) : (s.setb a i b).timers = s.timers := rfl
@[simp] theorem setb_irq (a i : Nat) (b : Bool) : (s.setb a i b).irq = s.irq := rfl
@[simp] theorem setb_key (a i : Nat) (b : Bool) : (s.setb a i b).key = s.key := rfl
@[simp] theorem setb_upd (a i : Nat) (b : Bool) : (s.setb a i b).upd = s.upd := rfl
@[simp] theorem setb_twin (a i : Nat) (b : Bool) : (s.setb a i b).twin = s.twin := rfl
@[simp] theorem setb_saf (a i : Nat) (b : Bool) : (s.setb a i b).saf = s.saf := rfl
@[simp] theorem setb_dbg (a i : Nat) (b : Bool) : (s.setb a i b).dbg = s.dbg := rfl
@[simp] theorem setb_cellar (a i : Nat) (b : Bool) : (s.setb a i b).cellar = s.cellar := rfl

/-! `State.cntBy`: changes only `regs`. -/
@[simp] theorem cntBy_now (a n : Nat) : (s.cntBy a n).now = s.now := rfl
@[simp] theorem cntBy_pending (a n : Nat) : (s.cntBy a n).pending = s.pending := rfl
@[simp] theorem cntBy_setAt (a n : Nat) : (s.cntBy a n).setAt = s.setAt := rfl
@[simp] theorem cntBy_readData (a n : Nat) : (s.cntBy a n).readData = s.readData := rfl
@[simp] theorem cntBy_freeCtr (a n : Nat) : (s.cntBy a n).freeCtr = s.freeCtr := rfl
@[simp] theorem cntBy_outbox (a n : Nat) : (s.cntBy a n).outbox = s.outbox := rfl
@[simp] theorem cntBy_loftGiB (a n : Nat) : (s.cntBy a n).loftGiB = s.loftGiB := rfl
@[simp] theorem cntBy_loftReady (a n : Nat) : (s.cntBy a n).loftReady = s.loftReady := rfl
@[simp] theorem cntBy_oos (a n : Nat) : (s.cntBy a n).oos = s.oos := rfl
@[simp] theorem cntBy_oosClusters (a n : Nat) : (s.cntBy a n).oosClusters = s.oosClusters := rfl
@[simp] theorem cntBy_sys (a n : Nat) : (s.cntBy a n).sys = s.sys := rfl
@[simp] theorem cntBy_dieF2c (a n : Nat) : (s.cntBy a n).dieF2c = s.dieF2c := rfl
@[simp] theorem cntBy_dieC2f (a n : Nat) : (s.cntBy a n).dieC2f = s.dieC2f := rfl
@[simp] theorem cntBy_pairs (a n : Nat) : (s.cntBy a n).pairs = s.pairs := rfl
@[simp] theorem cntBy_str (a n : Nat) : (s.cntBy a n).str = s.str := rfl
@[simp] theorem cntBy_radio (a n : Nat) : (s.cntBy a n).radio = s.radio := rfl
@[simp] theorem cntBy_rx (a n : Nat) : (s.cntBy a n).rx = s.rx := rfl
@[simp] theorem cntBy_lanes (a n : Nat) : (s.cntBy a n).lanes = s.lanes := rfl
@[simp] theorem cntBy_tx (a n : Nat) : (s.cntBy a n).tx = s.tx := rfl
@[simp] theorem cntBy_mac (a n : Nat) : (s.cntBy a n).mac = s.mac := rfl
@[simp] theorem cntBy_porch (a n : Nat) : (s.cntBy a n).porch = s.porch := rfl
@[simp] theorem cntBy_dls (a n : Nat) : (s.cntBy a n).dls = s.dls := rfl
@[simp] theorem cntBy_tab (a n : Nat) : (s.cntBy a n).tab = s.tab := rfl
@[simp] theorem cntBy_jobs (a n : Nat) : (s.cntBy a n).jobs = s.jobs := rfl
@[simp] theorem cntBy_hif (a n : Nat) : (s.cntBy a n).hif = s.hif := rfl
@[simp] theorem cntBy_tsu (a n : Nat) : (s.cntBy a n).tsu = s.tsu := rfl
@[simp] theorem cntBy_timers (a n : Nat) : (s.cntBy a n).timers = s.timers := rfl
@[simp] theorem cntBy_irq (a n : Nat) : (s.cntBy a n).irq = s.irq := rfl
@[simp] theorem cntBy_key (a n : Nat) : (s.cntBy a n).key = s.key := rfl
@[simp] theorem cntBy_upd (a n : Nat) : (s.cntBy a n).upd = s.upd := rfl
@[simp] theorem cntBy_twin (a n : Nat) : (s.cntBy a n).twin = s.twin := rfl
@[simp] theorem cntBy_saf (a n : Nat) : (s.cntBy a n).saf = s.saf := rfl
@[simp] theorem cntBy_dbg (a n : Nat) : (s.cntBy a n).dbg = s.dbg := rfl
@[simp] theorem cntBy_cellar (a n : Nat) : (s.cntBy a n).cellar = s.cellar := rfl

/-! `State.cnt`: changes only `regs`. -/
@[simp] theorem cnt_now (a : Nat) : (s.cnt a).now = s.now := rfl
@[simp] theorem cnt_pending (a : Nat) : (s.cnt a).pending = s.pending := rfl
@[simp] theorem cnt_setAt (a : Nat) : (s.cnt a).setAt = s.setAt := rfl
@[simp] theorem cnt_readData (a : Nat) : (s.cnt a).readData = s.readData := rfl
@[simp] theorem cnt_freeCtr (a : Nat) : (s.cnt a).freeCtr = s.freeCtr := rfl
@[simp] theorem cnt_outbox (a : Nat) : (s.cnt a).outbox = s.outbox := rfl
@[simp] theorem cnt_loftGiB (a : Nat) : (s.cnt a).loftGiB = s.loftGiB := rfl
@[simp] theorem cnt_loftReady (a : Nat) : (s.cnt a).loftReady = s.loftReady := rfl
@[simp] theorem cnt_oos (a : Nat) : (s.cnt a).oos = s.oos := rfl
@[simp] theorem cnt_oosClusters (a : Nat) : (s.cnt a).oosClusters = s.oosClusters := rfl
@[simp] theorem cnt_sys (a : Nat) : (s.cnt a).sys = s.sys := rfl
@[simp] theorem cnt_dieF2c (a : Nat) : (s.cnt a).dieF2c = s.dieF2c := rfl
@[simp] theorem cnt_dieC2f (a : Nat) : (s.cnt a).dieC2f = s.dieC2f := rfl
@[simp] theorem cnt_pairs (a : Nat) : (s.cnt a).pairs = s.pairs := rfl
@[simp] theorem cnt_str (a : Nat) : (s.cnt a).str = s.str := rfl
@[simp] theorem cnt_radio (a : Nat) : (s.cnt a).radio = s.radio := rfl
@[simp] theorem cnt_rx (a : Nat) : (s.cnt a).rx = s.rx := rfl
@[simp] theorem cnt_lanes (a : Nat) : (s.cnt a).lanes = s.lanes := rfl
@[simp] theorem cnt_tx (a : Nat) : (s.cnt a).tx = s.tx := rfl
@[simp] theorem cnt_mac (a : Nat) : (s.cnt a).mac = s.mac := rfl
@[simp] theorem cnt_porch (a : Nat) : (s.cnt a).porch = s.porch := rfl
@[simp] theorem cnt_dls (a : Nat) : (s.cnt a).dls = s.dls := rfl
@[simp] theorem cnt_tab (a : Nat) : (s.cnt a).tab = s.tab := rfl
@[simp] theorem cnt_jobs (a : Nat) : (s.cnt a).jobs = s.jobs := rfl
@[simp] theorem cnt_hif (a : Nat) : (s.cnt a).hif = s.hif := rfl
@[simp] theorem cnt_tsu (a : Nat) : (s.cnt a).tsu = s.tsu := rfl
@[simp] theorem cnt_timers (a : Nat) : (s.cnt a).timers = s.timers := rfl
@[simp] theorem cnt_irq (a : Nat) : (s.cnt a).irq = s.irq := rfl
@[simp] theorem cnt_key (a : Nat) : (s.cnt a).key = s.key := rfl
@[simp] theorem cnt_upd (a : Nat) : (s.cnt a).upd = s.upd := rfl
@[simp] theorem cnt_twin (a : Nat) : (s.cnt a).twin = s.twin := rfl
@[simp] theorem cnt_saf (a : Nat) : (s.cnt a).saf = s.saf := rfl
@[simp] theorem cnt_dbg (a : Nat) : (s.cnt a).dbg = s.dbg := rfl
@[simp] theorem cnt_cellar (a : Nat) : (s.cnt a).cellar = s.cellar := rfl

/-! `State.event`: changes only `irq`. -/
@[simp] theorem event_now (e : Nat) : (s.event e).now = s.now := rfl
@[simp] theorem event_pending (e : Nat) : (s.event e).pending = s.pending := rfl
@[simp] theorem event_regs (e : Nat) : (s.event e).regs = s.regs := rfl
@[simp] theorem event_setAt (e : Nat) : (s.event e).setAt = s.setAt := rfl
@[simp] theorem event_readData (e : Nat) : (s.event e).readData = s.readData := rfl
@[simp] theorem event_freeCtr (e : Nat) : (s.event e).freeCtr = s.freeCtr := rfl
@[simp] theorem event_outbox (e : Nat) : (s.event e).outbox = s.outbox := rfl
@[simp] theorem event_loftGiB (e : Nat) : (s.event e).loftGiB = s.loftGiB := rfl
@[simp] theorem event_loftReady (e : Nat) : (s.event e).loftReady = s.loftReady := rfl
@[simp] theorem event_oos (e : Nat) : (s.event e).oos = s.oos := rfl
@[simp] theorem event_oosClusters (e : Nat) : (s.event e).oosClusters = s.oosClusters := rfl
@[simp] theorem event_sys (e : Nat) : (s.event e).sys = s.sys := rfl
@[simp] theorem event_dieF2c (e : Nat) : (s.event e).dieF2c = s.dieF2c := rfl
@[simp] theorem event_dieC2f (e : Nat) : (s.event e).dieC2f = s.dieC2f := rfl
@[simp] theorem event_pairs (e : Nat) : (s.event e).pairs = s.pairs := rfl
@[simp] theorem event_str (e : Nat) : (s.event e).str = s.str := rfl
@[simp] theorem event_radio (e : Nat) : (s.event e).radio = s.radio := rfl
@[simp] theorem event_rx (e : Nat) : (s.event e).rx = s.rx := rfl
@[simp] theorem event_lanes (e : Nat) : (s.event e).lanes = s.lanes := rfl
@[simp] theorem event_tx (e : Nat) : (s.event e).tx = s.tx := rfl
@[simp] theorem event_mac (e : Nat) : (s.event e).mac = s.mac := rfl
@[simp] theorem event_porch (e : Nat) : (s.event e).porch = s.porch := rfl
@[simp] theorem event_dls (e : Nat) : (s.event e).dls = s.dls := rfl
@[simp] theorem event_tab (e : Nat) : (s.event e).tab = s.tab := rfl
@[simp] theorem event_jobs (e : Nat) : (s.event e).jobs = s.jobs := rfl
@[simp] theorem event_hif (e : Nat) : (s.event e).hif = s.hif := rfl
@[simp] theorem event_tsu (e : Nat) : (s.event e).tsu = s.tsu := rfl
@[simp] theorem event_timers (e : Nat) : (s.event e).timers = s.timers := rfl
@[simp] theorem event_key (e : Nat) : (s.event e).key = s.key := rfl
@[simp] theorem event_upd (e : Nat) : (s.event e).upd = s.upd := rfl
@[simp] theorem event_twin (e : Nat) : (s.event e).twin = s.twin := rfl
@[simp] theorem event_saf (e : Nat) : (s.event e).saf = s.saf := rfl
@[simp] theorem event_dbg (e : Nat) : (s.event e).dbg = s.dbg := rfl
@[simp] theorem event_cellar (e : Nat) : (s.event e).cellar = s.cellar := rfl

/-! `State.out`: changes only `outbox`. -/
@[simp] theorem out_now (o : Output) : (s.out o).now = s.now := rfl
@[simp] theorem out_pending (o : Output) : (s.out o).pending = s.pending := rfl
@[simp] theorem out_regs (o : Output) : (s.out o).regs = s.regs := rfl
@[simp] theorem out_setAt (o : Output) : (s.out o).setAt = s.setAt := rfl
@[simp] theorem out_readData (o : Output) : (s.out o).readData = s.readData := rfl
@[simp] theorem out_freeCtr (o : Output) : (s.out o).freeCtr = s.freeCtr := rfl
@[simp] theorem out_loftGiB (o : Output) : (s.out o).loftGiB = s.loftGiB := rfl
@[simp] theorem out_loftReady (o : Output) : (s.out o).loftReady = s.loftReady := rfl
@[simp] theorem out_oos (o : Output) : (s.out o).oos = s.oos := rfl
@[simp] theorem out_oosClusters (o : Output) : (s.out o).oosClusters = s.oosClusters := rfl
@[simp] theorem out_sys (o : Output) : (s.out o).sys = s.sys := rfl
@[simp] theorem out_dieF2c (o : Output) : (s.out o).dieF2c = s.dieF2c := rfl
@[simp] theorem out_dieC2f (o : Output) : (s.out o).dieC2f = s.dieC2f := rfl
@[simp] theorem out_pairs (o : Output) : (s.out o).pairs = s.pairs := rfl
@[simp] theorem out_str (o : Output) : (s.out o).str = s.str := rfl
@[simp] theorem out_radio (o : Output) : (s.out o).radio = s.radio := rfl
@[simp] theorem out_rx (o : Output) : (s.out o).rx = s.rx := rfl
@[simp] theorem out_lanes (o : Output) : (s.out o).lanes = s.lanes := rfl
@[simp] theorem out_tx (o : Output) : (s.out o).tx = s.tx := rfl
@[simp] theorem out_mac (o : Output) : (s.out o).mac = s.mac := rfl
@[simp] theorem out_porch (o : Output) : (s.out o).porch = s.porch := rfl
@[simp] theorem out_dls (o : Output) : (s.out o).dls = s.dls := rfl
@[simp] theorem out_tab (o : Output) : (s.out o).tab = s.tab := rfl
@[simp] theorem out_jobs (o : Output) : (s.out o).jobs = s.jobs := rfl
@[simp] theorem out_hif (o : Output) : (s.out o).hif = s.hif := rfl
@[simp] theorem out_tsu (o : Output) : (s.out o).tsu = s.tsu := rfl
@[simp] theorem out_timers (o : Output) : (s.out o).timers = s.timers := rfl
@[simp] theorem out_irq (o : Output) : (s.out o).irq = s.irq := rfl
@[simp] theorem out_key (o : Output) : (s.out o).key = s.key := rfl
@[simp] theorem out_upd (o : Output) : (s.out o).upd = s.upd := rfl
@[simp] theorem out_twin (o : Output) : (s.out o).twin = s.twin := rfl
@[simp] theorem out_saf (o : Output) : (s.out o).saf = s.saf := rfl
@[simp] theorem out_dbg (o : Output) : (s.out o).dbg = s.dbg := rfl
@[simp] theorem out_cellar (o : Output) : (s.out o).cellar = s.cellar := rfl

/-! `State.used`: changes only `freeCtr`. -/
@[simp] theorem used_now : (s.used).now = s.now := rfl
@[simp] theorem used_pending : (s.used).pending = s.pending := rfl
@[simp] theorem used_regs : (s.used).regs = s.regs := rfl
@[simp] theorem used_setAt : (s.used).setAt = s.setAt := rfl
@[simp] theorem used_readData : (s.used).readData = s.readData := rfl
@[simp] theorem used_outbox : (s.used).outbox = s.outbox := rfl
@[simp] theorem used_loftGiB : (s.used).loftGiB = s.loftGiB := rfl
@[simp] theorem used_loftReady : (s.used).loftReady = s.loftReady := rfl
@[simp] theorem used_oos : (s.used).oos = s.oos := rfl
@[simp] theorem used_oosClusters : (s.used).oosClusters = s.oosClusters := rfl
@[simp] theorem used_sys : (s.used).sys = s.sys := rfl
@[simp] theorem used_dieF2c : (s.used).dieF2c = s.dieF2c := rfl
@[simp] theorem used_dieC2f : (s.used).dieC2f = s.dieC2f := rfl
@[simp] theorem used_pairs : (s.used).pairs = s.pairs := rfl
@[simp] theorem used_str : (s.used).str = s.str := rfl
@[simp] theorem used_radio : (s.used).radio = s.radio := rfl
@[simp] theorem used_rx : (s.used).rx = s.rx := rfl
@[simp] theorem used_lanes : (s.used).lanes = s.lanes := rfl
@[simp] theorem used_tx : (s.used).tx = s.tx := rfl
@[simp] theorem used_mac : (s.used).mac = s.mac := rfl
@[simp] theorem used_porch : (s.used).porch = s.porch := rfl
@[simp] theorem used_dls : (s.used).dls = s.dls := rfl
@[simp] theorem used_tab : (s.used).tab = s.tab := rfl
@[simp] theorem used_jobs : (s.used).jobs = s.jobs := rfl
@[simp] theorem used_hif : (s.used).hif = s.hif := rfl
@[simp] theorem used_tsu : (s.used).tsu = s.tsu := rfl
@[simp] theorem used_timers : (s.used).timers = s.timers := rfl
@[simp] theorem used_irq : (s.used).irq = s.irq := rfl
@[simp] theorem used_key : (s.used).key = s.key := rfl
@[simp] theorem used_upd : (s.used).upd = s.upd := rfl
@[simp] theorem used_twin : (s.used).twin = s.twin := rfl
@[simp] theorem used_saf : (s.used).saf = s.saf := rfl
@[simp] theorem used_dbg : (s.used).dbg = s.dbg := rfl
@[simp] theorem used_cellar : (s.used).cellar = s.cellar := rfl

@[simp] theorem event_events (e : Nat) : (s.event e).irq.events = s.irq.events ++ (if s.hears e then [e] else []) := rfl
@[simp] theorem out_outbox (o : Output) : (s.out o).outbox = s.outbox ++ [o] := rfl
@[simp] theorem used_freeCtr : s.used.freeCtr = s.freeCtr + 1 := rfl

/-! The register file. -/

/-- What a register reads as after a write of another or of the same. -/
theorem rg_setRg (a : Nat) (w : Word) (b : Nat) : (s.setRg a w).rg b = if b = a then w else s.rg b := by
  by_cases h : b = a
  · subst h; simp [State.rg, State.setRg]
  · simp only [State.rg, State.setRg, h, if_false]; exact sget_sput_ne _ _ _ h _

@[simp] theorem rg_setRg_same (a : Nat) (w : Word) : (s.setRg a w).rg a = w := by simp [rg_setRg]

theorem rg_setRg_ne {a b : Nat} (h : b ≠ a) (w : Word) : (s.setRg a w).rg b = s.rg b := by simp [rg_setRg, h]

@[simp] theorem rg_event (e b : Nat) : (s.event e).rg b = s.rg b := rfl
@[simp] theorem rg_out (o : Output) (b : Nat) : (s.out o).rg b = s.rg b := rfl
@[simp] theorem rg_used (b : Nat) : s.used.rg b = s.rg b := rfl

/-- A register write keeps the register file's canonical form. -/
theorem setRg_wf (a : Nat) (w : Word) (h : swf regReset s.regs = true) : swf regReset (s.setRg a w).regs = true :=
  sput_wf regReset s.regs a w h

/-! The wrapper of every command: it leaves the queue and never turns the clock back. -/

@[simp] theorem keep_regs (v : State) : (s.keep v).regs = s.regs := rfl
@[simp] theorem keep_setAt (v : State) : (s.keep v).setAt = s.setAt := rfl
@[simp] theorem keep_readData (v : State) : (s.keep v).readData = s.readData := rfl
@[simp] theorem keep_freeCtr (v : State) : (s.keep v).freeCtr = s.freeCtr := rfl
@[simp] theorem keep_outbox (v : State) : (s.keep v).outbox = s.outbox := rfl
@[simp] theorem keep_loftGiB (v : State) : (s.keep v).loftGiB = s.loftGiB := rfl
@[simp] theorem keep_loftReady (v : State) : (s.keep v).loftReady = s.loftReady := rfl
@[simp] theorem keep_oos (v : State) : (s.keep v).oos = s.oos := rfl
@[simp] theorem keep_oosClusters (v : State) : (s.keep v).oosClusters = s.oosClusters := rfl
@[simp] theorem keep_sys (v : State) : (s.keep v).sys = s.sys := rfl
@[simp] theorem keep_dieF2c (v : State) : (s.keep v).dieF2c = s.dieF2c := rfl
@[simp] theorem keep_dieC2f (v : State) : (s.keep v).dieC2f = s.dieC2f := rfl
@[simp] theorem keep_pairs (v : State) : (s.keep v).pairs = s.pairs := rfl
@[simp] theorem keep_str (v : State) : (s.keep v).str = s.str := rfl
@[simp] theorem keep_radio (v : State) : (s.keep v).radio = s.radio := rfl
@[simp] theorem keep_rx (v : State) : (s.keep v).rx = s.rx := rfl
@[simp] theorem keep_lanes (v : State) : (s.keep v).lanes = s.lanes := rfl
@[simp] theorem keep_tx (v : State) : (s.keep v).tx = s.tx := rfl
@[simp] theorem keep_mac (v : State) : (s.keep v).mac = s.mac := rfl
@[simp] theorem keep_porch (v : State) : (s.keep v).porch = s.porch := rfl
@[simp] theorem keep_dls (v : State) : (s.keep v).dls = s.dls := rfl
@[simp] theorem keep_tab (v : State) : (s.keep v).tab = s.tab := rfl
@[simp] theorem keep_jobs (v : State) : (s.keep v).jobs = s.jobs := rfl
@[simp] theorem keep_hif (v : State) : (s.keep v).hif = s.hif := rfl
@[simp] theorem keep_tsu (v : State) : (s.keep v).tsu = s.tsu := rfl
@[simp] theorem keep_timers (v : State) : (s.keep v).timers = s.timers := rfl
@[simp] theorem keep_irq (v : State) : (s.keep v).irq = s.irq := rfl
@[simp] theorem keep_key (v : State) : (s.keep v).key = s.key := rfl
@[simp] theorem keep_upd (v : State) : (s.keep v).upd = s.upd := rfl
@[simp] theorem keep_twin (v : State) : (s.keep v).twin = s.twin := rfl
@[simp] theorem keep_saf (v : State) : (s.keep v).saf = s.saf := rfl
@[simp] theorem keep_dbg (v : State) : (s.keep v).dbg = s.dbg := rfl
@[simp] theorem keep_cellar (v : State) : (s.keep v).cellar = s.cellar := rfl
@[simp] theorem keep_now (v : State) : (s.keep v).now = v.now := rfl
@[simp] theorem keep_pending (v : State) : (s.keep v).pending = v.pending := rfl
@[simp] theorem tick_regs (t : Nat) : (s.tick t).regs = s.regs := rfl
@[simp] theorem tick_setAt (t : Nat) : (s.tick t).setAt = s.setAt := rfl
@[simp] theorem tick_readData (t : Nat) : (s.tick t).readData = s.readData := rfl
@[simp] theorem tick_freeCtr (t : Nat) : (s.tick t).freeCtr = s.freeCtr := rfl
@[simp] theorem tick_outbox (t : Nat) : (s.tick t).outbox = s.outbox := rfl
@[simp] theorem tick_loftGiB (t : Nat) : (s.tick t).loftGiB = s.loftGiB := rfl
@[simp] theorem tick_loftReady (t : Nat) : (s.tick t).loftReady = s.loftReady := rfl
@[simp] theorem tick_oos (t : Nat) : (s.tick t).oos = s.oos := rfl
@[simp] theorem tick_oosClusters (t : Nat) : (s.tick t).oosClusters = s.oosClusters := rfl
@[simp] theorem tick_sys (t : Nat) : (s.tick t).sys = s.sys := rfl
@[simp] theorem tick_dieF2c (t : Nat) : (s.tick t).dieF2c = s.dieF2c := rfl
@[simp] theorem tick_dieC2f (t : Nat) : (s.tick t).dieC2f = s.dieC2f := rfl
@[simp] theorem tick_pairs (t : Nat) : (s.tick t).pairs = s.pairs := rfl
@[simp] theorem tick_str (t : Nat) : (s.tick t).str = s.str := rfl
@[simp] theorem tick_radio (t : Nat) : (s.tick t).radio = s.radio := rfl
@[simp] theorem tick_rx (t : Nat) : (s.tick t).rx = s.rx := rfl
@[simp] theorem tick_lanes (t : Nat) : (s.tick t).lanes = s.lanes := rfl
@[simp] theorem tick_tx (t : Nat) : (s.tick t).tx = s.tx := rfl
@[simp] theorem tick_mac (t : Nat) : (s.tick t).mac = s.mac := rfl
@[simp] theorem tick_porch (t : Nat) : (s.tick t).porch = s.porch := rfl
@[simp] theorem tick_dls (t : Nat) : (s.tick t).dls = s.dls := rfl
@[simp] theorem tick_tab (t : Nat) : (s.tick t).tab = s.tab := rfl
@[simp] theorem tick_jobs (t : Nat) : (s.tick t).jobs = s.jobs := rfl
@[simp] theorem tick_hif (t : Nat) : (s.tick t).hif = s.hif := rfl
@[simp] theorem tick_tsu (t : Nat) : (s.tick t).tsu = s.tsu := rfl
@[simp] theorem tick_timers (t : Nat) : (s.tick t).timers = s.timers := rfl
@[simp] theorem tick_irq (t : Nat) : (s.tick t).irq = s.irq := rfl
@[simp] theorem tick_key (t : Nat) : (s.tick t).key = s.key := rfl
@[simp] theorem tick_upd (t : Nat) : (s.tick t).upd = s.upd := rfl
@[simp] theorem tick_twin (t : Nat) : (s.tick t).twin = s.twin := rfl
@[simp] theorem tick_saf (t : Nat) : (s.tick t).saf = s.saf := rfl
@[simp] theorem tick_dbg (t : Nat) : (s.tick t).dbg = s.dbg := rfl
@[simp] theorem tick_cellar (t : Nat) : (s.tick t).cellar = s.cellar := rfl
@[simp] theorem tick_pending (t : Nat) : (s.tick t).pending = s.pending := rfl
@[simp] theorem tick_now (t : Nat) : (s.tick t).now = max s.now t := rfl
@[simp] theorem keep_self : s.keep s = s := rfl

/-- At the tick reached nothing moves. -/
@[simp] theorem tick_self : s.tick s.now = s := by
  unfold State.tick
  rw [Nat.max_self]

@[simp] theorem rg_keep (v : State) (a : Nat) : (s.keep v).rg a = s.rg a := rfl
@[simp] theorem rf_keep (v : State) (a lo n : Nat) : (s.keep v).rf a lo n = s.rf a lo n := rfl
@[simp] theorem rb_keep (v : State) (a k : Nat) : (s.keep v).rb a k = s.rb a k := rfl
@[simp] theorem rg_tick (t a : Nat) : (s.tick t).rg a = s.rg a := rfl
@[simp] theorem rf_tick (t a lo n : Nat) : (s.tick t).rf a lo n = s.rf a lo n := rfl
@[simp] theorem rb_tick (t a k : Nat) : (s.tick t).rb a k = s.rb a k := rfl

theorem act_eq (t : Nat) (f : State → State) : ∃ u, s.act t f = .next u ∧ u.pending = s.pending ∧
    u.now = max s.now t ∧ u = (f (s.tick t)).keep (s.tick t) :=
  ⟨_, rfl, rfl, rfl, rfl⟩

theorem go_eq (f : State → State) : ∃ u, s.go f = .next u ∧ u.pending = s.pending ∧ u.now = s.now ∧
    u = (f s).keep s :=
  ⟨_, rfl, rfl, rfl, rfl⟩

/-! The canonical form of the register file at reset. -/

theorem reset_regs_wf : swf regReset State.reset.regs = true := rfl

end Sys2Proof.Machine
end

