-- ==== Sys2Proof/Laws/Complete.lean ====
section
/-! SUPPORT. Laws/Complete.lean: how a completion is shown, and what a frame says of one field. -/

namespace Sys2Proof

open Sys2Proof.Machine

variable {F : List Field} {s u : State}

/-- A command of the form `s.act t f` completes in the state `f` makes of the tick. -/
theorem completes_act {i : Instr} {P : State → Prop} (t : Nat) (f : State → State) (h : exec i s = s.act t f)
    (hp : P ((f (s.tick t)).keep (s.tick t))) : Completes i s P := ⟨_, h, hp⟩

/-- A command of the form `s.go f` completes in the state `f` makes. -/
theorem completes_go {i : Instr} {P : State → Prop} (f : State → State) (h : exec i s = s.go f)
    (hp : P ((f s).keep s)) : Completes i s P := ⟨_, h, hp⟩

theorem Frame.now_eq (h : Frame F s u) (hF : F.contains .now = false) :
    u.now = s.now := (h _ hF)
theorem Frame.pending_eq (h : Frame F s u) (hF : F.contains .pending = false) :
    u.pending = s.pending := (h _ hF)
theorem Frame.regs_eq (h : Frame F s u) (hF : F.contains .regs = false) :
    u.regs = s.regs := (h _ hF).1
theorem Frame.setAt_eq (h : Frame F s u) (hF : F.contains .regs = false) :
    u.setAt = s.setAt := (h _ hF).2
theorem Frame.readData_eq (h : Frame F s u) (hF : F.contains .readData = false) :
    u.readData = s.readData := (h _ hF)
theorem Frame.freeCtr_eq (h : Frame F s u) (hF : F.contains .freeCtr = false) :
    u.freeCtr = s.freeCtr := (h _ hF)
theorem Frame.outbox_eq (h : Frame F s u) (hF : F.contains .outbox = false) :
    u.outbox = s.outbox := (h _ hF)
theorem Frame.loftGiB_eq (h : Frame F s u) (hF : F.contains .loftGiB = false) :
    u.loftGiB = s.loftGiB := (h _ hF)
theorem Frame.loftReady_eq (h : Frame F s u) (hF : F.contains .loftReady = false) :
    u.loftReady = s.loftReady := (h _ hF)
theorem Frame.oos_eq (h : Frame F s u) (hF : F.contains .oos = false) :
    u.oos = s.oos := (h _ hF)
theorem Frame.oosClusters_eq (h : Frame F s u) (hF : F.contains .oosClusters = false) :
    u.oosClusters = s.oosClusters := (h _ hF)
theorem Frame.sys_mode_eq (h : Frame F s u) (hF : F.contains .sysMode = false) :
    u.sys.mode = s.sys.mode := (h _ hF).1
theorem Frame.sys_previous_eq (h : Frame F s u) (hF : F.contains .sysMode = false) :
    u.sys.previous = s.sys.previous := (h _ hF).2.1
theorem Frame.sys_safeCause_eq (h : Frame F s u) (hF : F.contains .sysMode = false) :
    u.sys.safeCause = s.sys.safeCause := (h _ hF).2.2
theorem Frame.sys_transition_eq (h : Frame F s u) (hF : F.contains .sysTransition = false) :
    u.sys.transition = s.sys.transition := (h _ hF)
theorem Frame.sys_heldCmd_eq (h : Frame F s u) (hF : F.contains .sysCommand = false) :
    u.sys.heldCmd = s.sys.heldCmd := (h _ hF).1
theorem Frame.sys_hostCmdWritten_eq (h : Frame F s u) (hF : F.contains .sysCommand = false) :
    u.sys.hostCmdWritten = s.sys.hostCmdWritten := (h _ hF).2.1
theorem Frame.sys_quietClaim_eq (h : Frame F s u) (hF : F.contains .sysCommand = false) :
    u.sys.quietClaim = s.sys.quietClaim := (h _ hF).2.2
theorem Frame.sys_stage_eq (h : Frame F s u) (hF : F.contains .sysStage = false) :
    u.sys.stage = s.sys.stage := (h _ hF).1
theorem Frame.sys_startTries_eq (h : Frame F s u) (hF : F.contains .sysStage = false) :
    u.sys.startTries = s.sys.startTries := (h _ hF).2
theorem Frame.sys_bank_eq (h : Frame F s u) (hF : F.contains .sysStart = false) :
    u.sys.bank = s.sys.bank := (h _ hF).1
theorem Frame.sys_straps_eq (h : Frame F s u) (hF : F.contains .sysStart = false) :
    u.sys.straps = s.sys.straps := (h _ hF).2.1
theorem Frame.sys_startTick_eq (h : Frame F s u) (hF : F.contains .sysStart = false) :
    u.sys.startTick = s.sys.startTick := (h _ hF).2.2.1
theorem Frame.sys_warm_eq (h : Frame F s u) (hF : F.contains .sysStart = false) :
    u.sys.warm = s.sys.warm := (h _ hF).2.2.2.1
theorem Frame.sys_retention_eq (h : Frame F s u) (hF : F.contains .sysStart = false) :
    u.sys.retention = s.sys.retention := (h _ hF).2.2.2.2.1
theorem Frame.sys_coreEn_eq (h : Frame F s u) (hF : F.contains .sysStart = false) :
    u.sys.coreEn = s.sys.coreEn := (h _ hF).2.2.2.2.2.1
theorem Frame.sys_loadDone_eq (h : Frame F s u) (hF : F.contains .sysStart = false) :
    u.sys.loadDone = s.sys.loadDone := (h _ hF).2.2.2.2.2.2.1
theorem Frame.sys_recoveryCmd_eq (h : Frame F s u) (hF : F.contains .sysStart = false) :
    u.sys.recoveryCmd = s.sys.recoveryCmd := (h _ hF).2.2.2.2.2.2.2
theorem Frame.sys_domains_eq (h : Frame F s u) (hF : F.contains .sysDomains = false) :
    u.sys.domains = s.sys.domains := (h _ hF).1
theorem Frame.sys_mask_eq (h : Frame F s u) (hF : F.contains .sysDomains = false) :
    u.sys.mask = s.sys.mask := (h _ hF).2
theorem Frame.sys_mainGood_eq (h : Frame F s u) (hF : F.contains .sysBoard = false) :
    u.sys.mainGood = s.sys.mainGood := (h _ hF).1
theorem Frame.sys_onBackup_eq (h : Frame F s u) (hF : F.contains .sysBoard = false) :
    u.sys.onBackup = s.sys.onBackup := (h _ hF).2.1
theorem Frame.sys_hearthOn_eq (h : Frame F s u) (hF : F.contains .sysBoard = false) :
    u.sys.hearthOn = s.sys.hearthOn := (h _ hF).2.2.1
theorem Frame.sys_supplyBad_eq (h : Frame F s u) (hF : F.contains .sysBoard = false) :
    u.sys.supplyBad = s.sys.supplyBad := (h _ hF).2.2.2.1
theorem Frame.sys_tcxoBad_eq (h : Frame F s u) (hF : F.contains .sysBoard = false) :
    u.sys.tcxoBad = s.sys.tcxoBad := (h _ hF).2.2.2.2.1
theorem Frame.sys_hot_eq (h : Frame F s u) (hF : F.contains .sysBoard = false) :
    u.sys.hot = s.sys.hot := (h _ hF).2.2.2.2.2.1
theorem Frame.sys_coreGood_eq (h : Frame F s u) (hF : F.contains .sysBoard = false) :
    u.sys.coreGood = s.sys.coreGood := (h _ hF).2.2.2.2.2.2.1
theorem Frame.sys_slowBad_eq (h : Frame F s u) (hF : F.contains .sysBoard = false) :
    u.sys.slowBad = s.sys.slowBad := (h _ hF).2.2.2.2.2.2.2.1
theorem Frame.sys_ethRefBad_eq (h : Frame F s u) (hF : F.contains .sysBoard = false) :
    u.sys.ethRefBad = s.sys.ethRefBad := (h _ hF).2.2.2.2.2.2.2.2.1
theorem Frame.sys_pcieRefBad_eq (h : Frame F s u) (hF : F.contains .sysBoard = false) :
    u.sys.pcieRefBad = s.sys.pcieRefBad := (h _ hF).2.2.2.2.2.2.2.2.2
theorem Frame.sys_wake_eq (h : Frame F s u) (hF : F.contains .sysWake = false) :
    u.sys.wake = s.sys.wake := (h _ hF).1
theorem Frame.sys_latchedWake_eq (h : Frame F s u) (hF : F.contains .sysWake = false) :
    u.sys.latchedWake = s.sys.latchedWake := (h _ hF).2
theorem Frame.dieF2c_eq (h : Frame F s u) (hF : F.contains .dieLink = false) :
    u.dieF2c = s.dieF2c := (h _ hF).1
theorem Frame.dieC2f_eq (h : Frame F s u) (hF : F.contains .dieLink = false) :
    u.dieC2f = s.dieC2f := (h _ hF).2
theorem Frame.pairs_eq (h : Frame F s u) (hF : F.contains .pairs = false) :
    u.pairs = s.pairs := (h _ hF)
theorem Frame.str_active_eq (h : Frame F s u) (hF : F.contains .strActive = false) :
    u.str.active = s.str.active := (h _ hF)
theorem Frame.str_applying_eq (h : Frame F s u) (hF : F.contains .strApplying = false) :
    u.str.applying = s.str.applying := (h _ hF)
theorem Frame.str_storedCounter_eq (h : Frame F s u) (hF : F.contains .strCounter = false) :
    u.str.storedCounter = s.str.storedCounter := (h _ hF)
theorem Frame.radio_l_inService_eq (h : Frame F s u) (hF : F.contains .radioService = false) :
    u.radio.l.inService = s.radio.l.inService := (h _ hF).1
theorem Frame.radio_l_isolated_eq (h : Frame F s u) (hF : F.contains .radioService = false) :
    u.radio.l.isolated = s.radio.l.isolated := (h _ hF).2.1
theorem Frame.radio_l_barred_eq (h : Frame F s u) (hF : F.contains .radioService = false) :
    u.radio.l.barred = s.radio.l.barred := (h _ hF).2.2.1
theorem Frame.radio_m_inService_eq (h : Frame F s u) (hF : F.contains .radioService = false) :
    u.radio.m.inService = s.radio.m.inService := (h _ hF).2.2.2.1
theorem Frame.radio_m_isolated_eq (h : Frame F s u) (hF : F.contains .radioService = false) :
    u.radio.m.isolated = s.radio.m.isolated := (h _ hF).2.2.2.2.1
theorem Frame.radio_m_barred_eq (h : Frame F s u) (hF : F.contains .radioService = false) :
    u.radio.m.barred = s.radio.m.barred := (h _ hF).2.2.2.2.2.1
theorem Frame.radio_h_inService_eq (h : Frame F s u) (hF : F.contains .radioService = false) :
    u.radio.h.inService = s.radio.h.inService := (h _ hF).2.2.2.2.2.2.1
theorem Frame.radio_h_isolated_eq (h : Frame F s u) (hF : F.contains .radioService = false) :
    u.radio.h.isolated = s.radio.h.isolated := (h _ hF).2.2.2.2.2.2.2.1
theorem Frame.radio_h_barred_eq (h : Frame F s u) (hF : F.contains .radioService = false) :
    u.radio.h.barred = s.radio.h.barred := (h _ hF).2.2.2.2.2.2.2.2
theorem Frame.radio_l_loLocked_eq (h : Frame F s u) (hF : F.contains .radioLo = false) :
    u.radio.l.loLocked = s.radio.l.loLocked := (h _ hF).1
theorem Frame.radio_l_centre_eq (h : Frame F s u) (hF : F.contains .radioLo = false) :
    u.radio.l.centre = s.radio.l.centre := (h _ hF).2.1
theorem Frame.radio_l_lockLost_eq (h : Frame F s u) (hF : F.contains .radioLo = false) :
    u.radio.l.lockLost = s.radio.l.lockLost := (h _ hF).2.2.1
theorem Frame.radio_m_loLocked_eq (h : Frame F s u) (hF : F.contains .radioLo = false) :
    u.radio.m.loLocked = s.radio.m.loLocked := (h _ hF).2.2.2.1
theorem Frame.radio_m_centre_eq (h : Frame F s u) (hF : F.contains .radioLo = false) :
    u.radio.m.centre = s.radio.m.centre := (h _ hF).2.2.2.2.1
theorem Frame.radio_m_lockLost_eq (h : Frame F s u) (hF : F.contains .radioLo = false) :
    u.radio.m.lockLost = s.radio.m.lockLost := (h _ hF).2.2.2.2.2.1
theorem Frame.radio_h_loLocked_eq (h : Frame F s u) (hF : F.contains .radioLo = false) :
    u.radio.h.loLocked = s.radio.h.loLocked := (h _ hF).2.2.2.2.2.2.1
theorem Frame.radio_h_centre_eq (h : Frame F s u) (hF : F.contains .radioLo = false) :
    u.radio.h.centre = s.radio.h.centre := (h _ hF).2.2.2.2.2.2.2.1
theorem Frame.radio_h_lockLost_eq (h : Frame F s u) (hF : F.contains .radioLo = false) :
    u.radio.h.lockLost = s.radio.h.lockLost := (h _ hF).2.2.2.2.2.2.2.2
theorem Frame.radio_l_carriers_eq (h : Frame F s u) (hF : F.contains .radioCarriers = false) :
    u.radio.l.carriers = s.radio.l.carriers := (h _ hF).1
theorem Frame.radio_m_carriers_eq (h : Frame F s u) (hF : F.contains .radioCarriers = false) :
    u.radio.m.carriers = s.radio.m.carriers := (h _ hF).2.1
theorem Frame.radio_h_carriers_eq (h : Frame F s u) (hF : F.contains .radioCarriers = false) :
    u.radio.h.carriers = s.radio.h.carriers := (h _ hF).2.2
theorem Frame.radio_l_tr_eq (h : Frame F s u) (hF : F.contains .radioLines = false) :
    u.radio.l.tr = s.radio.l.tr := (h _ hF).1
theorem Frame.radio_l_paEn_eq (h : Frame F s u) (hF : F.contains .radioLines = false) :
    u.radio.l.paEn = s.radio.l.paEn := (h _ hF).2.1
theorem Frame.radio_l_paMode_eq (h : Frame F s u) (hF : F.contains .radioLines = false) :
    u.radio.l.paMode = s.radio.l.paMode := (h _ hF).2.2.1
theorem Frame.radio_l_paBias_eq (h : Frame F s u) (hF : F.contains .radioLines = false) :
    u.radio.l.paBias = s.radio.l.paBias := (h _ hF).2.2.2.1
theorem Frame.radio_l_paLowAt_eq (h : Frame F s u) (hF : F.contains .radioLines = false) :
    u.radio.l.paLowAt = s.radio.l.paLowAt := (h _ hF).2.2.2.2.1
theorem Frame.radio_l_paHighAt_eq (h : Frame F s u) (hF : F.contains .radioLines = false) :
    u.radio.l.paHighAt = s.radio.l.paHighAt := (h _ hF).2.2.2.2.2.1
theorem Frame.radio_l_paOff_eq (h : Frame F s u) (hF : F.contains .radioLines = false) :
    u.radio.l.paOff = s.radio.l.paOff := (h _ hF).2.2.2.2.2.2.1
theorem Frame.radio_l_timing_eq (h : Frame F s u) (hF : F.contains .radioLines = false) :
    u.radio.l.timing = s.radio.l.timing := (h _ hF).2.2.2.2.2.2.2.1
theorem Frame.radio_m_tr_eq (h : Frame F s u) (hF : F.contains .radioLines = false) :
    u.radio.m.tr = s.radio.m.tr := (h _ hF).2.2.2.2.2.2.2.2.1
theorem Frame.radio_m_paEn_eq (h : Frame F s u) (hF : F.contains .radioLines = false) :
    u.radio.m.paEn = s.radio.m.paEn := (h _ hF).2.2.2.2.2.2.2.2.2.1
theorem Frame.radio_m_paMode_eq (h : Frame F s u) (hF : F.contains .radioLines = false) :
    u.radio.m.paMode = s.radio.m.paMode := (h _ hF).2.2.2.2.2.2.2.2.2.2.1
theorem Frame.radio_m_paBias_eq (h : Frame F s u) (hF : F.contains .radioLines = false) :
    u.radio.m.paBias = s.radio.m.paBias := (h _ hF).2.2.2.2.2.2.2.2.2.2.2.1
theorem Frame.radio_m_paLowAt_eq (h : Frame F s u) (hF : F.contains .radioLines = false) :
    u.radio.m.paLowAt = s.radio.m.paLowAt := (h _ hF).2.2.2.2.2.2.2.2.2.2.2.2.1
theorem Frame.radio_m_paHighAt_eq (h : Frame F s u) (hF : F.contains .radioLines = false) :
    u.radio.m.paHighAt = s.radio.m.paHighAt := (h _ hF).2.2.2.2.2.2.2.2.2.2.2.2.2.1
theorem Frame.radio_m_paOff_eq (h : Frame F s u) (hF : F.contains .radioLines = false) :
    u.radio.m.paOff = s.radio.m.paOff := (h _ hF).2.2.2.2.2.2.2.2.2.2.2.2.2.2.1
theorem Frame.radio_m_timing_eq (h : Frame F s u) (hF : F.contains .radioLines = false) :
    u.radio.m.timing = s.radio.m.timing := (h _ hF).2.2.2.2.2.2.2.2.2.2.2.2.2.2.2.1
theorem Frame.radio_h_tr_eq (h : Frame F s u) (hF : F.contains .radioLines = false) :
    u.radio.h.tr = s.radio.h.tr := (h _ hF).2.2.2.2.2.2.2.2.2.2.2.2.2.2.2.2.1
theorem Frame.radio_h_paEn_eq (h : Frame F s u) (hF : F.contains .radioLines = false) :
    u.radio.h.paEn = s.radio.h.paEn := (h _ hF).2.2.2.2.2.2.2.2.2.2.2.2.2.2.2.2.2.1
theorem Frame.radio_h_paMode_eq (h : Frame F s u) (hF : F.contains .radioLines = false) :
    u.radio.h.paMode = s.radio.h.paMode := (h _ hF).2.2.2.2.2.2.2.2.2.2.2.2.2.2.2.2.2.2.1
theorem Frame.radio_h_paBias_eq (h : Frame F s u) (hF : F.contains .radioLines = false) :
    u.radio.h.paBias = s.radio.h.paBias := (h _ hF).2.2.2.2.2.2.2.2.2.2.2.2.2.2.2.2.2.2.2.1
theorem Frame.radio_h_paLowAt_eq (h : Frame F s u) (hF : F.contains .radioLines = false) :
    u.radio.h.paLowAt = s.radio.h.paLowAt := (h _ hF).2.2.2.2.2.2.2.2.2.2.2.2.2.2.2.2.2.2.2.2.1
theorem Frame.radio_h_paHighAt_eq (h : Frame F s u) (hF : F.contains .radioLines = false) :
    u.radio.h.paHighAt = s.radio.h.paHighAt := (h _ hF).2.2.2.2.2.2.2.2.2.2.2.2.2.2.2.2.2.2.2.2.2.1
theorem Frame.radio_h_paOff_eq (h : Frame F s u) (hF : F.contains .radioLines = false) :
    u.radio.h.paOff = s.radio.h.paOff := (h _ hF).2.2.2.2.2.2.2.2.2.2.2.2.2.2.2.2.2.2.2.2.2.2.1
theorem Frame.radio_h_timing_eq (h : Frame F s u) (hF : F.contains .radioLines = false) :
    u.radio.h.timing = s.radio.h.timing := (h _ hF).2.2.2.2.2.2.2.2.2.2.2.2.2.2.2.2.2.2.2.2.2.2.2.1
theorem Frame.radio_l_trStep_eq (h : Frame F s u) (hF : F.contains .radioLines = false) :
    u.radio.l.trStep = s.radio.l.trStep := (h _ hF).2.2.2.2.2.2.2.2.2.2.2.2.2.2.2.2.2.2.2.2.2.2.2.2.1
theorem Frame.radio_m_trStep_eq (h : Frame F s u) (hF : F.contains .radioLines = false) :
    u.radio.m.trStep = s.radio.m.trStep := (h _ hF).2.2.2.2.2.2.2.2.2.2.2.2.2.2.2.2.2.2.2.2.2.2.2.2.2.1
theorem Frame.radio_h_trStep_eq (h : Frame F s u) (hF : F.contains .radioLines = false) :
    u.radio.h.trStep = s.radio.h.trStep := (h _ hF).2.2.2.2.2.2.2.2.2.2.2.2.2.2.2.2.2.2.2.2.2.2.2.2.2.2
theorem Frame.radio_l_rxValidAt_eq (h : Frame F s u) (hF : F.contains .radioSamples = false) :
    u.radio.l.rxValidAt = s.radio.l.rxValidAt := (h _ hF).1
theorem Frame.radio_l_invalid_eq (h : Frame F s u) (hF : F.contains .radioSamples = false) :
    u.radio.l.invalid = s.radio.l.invalid := (h _ hF).2.1
theorem Frame.radio_l_validFrom_eq (h : Frame F s u) (hF : F.contains .radioSamples = false) :
    u.radio.l.validFrom = s.radio.l.validFrom := (h _ hF).2.2.1
theorem Frame.radio_m_rxValidAt_eq (h : Frame F s u) (hF : F.contains .radioSamples = false) :
    u.radio.m.rxValidAt = s.radio.m.rxValidAt := (h _ hF).2.2.2.1
theorem Frame.radio_m_invalid_eq (h : Frame F s u) (hF : F.contains .radioSamples = false) :
    u.radio.m.invalid = s.radio.m.invalid := (h _ hF).2.2.2.2.1
theorem Frame.radio_m_validFrom_eq (h : Frame F s u) (hF : F.contains .radioSamples = false) :
    u.radio.m.validFrom = s.radio.m.validFrom := (h _ hF).2.2.2.2.2.1
theorem Frame.radio_h_rxValidAt_eq (h : Frame F s u) (hF : F.contains .radioSamples = false) :
    u.radio.h.rxValidAt = s.radio.h.rxValidAt := (h _ hF).2.2.2.2.2.2.1
theorem Frame.radio_h_invalid_eq (h : Frame F s u) (hF : F.contains .radioSamples = false) :
    u.radio.h.invalid = s.radio.h.invalid := (h _ hF).2.2.2.2.2.2.2.1
theorem Frame.radio_h_validFrom_eq (h : Frame F s u) (hF : F.contains .radioSamples = false) :
    u.radio.h.validFrom = s.radio.h.validFrom := (h _ hF).2.2.2.2.2.2.2.2.1
theorem Frame.radio_l_bad_eq (h : Frame F s u) (hF : F.contains .radioSamples = false) :
    u.radio.l.bad = s.radio.l.bad := (h _ hF).2.2.2.2.2.2.2.2.2.1
theorem Frame.radio_m_bad_eq (h : Frame F s u) (hF : F.contains .radioSamples = false) :
    u.radio.m.bad = s.radio.m.bad := (h _ hF).2.2.2.2.2.2.2.2.2.2.1
theorem Frame.radio_h_bad_eq (h : Frame F s u) (hF : F.contains .radioSamples = false) :
    u.radio.h.bad = s.radio.h.bad := (h _ hF).2.2.2.2.2.2.2.2.2.2.2
theorem Frame.radio_l_pdet_eq (h : Frame F s u) (hF : F.contains .radioDetector = false) :
    u.radio.l.pdet = s.radio.l.pdet := (h _ hF).1
theorem Frame.radio_l_pdetLevel_eq (h : Frame F s u) (hF : F.contains .radioDetector = false) :
    u.radio.l.pdetLevel = s.radio.l.pdetLevel := (h _ hF).2.1
theorem Frame.radio_l_tripped_eq (h : Frame F s u) (hF : F.contains .radioDetector = false) :
    u.radio.l.tripped = s.radio.l.tripped := (h _ hF).2.2.1
theorem Frame.radio_m_pdet_eq (h : Frame F s u) (hF : F.contains .radioDetector = false) :
    u.radio.m.pdet = s.radio.m.pdet := (h _ hF).2.2.2.1
theorem Frame.radio_m_pdetLevel_eq (h : Frame F s u) (hF : F.contains .radioDetector = false) :
    u.radio.m.pdetLevel = s.radio.m.pdetLevel := (h _ hF).2.2.2.2.1
theorem Frame.radio_m_tripped_eq (h : Frame F s u) (hF : F.contains .radioDetector = false) :
    u.radio.m.tripped = s.radio.m.tripped := (h _ hF).2.2.2.2.2.1
theorem Frame.radio_h_pdet_eq (h : Frame F s u) (hF : F.contains .radioDetector = false) :
    u.radio.h.pdet = s.radio.h.pdet := (h _ hF).2.2.2.2.2.2.1
theorem Frame.radio_h_pdetLevel_eq (h : Frame F s u) (hF : F.contains .radioDetector = false) :
    u.radio.h.pdetLevel = s.radio.h.pdetLevel := (h _ hF).2.2.2.2.2.2.2.1
theorem Frame.radio_h_tripped_eq (h : Frame F s u) (hF : F.contains .radioDetector = false) :
    u.radio.h.tripped = s.radio.h.tripped := (h _ hF).2.2.2.2.2.2.2.2
theorem Frame.radio_l_coex_eq (h : Frame F s u) (hF : F.contains .radioCoex = false) :
    u.radio.l.coex = s.radio.l.coex := (h _ hF).1
theorem Frame.radio_m_coex_eq (h : Frame F s u) (hF : F.contains .radioCoex = false) :
    u.radio.m.coex = s.radio.m.coex := (h _ hF).2.1
theorem Frame.radio_h_coex_eq (h : Frame F s u) (hF : F.contains .radioCoex = false) :
    u.radio.h.coex = s.radio.h.coex := (h _ hF).2.2
theorem Frame.radio_l_recal_eq (h : Frame F s u) (hF : F.contains .radioRecal = false) :
    u.radio.l.recal = s.radio.l.recal := (h _ hF).1
theorem Frame.radio_m_recal_eq (h : Frame F s u) (hF : F.contains .radioRecal = false) :
    u.radio.m.recal = s.radio.m.recal := (h _ hF).2.1
theorem Frame.radio_h_recal_eq (h : Frame F s u) (hF : F.contains .radioRecal = false) :
    u.radio.h.recal = s.radio.h.recal := (h _ hF).2.2
theorem Frame.radio_l_corr_eq (h : Frame F s u) (hF : F.contains .radioCal = false) :
    u.radio.l.corr = s.radio.l.corr := (h _ hF).1
theorem Frame.radio_l_winLatch_eq (h : Frame F s u) (hF : F.contains .radioCal = false) :
    u.radio.l.winLatch = s.radio.l.winLatch := (h _ hF).2.1
theorem Frame.radio_l_seededRun_eq (h : Frame F s u) (hF : F.contains .radioCal = false) :
    u.radio.l.seededRun = s.radio.l.seededRun := (h _ hF).2.2.1
theorem Frame.radio_m_corr_eq (h : Frame F s u) (hF : F.contains .radioCal = false) :
    u.radio.m.corr = s.radio.m.corr := (h _ hF).2.2.2.1
theorem Frame.radio_m_winLatch_eq (h : Frame F s u) (hF : F.contains .radioCal = false) :
    u.radio.m.winLatch = s.radio.m.winLatch := (h _ hF).2.2.2.2.1
theorem Frame.radio_m_seededRun_eq (h : Frame F s u) (hF : F.contains .radioCal = false) :
    u.radio.m.seededRun = s.radio.m.seededRun := (h _ hF).2.2.2.2.2.1
theorem Frame.radio_h_corr_eq (h : Frame F s u) (hF : F.contains .radioCal = false) :
    u.radio.h.corr = s.radio.h.corr := (h _ hF).2.2.2.2.2.2.1
theorem Frame.radio_h_winLatch_eq (h : Frame F s u) (hF : F.contains .radioCal = false) :
    u.radio.h.winLatch = s.radio.h.winLatch := (h _ hF).2.2.2.2.2.2.2.1
theorem Frame.radio_h_seededRun_eq (h : Frame F s u) (hF : F.contains .radioCal = false) :
    u.radio.h.seededRun = s.radio.h.seededRun := (h _ hF).2.2.2.2.2.2.2.2
theorem Frame.rx_eq (h : Frame F s u) (hF : F.contains .rx = false) :
    u.rx = s.rx := (h _ hF)
theorem Frame.lanes_eq (h : Frame F s u) (hF : F.contains .lanes = false) :
    u.lanes = s.lanes := (h _ hF)
theorem Frame.tx_eq (h : Frame F s u) (hF : F.contains .tx = false) :
    u.tx = s.tx := (h _ hF)
theorem Frame.mac_eq (h : Frame F s u) (hF : F.contains .mac = false) :
    u.mac = s.mac := (h _ hF)
theorem Frame.porch_bookings_eq (h : Frame F s u) (hF : F.contains .porchBookings = false) :
    u.porch.bookings = s.porch.bookings := (h _ hF).1
theorem Frame.porch_waiting_eq (h : Frame F s u) (hF : F.contains .porchBookings = false) :
    u.porch.waiting = s.porch.waiting := (h _ hF).2
theorem Frame.porch_postAck_eq (h : Frame F s u) (hF : F.contains .porchRest = false) :
    u.porch.postAck = s.porch.postAck := (h _ hF).1
theorem Frame.porch_floodOut_eq (h : Frame F s u) (hF : F.contains .porchRest = false) :
    u.porch.floodOut = s.porch.floodOut := (h _ hF).2
theorem Frame.dls_queues_eq (h : Frame F s u) (hF : F.contains .dlsQueues = false) :
    u.dls.queues = s.dls.queues := (h _ hF)
theorem Frame.dls_regions_eq (h : Frame F s u) (hF : F.contains .dlsRest = false) :
    u.dls.regions = s.dls.regions := (h _ hF).1
theorem Frame.dls_records_eq (h : Frame F s u) (hF : F.contains .dlsRest = false) :
    u.dls.records = s.dls.records := (h _ hF).2.1
theorem Frame.dls_prof_eq (h : Frame F s u) (hF : F.contains .dlsRest = false) :
    u.dls.prof = s.dls.prof := (h _ hF).2.2.1
theorem Frame.dls_burst_eq (h : Frame F s u) (hF : F.contains .dlsRest = false) :
    u.dls.burst = s.dls.burst := (h _ hF).2.2.2.1
theorem Frame.dls_lastRefill_eq (h : Frame F s u) (hF : F.contains .dlsRest = false) :
    u.dls.lastRefill = s.dls.lastRefill := (h _ hF).2.2.2.2
theorem Frame.tab_loft_eq (h : Frame F s u) (hF : F.contains .tabNodes = false) :
    u.tab.loft = s.tab.loft := (h _ hF).1
theorem Frame.tab_cache_eq (h : Frame F s u) (hF : F.contains .tabNodes = false) :
    u.tab.cache = s.tab.cache := (h _ hF).2
theorem Frame.tab_learn_eq (h : Frame F s u) (hF : F.contains .tabEntries = false) :
    u.tab.learn = s.tab.learn := (h _ hF).1
theorem Frame.tab_spill_eq (h : Frame F s u) (hF : F.contains .tabEntries = false) :
    u.tab.spill = s.tab.spill := (h _ hF).2.1
theorem Frame.tab_deletes_eq (h : Frame F s u) (hF : F.contains .tabEntries = false) :
    u.tab.deletes = s.tab.deletes := (h _ hF).2.2.1
theorem Frame.tab_moving_eq (h : Frame F s u) (hF : F.contains .tabEntries = false) :
    u.tab.moving = s.tab.moving := (h _ hF).2.2.2
theorem Frame.tab_prefixes_eq (h : Frame F s u) (hF : F.contains .tabPrefixes = false) :
    u.tab.prefixes = s.tab.prefixes := (h _ hF).1
theorem Frame.tab_bloom_eq (h : Frame F s u) (hF : F.contains .tabPrefixes = false) :
    u.tab.bloom = s.tab.bloom := (h _ hF).2.1
theorem Frame.tab_rebuilding_eq (h : Frame F s u) (hF : F.contains .tabPrefixes = false) :
    u.tab.rebuilding = s.tab.rebuilding := (h _ hF).2.2
theorem Frame.jobs_eq (h : Frame F s u) (hF : F.contains .jobs = false) :
    u.jobs = s.jobs := (h _ hF)
theorem Frame.hif_rings_eq (h : Frame F s u) (hF : F.contains .hifRings = false) :
    u.hif.rings = s.hif.rings := (h _ hF).1
theorem Frame.hif_cmdTurn_eq (h : Frame F s u) (hF : F.contains .hifRings = false) :
    u.hif.cmdTurn = s.hif.cmdTurn := (h _ hF).2
theorem Frame.hif_linkUp_eq (h : Frame F s u) (hF : F.contains .hifLink = false) :
    u.hif.linkUp = s.hif.linkUp := (h _ hF).1
theorem Frame.hif_power_eq (h : Frame F s u) (hF : F.contains .hifLink = false) :
    u.hif.power = s.hif.power := (h _ hF).2.1
theorem Frame.hif_l1_eq (h : Frame F s u) (hF : F.contains .hifLink = false) :
    u.hif.l1 = s.hif.l1 := (h _ hF).2.2.1
theorem Frame.hif_pmeEn_eq (h : Frame F s u) (hF : F.contains .hifLink = false) :
    u.hif.pmeEn = s.hif.pmeEn := (h _ hF).2.2.2.1
theorem Frame.hif_busMaster_eq (h : Frame F s u) (hF : F.contains .hifLink = false) :
    u.hif.busMaster = s.hif.busMaster := (h _ hF).2.2.2.2.1
theorem Frame.hif_msix_eq (h : Frame F s u) (hF : F.contains .hifLink = false) :
    u.hif.msix = s.hif.msix := (h _ hF).2.2.2.2.2.1
theorem Frame.hif_pmeStatus_eq (h : Frame F s u) (hF : F.contains .hifLink = false) :
    u.hif.pmeStatus = s.hif.pmeStatus := (h _ hF).2.2.2.2.2.2
theorem Frame.hif_rxUsed_eq (h : Frame F s u) (hF : F.contains .hifPantry = false) :
    u.hif.rxUsed = s.hif.rxUsed := (h _ hF).1
theorem Frame.hif_safetyUsed_eq (h : Frame F s u) (hF : F.contains .hifPantry = false) :
    u.hif.safetyUsed = s.hif.safetyUsed := (h _ hF).2.1
theorem Frame.hif_staging_eq (h : Frame F s u) (hF : F.contains .hifPantry = false) :
    u.hif.staging = s.hif.staging := (h _ hF).2.2.1
theorem Frame.hif_stalled_eq (h : Frame F s u) (hF : F.contains .hifPantry = false) :
    u.hif.stalled = s.hif.stalled := (h _ hF).2.2.2.1
theorem Frame.hif_safetySize_eq (h : Frame F s u) (hF : F.contains .hifPantry = false) :
    u.hif.safetySize = s.hif.safetySize := (h _ hF).2.2.2.2
theorem Frame.hif_ports_eq (h : Frame F s u) (hF : F.contains .hifPorts = false) :
    u.hif.ports = s.hif.ports := (h _ hF)
theorem Frame.hif_rxJobs_eq (h : Frame F s u) (hF : F.contains .hifLanes = false) :
    u.hif.rxJobs = s.hif.rxJobs := (h _ hF).1
theorem Frame.hif_hbSeq_eq (h : Frame F s u) (hF : F.contains .hifLanes = false) :
    u.hif.hbSeq = s.hif.hbSeq := (h _ hF).2.1
theorem Frame.hif_hbPassed_eq (h : Frame F s u) (hF : F.contains .hifLanes = false) :
    u.hif.hbPassed = s.hif.hbPassed := (h _ hF).2.2.1
theorem Frame.hif_busyOk_eq (h : Frame F s u) (hF : F.contains .hifLanes = false) :
    u.hif.busyOk = s.hif.busyOk := (h _ hF).2.2.2.1
theorem Frame.hif_hbTaken_eq (h : Frame F s u) (hF : F.contains .hifLanes = false) :
    u.hif.hbTaken = s.hif.hbTaken := (h _ hF).2.2.2.2.1
theorem Frame.hif_hbWrong_eq (h : Frame F s u) (hF : F.contains .hifLanes = false) :
    u.hif.hbWrong = s.hif.hbWrong := (h _ hF).2.2.2.2.2
theorem Frame.tsu_base_eq (h : Frame F s u) (hF : F.contains .tsuTime = false) :
    u.tsu.base = s.tsu.base := (h _ hF).1
theorem Frame.tsu_start_eq (h : Frame F s u) (hF : F.contains .tsuTime = false) :
    u.tsu.start = s.tsu.start := (h _ hF).2.1
theorem Frame.tsu_incr_eq (h : Frame F s u) (hF : F.contains .tsuTime = false) :
    u.tsu.incr = s.tsu.incr := (h _ hF).2.2.1
theorem Frame.tsu_latchSec_eq (h : Frame F s u) (hF : F.contains .tsuTime = false) :
    u.tsu.latchSec = s.tsu.latchSec := (h _ hF).2.2.2.1
theorem Frame.tsu_latchFrac_eq (h : Frame F s u) (hF : F.contains .tsuTime = false) :
    u.tsu.latchFrac = s.tsu.latchFrac := (h _ hF).2.2.2.2.1
theorem Frame.tsu_step_eq (h : Frame F s u) (hF : F.contains .tsuTime = false) :
    u.tsu.step = s.tsu.step := (h _ hF).2.2.2.2.2.1
theorem Frame.tsu_accum_eq (h : Frame F s u) (hF : F.contains .tsuTime = false) :
    u.tsu.accum = s.tsu.accum := (h _ hF).2.2.2.2.2.2.1
theorem Frame.tsu_holdFrom_eq (h : Frame F s u) (hF : F.contains .tsuTime = false) :
    u.tsu.holdFrom = s.tsu.holdFrom := (h _ hF).2.2.2.2.2.2.2.1
theorem Frame.tsu_cycleAt_eq (h : Frame F s u) (hF : F.contains .tsuTime = false) :
    u.tsu.cycleAt = s.tsu.cycleAt := (h _ hF).2.2.2.2.2.2.2.2.1
theorem Frame.tsu_past_eq (h : Frame F s u) (hF : F.contains .tsuTime = false) :
    u.tsu.past = s.tsu.past := (h _ hF).2.2.2.2.2.2.2.2.2.1
theorem Frame.tsu_ratio_eq (h : Frame F s u) (hF : F.contains .tsuTime = false) :
    u.tsu.ratio = s.tsu.ratio := (h _ hF).2.2.2.2.2.2.2.2.2.2
theorem Frame.tsu_pins_eq (h : Frame F s u) (hF : F.contains .tsuPins = false) :
    u.tsu.pins = s.tsu.pins := (h _ hF).1
theorem Frame.tsu_snaps_eq (h : Frame F s u) (hF : F.contains .tsuPins = false) :
    u.tsu.snaps = s.tsu.snaps := (h _ hF).2.1
theorem Frame.tsu_snapPend_eq (h : Frame F s u) (hF : F.contains .tsuPins = false) :
    u.tsu.snapPend = s.tsu.snapPend := (h _ hF).2.2.1
theorem Frame.tsu_hearthCaps_eq (h : Frame F s u) (hF : F.contains .tsuPins = false) :
    u.tsu.hearthCaps = s.tsu.hearthCaps := (h _ hF).2.2.2
theorem Frame.timers_eq (h : Frame F s u) (hF : F.contains .timers = false) :
    u.timers = s.timers := (h _ hF)
theorem Frame.irq_events_eq (h : Frame F s u) (hF : F.contains .irqEvents = false) :
    u.irq.events = s.irq.events := (h _ hF)
theorem Frame.irq_srcs_eq (h : Frame F s u) (hF : F.contains .irqSources = false) :
    u.irq.srcs = s.irq.srcs := (h _ hF).1
theorem Frame.irq_hostStack_eq (h : Frame F s u) (hF : F.contains .irqSources = false) :
    u.irq.hostStack = s.irq.hostStack := (h _ hF).2.1
theorem Frame.irq_supStack_eq (h : Frame F s u) (hF : F.contains .irqSources = false) :
    u.irq.supStack = s.irq.supStack := (h _ hF).2.2.1
theorem Frame.irq_told_eq (h : Frame F s u) (hF : F.contains .irqSources = false) :
    u.irq.told = s.irq.told := (h _ hF).2.2.2.1
theorem Frame.irq_due_eq (h : Frame F s u) (hF : F.contains .irqSources = false) :
    u.irq.due = s.irq.due := (h _ hF).2.2.2.2.1
theorem Frame.irq_hearthAt_eq (h : Frame F s u) (hF : F.contains .irqSources = false) :
    u.irq.hearthAt = s.irq.hearthAt := (h _ hF).2.2.2.2.2.1
theorem Frame.irq_hearthLeft_eq (h : Frame F s u) (hF : F.contains .irqSources = false) :
    u.irq.hearthLeft = s.irq.hearthLeft := (h _ hF).2.2.2.2.2.2.1
theorem Frame.irq_window_eq (h : Frame F s u) (hF : F.contains .irqSources = false) :
    u.irq.window = s.irq.window := (h _ hF).2.2.2.2.2.2.2.1
theorem Frame.irq_supWoken_eq (h : Frame F s u) (hF : F.contains .irqSources = false) :
    u.irq.supWoken = s.irq.supWoken := (h _ hF).2.2.2.2.2.2.2.2.1
theorem Frame.irq_supLine_eq (h : Frame F s u) (hF : F.contains .irqSources = false) :
    u.irq.supLine = s.irq.supLine := (h _ hF).2.2.2.2.2.2.2.2.2.1
theorem Frame.irq_missA_eq (h : Frame F s u) (hF : F.contains .irqSources = false) :
    u.irq.missA = s.irq.missA := (h _ hF).2.2.2.2.2.2.2.2.2.2.1
theorem Frame.irq_missB_eq (h : Frame F s u) (hF : F.contains .irqSources = false) :
    u.irq.missB = s.irq.missB := (h _ hF).2.2.2.2.2.2.2.2.2.2.2
theorem Frame.irq_wakeSeen_eq (h : Frame F s u) (hF : F.contains .irqWake = false) :
    u.irq.wakeSeen = s.irq.wakeSeen := (h _ hF).1
theorem Frame.irq_wakeSrc_eq (h : Frame F s u) (hF : F.contains .irqWake = false) :
    u.irq.wakeSrc = s.irq.wakeSrc := (h _ hF).2
theorem Frame.key_lifecycle_eq (h : Frame F s u) (hF : F.contains .keyIdentity = false) :
    u.key.lifecycle = s.key.lifecycle := (h _ hF).1
theorem Frame.key_debugLatch_eq (h : Frame F s u) (hF : F.contains .keyIdentity = false) :
    u.key.debugLatch = s.key.debugLatch := (h _ hF).2.1
theorem Frame.key_deviceId_eq (h : Frame F s u) (hF : F.contains .keyIdentity = false) :
    u.key.deviceId = s.key.deviceId := (h _ hF).2.2.1
theorem Frame.key_devPub_eq (h : Frame F s u) (hF : F.contains .keyIdentity = false) :
    u.key.devPub = s.key.devPub := (h _ hF).2.2.2.1
theorem Frame.key_devPriv_eq (h : Frame F s u) (hF : F.contains .keyIdentity = false) :
    u.key.devPriv = s.key.devPriv := (h _ hF).2.2.2.2.1
theorem Frame.key_root_eq (h : Frame F s u) (hF : F.contains .keyIdentity = false) :
    u.key.root = s.key.root := (h _ hF).2.2.2.2.2
theorem Frame.key_slotA_eq (h : Frame F s u) (hF : F.contains .keyStores = false) :
    u.key.slotA = s.key.slotA := (h _ hF).1
theorem Frame.key_slotB_eq (h : Frame F s u) (hF : F.contains .keyStores = false) :
    u.key.slotB = s.key.slotB := (h _ hF).2.1
theorem Frame.key_commitLive_eq (h : Frame F s u) (hF : F.contains .keyStores = false) :
    u.key.commitLive = s.key.commitLive := (h _ hF).2.2.1
theorem Frame.key_commitGen_eq (h : Frame F s u) (hF : F.contains .keyStores = false) :
    u.key.commitGen = s.key.commitGen := (h _ hF).2.2.2.1
theorem Frame.key_commitCrc_eq (h : Frame F s u) (hF : F.contains .keyStores = false) :
    u.key.commitCrc = s.key.commitCrc := (h _ hF).2.2.2.2.1
theorem Frame.key_counter_eq (h : Frame F s u) (hF : F.contains .keyStores = false) :
    u.key.counter = s.key.counter := (h _ hF).2.2.2.2.2
theorem Frame.key_integrity_eq (h : Frame F s u) (hF : F.contains .keyEngine = false) :
    u.key.integrity = s.key.integrity := (h _ hF).1
theorem Frame.key_checked_eq (h : Frame F s u) (hF : F.contains .keyEngine = false) :
    u.key.checked = s.key.checked := (h _ hF).2.1
theorem Frame.key_cur_eq (h : Frame F s u) (hF : F.contains .keyEngine = false) :
    u.key.cur = s.key.cur := (h _ hF).2.2.1
theorem Frame.key_prev_eq (h : Frame F s u) (hF : F.contains .keyEngine = false) :
    u.key.prev = s.key.prev := (h _ hF).2.2.2.1
theorem Frame.key_windowEnd_eq (h : Frame F s u) (hF : F.contains .keyEngine = false) :
    u.key.windowEnd = s.key.windowEnd := (h _ hF).2.2.2.2.1
theorem Frame.key_sweep_eq (h : Frame F s u) (hF : F.contains .keyEngine = false) :
    u.key.sweep = s.key.sweep := (h _ hF).2.2.2.2.2.1
theorem Frame.key_sweepAt_eq (h : Frame F s u) (hF : F.contains .keyEngine = false) :
    u.key.sweepAt = s.key.sweepAt := (h _ hF).2.2.2.2.2.2.1
theorem Frame.key_engineOwner_eq (h : Frame F s u) (hF : F.contains .keyEngine = false) :
    u.key.engineOwner = s.key.engineOwner := (h _ hF).2.2.2.2.2.2.2.1
theorem Frame.key_wrapCtr_eq (h : Frame F s u) (hF : F.contains .keyEngine = false) :
    u.key.wrapCtr = s.key.wrapCtr := (h _ hF).2.2.2.2.2.2.2.2.1
theorem Frame.key_regenDue_eq (h : Frame F s u) (hF : F.contains .keyEngine = false) :
    u.key.regenDue = s.key.regenDue := (h _ hF).2.2.2.2.2.2.2.2.2.1
theorem Frame.key_offTamper_eq (h : Frame F s u) (hF : F.contains .keyEngine = false) :
    u.key.offTamper = s.key.offTamper := (h _ hF).2.2.2.2.2.2.2.2.2.2.1
theorem Frame.key_staleJobs_eq (h : Frame F s u) (hF : F.contains .keyEngine = false) :
    u.key.staleJobs = s.key.staleJobs := (h _ hF).2.2.2.2.2.2.2.2.2.2.2
theorem Frame.upd_banks_eq (h : Frame F s u) (hF : F.contains .updFlash = false) :
    u.upd.banks = s.upd.banks := (h _ hF).1
theorem Frame.upd_slots_eq (h : Frame F s u) (hF : F.contains .updFlash = false) :
    u.upd.slots = s.upd.slots := (h _ hF).2.1
theorem Frame.upd_bundles_eq (h : Frame F s u) (hF : F.contains .updFlash = false) :
    u.upd.bundles = s.upd.bundles := (h _ hF).2.2
theorem Frame.upd_nv0_eq (h : Frame F s u) (hF : F.contains .updNv = false) :
    u.upd.nv0 = s.upd.nv0 := (h _ hF).1
theorem Frame.upd_nv1_eq (h : Frame F s u) (hF : F.contains .updNv = false) :
    u.upd.nv1 = s.upd.nv1 := (h _ hF).2.1
theorem Frame.upd_fwMin_eq (h : Frame F s u) (hF : F.contains .updNv = false) :
    u.upd.fwMin = s.upd.fwMin := (h _ hF).2.2.1
theorem Frame.upd_bundleCounter_eq (h : Frame F s u) (hF : F.contains .updNv = false) :
    u.upd.bundleCounter = s.upd.bundleCounter := (h _ hF).2.2.2
theorem Frame.upd_lock_eq (h : Frame F s u) (hF : F.contains .updLock = false) :
    u.upd.lock = s.upd.lock := (h _ hF).1
theorem Frame.upd_lockAt_eq (h : Frame F s u) (hF : F.contains .updLock = false) :
    u.upd.lockAt = s.upd.lockAt := (h _ hF).2.1
theorem Frame.upd_sessions_eq (h : Frame F s u) (hF : F.contains .updLock = false) :
    u.upd.sessions = s.upd.sessions := (h _ hF).2.2.1
theorem Frame.upd_halves_eq (h : Frame F s u) (hF : F.contains .updLock = false) :
    u.upd.halves = s.upd.halves := (h _ hF).2.2.2.1
theorem Frame.upd_answered_eq (h : Frame F s u) (hF : F.contains .updLock = false) :
    u.upd.answered = s.upd.answered := (h _ hF).2.2.2.2
theorem Frame.upd_running_eq (h : Frame F s u) (hF : F.contains .updRun = false) :
    u.upd.running = s.upd.running := (h _ hF).1
theorem Frame.upd_runHdr_eq (h : Frame F s u) (hF : F.contains .updRun = false) :
    u.upd.runHdr = s.upd.runHdr := (h _ hF).2.1
theorem Frame.upd_oldFw_eq (h : Frame F s u) (hF : F.contains .updRun = false) :
    u.upd.oldFw = s.upd.oldFw := (h _ hF).2.2.1
theorem Frame.upd_recordFormat_eq (h : Frame F s u) (hF : F.contains .updRun = false) :
    u.upd.recordFormat = s.upd.recordFormat := (h _ hF).2.2.2.1
theorem Frame.upd_handover_eq (h : Frame F s u) (hF : F.contains .updRun = false) :
    u.upd.handover = s.upd.handover := (h _ hF).2.2.2.2.1
theorem Frame.upd_migrate_eq (h : Frame F s u) (hF : F.contains .updRun = false) :
    u.upd.migrate = s.upd.migrate := (h _ hF).2.2.2.2.2.1
theorem Frame.upd_trialAt_eq (h : Frame F s u) (hF : F.contains .updRun = false) :
    u.upd.trialAt = s.upd.trialAt := (h _ hF).2.2.2.2.2.2.1
theorem Frame.upd_warned_eq (h : Frame F s u) (hF : F.contains .updRun = false) :
    u.upd.warned = s.upd.warned := (h _ hF).2.2.2.2.2.2.2.1
theorem Frame.upd_migrateAt_eq (h : Frame F s u) (hF : F.contains .updRun = false) :
    u.upd.migrateAt = s.upd.migrateAt := (h _ hF).2.2.2.2.2.2.2.2.1
theorem Frame.upd_kept_eq (h : Frame F s u) (hF : F.contains .updRun = false) :
    u.upd.kept = s.upd.kept := (h _ hF).2.2.2.2.2.2.2.2.2
theorem Frame.twin_released_eq (h : Frame F s u) (hF : F.contains .twinLine = false) :
    u.twin.released = s.twin.released := (h _ hF).1
theorem Frame.twin_ownDrive_eq (h : Frame F s u) (hF : F.contains .twinLine = false) :
    u.twin.ownDrive = s.twin.ownDrive := (h _ hF).2.1
theorem Frame.twin_probeAt_eq (h : Frame F s u) (hF : F.contains .twinLine = false) :
    u.twin.probeAt = s.twin.probeAt := (h _ hF).2.2.1
theorem Frame.twin_probeOk_eq (h : Frame F s u) (hF : F.contains .twinLine = false) :
    u.twin.probeOk = s.twin.probeOk := (h _ hF).2.2.2.1
theorem Frame.twin_claimFrom_eq (h : Frame F s u) (hF : F.contains .twinLine = false) :
    u.twin.claimFrom = s.twin.claimFrom := (h _ hF).2.2.2.2.1
theorem Frame.twin_claimAt_eq (h : Frame F s u) (hF : F.contains .twinLine = false) :
    u.twin.claimAt = s.twin.claimAt := (h _ hF).2.2.2.2.2.1
theorem Frame.twin_raise_eq (h : Frame F s u) (hF : F.contains .twinLine = false) :
    u.twin.raise = s.twin.raise := (h _ hF).2.2.2.2.2.2.1
theorem Frame.twin_lineReadback_eq (h : Frame F s u) (hF : F.contains .twinLine = false) :
    u.twin.lineReadback = s.twin.lineReadback := (h _ hF).2.2.2.2.2.2.2.1
theorem Frame.twin_gateFrom_eq (h : Frame F s u) (hF : F.contains .twinLine = false) :
    u.twin.gateFrom = s.twin.gateFrom := (h _ hF).2.2.2.2.2.2.2.2
theorem Frame.twin_l_eq (h : Frame F s u) (hF : F.contains .twinLink = false) :
    u.twin.l = s.twin.l := (h _ hF).1
theorem Frame.twin_healthSeq_eq (h : Frame F s u) (hF : F.contains .twinLink = false) :
    u.twin.healthSeq = s.twin.healthSeq := (h _ hF).2.1
theorem Frame.twin_lastHealth_eq (h : Frame F s u) (hF : F.contains .twinLink = false) :
    u.twin.lastHealth = s.twin.lastHealth := (h _ hF).2.2.1
theorem Frame.twin_cursor_eq (h : Frame F s u) (hF : F.contains .twinLink = false) :
    u.twin.cursor = s.twin.cursor := (h _ hF).2.2.2.1
theorem Frame.twin_mirror_eq (h : Frame F s u) (hF : F.contains .twinLink = false) :
    u.twin.mirror = s.twin.mirror := (h _ hF).2.2.2.2.1
theorem Frame.twin_acked_eq (h : Frame F s u) (hF : F.contains .twinLink = false) :
    u.twin.acked = s.twin.acked := (h _ hF).2.2.2.2.2.1
theorem Frame.twin_offered_eq (h : Frame F s u) (hF : F.contains .twinLink = false) :
    u.twin.offered = s.twin.offered := (h _ hF).2.2.2.2.2.2.1
theorem Frame.twin_secured_eq (h : Frame F s u) (hF : F.contains .twinLink = false) :
    u.twin.secured = s.twin.secured := (h _ hF).2.2.2.2.2.2.2.1
theorem Frame.twin_peerDuty_eq (h : Frame F s u) (hF : F.contains .twinLink = false) :
    u.twin.peerDuty = s.twin.peerDuty := (h _ hF).2.2.2.2.2.2.2.2.1
theorem Frame.twin_offer_eq (h : Frame F s u) (hF : F.contains .twinLink = false) :
    u.twin.offer = s.twin.offer := (h _ hF).2.2.2.2.2.2.2.2.2.1
theorem Frame.twin_mirrorAt_eq (h : Frame F s u) (hF : F.contains .twinLink = false) :
    u.twin.mirrorAt = s.twin.mirrorAt := (h _ hF).2.2.2.2.2.2.2.2.2.2.1
theorem Frame.twin_mirrorLost_eq (h : Frame F s u) (hF : F.contains .twinLink = false) :
    u.twin.mirrorLost = s.twin.mirrorLost := (h _ hF).2.2.2.2.2.2.2.2.2.2.2.1
theorem Frame.twin_silent_eq (h : Frame F s u) (hF : F.contains .twinLink = false) :
    u.twin.silent = s.twin.silent := (h _ hF).2.2.2.2.2.2.2.2.2.2.2.2
theorem Frame.twin_sync_eq (h : Frame F s u) (hF : F.contains .twinSync = false) :
    u.twin.sync = s.twin.sync := (h _ hF).1
theorem Frame.twin_lastSync_eq (h : Frame F s u) (hF : F.contains .twinSync = false) :
    u.twin.lastSync = s.twin.lastSync := (h _ hF).2.1
theorem Frame.twin_hearthKept_eq (h : Frame F s u) (hF : F.contains .twinSync = false) :
    u.twin.hearthKept = s.twin.hearthKept := (h _ hF).2.2
theorem Frame.saf_latentAt_eq (h : Frame F s u) (hF : F.contains .safTests = false) :
    u.saf.latentAt = s.saf.latentAt := (h _ hF).1
theorem Frame.saf_latentFailed_eq (h : Frame F s u) (hF : F.contains .safTests = false) :
    u.saf.latentFailed = s.saf.latentFailed := (h _ hF).2.1
theorem Frame.saf_tempFront_eq (h : Frame F s u) (hF : F.contains .safTests = false) :
    u.saf.tempFront = s.saf.tempFront := (h _ hF).2.2.1
theorem Frame.saf_tempCore_eq (h : Frame F s u) (hF : F.contains .safTests = false) :
    u.saf.tempCore = s.saf.tempCore := (h _ hF).2.2.2.1
theorem Frame.saf_hbAt_eq (h : Frame F s u) (hF : F.contains .safTests = false) :
    u.saf.hbAt = s.saf.hbAt := (h _ hF).2.2.2.2
theorem Frame.saf_hbRing_eq (h : Frame F s u) (hF : F.contains .safBeat = false) :
    u.saf.hbRing = s.saf.hbRing := (h _ hF)
theorem Frame.dbg_eq (h : Frame F s u) (hF : F.contains .dbg = false) :
    u.dbg = s.dbg := (h _ hF)
theorem Frame.cellar_records_eq (h : Frame F s u) (hF : F.contains .cellarRecords = false) :
    u.cellar.records = s.cellar.records := (h _ hF).1
theorem Frame.cellar_next_eq (h : Frame F s u) (hF : F.contains .cellarRecords = false) :
    u.cellar.next = s.cellar.next := (h _ hF).2
theorem Frame.cellar_opBase_eq (h : Frame F s u) (hF : F.contains .cellarRest = false) :
    u.cellar.opBase = s.cellar.opBase := (h _ hF).1
theorem Frame.cellar_opFrom_eq (h : Frame F s u) (hF : F.contains .cellarRest = false) :
    u.cellar.opFrom = s.cellar.opFrom := (h _ hF).2.1
theorem Frame.cellar_opSaved_eq (h : Frame F s u) (hF : F.contains .cellarRest = false) :
    u.cellar.opSaved = s.cellar.opSaved := (h _ hF).2.2.1
theorem Frame.cellar_powerCycles_eq (h : Frame F s u) (hF : F.contains .cellarRest = false) :
    u.cellar.powerCycles = s.cellar.powerCycles := (h _ hF).2.2.2.1
theorem Frame.cellar_lostFull_eq (h : Frame F s u) (hF : F.contains .cellarRest = false) :
    u.cellar.lostFull = s.cellar.lostFull := (h _ hF).2.2.2.2.1
theorem Frame.cellar_clearing_eq (h : Frame F s u) (hF : F.contains .cellarRest = false) :
    u.cellar.clearing = s.cellar.clearing := (h _ hF).2.2.2.2.2.1
theorem Frame.cellar_buckets_eq (h : Frame F s u) (hF : F.contains .cellarRest = false) :
    u.cellar.buckets = s.cellar.buckets := (h _ hF).2.2.2.2.2.2.1
theorem Frame.cellar_hold_eq (h : Frame F s u) (hF : F.contains .cellarRest = false) :
    u.cellar.hold = s.cellar.hold := (h _ hF).2.2.2.2.2.2.2.1
theorem Frame.cellar_frozenAt_eq (h : Frame F s u) (hF : F.contains .cellarRest = false) :
    u.cellar.frozenAt = s.cellar.frozenAt := (h _ hF).2.2.2.2.2.2.2.2.1
theorem Frame.cellar_lostHold_eq (h : Frame F s u) (hF : F.contains .cellarRest = false) :
    u.cellar.lostHold = s.cellar.lostHold := (h _ hF).2.2.2.2.2.2.2.2.2.1
theorem Frame.cellar_unlearned_eq (h : Frame F s u) (hF : F.contains .cellarRest = false) :
    u.cellar.unlearned = s.cellar.unlearned := (h _ hF).2.2.2.2.2.2.2.2.2.2.1
theorem Frame.cellar_latch_eq (h : Frame F s u) (hF : F.contains .cellarRest = false) :
    u.cellar.latch = s.cellar.latch := (h _ hF).2.2.2.2.2.2.2.2.2.2.2.1
theorem Frame.cellar_clearMsg_eq (h : Frame F s u) (hF : F.contains .cellarRest = false) :
    u.cellar.clearMsg = s.cellar.clearMsg := (h _ hF).2.2.2.2.2.2.2.2.2.2.2.2
theorem Frame.saf_bg_eq (h : Frame F s u) (hF : F.contains .safBg = false) :
    u.saf.bg = s.saf.bg := (h _ hF)
theorem Frame.tab_busy_eq (h : Frame F s u) (hF : F.contains .fwdBusy = false) :
    u.tab.busy = s.tab.busy := (h _ hF)
theorem Frame.hif_msixTable_eq (h : Frame F s u) (hF : F.contains .hifMsix = false) :
    u.hif.msixTable = s.hif.msixTable := (h _ hF).1
theorem Frame.hif_msixPending_eq (h : Frame F s u) (hF : F.contains .hifMsix = false) :
    u.hif.msixPending = s.hif.msixPending := (h _ hF).2.1
theorem Frame.hif_msixMask_eq (h : Frame F s u) (hF : F.contains .hifMsix = false) :
    u.hif.msixMask = s.hif.msixMask := (h _ hF).2.2
theorem Frame.upd_dutyAt_eq (h : Frame F s u) (hF : F.contains .dutySaved = false) :
    u.upd.dutyAt = s.upd.dutyAt := (h _ hF)

/-! The front end of any region. -/

theorem Frame.rad_inService (h : Frame F s u) (hF : F.contains .radioService = false) (r : Region) :
    (u.rad r).inService = (s.rad r).inService := by
  cases r
  · exact h.radio_l_inService_eq hF
  · exact h.radio_m_inService_eq hF
  · exact h.radio_h_inService_eq hF
theorem Frame.rad_isolated (h : Frame F s u) (hF : F.contains .radioService = false) (r : Region) :
    (u.rad r).isolated = (s.rad r).isolated := by
  cases r
  · exact h.radio_l_isolated_eq hF
  · exact h.radio_m_isolated_eq hF
  · exact h.radio_h_isolated_eq hF
theorem Frame.rad_barred (h : Frame F s u) (hF : F.contains .radioService = false) (r : Region) :
    (u.rad r).barred = (s.rad r).barred := by
  cases r
  · exact h.radio_l_barred_eq hF
  · exact h.radio_m_barred_eq hF
  · exact h.radio_h_barred_eq hF
theorem Frame.rad_loLocked (h : Frame F s u) (hF : F.contains .radioLo = false) (r : Region) :
    (u.rad r).loLocked = (s.rad r).loLocked := by
  cases r
  · exact h.radio_l_loLocked_eq hF
  · exact h.radio_m_loLocked_eq hF
  · exact h.radio_h_loLocked_eq hF
theorem Frame.rad_centre (h : Frame F s u) (hF : F.contains .radioLo = false) (r : Region) :
    (u.rad r).centre = (s.rad r).centre := by
  cases r
  · exact h.radio_l_centre_eq hF
  · exact h.radio_m_centre_eq hF
  · exact h.radio_h_centre_eq hF
theorem Frame.rad_lockLost (h : Frame F s u) (hF : F.contains .radioLo = false) (r : Region) :
    (u.rad r).lockLost = (s.rad r).lockLost := by
  cases r
  · exact h.radio_l_lockLost_eq hF
  · exact h.radio_m_lockLost_eq hF
  · exact h.radio_h_lockLost_eq hF
theorem Frame.rad_carriers (h : Frame F s u) (hF : F.contains .radioCarriers = false) (r : Region) :
    (u.rad r).carriers = (s.rad r).carriers := by
  cases r
  · exact h.radio_l_carriers_eq hF
  · exact h.radio_m_carriers_eq hF
  · exact h.radio_h_carriers_eq hF
theorem Frame.rad_tr (h : Frame F s u) (hF : F.contains .radioLines = false) (r : Region) :
    (u.rad r).tr = (s.rad r).tr := by
  cases r
  · exact h.radio_l_tr_eq hF
  · exact h.radio_m_tr_eq hF
  · exact h.radio_h_tr_eq hF
theorem Frame.rad_paEn (h : Frame F s u) (hF : F.contains .radioLines = false) (r : Region) :
    (u.rad r).paEn = (s.rad r).paEn := by
  cases r
  · exact h.radio_l_paEn_eq hF
  · exact h.radio_m_paEn_eq hF
  · exact h.radio_h_paEn_eq hF
theorem Frame.rad_paMode (h : Frame F s u) (hF : F.contains .radioLines = false) (r : Region) :
    (u.rad r).paMode = (s.rad r).paMode := by
  cases r
  · exact h.radio_l_paMode_eq hF
  · exact h.radio_m_paMode_eq hF
  · exact h.radio_h_paMode_eq hF
theorem Frame.rad_paBias (h : Frame F s u) (hF : F.contains .radioLines = false) (r : Region) :
    (u.rad r).paBias = (s.rad r).paBias := by
  cases r
  · exact h.radio_l_paBias_eq hF
  · exact h.radio_m_paBias_eq hF
  · exact h.radio_h_paBias_eq hF
theorem Frame.rad_paLowAt (h : Frame F s u) (hF : F.contains .radioLines = false) (r : Region) :
    (u.rad r).paLowAt = (s.rad r).paLowAt := by
  cases r
  · exact h.radio_l_paLowAt_eq hF
  · exact h.radio_m_paLowAt_eq hF
  · exact h.radio_h_paLowAt_eq hF
theorem Frame.rad_paHighAt (h : Frame F s u) (hF : F.contains .radioLines = false) (r : Region) :
    (u.rad r).paHighAt = (s.rad r).paHighAt := by
  cases r
  · exact h.radio_l_paHighAt_eq hF
  · exact h.radio_m_paHighAt_eq hF
  · exact h.radio_h_paHighAt_eq hF
theorem Frame.rad_paOff (h : Frame F s u) (hF : F.contains .radioLines = false) (r : Region) :
    (u.rad r).paOff = (s.rad r).paOff := by
  cases r
  · exact h.radio_l_paOff_eq hF
  · exact h.radio_m_paOff_eq hF
  · exact h.radio_h_paOff_eq hF
theorem Frame.rad_timing (h : Frame F s u) (hF : F.contains .radioLines = false) (r : Region) :
    (u.rad r).timing = (s.rad r).timing := by
  cases r
  · exact h.radio_l_timing_eq hF
  · exact h.radio_m_timing_eq hF
  · exact h.radio_h_timing_eq hF
theorem Frame.rad_trStep (h : Frame F s u) (hF : F.contains .radioLines = false) (r : Region) :
    (u.rad r).trStep = (s.rad r).trStep := by
  cases r
  · exact h.radio_l_trStep_eq hF
  · exact h.radio_m_trStep_eq hF
  · exact h.radio_h_trStep_eq hF
theorem Frame.rad_rxValidAt (h : Frame F s u) (hF : F.contains .radioSamples = false) (r : Region) :
    (u.rad r).rxValidAt = (s.rad r).rxValidAt := by
  cases r
  · exact h.radio_l_rxValidAt_eq hF
  · exact h.radio_m_rxValidAt_eq hF
  · exact h.radio_h_rxValidAt_eq hF
theorem Frame.rad_invalid (h : Frame F s u) (hF : F.contains .radioSamples = false) (r : Region) :
    (u.rad r).invalid = (s.rad r).invalid := by
  cases r
  · exact h.radio_l_invalid_eq hF
  · exact h.radio_m_invalid_eq hF
  · exact h.radio_h_invalid_eq hF
theorem Frame.rad_validFrom (h : Frame F s u) (hF : F.contains .radioSamples = false) (r : Region) :
    (u.rad r).validFrom = (s.rad r).validFrom := by
  cases r
  · exact h.radio_l_validFrom_eq hF
  · exact h.radio_m_validFrom_eq hF
  · exact h.radio_h_validFrom_eq hF
theorem Frame.rad_bad (h : Frame F s u) (hF : F.contains .radioSamples = false) (r : Region) :
    (u.rad r).bad = (s.rad r).bad := by
  cases r
  · exact h.radio_l_bad_eq hF
  · exact h.radio_m_bad_eq hF
  · exact h.radio_h_bad_eq hF
theorem Frame.rad_pdet (h : Frame F s u) (hF : F.contains .radioDetector = false) (r : Region) :
    (u.rad r).pdet = (s.rad r).pdet := by
  cases r
  · exact h.radio_l_pdet_eq hF
  · exact h.radio_m_pdet_eq hF
  · exact h.radio_h_pdet_eq hF
theorem Frame.rad_pdetLevel (h : Frame F s u) (hF : F.contains .radioDetector = false) (r : Region) :
    (u.rad r).pdetLevel = (s.rad r).pdetLevel := by
  cases r
  · exact h.radio_l_pdetLevel_eq hF
  · exact h.radio_m_pdetLevel_eq hF
  · exact h.radio_h_pdetLevel_eq hF
theorem Frame.rad_tripped (h : Frame F s u) (hF : F.contains .radioDetector = false) (r : Region) :
    (u.rad r).tripped = (s.rad r).tripped := by
  cases r
  · exact h.radio_l_tripped_eq hF
  · exact h.radio_m_tripped_eq hF
  · exact h.radio_h_tripped_eq hF
theorem Frame.rad_coex (h : Frame F s u) (hF : F.contains .radioCoex = false) (r : Region) :
    (u.rad r).coex = (s.rad r).coex := by
  cases r
  · exact h.radio_l_coex_eq hF
  · exact h.radio_m_coex_eq hF
  · exact h.radio_h_coex_eq hF
theorem Frame.rad_recal (h : Frame F s u) (hF : F.contains .radioRecal = false) (r : Region) :
    (u.rad r).recal = (s.rad r).recal := by
  cases r
  · exact h.radio_l_recal_eq hF
  · exact h.radio_m_recal_eq hF
  · exact h.radio_h_recal_eq hF
theorem Frame.rad_corr (h : Frame F s u) (hF : F.contains .radioCal = false) (r : Region) :
    (u.rad r).corr = (s.rad r).corr := by
  cases r
  · exact h.radio_l_corr_eq hF
  · exact h.radio_m_corr_eq hF
  · exact h.radio_h_corr_eq hF
theorem Frame.rad_winLatch (h : Frame F s u) (hF : F.contains .radioCal = false) (r : Region) :
    (u.rad r).winLatch = (s.rad r).winLatch := by
  cases r
  · exact h.radio_l_winLatch_eq hF
  · exact h.radio_m_winLatch_eq hF
  · exact h.radio_h_winLatch_eq hF
theorem Frame.rad_seededRun (h : Frame F s u) (hF : F.contains .radioCal = false) (r : Region) :
    (u.rad r).seededRun = (s.rad r).seededRun := by
  cases r
  · exact h.radio_l_seededRun_eq hF
  · exact h.radio_m_seededRun_eq hF
  · exact h.radio_h_seededRun_eq hF

theorem rad_radUpd (s : State) (r : Region) (f : Radio → Radio) : (s.radUpd r f).rad r = f (s.rad r) := by
  cases r <;> rfl

theorem rad_radUpd_ne (s : State) {r q : Region} (h : q ≠ r) (f : Radio → Radio) : (s.radUpd r f).rad q = s.rad q := by
  cases r <;> cases q <;> first | rfl | exact absurd rfl h

end Sys2Proof
end

