-- ==== Sys2Proof/Laws/FrameSets.lean ====
section
/-! SUPPORT. Laws/FrameSets.lean: the sets of pieces of state in which the operations' frames are stated. -/

namespace Sys2Proof

open Sys2Proof.Machine

/-- Pieces of state that some operations touch. -/
def touches1 : List Field := [.regs]
/-- Pieces of state that some operations touch. -/
def touches2 : List Field := [.outbox]
/-- Pieces of state that some operations touch. -/
def touches3 : List Field := [.hifRings]
/-- Pieces of state that some operations touch. -/
def touches4 : List Field := [.outbox, .hifRings]
/-- Pieces of state that some operations touch. -/
def touches5 : List Field := [.hifRings, .hifLink, .hifPantry, .hifPorts, .hifLanes, .hifMsix]
/-- Pieces of state that some operations touch. -/
def touches6 : List Field := [.hifPorts]
/-- Pieces of state that some operations touch. -/
def touches7 : List Field := [.outbox, .hifPorts]
/-- Pieces of state that some operations touch. -/
def touches8 : List Field := [.outbox, .hifRings, .hifLink, .hifPantry, .hifPorts, .hifLanes, .hifMsix]
/-- Pieces of state that some operations touch. -/
def touches9 : List Field := [.regs, .outbox, .hifRings]
/-- Pieces of state that some operations touch. -/
def touches10 : List Field := [.regs, .outbox, .hifRings, .hifLink, .hifPantry, .hifPorts, .hifLanes, .hifMsix]
/-- Pieces of state that some operations touch. -/
def touches11 : List Field := [.outbox, .hifLink, .hifMsix]
/-- Pieces of state that some operations touch. -/
def touches12 : List Field := [.regs, .outbox, .hifRings, .hifLink, .hifMsix]
/-- Pieces of state that some operations touch. -/
def touches13 : List Field := [.regs, .outbox, .hifLink]
/-- Pieces of state that some operations touch. -/
def touches14 : List Field := [.hifPantry]
/-- Pieces of state that some operations touch. -/
def touches15 : List Field := [.tabNodes]
/-- Pieces of state that some operations touch. -/
def touches16 : List Field := []
/-- Pieces of state that some operations touch. -/
def touches17 : List Field := [.irqEvents]
/-- Pieces of state that some operations touch. -/
def touches18 : List Field := [.irqEvents, .cellarRecords, .cellarRest]
/-- Pieces of state that some operations touch. -/
def touches19 : List Field := [.regs, .irqEvents, .cellarRecords, .cellarRest]
/-- Pieces of state that some operations touch. -/
def touches20 : List Field := [.regs, .tabNodes, .irqEvents, .cellarRecords, .cellarRest]
/-- Pieces of state that some operations touch. -/
def touches21 : List Field := [.twinLink]
/-- Pieces of state that some operations touch. -/
def touches22 : List Field := [.regs, .tabNodes, .irqEvents, .twinLink, .cellarRecords, .cellarRest]
/-- Pieces of state that some operations touch. -/
def touches23 : List Field := [.regs, .dlsQueues, .tabNodes, .irqEvents, .twinLink, .cellarRecords, .cellarRest]
/-- Pieces of state that some operations touch. -/
def touches24 : List Field := [.porchBookings, .porchRest]
/-- Pieces of state that some operations touch. -/
def touches25 : List Field := [.regs, .outbox, .porchBookings, .porchRest, .dlsQueues, .tabNodes, .hifRings,
  .hifLink, .hifPantry, .hifPorts, .hifLanes, .irqEvents, .twinLink, .cellarRecords, .cellarRest, .hifMsix]
/-- Pieces of state that some operations touch. -/
def touches26 : List Field := [.freeCtr]
/-- Pieces of state that some operations touch. -/
def touches27 : List Field := [.regs, .freeCtr]
/-- Pieces of state that some operations touch. -/
def touches28 : List Field := [.regs, .freeCtr, .tabNodes, .irqEvents, .cellarRecords, .cellarRest]
/-- Pieces of state that some operations touch. -/
def touches29 : List Field := [.dlsQueues]
/-- Pieces of state that some operations touch. -/
def touches30 : List Field := [.porchBookings]
/-- Pieces of state that some operations touch. -/
def touches31 : List Field := [.regs, .porchBookings]
/-- Pieces of state that some operations touch. -/
def touches32 : List Field := [.regs, .porchBookings, .dlsQueues, .tabNodes, .irqEvents, .twinLink, .cellarRecords,
  .cellarRest]
/-- Pieces of state that some operations touch. -/
def touches33 : List Field := [.regs, .freeCtr, .outbox, .porchBookings, .porchRest, .dlsQueues, .tabNodes,
  .hifRings, .hifLink, .hifPantry, .hifPorts, .hifLanes, .irqEvents, .twinLink, .cellarRecords, .cellarRest, .hifMsix]
/-- Pieces of state that some operations touch. -/
def touches34 : List Field := [.tsuPins]
/-- Pieces of state that some operations touch. -/
def touches35 : List Field := [.regs, .tsuPins]
/-- Pieces of state that some operations touch. -/
def touches36 : List Field := [.freeCtr, .fwdBusy]
/-- Pieces of state that some operations touch. -/
def touches37 : List Field := [.regs, .freeCtr, .irqEvents, .fwdBusy]
/-- Pieces of state that some operations touch. -/
def touches38 : List Field := [.tabEntries]
/-- Pieces of state that some operations touch. -/
def touches39 : List Field := [.rx]
/-- Pieces of state that some operations touch. -/
def touches40 : List Field := [.dlsRest]
/-- Pieces of state that some operations touch. -/
def touches41 : List Field := [.radioCarriers]
/-- Pieces of state that some operations touch. -/
def touches42 : List Field := [.regs, .freeCtr, .radioCarriers, .porchBookings, .dlsRest]
/-- Pieces of state that some operations touch. -/
def touches43 : List Field := [.regs, .radioCarriers, .mac]
/-- Pieces of state that some operations touch. -/
def touches44 : List Field := [.regs, .freeCtr, .radioCarriers, .mac, .porchBookings, .dlsRest]
/-- Pieces of state that some operations touch. -/
def touches45 : List Field := [.radioCoex]
/-- Pieces of state that some operations touch. -/
def touches46 : List Field := [.tx]
/-- Pieces of state that some operations touch. -/
def touches47 : List Field := [.tx, .twinLink]
/-- Pieces of state that some operations touch. -/
def touches48 : List Field := [.regs, .freeCtr, .radioCarriers, .radioCoex, .tx, .mac, .porchBookings, .dlsRest,
  .twinLink]
/-- Pieces of state that some operations touch. -/
def touches49 : List Field := [.regs, .dlsRest]
/-- Pieces of state that some operations touch. -/
def touches50 : List Field := [.regs, .porchBookings, .irqEvents, .cellarRecords, .cellarRest]
/-- Pieces of state that some operations touch. -/
def touches51 : List Field := [.regs, .freeCtr, .outbox, .porchBookings, .porchRest, .dlsQueues, .dlsRest, .tabNodes,
  .hifRings, .hifLink, .hifPantry, .hifPorts, .hifLanes, .irqEvents, .twinLink, .cellarRecords, .cellarRest, .hifMsix]
/-- Pieces of state that some operations touch. -/
def touches52 : List Field := [.freeCtr, .radioCarriers]
/-- Pieces of state that some operations touch. -/
def touches53 : List Field := [.regs, .freeCtr, .outbox, .radioCarriers, .radioCoex, .tx, .mac, .porchBookings,
  .porchRest, .dlsQueues, .dlsRest, .tabNodes, .hifRings, .hifLink, .hifPantry, .hifPorts, .hifLanes, .irqEvents,
  .twinLink, .cellarRecords, .cellarRest, .hifMsix]
/-- Pieces of state that some operations touch. -/
def touches54 : List Field := [.lanes]
/-- Pieces of state that some operations touch. -/
def touches55 : List Field := [.regs, .lanes]
/-- Pieces of state that some operations touch. -/
def touches56 : List Field := [.now, .rx]
/-- Pieces of state that some operations touch. -/
def touches57 : List Field := [.now, .regs, .freeCtr, .outbox, .radioCarriers, .radioCoex, .rx, .lanes, .tx, .mac,
  .porchBookings, .porchRest, .dlsQueues, .dlsRest, .tabNodes, .hifRings, .hifLink, .hifPantry, .hifPorts, .hifLanes,
  .irqEvents, .twinLink, .cellarRecords, .cellarRest, .hifMsix]
/-- Pieces of state that some operations touch. -/
def touches58 : List Field := [.regs, .readData, .tabNodes, .irqEvents, .cellarRecords, .cellarRest]
/-- Pieces of state that some operations touch. -/
def touches59 : List Field := [.regs, .tx, .tabNodes, .irqEvents, .twinLink, .cellarRecords, .cellarRest]
/-- Pieces of state that some operations touch. -/
def touches60 : List Field := [.regs, .tsuTime]
/-- Pieces of state that some operations touch. -/
def touches61 : List Field := [.twinLink, .twinSync]
/-- Pieces of state that some operations touch. -/
def touches62 : List Field := [.sysMode, .sysTransition, .sysStage]
/-- Pieces of state that some operations touch. -/
def touches63 : List Field := [.regs, .outbox, .hifRings, .hifLink, .hifPantry, .hifPorts, .hifLanes, .safBeat,
  .hifMsix]
/-- Pieces of state that some operations touch. -/
def touches64 : List Field := [.regs, .outbox, .lanes, .hifRings, .hifLink, .hifPantry, .hifPorts, .hifLanes,
  .safBeat, .hifMsix]
/-- Pieces of state that some operations touch. -/
def touches65 : List Field := [.regs, .outbox, .rx, .lanes, .hifRings, .hifLink, .hifPantry, .hifPorts, .hifLanes,
  .safBeat, .hifMsix]
/-- Pieces of state that some operations touch. -/
def touches66 : List Field := [.keyEngine]
/-- Pieces of state that some operations touch. -/
def touches67 : List Field := [.regs, .jobs]
/-- Pieces of state that some operations touch. -/
def touches68 : List Field := [.regs, .outbox, .jobs, .hifRings, .hifLink, .hifMsix]
/-- Pieces of state that some operations touch. -/
def touches69 : List Field := [.regs, .outbox, .jobs, .hifRings, .hifLink, .irqEvents, .twinLink, .hifMsix]
/-- Pieces of state that some operations touch. -/
def touches70 : List Field := [.irqEvents, .twinLink]
/-- Pieces of state that some operations touch. -/
def touches71 : List Field := [.regs, .freeCtr, .outbox, .jobs, .hifRings, .hifLink, .irqEvents, .twinLine,
  .twinLink, .twinSync, .hifMsix]
/-- Pieces of state that some operations touch. -/
def touches72 : List Field := [.regs, .freeCtr, .outbox, .dieLink, .pairs, .strApplying, .radioLo, .radioCarriers,
  .radioLines, .radioSamples, .radioDetector, .radioCoex, .radioRecal, .radioCal, .rx, .lanes, .tx, .mac,
  .porchBookings, .porchRest, .dlsRest, .tabNodes, .tabEntries, .tabPrefixes, .jobs, .hifRings, .hifLink, .hifPantry,
  .hifPorts, .hifLanes, .tsuTime, .tsuPins, .timers, .irqEvents, .irqSources, .irqWake, .keyEngine, .updLock,
  .updRun, .twinLine, .twinLink, .twinSync, .safTests, .safBeat, .dbg, .cellarRecords, .cellarRest, .safBg, .fwdBusy,
  .hifMsix]
/-- Pieces of state that some operations touch. -/
def touches73 : List Field := [.regs, .freeCtr, .outbox, .sysDomains, .dieLink, .pairs, .strApplying, .radioLo,
  .radioCarriers, .radioLines, .radioSamples, .radioDetector, .radioCoex, .radioRecal, .radioCal, .rx, .lanes, .tx,
  .mac, .porchBookings, .porchRest, .dlsRest, .tabNodes, .tabEntries, .tabPrefixes, .jobs, .hifRings, .hifLink,
  .hifPantry, .hifPorts, .hifLanes, .tsuTime, .tsuPins, .timers, .irqEvents, .irqSources, .irqWake, .keyEngine,
  .updLock, .updRun, .twinLine, .twinLink, .twinSync, .safTests, .safBeat, .dbg, .cellarRecords, .cellarRest, .safBg,
  .fwdBusy, .hifMsix]
/-- Pieces of state that some operations touch. -/
def touches74 : List Field := [.regs, .sysStart, .sysDomains, .radioLines, .radioSamples, .radioRecal, .rx, .tx,
  .jobs, .hifRings, .hifLink, .hifPantry, .hifPorts, .hifLanes, .hifMsix]
/-- Pieces of state that some operations touch. -/
def touches75 : List Field := [.regs, .freeCtr, .outbox, .sysStart, .sysDomains, .dieLink, .pairs, .strApplying,
  .radioLo, .radioCarriers, .radioLines, .radioSamples, .radioDetector, .radioCoex, .radioRecal, .radioCal, .rx,
  .lanes, .tx, .mac, .porchBookings, .porchRest, .dlsRest, .tabNodes, .tabEntries, .tabPrefixes, .jobs, .hifRings,
  .hifLink, .hifPantry, .hifPorts, .hifLanes, .tsuTime, .tsuPins, .timers, .irqEvents, .irqSources, .irqWake,
  .keyEngine, .updLock, .updRun, .twinLine, .twinLink, .twinSync, .safTests, .safBeat, .dbg, .cellarRecords,
  .cellarRest, .safBg, .fwdBusy, .hifMsix]
/-- Pieces of state that some operations touch. -/
def touches76 : List Field := [.regs, .freeCtr, .outbox, .sysMode, .sysTransition, .sysStage, .sysStart, .sysDomains,
  .dieLink, .pairs, .strApplying, .radioLo, .radioCarriers, .radioLines, .radioSamples, .radioDetector, .radioCoex,
  .radioRecal, .radioCal, .rx, .lanes, .tx, .mac, .porchBookings, .porchRest, .dlsRest, .tabNodes, .tabEntries,
  .tabPrefixes, .jobs, .hifRings, .hifLink, .hifPantry, .hifPorts, .hifLanes, .tsuTime, .tsuPins, .timers,
  .irqEvents, .irqSources, .irqWake, .keyEngine, .updLock, .updRun, .twinLine, .twinLink, .twinSync, .safTests,
  .safBeat, .dbg, .cellarRecords, .cellarRest, .safBg, .fwdBusy, .hifMsix]
/-- Pieces of state that some operations touch. -/
def touches77 : List Field := [.radioService, .radioLo, .radioCarriers, .radioLines, .radioSamples, .radioDetector,
  .radioCoex, .radioRecal, .radioCal]
/-- Pieces of state that some operations touch. -/
def touches78 : List Field := [.regs, .outbox, .radioService, .radioLo, .radioCarriers, .radioLines, .radioSamples,
  .radioDetector, .radioCoex, .radioRecal, .radioCal, .porchBookings, .porchRest, .dlsQueues, .tabNodes, .hifRings,
  .hifLink, .hifPantry, .hifPorts, .hifLanes, .irqEvents, .twinLink, .cellarRecords, .cellarRest, .hifMsix]
/-- Pieces of state that some operations touch. -/
def touches79 : List Field := [.twinLine]
/-- Pieces of state that some operations touch. -/
def touches80 : List Field := [.outbox, .twinLink]
/-- Pieces of state that some operations touch. -/
def touches81 : List Field := [.regs, .freeCtr, .outbox, .sysMode, .sysTransition, .sysStage, .sysStart, .sysDomains,
  .dieLink, .pairs, .strApplying, .radioService, .radioLo, .radioCarriers, .radioLines, .radioSamples,
  .radioDetector, .radioCoex, .radioRecal, .radioCal, .rx, .lanes, .tx, .mac, .porchBookings, .porchRest, .dlsQueues,
  .dlsRest, .tabNodes, .tabEntries, .tabPrefixes, .jobs, .hifRings, .hifLink, .hifPantry, .hifPorts, .hifLanes,
  .tsuTime, .tsuPins, .timers, .irqEvents, .irqSources, .irqWake, .keyEngine, .updLock, .updRun, .twinLine,
  .twinLink, .twinSync, .safTests, .safBeat, .dbg, .cellarRecords, .cellarRest, .safBg, .fwdBusy, .hifMsix]
/-- Pieces of state that some operations touch. -/
def touches82 : List Field := [.regs, .freeCtr, .outbox, .sysMode, .sysTransition, .sysCommand, .sysStage, .sysStart,
  .sysDomains, .dieLink, .pairs, .strApplying, .radioService, .radioLo, .radioCarriers, .radioLines, .radioSamples,
  .radioDetector, .radioCoex, .radioRecal, .radioCal, .rx, .lanes, .tx, .mac, .porchBookings, .porchRest, .dlsQueues,
  .dlsRest, .tabNodes, .tabEntries, .tabPrefixes, .jobs, .hifRings, .hifLink, .hifPantry, .hifPorts, .hifLanes,
  .tsuTime, .tsuPins, .timers, .irqEvents, .irqSources, .irqWake, .keyEngine, .updLock, .updRun, .twinLine,
  .twinLink, .twinSync, .safTests, .safBeat, .dbg, .cellarRecords, .cellarRest, .safBg, .fwdBusy, .hifMsix]
/-- Pieces of state that some operations touch. -/
def touches83 : List Field := [.cellarRecords, .cellarRest]
/-- Pieces of state that some operations touch. -/
def touches84 : List Field := [.updNv]
/-- Pieces of state that some operations touch. -/
def touches85 : List Field := [.updNv, .updRun]
/-- Pieces of state that some operations touch. -/
def touches86 : List Field := [.updNv, .dutySaved]
/-- Pieces of state that some operations touch. -/
def touches87 : List Field := [.cellarRest]
/-- Pieces of state that some operations touch. -/
def touches88 : List Field := [.sysCommand, .sysStart, .sysWake, .irqWake, .keyIdentity]
/-- Pieces of state that some operations touch. -/
def touches89 : List Field := [.hifRings, .hifPantry, .hifPorts, .hifLanes]
/-- Pieces of state that some operations touch. -/
def touches90 : List Field := [.now, .regs, .freeCtr, .outbox, .sysMode, .sysTransition, .sysCommand, .sysStage,
  .sysStart, .sysDomains, .sysWake, .dieLink, .pairs, .strApplying, .radioLo, .radioCarriers, .radioLines,
  .radioSamples, .radioDetector, .radioCoex, .radioRecal, .radioCal, .rx, .lanes, .tx, .mac, .porchBookings,
  .porchRest, .dlsRest, .tabNodes, .tabEntries, .tabPrefixes, .jobs, .hifRings, .hifLink, .hifPantry, .hifPorts,
  .hifLanes, .tsuTime, .tsuPins, .timers, .irqEvents, .irqSources, .irqWake, .keyIdentity, .keyEngine, .updNv,
  .updLock, .updRun, .twinLine, .twinLink, .twinSync, .safTests, .safBeat, .dbg, .cellarRecords, .cellarRest, .safBg,
  .fwdBusy, .hifMsix, .dutySaved]
/-- Pieces of state that some operations touch. -/
def touches91 : List Field := [.dbg]
/-- Pieces of state that some operations touch. -/
def touches92 : List Field := [.outbox, .dbg]
/-- Pieces of state that some operations touch. -/
def touches93 : List Field := [.radioRecal]
/-- Pieces of state that some operations touch. -/
def touches94 : List Field := [.regs, .irqEvents]
/-- Pieces of state that some operations touch. -/
def touches95 : List Field := [.updLock]
/-- Pieces of state that some operations touch. -/
def touches96 : List Field := [.regs, .irqEvents, .updLock]
/-- Pieces of state that some operations touch. -/
def touches97 : List Field := [.irqSources]
/-- Pieces of state that some operations touch. -/
def touches98 : List Field := [.regs, .irqEvents, .irqSources, .cellarRecords, .cellarRest]
/-- Pieces of state that some operations touch. -/
def touches99 : List Field := [.timers]
/-- Pieces of state that some operations touch. -/
def touches100 : List Field := [.regs, .timers]
/-- Pieces of state that some operations touch. -/
def touches101 : List Field := [.keyIdentity, .keyStores, .keyEngine]
/-- Pieces of state that some operations touch. -/
def touches102 : List Field := [.sysCommand]
/-- Pieces of state that some operations touch. -/
def touches103 : List Field := [.now]
/-- Pieces of state that some operations touch. -/
def touches104 : List Field := [.regs, .loftReady, .oos, .oosClusters, .sysMode, .sysTransition, .sysCommand,
  .sysStage, .sysStart, .sysDomains, .sysBoard, .sysWake, .dieLink, .pairs, .strActive, .strApplying, .radioService,
  .radioLo, .radioCarriers, .radioLines, .radioSamples, .radioDetector, .radioCoex, .radioRecal, .radioCal, .rx,
  .lanes, .tx, .mac, .porchBookings, .porchRest, .dlsQueues, .dlsRest, .tabNodes, .tabEntries, .tabPrefixes, .jobs,
  .hifRings, .hifLink, .hifPantry, .hifPorts, .hifLanes, .tsuTime, .tsuPins, .timers, .irqEvents, .irqSources,
  .irqWake, .keyIdentity, .keyEngine, .updFlash, .updLock, .updRun, .twinLine, .twinLink, .twinSync, .safTests,
  .safBeat, .dbg, .cellarRest, .safBg, .fwdBusy, .hifMsix, .dutySaved]
/-- Pieces of state that some operations touch. -/
def touches105 : List Field := [.regs, .jobs, .keyEngine]
/-- Pieces of state that some operations touch. -/
def touches106 : List Field := [.regs, .tabNodes, .jobs, .irqEvents, .keyEngine, .cellarRecords, .cellarRest]
/-- Pieces of state that some operations touch. -/
def touches107 : List Field := [.regs, .tabNodes, .jobs, .irqEvents, .keyEngine, .twinLink, .cellarRecords,
  .cellarRest]
/-- Pieces of state that some operations touch. -/
def touches108 : List Field := [.regs, .hifRings, .hifLink, .hifPantry, .hifPorts, .hifLanes, .irqEvents,
  .cellarRecords, .cellarRest, .hifMsix]
/-- Pieces of state that some operations touch. -/
def touches109 : List Field := [.regs, .freeCtr, .outbox, .tx, .porchBookings, .porchRest, .dlsQueues, .tabNodes,
  .jobs, .hifRings, .hifLink, .hifPantry, .hifPorts, .hifLanes, .irqEvents, .twinLink, .cellarRecords, .cellarRest,
  .hifMsix]
/-- Pieces of state that some operations touch. -/
def touches110 : List Field := [.regs, .freeCtr, .outbox, .radioCarriers, .radioCoex, .tx, .mac, .porchBookings,
  .porchRest, .dlsQueues, .dlsRest, .tabNodes, .jobs, .hifRings, .hifLink, .hifPantry, .hifPorts, .hifLanes,
  .irqEvents, .keyEngine, .twinLink, .cellarRecords, .cellarRest, .hifMsix]
/-- Pieces of state that some operations touch. -/
def touches111 : List Field := [.oos, .oosClusters, .radioService, .twinLine, .safTests]
/-- Pieces of state that some operations touch. -/
def touches112 : List Field := [.radioCarriers, .radioSamples, .lanes]
/-- Pieces of state that some operations touch. -/
def touches113 : List Field := [.regs, .radioCarriers, .radioSamples, .lanes]
/-- Pieces of state that some operations touch. -/
def touches114 : List Field := [.regs, .radioService, .radioLo, .radioCarriers, .radioLines, .radioSamples,
  .radioDetector, .radioCoex, .radioRecal, .radioCal, .lanes]
/-- Pieces of state that some operations touch. -/
def touches115 : List Field := [.radioSamples]
/-- Pieces of state that some operations touch. -/
def touches116 : List Field := [.regs, .tx, .twinLink]
/-- Pieces of state that some operations touch. -/
def touches117 : List Field := [.outbox, .hifLink, .irqSources, .hifMsix]
/-- Pieces of state that some operations touch. -/
def touches118 : List Field := [.regs, .outbox, .hifLink, .irqEvents, .irqSources, .cellarRecords, .cellarRest,
  .hifMsix]
/-- Pieces of state that some operations touch. -/
def touches119 : List Field := [.regs, .strCounter, .irqEvents, .cellarRecords, .cellarRest]
/-- Pieces of state that some operations touch. -/
def touches120 : List Field := [.regs, .freeCtr, .outbox, .oos, .oosClusters, .sysMode, .sysTransition, .sysStage,
  .sysStart, .sysDomains, .dieLink, .pairs, .strActive, .strApplying, .strCounter, .radioService, .radioLo,
  .radioCarriers, .radioLines, .radioSamples, .radioDetector, .radioCoex, .radioRecal, .radioCal, .rx, .lanes, .tx,
  .mac, .porchBookings, .porchRest, .dlsRest, .tabNodes, .tabEntries, .tabPrefixes, .jobs, .hifRings, .hifLink,
  .hifPantry, .hifPorts, .hifLanes, .tsuTime, .tsuPins, .timers, .irqEvents, .irqSources, .irqWake, .keyEngine,
  .updLock, .updRun, .twinLine, .twinLink, .twinSync, .safTests, .safBeat, .dbg, .cellarRecords, .cellarRest, .safBg,
  .fwdBusy, .hifMsix]
/-- Pieces of state that some operations touch. -/
def touches121 : List Field := [.regs, .freeCtr, .outbox, .radioService, .radioLo, .radioCarriers, .radioLines,
  .radioSamples, .radioDetector, .radioCoex, .radioRecal, .radioCal, .lanes, .tx, .mac, .porchBookings, .porchRest,
  .dlsQueues, .dlsRest, .tabNodes, .hifRings, .hifLink, .hifPantry, .hifPorts, .hifLanes, .irqEvents, .twinLink,
  .cellarRecords, .cellarRest, .hifMsix]
/-- Pieces of state that some operations touch. -/
def touches122 : List Field := [.sysTransition, .sysCommand, .strApplying]
/-- Pieces of state that some operations touch. -/
def touches123 : List Field := [.regs, .freeCtr, .outbox, .sysTransition, .sysCommand, .strApplying, .radioService,
  .radioLo, .radioCarriers, .radioLines, .radioSamples, .radioDetector, .radioCoex, .radioRecal, .radioCal, .rx,
  .lanes, .tx, .mac, .porchBookings, .porchRest, .dlsQueues, .dlsRest, .tabNodes, .hifRings, .hifLink, .hifPantry,
  .hifPorts, .hifLanes, .irqEvents, .updLock, .twinLink, .safBeat, .cellarRecords, .cellarRest, .hifMsix]
/-- Pieces of state that some operations touch. -/
def touches124 : List Field := [.regs, .freeCtr, .outbox, .oos, .oosClusters, .sysMode, .sysTransition, .sysCommand,
  .sysStage, .sysStart, .sysDomains, .dieLink, .pairs, .strActive, .strApplying, .strCounter, .radioService,
  .radioLo, .radioCarriers, .radioLines, .radioSamples, .radioDetector, .radioCoex, .radioRecal, .radioCal, .rx,
  .lanes, .tx, .mac, .porchBookings, .porchRest, .dlsQueues, .dlsRest, .tabNodes, .tabEntries, .tabPrefixes, .jobs,
  .hifRings, .hifLink, .hifPantry, .hifPorts, .hifLanes, .tsuTime, .tsuPins, .timers, .irqEvents, .irqSources,
  .irqWake, .keyEngine, .updLock, .updRun, .twinLine, .twinLink, .twinSync, .safTests, .safBeat, .dbg,
  .cellarRecords, .cellarRest, .safBg, .fwdBusy, .hifMsix]
/-- Pieces of state that some operations touch. -/
def touches125 : List Field := [.regs, .rx, .lanes]
/-- Pieces of state that some operations touch. -/
def touches126 : List Field := [.tabPrefixes]
/-- Pieces of state that some operations touch. -/
def touches127 : List Field := [.regs, .tabNodes, .tabEntries, .irqEvents, .cellarRecords, .cellarRest]
/-- Pieces of state that some operations touch. -/
def touches128 : List Field := [.regs, .tabNodes, .tabPrefixes, .irqEvents, .cellarRecords, .cellarRest]
/-- Pieces of state that some operations touch. -/
def touches129 : List Field := [.regs, .freeCtr, .tabEntries]
/-- Pieces of state that some operations touch. -/
def touches130 : List Field := [.regs, .freeCtr, .tabNodes, .tabEntries, .irqEvents, .cellarRecords, .cellarRest]
/-- Pieces of state that some operations touch. -/
def touches131 : List Field := [.regs, .freeCtr, .tabEntries, .tabPrefixes]
/-- Pieces of state that some operations touch. -/
def touches132 : List Field := [.regs, .freeCtr, .tabNodes, .tabEntries, .tabPrefixes, .irqEvents, .cellarRecords,
  .cellarRest]
/-- Pieces of state that some operations touch. -/
def touches133 : List Field := [.tabEntries, .tabPrefixes]
/-- Pieces of state that some operations touch. -/
def touches134 : List Field := [.regs, .outbox, .radioService, .radioLo, .radioCarriers, .radioLines, .radioSamples,
  .radioDetector, .radioCoex, .radioRecal, .radioCal, .tx, .porchBookings, .porchRest, .dlsQueues, .tabNodes,
  .tabEntries, .hifRings, .hifLink, .hifPantry, .hifPorts, .hifLanes, .irqEvents, .twinLink, .cellarRecords,
  .cellarRest, .hifMsix]
/-- Pieces of state that some operations touch. -/
def touches135 : List Field := [.regs, .jobs, .hifRings]
/-- Pieces of state that some operations touch. -/
def touches136 : List Field := [.regs, .outbox, .radioService, .radioLo, .radioCarriers, .radioLines, .radioSamples,
  .radioDetector, .radioCoex, .radioRecal, .radioCal, .porchBookings, .porchRest, .dlsQueues, .tabNodes, .jobs,
  .hifRings, .hifLink, .hifPantry, .hifPorts, .hifLanes, .irqEvents, .twinLink, .cellarRecords, .cellarRest, .hifMsix]
/-- Pieces of state that some operations touch. -/
def touches137 : List Field := [.tsuTime, .tsuPins]
/-- Pieces of state that some operations touch. -/
def touches138 : List Field := [.radioCarriers, .radioCoex]
/-- Pieces of state that some operations touch. -/
def touches139 : List Field := [.regs, .irqSources]
/-- Pieces of state that some operations touch. -/
def touches140 : List Field := [.regs, .outbox, .irqEvents, .updLock, .twinLink]
/-- Pieces of state that some operations touch. -/
def touches141 : List Field := [.updFlash]
/-- Pieces of state that some operations touch. -/
def touches142 : List Field := [.regs, .irqEvents, .updFlash, .updLock, .cellarRecords, .cellarRest]
/-- Pieces of state that some operations touch. -/
def touches143 : List Field := [.regs, .updFlash, .updNv]
/-- Pieces of state that some operations touch. -/
def touches144 : List Field := [.updRun]
/-- Pieces of state that some operations touch. -/
def touches145 : List Field := [.regs, .outbox, .irqEvents, .updFlash, .updNv, .updLock, .updRun, .twinLink]
/-- Pieces of state that some operations touch. -/
def touches146 : List Field := [.regs, .pairs]
/-- Pieces of state that some operations touch. -/
def touches147 : List Field := [.readData, .irqSources]
/-- Pieces of state that some operations touch. -/
def touches148 : List Field := [.regs, .irqEvents, .updFlash, .updNv, .updLock, .updRun]
/-- Pieces of state that some operations touch. -/
def touches149 : List Field := [.twinSync]
/-- Pieces of state that some operations touch. -/
def touches150 : List Field := [.safBg]
/-- Pieces of state that some operations touch. -/
def touches151 : List Field := [.radioService, .radioLo, .radioCarriers, .radioLines, .radioSamples, .radioDetector,
  .radioCoex, .radioRecal, .radioCal, .keyEngine, .twinLink, .twinSync, .safTests, .cellarRest, .dutySaved]
/-- Pieces of state that some operations touch. -/
def touches152 : List Field := [.outbox, .twinLine, .twinLink]
/-- Pieces of state that some operations touch. -/
def touches153 : List Field := [.regs, .outbox, .jobs, .hifRings, .hifLink, .irqEvents, .cellarRecords, .cellarRest,
  .hifMsix]
/-- Pieces of state that some operations touch. -/
def touches154 : List Field := [.regs, .rx, .irqEvents, .cellarRecords, .cellarRest]
/-- Pieces of state that some operations touch. -/
def touches155 : List Field := [.regs, .freeCtr, .outbox, .radioCarriers, .radioCoex, .rx, .tx, .mac, .porchBookings,
  .porchRest, .dlsQueues, .dlsRest, .tabNodes, .hifRings, .hifLink, .hifPantry, .hifPorts, .hifLanes, .irqEvents,
  .twinLink, .cellarRecords, .cellarRest, .hifMsix]
/-- Pieces of state that some operations touch. -/
def touches156 : List Field := [.regs, .outbox, .strActive, .strApplying, .radioService, .hifLink, .irqEvents,
  .irqSources, .updLock, .cellarRecords, .cellarRest, .hifMsix]
/-- Pieces of state that some operations touch. -/
def touches157 : List Field := [.regs, .outbox, .radioService, .radioLo, .radioCarriers, .radioLines, .radioSamples,
  .radioDetector, .radioCoex, .radioRecal, .radioCal, .porchBookings, .porchRest, .dlsQueues, .tabNodes, .hifRings,
  .hifLink, .hifPantry, .hifPorts, .hifLanes, .irqEvents, .twinLine, .twinLink, .cellarRecords, .cellarRest, .hifMsix]
/-- Pieces of state that some operations touch. -/
def touches158 : List Field := [.sysMode, .sysTransition, .sysWake]
/-- Pieces of state that some operations touch. -/
def touches159 : List Field := [.regs, .outbox, .jobs, .hifRings, .hifLink, .irqEvents, .updLock, .updRun, .twinLink,
  .hifMsix]
/-- Pieces of state that some operations touch. -/
def touches160 : List Field := [.regs, .freeCtr, .outbox, .sysMode, .sysTransition, .sysStart, .sysDomains, .sysWake,
  .dieLink, .pairs, .strActive, .strApplying, .radioService, .radioLo, .radioCarriers, .radioLines, .radioSamples,
  .radioDetector, .radioCoex, .radioRecal, .radioCal, .rx, .lanes, .tx, .mac, .porchBookings, .porchRest, .dlsQueues,
  .dlsRest, .tabNodes, .tabEntries, .tabPrefixes, .jobs, .hifRings, .hifLink, .hifPantry, .hifPorts, .hifLanes,
  .tsuTime, .tsuPins, .timers, .irqEvents, .irqSources, .irqWake, .keyEngine, .updLock, .updRun, .twinLine,
  .twinLink, .twinSync, .safTests, .safBeat, .dbg, .cellarRecords, .cellarRest, .safBg, .fwdBusy, .hifMsix]
/-- Pieces of state that some operations touch. -/
def touches161 : List Field := [.regs, .freeCtr, .outbox, .sysMode, .sysTransition, .sysStage, .sysStart,
  .sysDomains, .sysWake, .dieLink, .pairs, .strActive, .strApplying, .radioService, .radioLo, .radioCarriers,
  .radioLines, .radioSamples, .radioDetector, .radioCoex, .radioRecal, .radioCal, .rx, .lanes, .tx, .mac,
  .porchBookings, .porchRest, .dlsQueues, .dlsRest, .tabNodes, .tabEntries, .tabPrefixes, .jobs, .hifRings, .hifLink,
  .hifPantry, .hifPorts, .hifLanes, .tsuTime, .tsuPins, .timers, .irqEvents, .irqSources, .irqWake, .keyEngine,
  .updLock, .updRun, .twinLine, .twinLink, .twinSync, .safTests, .safBeat, .dbg, .cellarRecords, .cellarRest, .safBg,
  .fwdBusy, .hifMsix]
/-- Pieces of state that some operations touch. -/
def touches162 : List Field := [.regs, .freeCtr, .outbox, .oosClusters, .sysMode, .sysTransition, .sysStage,
  .sysStart, .sysDomains, .dieLink, .pairs, .strApplying, .radioLo, .radioCarriers, .radioLines, .radioSamples,
  .radioDetector, .radioCoex, .radioRecal, .radioCal, .rx, .lanes, .tx, .mac, .porchBookings, .porchRest, .dlsRest,
  .tabNodes, .tabEntries, .tabPrefixes, .jobs, .hifRings, .hifLink, .hifPantry, .hifPorts, .hifLanes, .tsuTime,
  .tsuPins, .timers, .irqEvents, .irqSources, .irqWake, .keyEngine, .updLock, .updRun, .twinLine, .twinLink,
  .twinSync, .safTests, .safBeat, .dbg, .cellarRecords, .cellarRest, .safBg, .fwdBusy, .hifMsix]
/-- Pieces of state that some operations touch. -/
def touches163 : List Field := [.regs, .freeCtr, .outbox, .oosClusters, .sysMode, .sysTransition, .sysStage,
  .sysStart, .sysDomains, .sysWake, .dieLink, .pairs, .strActive, .strApplying, .radioService, .radioLo,
  .radioCarriers, .radioLines, .radioSamples, .radioDetector, .radioCoex, .radioRecal, .radioCal, .rx, .lanes, .tx,
  .mac, .porchBookings, .porchRest, .dlsQueues, .dlsRest, .tabNodes, .tabEntries, .tabPrefixes, .jobs, .hifRings,
  .hifLink, .hifPantry, .hifPorts, .hifLanes, .tsuTime, .tsuPins, .timers, .irqEvents, .irqSources, .irqWake,
  .keyEngine, .updLock, .updRun, .twinLine, .twinLink, .twinSync, .safTests, .safBeat, .dbg, .cellarRecords,
  .cellarRest, .safBg, .fwdBusy, .hifMsix]
/-- Pieces of state that some operations touch. -/
def touches164 : List Field := [.pairs]
/-- Pieces of state that some operations touch. -/
def touches165 : List Field := [.regs, .hifRings, .irqEvents, .cellarRecords, .cellarRest]
/-- Pieces of state that some operations touch. -/
def touches166 : List Field := [.regs, .freeCtr, .tsuTime, .tsuPins, .irqEvents]
/-- Pieces of state that some operations touch. -/
def touches167 : List Field := [.regs, .jobs, .timers]
/-- Pieces of state that some operations touch. -/
def touches168 : List Field := [.regs, .outbox, .hifRings, .hifLink, .hifPantry, .hifPorts, .hifLanes, .irqEvents,
  .cellarRecords, .cellarRest, .hifMsix]
/-- Pieces of state that some operations touch. -/
def touches169 : List Field := [.mac]
/-- Pieces of state that some operations touch. -/
def touches170 : List Field := [.keyIdentity, .keyEngine]
/-- Pieces of state that some operations touch. -/
def touches171 : List Field := [.sysStage]
/-- Pieces of state that some operations touch. -/
def touches172 : List Field := [.regs, .freeCtr, .outbox, .sysStage, .sysStart, .sysDomains, .sysWake, .dieLink,
  .pairs, .strApplying, .radioLo, .radioCarriers, .radioLines, .radioSamples, .radioDetector, .radioCoex,
  .radioRecal, .radioCal, .rx, .lanes, .tx, .mac, .porchBookings, .porchRest, .dlsRest, .tabNodes, .tabEntries,
  .tabPrefixes, .jobs, .hifRings, .hifLink, .hifPantry, .hifPorts, .hifLanes, .tsuTime, .tsuPins, .timers,
  .irqEvents, .irqSources, .irqWake, .keyIdentity, .keyEngine, .updLock, .updRun, .twinLine, .twinLink, .twinSync,
  .safTests, .safBeat, .dbg, .cellarRecords, .cellarRest, .safBg, .fwdBusy, .hifMsix]
/-- Pieces of state that some operations touch. -/
def touches173 : List Field := [.freeCtr, .keyIdentity, .keyEngine]
/-- Pieces of state that some operations touch. -/
def touches174 : List Field := [.irqEvents, .keyIdentity, .keyStores, .keyEngine]
/-- Pieces of state that some operations touch. -/
def touches175 : List Field := [.regs, .freeCtr, .irqEvents, .keyIdentity, .keyStores, .keyEngine, .cellarRecords,
  .cellarRest]
/-- Pieces of state that some operations touch. -/
def touches176 : List Field := [.radioCal]
/-- Pieces of state that some operations touch. -/
def touches177 : List Field := [.regs, .jobs, .irqEvents]
/-- Pieces of state that some operations touch. -/
def touches178 : List Field := [.regs, .loftReady, .sysMode, .sysStage, .sysStart, .sysWake, .strActive,
  .strApplying, .radioService]
/-- Pieces of state that some operations touch. -/
def touches179 : List Field := [.regs, .irqEvents, .updFlash, .updNv, .updLock]
/-- Pieces of state that some operations touch. -/
def touches180 : List Field := [.now, .regs, .freeCtr, .outbox, .radioCarriers, .radioCoex, .rx, .lanes, .tx, .mac,
  .porchBookings, .porchRest, .dlsQueues, .dlsRest, .tabNodes, .hifRings, .hifLink, .hifPantry, .hifPorts, .hifLanes,
  .irqEvents, .twinLink, .safBeat, .cellarRecords, .cellarRest, .hifMsix]
/-- Pieces of state that some operations touch. -/
def touches181 : List Field := [.regs, .freeCtr, .outbox, .radioCarriers, .radioCoex, .rx, .lanes, .tx, .mac,
  .porchBookings, .porchRest, .dlsQueues, .dlsRest, .tabNodes, .hifRings, .hifLink, .hifPantry, .hifPorts, .hifLanes,
  .irqEvents, .twinLink, .cellarRecords, .cellarRest, .hifMsix]
/-- Pieces of state that some operations touch. -/
def touches182 : List Field := [.radioCarriers, .twinLine]
/-- Pieces of state that some operations touch. -/
def touches183 : List Field := [.regs, .outbox, .sysTransition, .strActive, .strApplying, .radioService, .hifLink,
  .irqEvents, .irqSources, .updLock, .cellarRecords, .cellarRest, .hifMsix]
/-- Pieces of state that some operations touch. -/
def touches184 : List Field := [.regs, .jobs, .hifPantry]
/-- Pieces of state that some operations touch. -/
def touches185 : List Field := [.regs, .updNv, .updRun]
/-- Pieces of state that some operations touch. -/
def touches186 : List Field := [.regs, .irqEvents, .updNv, .cellarRecords, .cellarRest]
/-- Pieces of state that some operations touch. -/
def touches187 : List Field := [.regs, .freeCtr, .outbox, .sysStage, .sysStart, .sysDomains, .dieLink, .pairs,
  .strApplying, .radioLo, .radioCarriers, .radioLines, .radioSamples, .radioDetector, .radioCoex, .radioRecal,
  .radioCal, .rx, .lanes, .tx, .mac, .porchBookings, .porchRest, .dlsRest, .tabNodes, .tabEntries, .tabPrefixes,
  .jobs, .hifRings, .hifLink, .hifPantry, .hifPorts, .hifLanes, .tsuTime, .tsuPins, .timers, .irqEvents, .irqSources,
  .irqWake, .keyIdentity, .keyStores, .keyEngine, .updNv, .updLock, .updRun, .twinLine, .twinLink, .twinSync,
  .safTests, .safBeat, .dbg, .cellarRecords, .cellarRest, .safBg, .fwdBusy, .hifMsix]
/-- Pieces of state that some operations touch. -/
def touches188 : List Field := [.regs, .freeCtr, .outbox, .sysStart, .sysDomains, .dieLink, .pairs, .strActive,
  .strApplying, .radioService, .radioLo, .radioCarriers, .radioLines, .radioSamples, .radioDetector, .radioCoex,
  .radioRecal, .radioCal, .rx, .lanes, .tx, .mac, .porchBookings, .porchRest, .dlsRest, .tabNodes, .tabEntries,
  .tabPrefixes, .jobs, .hifRings, .hifLink, .hifPantry, .hifPorts, .hifLanes, .tsuTime, .tsuPins, .timers,
  .irqEvents, .irqSources, .irqWake, .keyEngine, .updLock, .updRun, .twinLine, .twinLink, .twinSync, .safTests,
  .safBeat, .dbg, .cellarRecords, .cellarRest, .safBg, .fwdBusy, .hifMsix]
/-- Pieces of state that some operations touch. -/
def touches189 : List Field := [.radioLines]
/-- Pieces of state that some operations touch. -/
def touches190 : List Field := [.radioCarriers, .radioLines]
/-- Pieces of state that some operations touch. -/
def touches191 : List Field := [.hifLink, .hifPantry, .hifMsix]
/-- Pieces of state that some operations touch. -/
def touches192 : List Field := [.regs, .hifRings]
/-- Pieces of state that some operations touch. -/
def touches193 : List Field := [.regs, .hifRings, .hifLink, .hifPantry, .hifMsix]
/-- Pieces of state that some operations touch. -/
def touches194 : List Field := [.regs, .loftReady, .sysMode, .sysStage, .sysStart, .sysWake, .strActive,
  .strApplying, .radioService, .irqWake]
/-- Pieces of state that some operations touch. -/
def touches195 : List Field := [.now, .regs, .loftReady, .sysMode, .sysStage, .sysStart, .sysWake, .strActive,
  .strApplying, .radioService, .irqWake]
/-- Pieces of state that some operations touch. -/
def touches196 : List Field := [.now, .regs, .loftReady, .sysMode, .sysStage, .sysStart, .sysWake, .strActive,
  .strApplying, .radioService, .irqEvents, .irqWake]
/-- Pieces of state that some operations touch. -/
def touches197 : List Field := [.regs, .irqEvents, .keyIdentity, .keyStores, .keyEngine, .cellarRecords, .cellarRest]
/-- Pieces of state that some operations touch. -/
def touches198 : List Field := [.regs, .freeCtr, .outbox, .sysMode, .sysTransition, .sysStart, .sysDomains, .sysWake,
  .dieLink, .pairs, .strActive, .strApplying, .radioService, .radioLo, .radioCarriers, .radioLines, .radioSamples,
  .radioDetector, .radioCoex, .radioRecal, .radioCal, .rx, .lanes, .tx, .mac, .porchBookings, .porchRest, .dlsQueues,
  .dlsRest, .tabNodes, .tabEntries, .tabPrefixes, .jobs, .hifRings, .hifLink, .hifPantry, .hifPorts, .hifLanes,
  .tsuTime, .tsuPins, .timers, .irqEvents, .irqSources, .irqWake, .keyIdentity, .keyStores, .keyEngine, .updLock,
  .updRun, .twinLine, .twinLink, .twinSync, .safTests, .safBeat, .dbg, .cellarRecords, .cellarRest, .safBg, .fwdBusy,
  .hifMsix]
/-- Pieces of state that some operations touch. -/
def touches199 : List Field := [.regs, .freeCtr, .outbox, .loftReady, .sysMode, .sysTransition, .sysStage, .sysStart,
  .sysDomains, .sysWake, .dieLink, .pairs, .strActive, .strApplying, .radioService, .radioLo, .radioCarriers,
  .radioLines, .radioSamples, .radioDetector, .radioCoex, .radioRecal, .radioCal, .rx, .lanes, .tx, .mac,
  .porchBookings, .porchRest, .dlsQueues, .dlsRest, .tabNodes, .tabEntries, .tabPrefixes, .jobs, .hifRings, .hifLink,
  .hifPantry, .hifPorts, .hifLanes, .tsuTime, .tsuPins, .timers, .irqEvents, .irqSources, .irqWake, .keyIdentity,
  .keyStores, .keyEngine, .updLock, .updRun, .twinLine, .twinLink, .twinSync, .safTests, .safBeat, .dbg,
  .cellarRecords, .cellarRest, .safBg, .fwdBusy, .hifMsix]
/-- Pieces of state that some operations touch. -/
def touches200 : List Field := [.now, .regs, .freeCtr, .outbox, .loftReady, .sysMode, .sysTransition, .sysStage,
  .sysStart, .sysDomains, .sysWake, .dieLink, .pairs, .strActive, .strApplying, .radioService, .radioLo,
  .radioCarriers, .radioLines, .radioSamples, .radioDetector, .radioCoex, .radioRecal, .radioCal, .rx, .lanes, .tx,
  .mac, .porchBookings, .porchRest, .dlsQueues, .dlsRest, .tabNodes, .tabEntries, .tabPrefixes, .jobs, .hifRings,
  .hifLink, .hifPantry, .hifPorts, .hifLanes, .tsuTime, .tsuPins, .timers, .irqEvents, .irqSources, .irqWake,
  .keyIdentity, .keyStores, .keyEngine, .updLock, .updRun, .twinLine, .twinLink, .twinSync, .safTests, .safBeat,
  .dbg, .cellarRecords, .cellarRest, .safBg, .fwdBusy, .hifMsix]
/-- Pieces of state that some operations touch. -/
def touches201 : List Field := [.regs, .twinLink]
/-- Pieces of state that some operations touch. -/
def touches202 : List Field := [.regs, .freeCtr, .outbox, .tabNodes, .hifRings, .hifLink, .hifPantry, .hifPorts,
  .hifLanes, .irqEvents, .cellarRecords, .cellarRest, .hifMsix]
/-- Pieces of state that some operations touch. -/
def touches203 : List Field := [.dieLink]
/-- Pieces of state that some operations touch. -/
def touches204 : List Field := [.regs, .freeCtr, .irqEvents, .twinLink]
/-- Pieces of state that some operations touch. -/
def touches205 : List Field := [.regs, .freeCtr, .irqEvents, .updFlash, .updNv, .updLock, .updRun, .twinLink,
  .cellarRecords, .cellarRest]
/-- Pieces of state that some operations touch. -/
def touches206 : List Field := [.freeCtr, .irqEvents, .twinLink]
/-- Pieces of state that some operations touch. -/
def touches207 : List Field := [.regs, .jobs, .hifRings, .hifLink, .hifPantry, .hifPorts, .hifLanes, .hifMsix]
/-- Pieces of state that some operations touch. -/
def touches208 : List Field := [.hifLink]
/-- Pieces of state that some operations touch. -/
def touches209 : List Field := [.regs, .outbox, .irqEvents, .updFlash, .updLock, .twinLink, .cellarRecords,
  .cellarRest]
/-- Pieces of state that some operations touch. -/
def touches210 : List Field := [.regs, .outbox, .irqEvents, .twinLink]
/-- Pieces of state that some operations touch. -/
def touches211 : List Field := [.regs, .freeCtr, .outbox, .jobs, .hifRings, .hifLink, .hifPantry, .hifPorts,
  .hifLanes, .irqEvents, .cellarRecords, .cellarRest, .hifMsix]
/-- Pieces of state that some operations touch. -/
def touches212 : List Field := [.regs, .sysStart, .pairs, .radioService, .radioLo, .radioCarriers, .radioLines,
  .radioSamples, .radioDetector, .radioCoex, .radioRecal, .radioCal, .irqEvents, .keyEngine, .updNv, .updRun,
  .twinLink, .twinSync, .safTests, .cellarRecords, .cellarRest, .dutySaved]
/-- Pieces of state that some operations touch. -/
def touches213 : List Field := [.regs, .freeCtr, .outbox, .radioCarriers, .radioLines, .radioCoex, .rx, .lanes, .tx,
  .mac, .porchBookings, .porchRest, .dlsQueues, .dlsRest, .tabNodes, .hifRings, .hifLink, .hifPantry, .hifPorts,
  .hifLanes, .timers, .irqEvents, .twinLink, .safBeat, .cellarRecords, .cellarRest, .fwdBusy, .hifMsix]
/-- Pieces of state that some operations touch. -/
def touches214 : List Field := [.regs, .freeCtr, .outbox, .radioCarriers, .mac, .porchBookings, .porchRest,
  .dlsQueues, .dlsRest, .tabNodes, .hifRings, .hifLink, .hifPantry, .hifPorts, .hifLanes, .irqEvents, .twinLink,
  .cellarRecords, .cellarRest, .hifMsix]
/-- Pieces of state that some operations touch. -/
def touches215 : List Field := [.regs, .rx, .irqEvents]
/-- Pieces of state that some operations touch. -/
def touches216 : List Field := [.regs, .freeCtr, .radioService, .radioLo, .radioCarriers, .radioLines, .radioSamples,
  .radioDetector, .radioCoex, .radioRecal, .radioCal, .lanes, .mac, .dlsQueues, .dlsRest]
/-- Pieces of state that some operations touch. -/
def touches217 : List Field := [.regs, .outbox, .hifRings, .hifLink, .hifPantry, .hifPorts, .hifLanes, .irqEvents,
  .hifMsix]
/-- Pieces of state that some operations touch. -/
def touches218 : List Field := [.regs, .tsuTime, .tsuPins, .timers]
/-- Pieces of state that some operations touch. -/
def touches219 : List Field := [.regs, .freeCtr, .outbox, .oos, .oosClusters, .sysMode, .sysTransition, .sysStage,
  .sysStart, .sysDomains, .sysWake, .dieLink, .pairs, .strActive, .strApplying, .radioService, .radioLo,
  .radioCarriers, .radioLines, .radioSamples, .radioDetector, .radioCoex, .radioRecal, .radioCal, .rx, .lanes, .tx,
  .mac, .porchBookings, .porchRest, .dlsQueues, .dlsRest, .tabNodes, .tabEntries, .tabPrefixes, .jobs, .hifRings,
  .hifLink, .hifPantry, .hifPorts, .hifLanes, .tsuTime, .tsuPins, .timers, .irqEvents, .irqSources, .irqWake,
  .keyEngine, .updLock, .updRun, .twinLine, .twinLink, .twinSync, .safTests, .safBeat, .dbg, .cellarRecords,
  .cellarRest, .safBg, .fwdBusy, .hifMsix]
/-- Pieces of state that some operations touch. -/
def touches220 : List Field := [.regs, .freeCtr, .outbox, .sysMode, .sysTransition, .sysCommand, .sysStage,
  .sysStart, .sysDomains, .sysWake, .dieLink, .pairs, .strActive, .strApplying, .radioService, .radioLo,
  .radioCarriers, .radioLines, .radioSamples, .radioDetector, .radioCoex, .radioRecal, .radioCal, .rx, .lanes, .tx,
  .mac, .porchBookings, .porchRest, .dlsQueues, .dlsRest, .tabNodes, .tabEntries, .tabPrefixes, .jobs, .hifRings,
  .hifLink, .hifPantry, .hifPorts, .hifLanes, .tsuTime, .tsuPins, .timers, .irqEvents, .irqSources, .irqWake,
  .keyEngine, .updLock, .updRun, .twinLine, .twinLink, .twinSync, .safTests, .safBeat, .dbg, .cellarRecords,
  .cellarRest, .safBg, .fwdBusy, .hifMsix]
/-- Pieces of state that some operations touch. -/
def touches221 : List Field := [.regs, .freeCtr, .outbox, .oos, .oosClusters, .sysMode, .sysTransition, .sysCommand,
  .sysStage, .sysStart, .sysDomains, .sysWake, .dieLink, .pairs, .strActive, .strApplying, .strCounter,
  .radioService, .radioLo, .radioCarriers, .radioLines, .radioSamples, .radioDetector, .radioCoex, .radioRecal,
  .radioCal, .rx, .lanes, .tx, .mac, .porchBookings, .porchRest, .dlsQueues, .dlsRest, .tabNodes, .tabEntries,
  .tabPrefixes, .jobs, .hifRings, .hifLink, .hifPantry, .hifPorts, .hifLanes, .tsuTime, .tsuPins, .timers,
  .irqEvents, .irqSources, .irqWake, .keyEngine, .updLock, .updRun, .twinLine, .twinLink, .twinSync, .safTests,
  .safBeat, .dbg, .cellarRecords, .cellarRest, .safBg, .fwdBusy, .hifMsix]
/-- Pieces of state that some operations touch. -/
def touches222 : List Field := [.regs, .freeCtr, .outbox, .oos, .oosClusters, .sysMode, .sysTransition, .sysStage,
  .sysStart, .sysDomains, .sysWake, .dieLink, .pairs, .strActive, .strApplying, .strCounter, .radioService, .radioLo,
  .radioCarriers, .radioLines, .radioSamples, .radioDetector, .radioCoex, .radioRecal, .radioCal, .rx, .lanes, .tx,
  .mac, .porchBookings, .porchRest, .dlsQueues, .dlsRest, .tabNodes, .tabEntries, .tabPrefixes, .jobs, .hifRings,
  .hifLink, .hifPantry, .hifPorts, .hifLanes, .tsuTime, .tsuPins, .timers, .irqEvents, .irqSources, .irqWake,
  .keyEngine, .updLock, .updRun, .twinLine, .twinLink, .twinSync, .safTests, .safBeat, .dbg, .cellarRecords,
  .cellarRest, .safBg, .fwdBusy, .hifMsix]
/-- Pieces of state that some operations touch. -/
def touches223 : List Field := [.regs, .outbox, .tabNodes, .irqEvents, .twinLink, .cellarRecords, .cellarRest]
/-- Pieces of state that some operations touch. -/
def touches224 : List Field := [.regs, .tsuTime, .tsuPins]
/-- Pieces of state that some operations touch. -/
def touches225 : List Field := [.regs, .irqEvents, .keyIdentity, .keyStores, .keyEngine]
/-- Pieces of state that some operations touch. -/
def touches226 : List Field := [.regs, .freeCtr, .outbox, .oos, .sysMode, .sysTransition, .sysStage, .sysStart,
  .sysDomains, .sysWake, .dieLink, .pairs, .strActive, .strApplying, .radioService, .radioLo, .radioCarriers,
  .radioLines, .radioSamples, .radioDetector, .radioCoex, .radioRecal, .radioCal, .rx, .lanes, .tx, .mac,
  .porchBookings, .porchRest, .dlsQueues, .dlsRest, .tabNodes, .tabEntries, .tabPrefixes, .jobs, .hifRings, .hifLink,
  .hifPantry, .hifPorts, .hifLanes, .tsuTime, .tsuPins, .timers, .irqEvents, .irqSources, .irqWake, .keyEngine,
  .updLock, .updRun, .twinLine, .twinLink, .twinSync, .safTests, .safBeat, .dbg, .cellarRecords, .cellarRest, .safBg,
  .fwdBusy, .hifMsix]
/-- Pieces of state that some operations touch. -/
def touches227 : List Field := [.regs, .freeCtr, .outbox, .radioCarriers, .mac, .porchBookings, .porchRest,
  .dlsQueues, .dlsRest, .tabNodes, .jobs, .hifRings, .hifLink, .hifPantry, .hifPorts, .hifLanes, .irqEvents,
  .keyEngine, .twinLink, .cellarRecords, .cellarRest, .hifMsix]
/-- Pieces of state that some operations touch. -/
def touches228 : List Field := [.regs, .freeCtr, .tabNodes, .tabEntries, .irqEvents, .twinLink, .cellarRecords,
  .cellarRest]
/-- Pieces of state that some operations touch. -/
def touches229 : List Field := [.regs, .irqEvents, .twinLine, .cellarRecords, .cellarRest]
/-- Pieces of state that some operations touch. -/
def touches230 : List Field := [.regs, .freeCtr, .outbox, .sysMode, .sysTransition, .sysStage, .sysStart,
  .sysDomains, .dieLink, .pairs, .strActive, .strApplying, .radioService, .radioLo, .radioCarriers, .radioLines,
  .radioSamples, .radioDetector, .radioCoex, .radioRecal, .radioCal, .rx, .lanes, .tx, .mac, .porchBookings,
  .porchRest, .dlsQueues, .dlsRest, .tabNodes, .tabEntries, .tabPrefixes, .jobs, .hifRings, .hifLink, .hifPantry,
  .hifPorts, .hifLanes, .tsuTime, .tsuPins, .timers, .irqEvents, .irqSources, .irqWake, .keyIdentity, .keyStores,
  .keyEngine, .updLock, .updRun, .twinLine, .twinLink, .twinSync, .safTests, .safBeat, .dbg, .cellarRecords,
  .cellarRest, .safBg, .fwdBusy, .hifMsix]
/-- Pieces of state that some operations touch. -/
def touches231 : List Field := [.regs, .outbox, .jobs, .hifRings, .hifLink, .hifPantry, .hifPorts, .hifLanes,
  .hifMsix]
/-- Pieces of state that some operations touch. -/
def touches232 : List Field := [.regs, .freeCtr, .tabNodes, .tabEntries, .jobs, .irqEvents, .twinLink,
  .cellarRecords, .cellarRest]
/-- Pieces of state that some operations touch. -/
def touches233 : List Field := [.mac, .dlsRest, .twinLink]
/-- Pieces of state that some operations touch. -/
def touches234 : List Field := [.regs, .freeCtr, .hifRings, .hifLink, .hifPantry, .hifPorts, .hifLanes, .hifMsix]

end Sys2Proof
end

