-- ==== Sys2Proof/Laws/FrameOps.lean ====
section
/-! SUPPORT. Laws/FrameOps.lean: what each operation of Machine/Ops.lean leaves as it was. -/

namespace Sys2Proof

open Sys2Proof.Machine

theorem setRg_frame (s : State) (a1 : Nat) (a2 : Word) : Frame touches1 s (State.setRg s a1 a2) := by
  have hs := Frame.refl touches1 s
  unfold State.setRg
  exact Frame.upd hs (.inl rfl) (.inl rfl) (.inr rfl) (.inl rfl) (.inl rfl) (.inl rfl) (.inl rfl) (.inl rfl) (.inl rfl) (.inl rfl) (.inl ⟨rfl, rfl, rfl⟩) (.inl rfl) (.inl ⟨rfl, rfl, rfl⟩) (.inl ⟨rfl, rfl⟩) (.inl ⟨rfl, rfl, rfl, rfl, rfl, rfl, rfl, rfl⟩) (.inl ⟨rfl, rfl⟩) (.inl ⟨rfl, rfl, rfl, rfl, rfl, rfl, rfl, rfl, rfl, rfl⟩) (.inl ⟨rfl, rfl⟩) (.inl ⟨rfl, rfl⟩) (.inl rfl) (.inl rfl) (.inl rfl) (.inl rfl) (.inl ⟨rfl, rfl, rfl, rfl, rfl, rfl, rfl, rfl, rfl⟩) (.inl ⟨rfl, rfl, rfl, rfl, rfl, rfl, rfl, rfl, rfl⟩) (.inl ⟨rfl, rfl, rfl⟩) (.inl ⟨rfl, rfl, rfl, rfl, rfl, rfl, rfl, rfl, rfl, rfl, rfl, rfl, rfl, rfl, rfl, rfl, rfl, rfl, rfl, rfl, rfl, rfl, rfl, rfl, rfl, rfl, rfl⟩) (.inl ⟨rfl, rfl, rfl, rfl, rfl, rfl, rfl, rfl, rfl, rfl, rfl, rfl⟩) (.inl ⟨rfl, rfl, rfl, rfl, rfl, rfl, rfl, rfl, rfl⟩) (.inl ⟨rfl, rfl, rfl⟩) (.inl ⟨rfl, rfl, rfl⟩) (.inl ⟨rfl, rfl, rfl, rfl, rfl, rfl, rfl, rfl, rfl⟩) (.inl rfl) (.inl rfl) (.inl rfl) (.inl rfl) (.inl ⟨rfl, rfl⟩) (.inl ⟨rfl, rfl⟩) (.inl rfl) (.inl ⟨rfl, rfl, rfl, rfl, rfl⟩) (.inl ⟨rfl, rfl⟩) (.inl ⟨rfl, rfl, rfl, rfl⟩) (.inl ⟨rfl, rfl, rfl⟩) (.inl rfl) (.inl ⟨rfl, rfl⟩) (.inl ⟨rfl, rfl, rfl, rfl, rfl, rfl, rfl⟩) (.inl ⟨rfl, rfl, rfl, rfl, rfl⟩) (.inl rfl) (.inl ⟨rfl, rfl, rfl, rfl, rfl, rfl⟩) (.inl ⟨rfl, rfl, rfl, rfl, rfl, rfl, rfl, rfl, rfl, rfl, rfl⟩) (.inl ⟨rfl, rfl, rfl, rfl⟩) (.inl rfl) (.inl rfl) (.inl ⟨rfl, rfl, rfl, rfl, rfl, rfl, rfl, rfl, rfl, rfl, rfl, rfl⟩) (.inl ⟨rfl, rfl⟩) (.inl ⟨rfl, rfl, rfl, rfl, rfl, rfl⟩) (.inl ⟨rfl, rfl, rfl, rfl, rfl, rfl⟩) (.inl ⟨rfl, rfl, rfl, rfl, rfl, rfl, rfl, rfl, rfl, rfl, rfl, rfl⟩) (.inl ⟨rfl, rfl, rfl⟩) (.inl ⟨rfl, rfl, rfl, rfl⟩) (.inl ⟨rfl, rfl, rfl, rfl, rfl⟩) (.inl ⟨rfl, rfl, rfl, rfl, rfl, rfl, rfl, rfl, rfl, rfl⟩) (.inl ⟨rfl, rfl, rfl, rfl, rfl, rfl, rfl, rfl, rfl⟩) (.inl ⟨rfl, rfl, rfl, rfl, rfl, rfl, rfl, rfl, rfl, rfl, rfl, rfl, rfl⟩) (.inl ⟨rfl, rfl, rfl⟩) (.inl ⟨rfl, rfl, rfl, rfl, rfl⟩) (.inl rfl) (.inl rfl) (.inl ⟨rfl, rfl⟩) (.inl ⟨rfl, rfl, rfl, rfl, rfl, rfl, rfl, rfl, rfl, rfl, rfl, rfl, rfl⟩) (.inl rfl) (.inl rfl) (.inl ⟨rfl, rfl, rfl⟩) (.inl rfl)

theorem cntBy_frame (s : State) (a1 : Nat) (a2 : Nat) : Frame touches1 s (State.cntBy s a1 a2) := by
  have hs := Frame.refl touches1 s
  unfold State.cntBy
  refine Frame.after ?_ (Frame.mono rfl (setRg_frame _ _ _))
  exact hs

theorem cnt_frame (s : State) (a1 : Nat) : Frame touches1 s (State.cnt s a1) := by
  have hs := Frame.refl touches1 s
  unfold State.cnt
  refine Frame.after ?_ (Frame.mono rfl (cntBy_frame _ _ _))
  exact hs

theorem out_frame (s : State) (a1 : Output) : Frame touches2 s (State.out s a1) := by
  have hs := Frame.refl touches2 s
  unfold State.out
  exact Frame.upd hs (.inl rfl) (.inl rfl) (.inl ⟨rfl, rfl⟩) (.inl rfl) (.inl rfl) (.inr rfl) (.inl rfl) (.inl rfl) (.inl rfl) (.inl rfl) (.inl ⟨rfl, rfl, rfl⟩) (.inl rfl) (.inl ⟨rfl, rfl, rfl⟩) (.inl ⟨rfl, rfl⟩) (.inl ⟨rfl, rfl, rfl, rfl, rfl, rfl, rfl, rfl⟩) (.inl ⟨rfl, rfl⟩) (.inl ⟨rfl, rfl, rfl, rfl, rfl, rfl, rfl, rfl, rfl, rfl⟩) (.inl ⟨rfl, rfl⟩) (.inl ⟨rfl, rfl⟩) (.inl rfl) (.inl rfl) (.inl rfl) (.inl rfl) (.inl ⟨rfl, rfl, rfl, rfl, rfl, rfl, rfl, rfl, rfl⟩) (.inl ⟨rfl, rfl, rfl, rfl, rfl, rfl, rfl, rfl, rfl⟩) (.inl ⟨rfl, rfl, rfl⟩) (.inl ⟨rfl, rfl, rfl, rfl, rfl, rfl, rfl, rfl, rfl, rfl, rfl, rfl, rfl, rfl, rfl, rfl, rfl, rfl, rfl, rfl, rfl, rfl, rfl, rfl, rfl, rfl, rfl⟩) (.inl ⟨rfl, rfl, rfl, rfl, rfl, rfl, rfl, rfl, rfl, rfl, rfl, rfl⟩) (.inl ⟨rfl, rfl, rfl, rfl, rfl, rfl, rfl, rfl, rfl⟩) (.inl ⟨rfl, rfl, rfl⟩) (.inl ⟨rfl, rfl, rfl⟩) (.inl ⟨rfl, rfl, rfl, rfl, rfl, rfl, rfl, rfl, rfl⟩) (.inl rfl) (.inl rfl) (.inl rfl) (.inl rfl) (.inl ⟨rfl, rfl⟩) (.inl ⟨rfl, rfl⟩) (.inl rfl) (.inl ⟨rfl, rfl, rfl, rfl, rfl⟩) (.inl ⟨rfl, rfl⟩) (.inl ⟨rfl, rfl, rfl, rfl⟩) (.inl ⟨rfl, rfl, rfl⟩) (.inl rfl) (.inl ⟨rfl, rfl⟩) (.inl ⟨rfl, rfl, rfl, rfl, rfl, rfl, rfl⟩) (.inl ⟨rfl, rfl, rfl, rfl, rfl⟩) (.inl rfl) (.inl ⟨rfl, rfl, rfl, rfl, rfl, rfl⟩) (.inl ⟨rfl, rfl, rfl, rfl, rfl, rfl, rfl, rfl, rfl, rfl, rfl⟩) (.inl ⟨rfl, rfl, rfl, rfl⟩) (.inl rfl) (.inl rfl) (.inl ⟨rfl, rfl, rfl, rfl, rfl, rfl, rfl, rfl, rfl, rfl, rfl, rfl⟩) (.inl ⟨rfl, rfl⟩) (.inl ⟨rfl, rfl, rfl, rfl, rfl, rfl⟩) (.inl ⟨rfl, rfl, rfl, rfl, rfl, rfl⟩) (.inl ⟨rfl, rfl, rfl, rfl, rfl, rfl, rfl, rfl, rfl, rfl, rfl, rfl⟩) (.inl ⟨rfl, rfl, rfl⟩) (.inl ⟨rfl, rfl, rfl, rfl⟩) (.inl ⟨rfl, rfl, rfl, rfl, rfl⟩) (.inl ⟨rfl, rfl, rfl, rfl, rfl, rfl, rfl, rfl, rfl, rfl⟩) (.inl ⟨rfl, rfl, rfl, rfl, rfl, rfl, rfl, rfl, rfl⟩) (.inl ⟨rfl, rfl, rfl, rfl, rfl, rfl, rfl, rfl, rfl, rfl, rfl, rfl, rfl⟩) (.inl ⟨rfl, rfl, rfl⟩) (.inl ⟨rfl, rfl, rfl, rfl, rfl⟩) (.inl rfl) (.inl rfl) (.inl ⟨rfl, rfl⟩) (.inl ⟨rfl, rfl, rfl, rfl, rfl, rfl, rfl, rfl, rfl, rfl, rfl, rfl, rfl⟩) (.inl rfl) (.inl rfl) (.inl ⟨rfl, rfl, rfl⟩) (.inl rfl)

theorem setMark_frame (s : State) (a1 : Nat) (a2 : Nat) : Frame touches1 s (State.setMark s a1 a2) := by
  have hs := Frame.refl touches1 s
  unfold State.setMark
  exact Frame.upd hs (.inl rfl) (.inl rfl) (.inr rfl) (.inl rfl) (.inl rfl) (.inl rfl) (.inl rfl) (.inl rfl) (.inl rfl) (.inl rfl) (.inl ⟨rfl, rfl, rfl⟩) (.inl rfl) (.inl ⟨rfl, rfl, rfl⟩) (.inl ⟨rfl, rfl⟩) (.inl ⟨rfl, rfl, rfl, rfl, rfl, rfl, rfl, rfl⟩) (.inl ⟨rfl, rfl⟩) (.inl ⟨rfl, rfl, rfl, rfl, rfl, rfl, rfl, rfl, rfl, rfl⟩) (.inl ⟨rfl, rfl⟩) (.inl ⟨rfl, rfl⟩) (.inl rfl) (.inl rfl) (.inl rfl) (.inl rfl) (.inl ⟨rfl, rfl, rfl, rfl, rfl, rfl, rfl, rfl, rfl⟩) (.inl ⟨rfl, rfl, rfl, rfl, rfl, rfl, rfl, rfl, rfl⟩) (.inl ⟨rfl, rfl, rfl⟩) (.inl ⟨rfl, rfl, rfl, rfl, rfl, rfl, rfl, rfl, rfl, rfl, rfl, rfl, rfl, rfl, rfl, rfl, rfl, rfl, rfl, rfl, rfl, rfl, rfl, rfl, rfl, rfl, rfl⟩) (.inl ⟨rfl, rfl, rfl, rfl, rfl, rfl, rfl, rfl, rfl, rfl, rfl, rfl⟩) (.inl ⟨rfl, rfl, rfl, rfl, rfl, rfl, rfl, rfl, rfl⟩) (.inl ⟨rfl, rfl, rfl⟩) (.inl ⟨rfl, rfl, rfl⟩) (.inl ⟨rfl, rfl, rfl, rfl, rfl, rfl, rfl, rfl, rfl⟩) (.inl rfl) (.inl rfl) (.inl rfl) (.inl rfl) (.inl ⟨rfl, rfl⟩) (.inl ⟨rfl, rfl⟩) (.inl rfl) (.inl ⟨rfl, rfl, rfl, rfl, rfl⟩) (.inl ⟨rfl, rfl⟩) (.inl ⟨rfl, rfl, rfl, rfl⟩) (.inl ⟨rfl, rfl, rfl⟩) (.inl rfl) (.inl ⟨rfl, rfl⟩) (.inl ⟨rfl, rfl, rfl, rfl, rfl, rfl, rfl⟩) (.inl ⟨rfl, rfl, rfl, rfl, rfl⟩) (.inl rfl) (.inl ⟨rfl, rfl, rfl, rfl, rfl, rfl⟩) (.inl ⟨rfl, rfl, rfl, rfl, rfl, rfl, rfl, rfl, rfl, rfl, rfl⟩) (.inl ⟨rfl, rfl, rfl, rfl⟩) (.inl rfl) (.inl rfl) (.inl ⟨rfl, rfl, rfl, rfl, rfl, rfl, rfl, rfl, rfl, rfl, rfl, rfl⟩) (.inl ⟨rfl, rfl⟩) (.inl ⟨rfl, rfl, rfl, rfl, rfl, rfl⟩) (.inl ⟨rfl, rfl, rfl, rfl, rfl, rfl⟩) (.inl ⟨rfl, rfl, rfl, rfl, rfl, rfl, rfl, rfl, rfl, rfl, rfl, rfl⟩) (.inl ⟨rfl, rfl, rfl⟩) (.inl ⟨rfl, rfl, rfl, rfl⟩) (.inl ⟨rfl, rfl, rfl, rfl, rfl⟩) (.inl ⟨rfl, rfl, rfl, rfl, rfl, rfl, rfl, rfl, rfl, rfl⟩) (.inl ⟨rfl, rfl, rfl, rfl, rfl, rfl, rfl, rfl, rfl⟩) (.inl ⟨rfl, rfl, rfl, rfl, rfl, rfl, rfl, rfl, rfl, rfl, rfl, rfl, rfl⟩) (.inl ⟨rfl, rfl, rfl⟩) (.inl ⟨rfl, rfl, rfl, rfl, rfl⟩) (.inl rfl) (.inl rfl) (.inl ⟨rfl, rfl⟩) (.inl ⟨rfl, rfl, rfl, rfl, rfl, rfl, rfl, rfl, rfl, rfl, rfl, rfl, rfl⟩) (.inl rfl) (.inl rfl) (.inl ⟨rfl, rfl, rfl⟩) (.inl rfl)

theorem setRf_frame (s : State) (a1 : Nat) (a2 : Nat) (a3 : Nat) (a4 : Nat) : Frame touches1 s (State.setRf s a1 a2 a3 a4) := by
  have hs := Frame.refl touches1 s
  unfold State.setRf
  refine Frame.after ?_ (Frame.mono rfl (setRg_frame _ _ _))
  exact hs

theorem stk_frame (s : State) (a1 : Nat) (a2 : Nat) : Frame touches1 s (State.stk s a1 a2) := by
  have hs := Frame.refl touches1 s
  unfold State.stk
  refine Frame.after ?_ (Frame.mono rfl (setMark_frame _ _ _))
  refine Frame.after ?_ (Frame.mono rfl (setRf_frame _ _ _ _ _))
  exact hs

theorem when_frame {G : List Field} (hG : touches16.all G.contains = true) (s : State) (a1 : Bool) {a2 : State → State} (ha2 : ∀ b0, Frame G b0 (a2 b0)) : Frame G s (State.when s a1 a2) := by
  have hs := Frame.refl G s
  unfold State.when
  refine Frame.ite (fun _ => ?_) (fun _ => ?_)
  · refine Frame.after ?_ (ha2 _)
    exact hs
  · exact hs

theorem event_frame (s : State) (a1 : Nat) : Frame touches17 s (State.event s a1) := by
  have hs := Frame.refl touches17 s
  unfold State.event
  extract_lets -merge -useContext -underBinder x0
  exact Frame.upd hs (.inl rfl) (.inl rfl) (.inl ⟨rfl, rfl⟩) (.inl rfl) (.inl rfl) (.inl rfl) (.inl rfl) (.inl rfl) (.inl rfl) (.inl rfl) (.inl ⟨rfl, rfl, rfl⟩) (.inl rfl) (.inl ⟨rfl, rfl, rfl⟩) (.inl ⟨rfl, rfl⟩) (.inl ⟨rfl, rfl, rfl, rfl, rfl, rfl, rfl, rfl⟩) (.inl ⟨rfl, rfl⟩) (.inl ⟨rfl, rfl, rfl, rfl, rfl, rfl, rfl, rfl, rfl, rfl⟩) (.inl ⟨rfl, rfl⟩) (.inl ⟨rfl, rfl⟩) (.inl rfl) (.inl rfl) (.inl rfl) (.inl rfl) (.inl ⟨rfl, rfl, rfl, rfl, rfl, rfl, rfl, rfl, rfl⟩) (.inl ⟨rfl, rfl, rfl, rfl, rfl, rfl, rfl, rfl, rfl⟩) (.inl ⟨rfl, rfl, rfl⟩) (.inl ⟨rfl, rfl, rfl, rfl, rfl, rfl, rfl, rfl, rfl, rfl, rfl, rfl, rfl, rfl, rfl, rfl, rfl, rfl, rfl, rfl, rfl, rfl, rfl, rfl, rfl, rfl, rfl⟩) (.inl ⟨rfl, rfl, rfl, rfl, rfl, rfl, rfl, rfl, rfl, rfl, rfl, rfl⟩) (.inl ⟨rfl, rfl, rfl, rfl, rfl, rfl, rfl, rfl, rfl⟩) (.inl ⟨rfl, rfl, rfl⟩) (.inl ⟨rfl, rfl, rfl⟩) (.inl ⟨rfl, rfl, rfl, rfl, rfl, rfl, rfl, rfl, rfl⟩) (.inl rfl) (.inl rfl) (.inl rfl) (.inl rfl) (.inl ⟨rfl, rfl⟩) (.inl ⟨rfl, rfl⟩) (.inl rfl) (.inl ⟨rfl, rfl, rfl, rfl, rfl⟩) (.inl ⟨rfl, rfl⟩) (.inl ⟨rfl, rfl, rfl, rfl⟩) (.inl ⟨rfl, rfl, rfl⟩) (.inl rfl) (.inl ⟨rfl, rfl⟩) (.inl ⟨rfl, rfl, rfl, rfl, rfl, rfl, rfl⟩) (.inl ⟨rfl, rfl, rfl, rfl, rfl⟩) (.inl rfl) (.inl ⟨rfl, rfl, rfl, rfl, rfl, rfl⟩) (.inl ⟨rfl, rfl, rfl, rfl, rfl, rfl, rfl, rfl, rfl, rfl, rfl⟩) (.inl ⟨rfl, rfl, rfl, rfl⟩) (.inl rfl) (.inr rfl) (.inl ⟨rfl, rfl, rfl, rfl, rfl, rfl, rfl, rfl, rfl, rfl, rfl, rfl⟩) (.inl ⟨rfl, rfl⟩) (.inl ⟨rfl, rfl, rfl, rfl, rfl, rfl⟩) (.inl ⟨rfl, rfl, rfl, rfl, rfl, rfl⟩) (.inl ⟨rfl, rfl, rfl, rfl, rfl, rfl, rfl, rfl, rfl, rfl, rfl, rfl⟩) (.inl ⟨rfl, rfl, rfl⟩) (.inl ⟨rfl, rfl, rfl, rfl⟩) (.inl ⟨rfl, rfl, rfl, rfl, rfl⟩) (.inl ⟨rfl, rfl, rfl, rfl, rfl, rfl, rfl, rfl, rfl, rfl⟩) (.inl ⟨rfl, rfl, rfl, rfl, rfl, rfl, rfl, rfl, rfl⟩) (.inl ⟨rfl, rfl, rfl, rfl, rfl, rfl, rfl, rfl, rfl, rfl, rfl, rfl, rfl⟩) (.inl ⟨rfl, rfl, rfl⟩) (.inl ⟨rfl, rfl, rfl, rfl, rfl⟩) (.inl rfl) (.inl rfl) (.inl ⟨rfl, rfl⟩) (.inl ⟨rfl, rfl, rfl, rfl, rfl, rfl, rfl, rfl, rfl, rfl, rfl, rfl, rfl⟩) (.inl rfl) (.inl rfl) (.inl ⟨rfl, rfl, rfl⟩) (.inl rfl)

theorem cellWrite_frame (s : State) (a1 : BitVec 256) : Frame touches18 s (State.cellWrite s a1) := by
  have hs := Frame.refl touches18 s
  unfold State.cellWrite
  extract_lets -merge -useContext -underBinder x0 x1 x2
  have h3 : Frame touches18 s x2 := by
    unfold x2
    exact Frame.upd hs (.inl rfl) (.inl rfl) (.inl ⟨rfl, rfl⟩) (.inl rfl) (.inl rfl) (.inl rfl) (.inl rfl) (.inl rfl) (.inl rfl) (.inl rfl) (.inl ⟨rfl, rfl, rfl⟩) (.inl rfl) (.inl ⟨rfl, rfl, rfl⟩) (.inl ⟨rfl, rfl⟩) (.inl ⟨rfl, rfl, rfl, rfl, rfl, rfl, rfl, rfl⟩) (.inl ⟨rfl, rfl⟩) (.inl ⟨rfl, rfl, rfl, rfl, rfl, rfl, rfl, rfl, rfl, rfl⟩) (.inl ⟨rfl, rfl⟩) (.inl ⟨rfl, rfl⟩) (.inl rfl) (.inl rfl) (.inl rfl) (.inl rfl) (.inl ⟨rfl, rfl, rfl, rfl, rfl, rfl, rfl, rfl, rfl⟩) (.inl ⟨rfl, rfl, rfl, rfl, rfl, rfl, rfl, rfl, rfl⟩) (.inl ⟨rfl, rfl, rfl⟩) (.inl ⟨rfl, rfl, rfl, rfl, rfl, rfl, rfl, rfl, rfl, rfl, rfl, rfl, rfl, rfl, rfl, rfl, rfl, rfl, rfl, rfl, rfl, rfl, rfl, rfl, rfl, rfl, rfl⟩) (.inl ⟨rfl, rfl, rfl, rfl, rfl, rfl, rfl, rfl, rfl, rfl, rfl, rfl⟩) (.inl ⟨rfl, rfl, rfl, rfl, rfl, rfl, rfl, rfl, rfl⟩) (.inl ⟨rfl, rfl, rfl⟩) (.inl ⟨rfl, rfl, rfl⟩) (.inl ⟨rfl, rfl, rfl, rfl, rfl, rfl, rfl, rfl, rfl⟩) (.inl rfl) (.inl rfl) (.inl rfl) (.inl rfl) (.inl ⟨rfl, rfl⟩) (.inl ⟨rfl, rfl⟩) (.inl rfl) (.inl ⟨rfl, rfl, rfl, rfl, rfl⟩) (.inl ⟨rfl, rfl⟩) (.inl ⟨rfl, rfl, rfl, rfl⟩) (.inl ⟨rfl, rfl, rfl⟩) (.inl rfl) (.inl ⟨rfl, rfl⟩) (.inl ⟨rfl, rfl, rfl, rfl, rfl, rfl, rfl⟩) (.inl ⟨rfl, rfl, rfl, rfl, rfl⟩) (.inl rfl) (.inl ⟨rfl, rfl, rfl, rfl, rfl, rfl⟩) (.inl ⟨rfl, rfl, rfl, rfl, rfl, rfl, rfl, rfl, rfl, rfl, rfl⟩) (.inl ⟨rfl, rfl, rfl, rfl⟩) (.inl rfl) (.inr rfl) (.inl ⟨rfl, rfl, rfl, rfl, rfl, rfl, rfl, rfl, rfl, rfl, rfl, rfl⟩) (.inl ⟨rfl, rfl⟩) (.inl ⟨rfl, rfl, rfl, rfl, rfl, rfl⟩) (.inl ⟨rfl, rfl, rfl, rfl, rfl, rfl⟩) (.inl ⟨rfl, rfl, rfl, rfl, rfl, rfl, rfl, rfl, rfl, rfl, rfl, rfl⟩) (.inl ⟨rfl, rfl, rfl⟩) (.inl ⟨rfl, rfl, rfl, rfl⟩) (.inl ⟨rfl, rfl, rfl, rfl, rfl⟩) (.inl ⟨rfl, rfl, rfl, rfl, rfl, rfl, rfl, rfl, rfl, rfl⟩) (.inl ⟨rfl, rfl, rfl, rfl, rfl, rfl, rfl, rfl, rfl⟩) (.inl ⟨rfl, rfl, rfl, rfl, rfl, rfl, rfl, rfl, rfl, rfl, rfl, rfl, rfl⟩) (.inl ⟨rfl, rfl, rfl⟩) (.inl ⟨rfl, rfl, rfl, rfl, rfl⟩) (.inl rfl) (.inl rfl) (.inr rfl) (.inr rfl) (.inl rfl) (.inl rfl) (.inl ⟨rfl, rfl, rfl⟩) (.inl rfl)
  clear_value x2
  refine Frame.ite (fun _ => ?_) (fun _ => ?_)
  · exact Frame.upd hs (.inl rfl) (.inl rfl) (.inl ⟨rfl, rfl⟩) (.inl rfl) (.inl rfl) (.inl rfl) (.inl rfl) (.inl rfl) (.inl rfl) (.inl rfl) (.inl ⟨rfl, rfl, rfl⟩) (.inl rfl) (.inl ⟨rfl, rfl, rfl⟩) (.inl ⟨rfl, rfl⟩) (.inl ⟨rfl, rfl, rfl, rfl, rfl, rfl, rfl, rfl⟩) (.inl ⟨rfl, rfl⟩) (.inl ⟨rfl, rfl, rfl, rfl, rfl, rfl, rfl, rfl, rfl, rfl⟩) (.inl ⟨rfl, rfl⟩) (.inl ⟨rfl, rfl⟩) (.inl rfl) (.inl rfl) (.inl rfl) (.inl rfl) (.inl ⟨rfl, rfl, rfl, rfl, rfl, rfl, rfl, rfl, rfl⟩) (.inl ⟨rfl, rfl, rfl, rfl, rfl, rfl, rfl, rfl, rfl⟩) (.inl ⟨rfl, rfl, rfl⟩) (.inl ⟨rfl, rfl, rfl, rfl, rfl, rfl, rfl, rfl, rfl, rfl, rfl, rfl, rfl, rfl, rfl, rfl, rfl, rfl, rfl, rfl, rfl, rfl, rfl, rfl, rfl, rfl, rfl⟩) (.inl ⟨rfl, rfl, rfl, rfl, rfl, rfl, rfl, rfl, rfl, rfl, rfl, rfl⟩) (.inl ⟨rfl, rfl, rfl, rfl, rfl, rfl, rfl, rfl, rfl⟩) (.inl ⟨rfl, rfl, rfl⟩) (.inl ⟨rfl, rfl, rfl⟩) (.inl ⟨rfl, rfl, rfl, rfl, rfl, rfl, rfl, rfl, rfl⟩) (.inl rfl) (.inl rfl) (.inl rfl) (.inl rfl) (.inl ⟨rfl, rfl⟩) (.inl ⟨rfl, rfl⟩) (.inl rfl) (.inl ⟨rfl, rfl, rfl, rfl, rfl⟩) (.inl ⟨rfl, rfl⟩) (.inl ⟨rfl, rfl, rfl, rfl⟩) (.inl ⟨rfl, rfl, rfl⟩) (.inl rfl) (.inl ⟨rfl, rfl⟩) (.inl ⟨rfl, rfl, rfl, rfl, rfl, rfl, rfl⟩) (.inl ⟨rfl, rfl, rfl, rfl, rfl⟩) (.inl rfl) (.inl ⟨rfl, rfl, rfl, rfl, rfl, rfl⟩) (.inl ⟨rfl, rfl, rfl, rfl, rfl, rfl, rfl, rfl, rfl, rfl, rfl⟩) (.inl ⟨rfl, rfl, rfl, rfl⟩) (.inl rfl) (.inr rfl) (.inl ⟨rfl, rfl, rfl, rfl, rfl, rfl, rfl, rfl, rfl, rfl, rfl, rfl⟩) (.inl ⟨rfl, rfl⟩) (.inl ⟨rfl, rfl, rfl, rfl, rfl, rfl⟩) (.inl ⟨rfl, rfl, rfl, rfl, rfl, rfl⟩) (.inl ⟨rfl, rfl, rfl, rfl, rfl, rfl, rfl, rfl, rfl, rfl, rfl, rfl⟩) (.inl ⟨rfl, rfl, rfl⟩) (.inl ⟨rfl, rfl, rfl, rfl⟩) (.inl ⟨rfl, rfl, rfl, rfl, rfl⟩) (.inl ⟨rfl, rfl, rfl, rfl, rfl, rfl, rfl, rfl, rfl, rfl⟩) (.inl ⟨rfl, rfl, rfl, rfl, rfl, rfl, rfl, rfl, rfl⟩) (.inl ⟨rfl, rfl, rfl, rfl, rfl, rfl, rfl, rfl, rfl, rfl, rfl, rfl, rfl⟩) (.inl ⟨rfl, rfl, rfl⟩) (.inl ⟨rfl, rfl, rfl, rfl, rfl⟩) (.inl rfl) (.inl rfl) (.inr rfl) (.inr rfl) (.inl rfl) (.inl rfl) (.inl ⟨rfl, rfl, rfl⟩) (.inl rfl)
  · refine Frame.after ?_ (when_frame rfl _ _ ?_)
    · exact h3
    · intro y4
      have h5 := Frame.refl touches18 y4
      refine Frame.after ?_ (Frame.mono rfl (event_frame _ _))
      exact h5

theorem cellPut_frame (s : State) (a1 : BitVec 256) : Frame touches19 s (State.cellPut s a1) := by
  have hs := Frame.refl touches19 s
  unfold State.cellPut
  split
  · extract_lets -merge -useContext -underBinder x0 x1
    have h2 : Frame touches19 s x1 := by
      unfold x1
      refine Frame.ite (fun _ => ?_) (fun _ => ?_)
      · exact hs
      · refine Frame.after ?_ (Frame.mono rfl (cellWrite_frame _ _))
        exact Frame.upd hs (.inl rfl) (.inl rfl) (.inr rfl) (.inl rfl) (.inl rfl) (.inl rfl) (.inl rfl) (.inl rfl) (.inl rfl) (.inl rfl) (.inl ⟨rfl, rfl, rfl⟩) (.inl rfl) (.inl ⟨rfl, rfl, rfl⟩) (.inl ⟨rfl, rfl⟩) (.inl ⟨rfl, rfl, rfl, rfl, rfl, rfl, rfl, rfl⟩) (.inl ⟨rfl, rfl⟩) (.inl ⟨rfl, rfl, rfl, rfl, rfl, rfl, rfl, rfl, rfl, rfl⟩) (.inl ⟨rfl, rfl⟩) (.inl ⟨rfl, rfl⟩) (.inl rfl) (.inl rfl) (.inl rfl) (.inl rfl) (.inl ⟨rfl, rfl, rfl, rfl, rfl, rfl, rfl, rfl, rfl⟩) (.inl ⟨rfl, rfl, rfl, rfl, rfl, rfl, rfl, rfl, rfl⟩) (.inl ⟨rfl, rfl, rfl⟩) (.inl ⟨rfl, rfl, rfl, rfl, rfl, rfl, rfl, rfl, rfl, rfl, rfl, rfl, rfl, rfl, rfl, rfl, rfl, rfl, rfl, rfl, rfl, rfl, rfl, rfl, rfl, rfl, rfl⟩) (.inl ⟨rfl, rfl, rfl, rfl, rfl, rfl, rfl, rfl, rfl, rfl, rfl, rfl⟩) (.inl ⟨rfl, rfl, rfl, rfl, rfl, rfl, rfl, rfl, rfl⟩) (.inl ⟨rfl, rfl, rfl⟩) (.inl ⟨rfl, rfl, rfl⟩) (.inl ⟨rfl, rfl, rfl, rfl, rfl, rfl, rfl, rfl, rfl⟩) (.inl rfl) (.inl rfl) (.inl rfl) (.inl rfl) (.inl ⟨rfl, rfl⟩) (.inl ⟨rfl, rfl⟩) (.inl rfl) (.inl ⟨rfl, rfl, rfl, rfl, rfl⟩) (.inl ⟨rfl, rfl⟩) (.inl ⟨rfl, rfl, rfl, rfl⟩) (.inl ⟨rfl, rfl, rfl⟩) (.inl rfl) (.inl ⟨rfl, rfl⟩) (.inl ⟨rfl, rfl, rfl, rfl, rfl, rfl, rfl⟩) (.inl ⟨rfl, rfl, rfl, rfl, rfl⟩) (.inl rfl) (.inl ⟨rfl, rfl, rfl, rfl, rfl, rfl⟩) (.inl ⟨rfl, rfl, rfl, rfl, rfl, rfl, rfl, rfl, rfl, rfl, rfl⟩) (.inl ⟨rfl, rfl, rfl, rfl⟩) (.inl rfl) (.inr rfl) (.inl ⟨rfl, rfl, rfl, rfl, rfl, rfl, rfl, rfl, rfl, rfl, rfl, rfl⟩) (.inl ⟨rfl, rfl⟩) (.inl ⟨rfl, rfl, rfl, rfl, rfl, rfl⟩) (.inl ⟨rfl, rfl, rfl, rfl, rfl, rfl⟩) (.inl ⟨rfl, rfl, rfl, rfl, rfl, rfl, rfl, rfl, rfl, rfl, rfl, rfl⟩) (.inl ⟨rfl, rfl, rfl⟩) (.inl ⟨rfl, rfl, rfl, rfl⟩) (.inl ⟨rfl, rfl, rfl, rfl, rfl⟩) (.inl ⟨rfl, rfl, rfl, rfl, rfl, rfl, rfl, rfl, rfl, rfl⟩) (.inl ⟨rfl, rfl, rfl, rfl, rfl, rfl, rfl, rfl, rfl⟩) (.inl ⟨rfl, rfl, rfl, rfl, rfl, rfl, rfl, rfl, rfl, rfl, rfl, rfl, rfl⟩) (.inl ⟨rfl, rfl, rfl⟩) (.inl ⟨rfl, rfl, rfl, rfl, rfl⟩) (.inl rfl) (.inl rfl) (.inr rfl) (.inr rfl) (.inl rfl) (.inl rfl) (.inl ⟨rfl, rfl, rfl⟩) (.inl rfl)
    clear_value x1
    refine Frame.after ?_ (Frame.mono rfl (cellWrite_frame _ _))
    exact h2
  · extract_lets -merge -useContext -underBinder x3 x4
    refine Frame.ite (fun _ => ?_) (fun _ => ?_)
    · exact Frame.upd hs (.inl rfl) (.inl rfl) (.inr rfl) (.inl rfl) (.inl rfl) (.inl rfl) (.inl rfl) (.inl rfl) (.inl rfl) (.inl rfl) (.inl ⟨rfl, rfl, rfl⟩) (.inl rfl) (.inl ⟨rfl, rfl, rfl⟩) (.inl ⟨rfl, rfl⟩) (.inl ⟨rfl, rfl, rfl, rfl, rfl, rfl, rfl, rfl⟩) (.inl ⟨rfl, rfl⟩) (.inl ⟨rfl, rfl, rfl, rfl, rfl, rfl, rfl, rfl, rfl, rfl⟩) (.inl ⟨rfl, rfl⟩) (.inl ⟨rfl, rfl⟩) (.inl rfl) (.inl rfl) (.inl rfl) (.inl rfl) (.inl ⟨rfl, rfl, rfl, rfl, rfl, rfl, rfl, rfl, rfl⟩) (.inl ⟨rfl, rfl, rfl, rfl, rfl, rfl, rfl, rfl, rfl⟩) (.inl ⟨rfl, rfl, rfl⟩) (.inl ⟨rfl, rfl, rfl, rfl, rfl, rfl, rfl, rfl, rfl, rfl, rfl, rfl, rfl, rfl, rfl, rfl, rfl, rfl, rfl, rfl, rfl, rfl, rfl, rfl, rfl, rfl, rfl⟩) (.inl ⟨rfl, rfl, rfl, rfl, rfl, rfl, rfl, rfl, rfl, rfl, rfl, rfl⟩) (.inl ⟨rfl, rfl, rfl, rfl, rfl, rfl, rfl, rfl, rfl⟩) (.inl ⟨rfl, rfl, rfl⟩) (.inl ⟨rfl, rfl, rfl⟩) (.inl ⟨rfl, rfl, rfl, rfl, rfl, rfl, rfl, rfl, rfl⟩) (.inl rfl) (.inl rfl) (.inl rfl) (.inl rfl) (.inl ⟨rfl, rfl⟩) (.inl ⟨rfl, rfl⟩) (.inl rfl) (.inl ⟨rfl, rfl, rfl, rfl, rfl⟩) (.inl ⟨rfl, rfl⟩) (.inl ⟨rfl, rfl, rfl, rfl⟩) (.inl ⟨rfl, rfl, rfl⟩) (.inl rfl) (.inl ⟨rfl, rfl⟩) (.inl ⟨rfl, rfl, rfl, rfl, rfl, rfl, rfl⟩) (.inl ⟨rfl, rfl, rfl, rfl, rfl⟩) (.inl rfl) (.inl ⟨rfl, rfl, rfl, rfl, rfl, rfl⟩) (.inl ⟨rfl, rfl, rfl, rfl, rfl, rfl, rfl, rfl, rfl, rfl, rfl⟩) (.inl ⟨rfl, rfl, rfl, rfl⟩) (.inl rfl) (.inr rfl) (.inl ⟨rfl, rfl, rfl, rfl, rfl, rfl, rfl, rfl, rfl, rfl, rfl, rfl⟩) (.inl ⟨rfl, rfl⟩) (.inl ⟨rfl, rfl, rfl, rfl, rfl, rfl⟩) (.inl ⟨rfl, rfl, rfl, rfl, rfl, rfl⟩) (.inl ⟨rfl, rfl, rfl, rfl, rfl, rfl, rfl, rfl, rfl, rfl, rfl, rfl⟩) (.inl ⟨rfl, rfl, rfl⟩) (.inl ⟨rfl, rfl, rfl, rfl⟩) (.inl ⟨rfl, rfl, rfl, rfl, rfl⟩) (.inl ⟨rfl, rfl, rfl, rfl, rfl, rfl, rfl, rfl, rfl, rfl⟩) (.inl ⟨rfl, rfl, rfl, rfl, rfl, rfl, rfl, rfl, rfl⟩) (.inl ⟨rfl, rfl, rfl, rfl, rfl, rfl, rfl, rfl, rfl, rfl, rfl, rfl, rfl⟩) (.inl ⟨rfl, rfl, rfl⟩) (.inl ⟨rfl, rfl, rfl, rfl, rfl⟩) (.inl rfl) (.inl rfl) (.inr rfl) (.inr rfl) (.inl rfl) (.inl rfl) (.inl ⟨rfl, rfl, rfl⟩) (.inl rfl)
    · refine Frame.after ?_ (Frame.mono rfl (stk_frame _ _ _))
      refine Frame.after ?_ (Frame.mono rfl (cnt_frame _ _))
      exact Frame.upd hs (.inl rfl) (.inl rfl) (.inr rfl) (.inl rfl) (.inl rfl) (.inl rfl) (.inl rfl) (.inl rfl) (.inl rfl) (.inl rfl) (.inl ⟨rfl, rfl, rfl⟩) (.inl rfl) (.inl ⟨rfl, rfl, rfl⟩) (.inl ⟨rfl, rfl⟩) (.inl ⟨rfl, rfl, rfl, rfl, rfl, rfl, rfl, rfl⟩) (.inl ⟨rfl, rfl⟩) (.inl ⟨rfl, rfl, rfl, rfl, rfl, rfl, rfl, rfl, rfl, rfl⟩) (.inl ⟨rfl, rfl⟩) (.inl ⟨rfl, rfl⟩) (.inl rfl) (.inl rfl) (.inl rfl) (.inl rfl) (.inl ⟨rfl, rfl, rfl, rfl, rfl, rfl, rfl, rfl, rfl⟩) (.inl ⟨rfl, rfl, rfl, rfl, rfl, rfl, rfl, rfl, rfl⟩) (.inl ⟨rfl, rfl, rfl⟩) (.inl ⟨rfl, rfl, rfl, rfl, rfl, rfl, rfl, rfl, rfl, rfl, rfl, rfl, rfl, rfl, rfl, rfl, rfl, rfl, rfl, rfl, rfl, rfl, rfl, rfl, rfl, rfl, rfl⟩) (.inl ⟨rfl, rfl, rfl, rfl, rfl, rfl, rfl, rfl, rfl, rfl, rfl, rfl⟩) (.inl ⟨rfl, rfl, rfl, rfl, rfl, rfl, rfl, rfl, rfl⟩) (.inl ⟨rfl, rfl, rfl⟩) (.inl ⟨rfl, rfl, rfl⟩) (.inl ⟨rfl, rfl, rfl, rfl, rfl, rfl, rfl, rfl, rfl⟩) (.inl rfl) (.inl rfl) (.inl rfl) (.inl rfl) (.inl ⟨rfl, rfl⟩) (.inl ⟨rfl, rfl⟩) (.inl rfl) (.inl ⟨rfl, rfl, rfl, rfl, rfl⟩) (.inl ⟨rfl, rfl⟩) (.inl ⟨rfl, rfl, rfl, rfl⟩) (.inl ⟨rfl, rfl, rfl⟩) (.inl rfl) (.inl ⟨rfl, rfl⟩) (.inl ⟨rfl, rfl, rfl, rfl, rfl, rfl, rfl⟩) (.inl ⟨rfl, rfl, rfl, rfl, rfl⟩) (.inl rfl) (.inl ⟨rfl, rfl, rfl, rfl, rfl, rfl⟩) (.inl ⟨rfl, rfl, rfl, rfl, rfl, rfl, rfl, rfl, rfl, rfl, rfl⟩) (.inl ⟨rfl, rfl, rfl, rfl⟩) (.inl rfl) (.inr rfl) (.inl ⟨rfl, rfl, rfl, rfl, rfl, rfl, rfl, rfl, rfl, rfl, rfl, rfl⟩) (.inl ⟨rfl, rfl⟩) (.inl ⟨rfl, rfl, rfl, rfl, rfl, rfl⟩) (.inl ⟨rfl, rfl, rfl, rfl, rfl, rfl⟩) (.inl ⟨rfl, rfl, rfl, rfl, rfl, rfl, rfl, rfl, rfl, rfl, rfl, rfl⟩) (.inl ⟨rfl, rfl, rfl⟩) (.inl ⟨rfl, rfl, rfl, rfl⟩) (.inl ⟨rfl, rfl, rfl, rfl, rfl⟩) (.inl ⟨rfl, rfl, rfl, rfl, rfl, rfl, rfl, rfl, rfl, rfl⟩) (.inl ⟨rfl, rfl, rfl, rfl, rfl, rfl, rfl, rfl, rfl⟩) (.inl ⟨rfl, rfl, rfl, rfl, rfl, rfl, rfl, rfl, rfl, rfl, rfl, rfl, rfl⟩) (.inl ⟨rfl, rfl, rfl⟩) (.inl ⟨rfl, rfl, rfl, rfl, rfl⟩) (.inl rfl) (.inl rfl) (.inr rfl) (.inr rfl) (.inl rfl) (.inl rfl) (.inl ⟨rfl, rfl, rfl⟩) (.inl rfl)

theorem cellForm_frame (s : State) (a1 : Nat) (a2 : Nat) (a3 : Nat) (a4 : Nat) : Frame touches19 s (State.cellForm s a1 a2 a3 a4) := by
  have hs := Frame.refl touches19 s
  unfold State.cellForm
  refine Frame.ite (fun _ => ?_) (fun _ => ?_)
  · exact hs
  · split
    · extract_lets -merge -useContext -underBinder x0 x1 x2 x3 x4 x5 x6
      clear_value x0
      clear_value x2
      have h7 : Frame touches19 s x5 := by
        unfold x5
        refine Frame.ite (fun _ => ?_) (fun _ => ?_)
        · exact hs
        · exact Frame.upd hs (.inl rfl) (.inl rfl) (.inr rfl) (.inl rfl) (.inl rfl) (.inl rfl) (.inl rfl) (.inl rfl) (.inl rfl) (.inl rfl) (.inl ⟨rfl, rfl, rfl⟩) (.inl rfl) (.inl ⟨rfl, rfl, rfl⟩) (.inl ⟨rfl, rfl⟩) (.inl ⟨rfl, rfl, rfl, rfl, rfl, rfl, rfl, rfl⟩) (.inl ⟨rfl, rfl⟩) (.inl ⟨rfl, rfl, rfl, rfl, rfl, rfl, rfl, rfl, rfl, rfl⟩) (.inl ⟨rfl, rfl⟩) (.inl ⟨rfl, rfl⟩) (.inl rfl) (.inl rfl) (.inl rfl) (.inl rfl) (.inl ⟨rfl, rfl, rfl, rfl, rfl, rfl, rfl, rfl, rfl⟩) (.inl ⟨rfl, rfl, rfl, rfl, rfl, rfl, rfl, rfl, rfl⟩) (.inl ⟨rfl, rfl, rfl⟩) (.inl ⟨rfl, rfl, rfl, rfl, rfl, rfl, rfl, rfl, rfl, rfl, rfl, rfl, rfl, rfl, rfl, rfl, rfl, rfl, rfl, rfl, rfl, rfl, rfl, rfl, rfl, rfl, rfl⟩) (.inl ⟨rfl, rfl, rfl, rfl, rfl, rfl, rfl, rfl, rfl, rfl, rfl, rfl⟩) (.inl ⟨rfl, rfl, rfl, rfl, rfl, rfl, rfl, rfl, rfl⟩) (.inl ⟨rfl, rfl, rfl⟩) (.inl ⟨rfl, rfl, rfl⟩) (.inl ⟨rfl, rfl, rfl, rfl, rfl, rfl, rfl, rfl, rfl⟩) (.inl rfl) (.inl rfl) (.inl rfl) (.inl rfl) (.inl ⟨rfl, rfl⟩) (.inl ⟨rfl, rfl⟩) (.inl rfl) (.inl ⟨rfl, rfl, rfl, rfl, rfl⟩) (.inl ⟨rfl, rfl⟩) (.inl ⟨rfl, rfl, rfl, rfl⟩) (.inl ⟨rfl, rfl, rfl⟩) (.inl rfl) (.inl ⟨rfl, rfl⟩) (.inl ⟨rfl, rfl, rfl, rfl, rfl, rfl, rfl⟩) (.inl ⟨rfl, rfl, rfl, rfl, rfl⟩) (.inl rfl) (.inl ⟨rfl, rfl, rfl, rfl, rfl, rfl⟩) (.inl ⟨rfl, rfl, rfl, rfl, rfl, rfl, rfl, rfl, rfl, rfl, rfl⟩) (.inl ⟨rfl, rfl, rfl, rfl⟩) (.inl rfl) (.inr rfl) (.inl ⟨rfl, rfl, rfl, rfl, rfl, rfl, rfl, rfl, rfl, rfl, rfl, rfl⟩) (.inl ⟨rfl, rfl⟩) (.inl ⟨rfl, rfl, rfl, rfl, rfl, rfl⟩) (.inl ⟨rfl, rfl, rfl, rfl, rfl, rfl⟩) (.inl ⟨rfl, rfl, rfl, rfl, rfl, rfl, rfl, rfl, rfl, rfl, rfl, rfl⟩) (.inl ⟨rfl, rfl, rfl⟩) (.inl ⟨rfl, rfl, rfl, rfl⟩) (.inl ⟨rfl, rfl, rfl, rfl, rfl⟩) (.inl ⟨rfl, rfl, rfl, rfl, rfl, rfl, rfl, rfl, rfl, rfl⟩) (.inl ⟨rfl, rfl, rfl, rfl, rfl, rfl, rfl, rfl, rfl⟩) (.inl ⟨rfl, rfl, rfl, rfl, rfl, rfl, rfl, rfl, rfl, rfl, rfl, rfl, rfl⟩) (.inl ⟨rfl, rfl, rfl⟩) (.inl ⟨rfl, rfl, rfl, rfl, rfl⟩) (.inl rfl) (.inl rfl) (.inr rfl) (.inr rfl) (.inl rfl) (.inl rfl) (.inl ⟨rfl, rfl, rfl⟩) (.inl rfl)
      clear_value x5
      refine Frame.ite (fun _ => ?_) (fun _ => ?_)
      · refine Frame.after ?_ (Frame.mono rfl (cnt_frame _ _))
        exact Frame.upd hs (.inl rfl) (.inl rfl) (.inr rfl) (.inl rfl) (.inl rfl) (.inl rfl) (.inl rfl) (.inl rfl) (.inl rfl) (.inl rfl) (.inl ⟨rfl, rfl, rfl⟩) (.inl rfl) (.inl ⟨rfl, rfl, rfl⟩) (.inl ⟨rfl, rfl⟩) (.inl ⟨rfl, rfl, rfl, rfl, rfl, rfl, rfl, rfl⟩) (.inl ⟨rfl, rfl⟩) (.inl ⟨rfl, rfl, rfl, rfl, rfl, rfl, rfl, rfl, rfl, rfl⟩) (.inl ⟨rfl, rfl⟩) (.inl ⟨rfl, rfl⟩) (.inl rfl) (.inl rfl) (.inl rfl) (.inl rfl) (.inl ⟨rfl, rfl, rfl, rfl, rfl, rfl, rfl, rfl, rfl⟩) (.inl ⟨rfl, rfl, rfl, rfl, rfl, rfl, rfl, rfl, rfl⟩) (.inl ⟨rfl, rfl, rfl⟩) (.inl ⟨rfl, rfl, rfl, rfl, rfl, rfl, rfl, rfl, rfl, rfl, rfl, rfl, rfl, rfl, rfl, rfl, rfl, rfl, rfl, rfl, rfl, rfl, rfl, rfl, rfl, rfl, rfl⟩) (.inl ⟨rfl, rfl, rfl, rfl, rfl, rfl, rfl, rfl, rfl, rfl, rfl, rfl⟩) (.inl ⟨rfl, rfl, rfl, rfl, rfl, rfl, rfl, rfl, rfl⟩) (.inl ⟨rfl, rfl, rfl⟩) (.inl ⟨rfl, rfl, rfl⟩) (.inl ⟨rfl, rfl, rfl, rfl, rfl, rfl, rfl, rfl, rfl⟩) (.inl rfl) (.inl rfl) (.inl rfl) (.inl rfl) (.inl ⟨rfl, rfl⟩) (.inl ⟨rfl, rfl⟩) (.inl rfl) (.inl ⟨rfl, rfl, rfl, rfl, rfl⟩) (.inl ⟨rfl, rfl⟩) (.inl ⟨rfl, rfl, rfl, rfl⟩) (.inl ⟨rfl, rfl, rfl⟩) (.inl rfl) (.inl ⟨rfl, rfl⟩) (.inl ⟨rfl, rfl, rfl, rfl, rfl, rfl, rfl⟩) (.inl ⟨rfl, rfl, rfl, rfl, rfl⟩) (.inl rfl) (.inl ⟨rfl, rfl, rfl, rfl, rfl, rfl⟩) (.inl ⟨rfl, rfl, rfl, rfl, rfl, rfl, rfl, rfl, rfl, rfl, rfl⟩) (.inl ⟨rfl, rfl, rfl, rfl⟩) (.inl rfl) (.inr rfl) (.inl ⟨rfl, rfl, rfl, rfl, rfl, rfl, rfl, rfl, rfl, rfl, rfl, rfl⟩) (.inl ⟨rfl, rfl⟩) (.inl ⟨rfl, rfl, rfl, rfl, rfl, rfl⟩) (.inl ⟨rfl, rfl, rfl, rfl, rfl, rfl⟩) (.inl ⟨rfl, rfl, rfl, rfl, rfl, rfl, rfl, rfl, rfl, rfl, rfl, rfl⟩) (.inl ⟨rfl, rfl, rfl⟩) (.inl ⟨rfl, rfl, rfl, rfl⟩) (.inl ⟨rfl, rfl, rfl, rfl, rfl⟩) (.inl ⟨rfl, rfl, rfl, rfl, rfl, rfl, rfl, rfl, rfl, rfl⟩) (.inl ⟨rfl, rfl, rfl, rfl, rfl, rfl, rfl, rfl, rfl⟩) (.inl ⟨rfl, rfl, rfl, rfl, rfl, rfl, rfl, rfl, rfl, rfl, rfl, rfl, rfl⟩) (.inl ⟨rfl, rfl, rfl⟩) (.inl ⟨rfl, rfl, rfl, rfl, rfl⟩) (.inl rfl) (.inl rfl) (.inr rfl) (.inr rfl) (.inl rfl) (.inl rfl) (.inl ⟨rfl, rfl, rfl⟩) (.inl rfl)
      · refine Frame.after ?_ (Frame.mono rfl (cellPut_frame _ _))
        exact h7

theorem cell_frame (s : State) (a1 : Nat) (a2 : Nat) (a3 : Nat) (a4 : Nat) : Frame touches19 s (State.cell s a1 a2 a3 a4) := by
  have hs := Frame.refl touches19 s
  unfold State.cell
  extract_lets -merge -useContext -underBinder x0
  refine Frame.ite (fun _ => ?_) (fun _ => ?_)
  · refine Frame.after ?_ (Frame.mono rfl (cellForm_frame _ _ _ _ _))
    exact hs
  · exact Frame.upd hs (.inl rfl) (.inl rfl) (.inr rfl) (.inl rfl) (.inl rfl) (.inl rfl) (.inl rfl) (.inl rfl) (.inl rfl) (.inl rfl) (.inl ⟨rfl, rfl, rfl⟩) (.inl rfl) (.inl ⟨rfl, rfl, rfl⟩) (.inl ⟨rfl, rfl⟩) (.inl ⟨rfl, rfl, rfl, rfl, rfl, rfl, rfl, rfl⟩) (.inl ⟨rfl, rfl⟩) (.inl ⟨rfl, rfl, rfl, rfl, rfl, rfl, rfl, rfl, rfl, rfl⟩) (.inl ⟨rfl, rfl⟩) (.inl ⟨rfl, rfl⟩) (.inl rfl) (.inl rfl) (.inl rfl) (.inl rfl) (.inl ⟨rfl, rfl, rfl, rfl, rfl, rfl, rfl, rfl, rfl⟩) (.inl ⟨rfl, rfl, rfl, rfl, rfl, rfl, rfl, rfl, rfl⟩) (.inl ⟨rfl, rfl, rfl⟩) (.inl ⟨rfl, rfl, rfl, rfl, rfl, rfl, rfl, rfl, rfl, rfl, rfl, rfl, rfl, rfl, rfl, rfl, rfl, rfl, rfl, rfl, rfl, rfl, rfl, rfl, rfl, rfl, rfl⟩) (.inl ⟨rfl, rfl, rfl, rfl, rfl, rfl, rfl, rfl, rfl, rfl, rfl, rfl⟩) (.inl ⟨rfl, rfl, rfl, rfl, rfl, rfl, rfl, rfl, rfl⟩) (.inl ⟨rfl, rfl, rfl⟩) (.inl ⟨rfl, rfl, rfl⟩) (.inl ⟨rfl, rfl, rfl, rfl, rfl, rfl, rfl, rfl, rfl⟩) (.inl rfl) (.inl rfl) (.inl rfl) (.inl rfl) (.inl ⟨rfl, rfl⟩) (.inl ⟨rfl, rfl⟩) (.inl rfl) (.inl ⟨rfl, rfl, rfl, rfl, rfl⟩) (.inl ⟨rfl, rfl⟩) (.inl ⟨rfl, rfl, rfl, rfl⟩) (.inl ⟨rfl, rfl, rfl⟩) (.inl rfl) (.inl ⟨rfl, rfl⟩) (.inl ⟨rfl, rfl, rfl, rfl, rfl, rfl, rfl⟩) (.inl ⟨rfl, rfl, rfl, rfl, rfl⟩) (.inl rfl) (.inl ⟨rfl, rfl, rfl, rfl, rfl, rfl⟩) (.inl ⟨rfl, rfl, rfl, rfl, rfl, rfl, rfl, rfl, rfl, rfl, rfl⟩) (.inl ⟨rfl, rfl, rfl, rfl⟩) (.inl rfl) (.inr rfl) (.inl ⟨rfl, rfl, rfl, rfl, rfl, rfl, rfl, rfl, rfl, rfl, rfl, rfl⟩) (.inl ⟨rfl, rfl⟩) (.inl ⟨rfl, rfl, rfl, rfl, rfl, rfl⟩) (.inl ⟨rfl, rfl, rfl, rfl, rfl, rfl⟩) (.inl ⟨rfl, rfl, rfl, rfl, rfl, rfl, rfl, rfl, rfl, rfl, rfl, rfl⟩) (.inl ⟨rfl, rfl, rfl⟩) (.inl ⟨rfl, rfl, rfl, rfl⟩) (.inl ⟨rfl, rfl, rfl, rfl, rfl⟩) (.inl ⟨rfl, rfl, rfl, rfl, rfl, rfl, rfl, rfl, rfl, rfl⟩) (.inl ⟨rfl, rfl, rfl, rfl, rfl, rfl, rfl, rfl, rfl⟩) (.inl ⟨rfl, rfl, rfl, rfl, rfl, rfl, rfl, rfl, rfl, rfl, rfl, rfl, rfl⟩) (.inl ⟨rfl, rfl, rfl⟩) (.inl ⟨rfl, rfl, rfl, rfl, rfl⟩) (.inl rfl) (.inl rfl) (.inr rfl) (.inr rfl) (.inl rfl) (.inl rfl) (.inl ⟨rfl, rfl, rfl⟩) (.inl rfl)

theorem used_frame (s : State) : Frame touches26 s (State.used s) := by
  have hs := Frame.refl touches26 s
  unfold State.used
  exact Frame.upd hs (.inl rfl) (.inl rfl) (.inl ⟨rfl, rfl⟩) (.inl rfl) (.inr rfl) (.inl rfl) (.inl rfl) (.inl rfl) (.inl rfl) (.inl rfl) (.inl ⟨rfl, rfl, rfl⟩) (.inl rfl) (.inl ⟨rfl, rfl, rfl⟩) (.inl ⟨rfl, rfl⟩) (.inl ⟨rfl, rfl, rfl, rfl, rfl, rfl, rfl, rfl⟩) (.inl ⟨rfl, rfl⟩) (.inl ⟨rfl, rfl, rfl, rfl, rfl, rfl, rfl, rfl, rfl, rfl⟩) (.inl ⟨rfl, rfl⟩) (.inl ⟨rfl, rfl⟩) (.inl rfl) (.inl rfl) (.inl rfl) (.inl rfl) (.inl ⟨rfl, rfl, rfl, rfl, rfl, rfl, rfl, rfl, rfl⟩) (.inl ⟨rfl, rfl, rfl, rfl, rfl, rfl, rfl, rfl, rfl⟩) (.inl ⟨rfl, rfl, rfl⟩) (.inl ⟨rfl, rfl, rfl, rfl, rfl, rfl, rfl, rfl, rfl, rfl, rfl, rfl, rfl, rfl, rfl, rfl, rfl, rfl, rfl, rfl, rfl, rfl, rfl, rfl, rfl, rfl, rfl⟩) (.inl ⟨rfl, rfl, rfl, rfl, rfl, rfl, rfl, rfl, rfl, rfl, rfl, rfl⟩) (.inl ⟨rfl, rfl, rfl, rfl, rfl, rfl, rfl, rfl, rfl⟩) (.inl ⟨rfl, rfl, rfl⟩) (.inl ⟨rfl, rfl, rfl⟩) (.inl ⟨rfl, rfl, rfl, rfl, rfl, rfl, rfl, rfl, rfl⟩) (.inl rfl) (.inl rfl) (.inl rfl) (.inl rfl) (.inl ⟨rfl, rfl⟩) (.inl ⟨rfl, rfl⟩) (.inl rfl) (.inl ⟨rfl, rfl, rfl, rfl, rfl⟩) (.inl ⟨rfl, rfl⟩) (.inl ⟨rfl, rfl, rfl, rfl⟩) (.inl ⟨rfl, rfl, rfl⟩) (.inl rfl) (.inl ⟨rfl, rfl⟩) (.inl ⟨rfl, rfl, rfl, rfl, rfl, rfl, rfl⟩) (.inl ⟨rfl, rfl, rfl, rfl, rfl⟩) (.inl rfl) (.inl ⟨rfl, rfl, rfl, rfl, rfl, rfl⟩) (.inl ⟨rfl, rfl, rfl, rfl, rfl, rfl, rfl, rfl, rfl, rfl, rfl⟩) (.inl ⟨rfl, rfl, rfl, rfl⟩) (.inl rfl) (.inl rfl) (.inl ⟨rfl, rfl, rfl, rfl, rfl, rfl, rfl, rfl, rfl, rfl, rfl, rfl⟩) (.inl ⟨rfl, rfl⟩) (.inl ⟨rfl, rfl, rfl, rfl, rfl, rfl⟩) (.inl ⟨rfl, rfl, rfl, rfl, rfl, rfl⟩) (.inl ⟨rfl, rfl, rfl, rfl, rfl, rfl, rfl, rfl, rfl, rfl, rfl, rfl⟩) (.inl ⟨rfl, rfl, rfl⟩) (.inl ⟨rfl, rfl, rfl, rfl⟩) (.inl ⟨rfl, rfl, rfl, rfl, rfl⟩) (.inl ⟨rfl, rfl, rfl, rfl, rfl, rfl, rfl, rfl, rfl, rfl⟩) (.inl ⟨rfl, rfl, rfl, rfl, rfl, rfl, rfl, rfl, rfl⟩) (.inl ⟨rfl, rfl, rfl, rfl, rfl, rfl, rfl, rfl, rfl, rfl, rfl, rfl, rfl⟩) (.inl ⟨rfl, rfl, rfl⟩) (.inl ⟨rfl, rfl, rfl, rfl, rfl⟩) (.inl rfl) (.inl rfl) (.inl ⟨rfl, rfl⟩) (.inl ⟨rfl, rfl, rfl, rfl, rfl, rfl, rfl, rfl, rfl, rfl, rfl, rfl, rfl⟩) (.inl rfl) (.inl rfl) (.inl ⟨rfl, rfl, rfl⟩) (.inl rfl)

theorem unmapped_frame (s : State) : Frame touches1 s (State.unmapped s) := by
  have hs := Frame.refl touches1 s
  unfold State.unmapped
  refine Frame.ite (fun _ => ?_) (fun _ => ?_)
  · refine Frame.after ?_ (Frame.mono rfl (stk_frame _ _ _))
    exact hs
  · exact hs

theorem fwdStart_frame (s : State) (a1 : Nat) : Frame touches36 s (State.fwdStart s a1) := by
  have hs := Frame.refl touches36 s
  unfold State.fwdStart
  extract_lets -merge -useContext -underBinder x0 x1
  exact Frame.upd hs (.inl rfl) (.inl rfl) (.inl ⟨rfl, rfl⟩) (.inl rfl) (.inr rfl) (.inl rfl) (.inl rfl) (.inl rfl) (.inl rfl) (.inl rfl) (.inl ⟨rfl, rfl, rfl⟩) (.inl rfl) (.inl ⟨rfl, rfl, rfl⟩) (.inl ⟨rfl, rfl⟩) (.inl ⟨rfl, rfl, rfl, rfl, rfl, rfl, rfl, rfl⟩) (.inl ⟨rfl, rfl⟩) (.inl ⟨rfl, rfl, rfl, rfl, rfl, rfl, rfl, rfl, rfl, rfl⟩) (.inl ⟨rfl, rfl⟩) (.inl ⟨rfl, rfl⟩) (.inl rfl) (.inl rfl) (.inl rfl) (.inl rfl) (.inl ⟨rfl, rfl, rfl, rfl, rfl, rfl, rfl, rfl, rfl⟩) (.inl ⟨rfl, rfl, rfl, rfl, rfl, rfl, rfl, rfl, rfl⟩) (.inl ⟨rfl, rfl, rfl⟩) (.inl ⟨rfl, rfl, rfl, rfl, rfl, rfl, rfl, rfl, rfl, rfl, rfl, rfl, rfl, rfl, rfl, rfl, rfl, rfl, rfl, rfl, rfl, rfl, rfl, rfl, rfl, rfl, rfl⟩) (.inl ⟨rfl, rfl, rfl, rfl, rfl, rfl, rfl, rfl, rfl, rfl, rfl, rfl⟩) (.inl ⟨rfl, rfl, rfl, rfl, rfl, rfl, rfl, rfl, rfl⟩) (.inl ⟨rfl, rfl, rfl⟩) (.inl ⟨rfl, rfl, rfl⟩) (.inl ⟨rfl, rfl, rfl, rfl, rfl, rfl, rfl, rfl, rfl⟩) (.inl rfl) (.inl rfl) (.inl rfl) (.inl rfl) (.inl ⟨rfl, rfl⟩) (.inl ⟨rfl, rfl⟩) (.inl rfl) (.inl ⟨rfl, rfl, rfl, rfl, rfl⟩) (.inl ⟨rfl, rfl⟩) (.inl ⟨rfl, rfl, rfl, rfl⟩) (.inl ⟨rfl, rfl, rfl⟩) (.inl rfl) (.inl ⟨rfl, rfl⟩) (.inl ⟨rfl, rfl, rfl, rfl, rfl, rfl, rfl⟩) (.inl ⟨rfl, rfl, rfl, rfl, rfl⟩) (.inl rfl) (.inl ⟨rfl, rfl, rfl, rfl, rfl, rfl⟩) (.inl ⟨rfl, rfl, rfl, rfl, rfl, rfl, rfl, rfl, rfl, rfl, rfl⟩) (.inl ⟨rfl, rfl, rfl, rfl⟩) (.inl rfl) (.inl rfl) (.inl ⟨rfl, rfl, rfl, rfl, rfl, rfl, rfl, rfl, rfl, rfl, rfl, rfl⟩) (.inl ⟨rfl, rfl⟩) (.inl ⟨rfl, rfl, rfl, rfl, rfl, rfl⟩) (.inl ⟨rfl, rfl, rfl, rfl, rfl, rfl⟩) (.inl ⟨rfl, rfl, rfl, rfl, rfl, rfl, rfl, rfl, rfl, rfl, rfl, rfl⟩) (.inl ⟨rfl, rfl, rfl⟩) (.inl ⟨rfl, rfl, rfl, rfl⟩) (.inl ⟨rfl, rfl, rfl, rfl, rfl⟩) (.inl ⟨rfl, rfl, rfl, rfl, rfl, rfl, rfl, rfl, rfl, rfl⟩) (.inl ⟨rfl, rfl, rfl, rfl, rfl, rfl, rfl, rfl, rfl⟩) (.inl ⟨rfl, rfl, rfl, rfl, rfl, rfl, rfl, rfl, rfl, rfl, rfl, rfl, rfl⟩) (.inl ⟨rfl, rfl, rfl⟩) (.inl ⟨rfl, rfl, rfl, rfl, rfl⟩) (.inl rfl) (.inl rfl) (.inl ⟨rfl, rfl⟩) (.inl ⟨rfl, rfl, rfl, rfl, rfl, rfl, rfl, rfl, rfl, rfl, rfl, rfl, rfl⟩) (.inl rfl) (.inr rfl) (.inl ⟨rfl, rfl, rfl⟩) (.inl rfl)

theorem setb_frame (s : State) (a1 : Nat) (a2 : Nat) (a3 : Bool) : Frame touches1 s (State.setb s a1 a2 a3) := by
  have hs := Frame.refl touches1 s
  unfold State.setb
  refine Frame.after ?_ (Frame.mono rfl (setRf_frame _ _ _ _ _))
  exact hs

theorem cellLearn_frame (s : State) : Frame touches19 s (State.cellLearn s) := by
  have hs := Frame.refl touches19 s
  unfold State.cellLearn
  extract_lets -merge -useContext -underBinder x0
  refine Frame.foldl ?_ (fun x1 y2 h3 => ?_)
  · exact Frame.upd hs (.inl rfl) (.inl rfl) (.inr rfl) (.inl rfl) (.inl rfl) (.inl rfl) (.inl rfl) (.inl rfl) (.inl rfl) (.inl rfl) (.inl ⟨rfl, rfl, rfl⟩) (.inl rfl) (.inl ⟨rfl, rfl, rfl⟩) (.inl ⟨rfl, rfl⟩) (.inl ⟨rfl, rfl, rfl, rfl, rfl, rfl, rfl, rfl⟩) (.inl ⟨rfl, rfl⟩) (.inl ⟨rfl, rfl, rfl, rfl, rfl, rfl, rfl, rfl, rfl, rfl⟩) (.inl ⟨rfl, rfl⟩) (.inl ⟨rfl, rfl⟩) (.inl rfl) (.inl rfl) (.inl rfl) (.inl rfl) (.inl ⟨rfl, rfl, rfl, rfl, rfl, rfl, rfl, rfl, rfl⟩) (.inl ⟨rfl, rfl, rfl, rfl, rfl, rfl, rfl, rfl, rfl⟩) (.inl ⟨rfl, rfl, rfl⟩) (.inl ⟨rfl, rfl, rfl, rfl, rfl, rfl, rfl, rfl, rfl, rfl, rfl, rfl, rfl, rfl, rfl, rfl, rfl, rfl, rfl, rfl, rfl, rfl, rfl, rfl, rfl, rfl, rfl⟩) (.inl ⟨rfl, rfl, rfl, rfl, rfl, rfl, rfl, rfl, rfl, rfl, rfl, rfl⟩) (.inl ⟨rfl, rfl, rfl, rfl, rfl, rfl, rfl, rfl, rfl⟩) (.inl ⟨rfl, rfl, rfl⟩) (.inl ⟨rfl, rfl, rfl⟩) (.inl ⟨rfl, rfl, rfl, rfl, rfl, rfl, rfl, rfl, rfl⟩) (.inl rfl) (.inl rfl) (.inl rfl) (.inl rfl) (.inl ⟨rfl, rfl⟩) (.inl ⟨rfl, rfl⟩) (.inl rfl) (.inl ⟨rfl, rfl, rfl, rfl, rfl⟩) (.inl ⟨rfl, rfl⟩) (.inl ⟨rfl, rfl, rfl, rfl⟩) (.inl ⟨rfl, rfl, rfl⟩) (.inl rfl) (.inl ⟨rfl, rfl⟩) (.inl ⟨rfl, rfl, rfl, rfl, rfl, rfl, rfl⟩) (.inl ⟨rfl, rfl, rfl, rfl, rfl⟩) (.inl rfl) (.inl ⟨rfl, rfl, rfl, rfl, rfl, rfl⟩) (.inl ⟨rfl, rfl, rfl, rfl, rfl, rfl, rfl, rfl, rfl, rfl, rfl⟩) (.inl ⟨rfl, rfl, rfl, rfl⟩) (.inl rfl) (.inr rfl) (.inl ⟨rfl, rfl, rfl, rfl, rfl, rfl, rfl, rfl, rfl, rfl, rfl, rfl⟩) (.inl ⟨rfl, rfl⟩) (.inl ⟨rfl, rfl, rfl, rfl, rfl, rfl⟩) (.inl ⟨rfl, rfl, rfl, rfl, rfl, rfl⟩) (.inl ⟨rfl, rfl, rfl, rfl, rfl, rfl, rfl, rfl, rfl, rfl, rfl, rfl⟩) (.inl ⟨rfl, rfl, rfl⟩) (.inl ⟨rfl, rfl, rfl, rfl⟩) (.inl ⟨rfl, rfl, rfl, rfl, rfl⟩) (.inl ⟨rfl, rfl, rfl, rfl, rfl, rfl, rfl, rfl, rfl, rfl⟩) (.inl ⟨rfl, rfl, rfl, rfl, rfl, rfl, rfl, rfl, rfl⟩) (.inl ⟨rfl, rfl, rfl, rfl, rfl, rfl, rfl, rfl, rfl, rfl, rfl, rfl, rfl⟩) (.inl ⟨rfl, rfl, rfl⟩) (.inl ⟨rfl, rfl, rfl, rfl, rfl⟩) (.inl rfl) (.inl rfl) (.inr rfl) (.inr rfl) (.inl rfl) (.inl rfl) (.inl ⟨rfl, rfl, rfl⟩) (.inl rfl)
  · refine Frame.after ?_ (Frame.mono rfl (cellForm_frame _ _ _ _ _))
    exact h3

theorem w1c_frame (s : State) (a1 : Nat) (a2 : Word) (a3 : Word) : Frame touches1 s (State.w1c s a1 a2 a3) := by
  have hs := Frame.refl touches1 s
  unfold State.w1c
  refine Frame.after ?_ (Frame.mono rfl (setRg_frame _ _ _))
  exact hs

theorem lockedErr_frame (s : State) (a1 : Nat) : Frame touches1 s (State.lockedErr s a1) := by
  have hs := Frame.refl touches1 s
  unfold State.lockedErr
  extract_lets -merge -useContext -underBinder x0
  have h1 : Frame touches1 s x0 := by
    unfold x0
    refine Frame.ite (fun _ => ?_) (fun _ => ?_)
    · exact hs
    · refine Frame.after ?_ (Frame.mono rfl (setRf_frame _ _ _ _ _))
      exact hs
  clear_value x0
  refine Frame.after ?_ (Frame.mono rfl (stk_frame _ _ _))
  exact h1

theorem tick_frame (s : State) (a1 : Nat) : Frame touches103 s (State.tick s a1) := by
  have hs := Frame.refl touches103 s
  unfold State.tick
  exact Frame.upd hs (.inr rfl) (.inl rfl) (.inl ⟨rfl, rfl⟩) (.inl rfl) (.inl rfl) (.inl rfl) (.inl rfl) (.inl rfl) (.inl rfl) (.inl rfl) (.inl ⟨rfl, rfl, rfl⟩) (.inl rfl) (.inl ⟨rfl, rfl, rfl⟩) (.inl ⟨rfl, rfl⟩) (.inl ⟨rfl, rfl, rfl, rfl, rfl, rfl, rfl, rfl⟩) (.inl ⟨rfl, rfl⟩) (.inl ⟨rfl, rfl, rfl, rfl, rfl, rfl, rfl, rfl, rfl, rfl⟩) (.inl ⟨rfl, rfl⟩) (.inl ⟨rfl, rfl⟩) (.inl rfl) (.inl rfl) (.inl rfl) (.inl rfl) (.inl ⟨rfl, rfl, rfl, rfl, rfl, rfl, rfl, rfl, rfl⟩) (.inl ⟨rfl, rfl, rfl, rfl, rfl, rfl, rfl, rfl, rfl⟩) (.inl ⟨rfl, rfl, rfl⟩) (.inl ⟨rfl, rfl, rfl, rfl, rfl, rfl, rfl, rfl, rfl, rfl, rfl, rfl, rfl, rfl, rfl, rfl, rfl, rfl, rfl, rfl, rfl, rfl, rfl, rfl, rfl, rfl, rfl⟩) (.inl ⟨rfl, rfl, rfl, rfl, rfl, rfl, rfl, rfl, rfl, rfl, rfl, rfl⟩) (.inl ⟨rfl, rfl, rfl, rfl, rfl, rfl, rfl, rfl, rfl⟩) (.inl ⟨rfl, rfl, rfl⟩) (.inl ⟨rfl, rfl, rfl⟩) (.inl ⟨rfl, rfl, rfl, rfl, rfl, rfl, rfl, rfl, rfl⟩) (.inl rfl) (.inl rfl) (.inl rfl) (.inl rfl) (.inl ⟨rfl, rfl⟩) (.inl ⟨rfl, rfl⟩) (.inl rfl) (.inl ⟨rfl, rfl, rfl, rfl, rfl⟩) (.inl ⟨rfl, rfl⟩) (.inl ⟨rfl, rfl, rfl, rfl⟩) (.inl ⟨rfl, rfl, rfl⟩) (.inl rfl) (.inl ⟨rfl, rfl⟩) (.inl ⟨rfl, rfl, rfl, rfl, rfl, rfl, rfl⟩) (.inl ⟨rfl, rfl, rfl, rfl, rfl⟩) (.inl rfl) (.inl ⟨rfl, rfl, rfl, rfl, rfl, rfl⟩) (.inl ⟨rfl, rfl, rfl, rfl, rfl, rfl, rfl, rfl, rfl, rfl, rfl⟩) (.inl ⟨rfl, rfl, rfl, rfl⟩) (.inl rfl) (.inl rfl) (.inl ⟨rfl, rfl, rfl, rfl, rfl, rfl, rfl, rfl, rfl, rfl, rfl, rfl⟩) (.inl ⟨rfl, rfl⟩) (.inl ⟨rfl, rfl, rfl, rfl, rfl, rfl⟩) (.inl ⟨rfl, rfl, rfl, rfl, rfl, rfl⟩) (.inl ⟨rfl, rfl, rfl, rfl, rfl, rfl, rfl, rfl, rfl, rfl, rfl, rfl⟩) (.inl ⟨rfl, rfl, rfl⟩) (.inl ⟨rfl, rfl, rfl, rfl⟩) (.inl ⟨rfl, rfl, rfl, rfl, rfl⟩) (.inl ⟨rfl, rfl, rfl, rfl, rfl, rfl, rfl, rfl, rfl, rfl⟩) (.inl ⟨rfl, rfl, rfl, rfl, rfl, rfl, rfl, rfl, rfl⟩) (.inl ⟨rfl, rfl, rfl, rfl, rfl, rfl, rfl, rfl, rfl, rfl, rfl, rfl, rfl⟩) (.inl ⟨rfl, rfl, rfl⟩) (.inl ⟨rfl, rfl, rfl, rfl, rfl⟩) (.inl rfl) (.inl rfl) (.inl ⟨rfl, rfl⟩) (.inl ⟨rfl, rfl, rfl, rfl, rfl, rfl, rfl, rfl, rfl, rfl, rfl, rfl, rfl⟩) (.inl rfl) (.inl rfl) (.inl ⟨rfl, rfl, rfl⟩) (.inl rfl)

theorem clrb_frame (s : State) (a1 : Nat) (a2 : Nat) : Frame touches1 s (State.clrb s a1 a2) := by
  have hs := Frame.refl touches1 s
  unfold State.clrb
  refine Frame.after ?_ (Frame.mono rfl (setRf_frame _ _ _ _ _))
  exact hs

theorem cellRelease_frame (s : State) : Frame touches18 s (State.cellRelease s) := by
  have hs := Frame.refl touches18 s
  unfold State.cellRelease
  extract_lets -merge -useContext -underBinder x0
  refine Frame.foldl ?_ (fun x1 y2 h3 => ?_)
  · exact Frame.upd hs (.inl rfl) (.inl rfl) (.inl ⟨rfl, rfl⟩) (.inl rfl) (.inl rfl) (.inl rfl) (.inl rfl) (.inl rfl) (.inl rfl) (.inl rfl) (.inl ⟨rfl, rfl, rfl⟩) (.inl rfl) (.inl ⟨rfl, rfl, rfl⟩) (.inl ⟨rfl, rfl⟩) (.inl ⟨rfl, rfl, rfl, rfl, rfl, rfl, rfl, rfl⟩) (.inl ⟨rfl, rfl⟩) (.inl ⟨rfl, rfl, rfl, rfl, rfl, rfl, rfl, rfl, rfl, rfl⟩) (.inl ⟨rfl, rfl⟩) (.inl ⟨rfl, rfl⟩) (.inl rfl) (.inl rfl) (.inl rfl) (.inl rfl) (.inl ⟨rfl, rfl, rfl, rfl, rfl, rfl, rfl, rfl, rfl⟩) (.inl ⟨rfl, rfl, rfl, rfl, rfl, rfl, rfl, rfl, rfl⟩) (.inl ⟨rfl, rfl, rfl⟩) (.inl ⟨rfl, rfl, rfl, rfl, rfl, rfl, rfl, rfl, rfl, rfl, rfl, rfl, rfl, rfl, rfl, rfl, rfl, rfl, rfl, rfl, rfl, rfl, rfl, rfl, rfl, rfl, rfl⟩) (.inl ⟨rfl, rfl, rfl, rfl, rfl, rfl, rfl, rfl, rfl, rfl, rfl, rfl⟩) (.inl ⟨rfl, rfl, rfl, rfl, rfl, rfl, rfl, rfl, rfl⟩) (.inl ⟨rfl, rfl, rfl⟩) (.inl ⟨rfl, rfl, rfl⟩) (.inl ⟨rfl, rfl, rfl, rfl, rfl, rfl, rfl, rfl, rfl⟩) (.inl rfl) (.inl rfl) (.inl rfl) (.inl rfl) (.inl ⟨rfl, rfl⟩) (.inl ⟨rfl, rfl⟩) (.inl rfl) (.inl ⟨rfl, rfl, rfl, rfl, rfl⟩) (.inl ⟨rfl, rfl⟩) (.inl ⟨rfl, rfl, rfl, rfl⟩) (.inl ⟨rfl, rfl, rfl⟩) (.inl rfl) (.inl ⟨rfl, rfl⟩) (.inl ⟨rfl, rfl, rfl, rfl, rfl, rfl, rfl⟩) (.inl ⟨rfl, rfl, rfl, rfl, rfl⟩) (.inl rfl) (.inl ⟨rfl, rfl, rfl, rfl, rfl, rfl⟩) (.inl ⟨rfl, rfl, rfl, rfl, rfl, rfl, rfl, rfl, rfl, rfl, rfl⟩) (.inl ⟨rfl, rfl, rfl, rfl⟩) (.inl rfl) (.inr rfl) (.inl ⟨rfl, rfl, rfl, rfl, rfl, rfl, rfl, rfl, rfl, rfl, rfl, rfl⟩) (.inl ⟨rfl, rfl⟩) (.inl ⟨rfl, rfl, rfl, rfl, rfl, rfl⟩) (.inl ⟨rfl, rfl, rfl, rfl, rfl, rfl⟩) (.inl ⟨rfl, rfl, rfl, rfl, rfl, rfl, rfl, rfl, rfl, rfl, rfl, rfl⟩) (.inl ⟨rfl, rfl, rfl⟩) (.inl ⟨rfl, rfl, rfl, rfl⟩) (.inl ⟨rfl, rfl, rfl, rfl, rfl⟩) (.inl ⟨rfl, rfl, rfl, rfl, rfl, rfl, rfl, rfl, rfl, rfl⟩) (.inl ⟨rfl, rfl, rfl, rfl, rfl, rfl, rfl, rfl, rfl⟩) (.inl ⟨rfl, rfl, rfl, rfl, rfl, rfl, rfl, rfl, rfl, rfl, rfl, rfl, rfl⟩) (.inl ⟨rfl, rfl, rfl⟩) (.inl ⟨rfl, rfl, rfl, rfl, rfl⟩) (.inl rfl) (.inl rfl) (.inr rfl) (.inr rfl) (.inl rfl) (.inl rfl) (.inl ⟨rfl, rfl, rfl⟩) (.inl rfl)
  · refine Frame.after ?_ (Frame.mono rfl (cellWrite_frame _ _))
    exact h3

theorem cellThaw_frame (s : State) : Frame touches18 s (State.cellThaw s) := by
  have hs := Frame.refl touches18 s
  unfold State.cellThaw
  extract_lets -merge -useContext -underBinder x0
  refine Frame.after ?_ (when_frame rfl _ _ ?_)
  · exact Frame.upd hs (.inl rfl) (.inl rfl) (.inl ⟨rfl, rfl⟩) (.inl rfl) (.inl rfl) (.inl rfl) (.inl rfl) (.inl rfl) (.inl rfl) (.inl rfl) (.inl ⟨rfl, rfl, rfl⟩) (.inl rfl) (.inl ⟨rfl, rfl, rfl⟩) (.inl ⟨rfl, rfl⟩) (.inl ⟨rfl, rfl, rfl, rfl, rfl, rfl, rfl, rfl⟩) (.inl ⟨rfl, rfl⟩) (.inl ⟨rfl, rfl, rfl, rfl, rfl, rfl, rfl, rfl, rfl, rfl⟩) (.inl ⟨rfl, rfl⟩) (.inl ⟨rfl, rfl⟩) (.inl rfl) (.inl rfl) (.inl rfl) (.inl rfl) (.inl ⟨rfl, rfl, rfl, rfl, rfl, rfl, rfl, rfl, rfl⟩) (.inl ⟨rfl, rfl, rfl, rfl, rfl, rfl, rfl, rfl, rfl⟩) (.inl ⟨rfl, rfl, rfl⟩) (.inl ⟨rfl, rfl, rfl, rfl, rfl, rfl, rfl, rfl, rfl, rfl, rfl, rfl, rfl, rfl, rfl, rfl, rfl, rfl, rfl, rfl, rfl, rfl, rfl, rfl, rfl, rfl, rfl⟩) (.inl ⟨rfl, rfl, rfl, rfl, rfl, rfl, rfl, rfl, rfl, rfl, rfl, rfl⟩) (.inl ⟨rfl, rfl, rfl, rfl, rfl, rfl, rfl, rfl, rfl⟩) (.inl ⟨rfl, rfl, rfl⟩) (.inl ⟨rfl, rfl, rfl⟩) (.inl ⟨rfl, rfl, rfl, rfl, rfl, rfl, rfl, rfl, rfl⟩) (.inl rfl) (.inl rfl) (.inl rfl) (.inl rfl) (.inl ⟨rfl, rfl⟩) (.inl ⟨rfl, rfl⟩) (.inl rfl) (.inl ⟨rfl, rfl, rfl, rfl, rfl⟩) (.inl ⟨rfl, rfl⟩) (.inl ⟨rfl, rfl, rfl, rfl⟩) (.inl ⟨rfl, rfl, rfl⟩) (.inl rfl) (.inl ⟨rfl, rfl⟩) (.inl ⟨rfl, rfl, rfl, rfl, rfl, rfl, rfl⟩) (.inl ⟨rfl, rfl, rfl, rfl, rfl⟩) (.inl rfl) (.inl ⟨rfl, rfl, rfl, rfl, rfl, rfl⟩) (.inl ⟨rfl, rfl, rfl, rfl, rfl, rfl, rfl, rfl, rfl, rfl, rfl⟩) (.inl ⟨rfl, rfl, rfl, rfl⟩) (.inl rfl) (.inr rfl) (.inl ⟨rfl, rfl, rfl, rfl, rfl, rfl, rfl, rfl, rfl, rfl, rfl, rfl⟩) (.inl ⟨rfl, rfl⟩) (.inl ⟨rfl, rfl, rfl, rfl, rfl, rfl⟩) (.inl ⟨rfl, rfl, rfl, rfl, rfl, rfl⟩) (.inl ⟨rfl, rfl, rfl, rfl, rfl, rfl, rfl, rfl, rfl, rfl, rfl, rfl⟩) (.inl ⟨rfl, rfl, rfl⟩) (.inl ⟨rfl, rfl, rfl, rfl⟩) (.inl ⟨rfl, rfl, rfl, rfl, rfl⟩) (.inl ⟨rfl, rfl, rfl, rfl, rfl, rfl, rfl, rfl, rfl, rfl⟩) (.inl ⟨rfl, rfl, rfl, rfl, rfl, rfl, rfl, rfl, rfl⟩) (.inl ⟨rfl, rfl, rfl, rfl, rfl, rfl, rfl, rfl, rfl, rfl, rfl, rfl, rfl⟩) (.inl ⟨rfl, rfl, rfl⟩) (.inl ⟨rfl, rfl, rfl, rfl, rfl⟩) (.inl rfl) (.inl rfl) (.inr rfl) (.inr rfl) (.inl rfl) (.inl rfl) (.inl ⟨rfl, rfl, rfl⟩) (.inl rfl)
  · intro y1
    have h2 := Frame.refl touches18 y1
    refine Frame.after ?_ (Frame.mono rfl (cellRelease_frame _))
    exact h2

end Sys2Proof
end

