-- ==== Sys2Proof/Laws/FrameIrqOps.lean ====
section
/-! SUPPORT. Laws/FrameIrqOps.lean: what each operation of Machine/IrqOps.lean leaves as it was. -/

namespace Sys2Proof

open Sys2Proof.Machine

theorem msixOut_frame (s : State) (a1 : Nat) : Frame touches11 s (State.msixOut s a1) := by
  have hs := Frame.refl touches11 s
  unfold State.msixOut
  extract_lets -merge -useContext -underBinder x0 x1 x2
  have h3 : Frame touches11 s x2 := by
    unfold x2
    refine Frame.ite (fun _ => ?_) (fun _ => ?_)
    · refine Frame.after ?_ (Frame.mono rfl (out_frame _ _))
      exact Frame.upd hs (.inl rfl) (.inl rfl) (.inl ⟨rfl, rfl⟩) (.inl rfl) (.inl rfl) (.inr rfl) (.inl rfl) (.inl rfl) (.inl rfl) (.inl rfl) (.inl ⟨rfl, rfl, rfl⟩) (.inl rfl) (.inl ⟨rfl, rfl, rfl⟩) (.inl ⟨rfl, rfl⟩) (.inl ⟨rfl, rfl, rfl, rfl, rfl, rfl, rfl, rfl⟩) (.inl ⟨rfl, rfl⟩) (.inl ⟨rfl, rfl, rfl, rfl, rfl, rfl, rfl, rfl, rfl, rfl⟩) (.inl ⟨rfl, rfl⟩) (.inl ⟨rfl, rfl⟩) (.inl rfl) (.inl rfl) (.inl rfl) (.inl rfl) (.inl ⟨rfl, rfl, rfl, rfl, rfl, rfl, rfl, rfl, rfl⟩) (.inl ⟨rfl, rfl, rfl, rfl, rfl, rfl, rfl, rfl, rfl⟩) (.inl ⟨rfl, rfl, rfl⟩) (.inl ⟨rfl, rfl, rfl, rfl, rfl, rfl, rfl, rfl, rfl, rfl, rfl, rfl, rfl, rfl, rfl, rfl, rfl, rfl, rfl, rfl, rfl, rfl, rfl, rfl, rfl, rfl, rfl⟩) (.inl ⟨rfl, rfl, rfl, rfl, rfl, rfl, rfl, rfl, rfl, rfl, rfl, rfl⟩) (.inl ⟨rfl, rfl, rfl, rfl, rfl, rfl, rfl, rfl, rfl⟩) (.inl ⟨rfl, rfl, rfl⟩) (.inl ⟨rfl, rfl, rfl⟩) (.inl ⟨rfl, rfl, rfl, rfl, rfl, rfl, rfl, rfl, rfl⟩) (.inl rfl) (.inl rfl) (.inl rfl) (.inl rfl) (.inl ⟨rfl, rfl⟩) (.inl ⟨rfl, rfl⟩) (.inl rfl) (.inl ⟨rfl, rfl, rfl, rfl, rfl⟩) (.inl ⟨rfl, rfl⟩) (.inl ⟨rfl, rfl, rfl, rfl⟩) (.inl ⟨rfl, rfl, rfl⟩) (.inl rfl) (.inl ⟨rfl, rfl⟩) (.inr rfl) (.inl ⟨rfl, rfl, rfl, rfl, rfl⟩) (.inl rfl) (.inl ⟨rfl, rfl, rfl, rfl, rfl, rfl⟩) (.inl ⟨rfl, rfl, rfl, rfl, rfl, rfl, rfl, rfl, rfl, rfl, rfl⟩) (.inl ⟨rfl, rfl, rfl, rfl⟩) (.inl rfl) (.inl rfl) (.inl ⟨rfl, rfl, rfl, rfl, rfl, rfl, rfl, rfl, rfl, rfl, rfl, rfl⟩) (.inl ⟨rfl, rfl⟩) (.inl ⟨rfl, rfl, rfl, rfl, rfl, rfl⟩) (.inl ⟨rfl, rfl, rfl, rfl, rfl, rfl⟩) (.inl ⟨rfl, rfl, rfl, rfl, rfl, rfl, rfl, rfl, rfl, rfl, rfl, rfl⟩) (.inl ⟨rfl, rfl, rfl⟩) (.inl ⟨rfl, rfl, rfl, rfl⟩) (.inl ⟨rfl, rfl, rfl, rfl, rfl⟩) (.inl ⟨rfl, rfl, rfl, rfl, rfl, rfl, rfl, rfl, rfl, rfl⟩) (.inl ⟨rfl, rfl, rfl, rfl, rfl, rfl, rfl, rfl, rfl⟩) (.inl ⟨rfl, rfl, rfl, rfl, rfl, rfl, rfl, rfl, rfl, rfl, rfl, rfl, rfl⟩) (.inl ⟨rfl, rfl, rfl⟩) (.inl ⟨rfl, rfl, rfl, rfl, rfl⟩) (.inl rfl) (.inl rfl) (.inl ⟨rfl, rfl⟩) (.inl ⟨rfl, rfl, rfl, rfl, rfl, rfl, rfl, rfl, rfl, rfl, rfl, rfl, rfl⟩) (.inl rfl) (.inl rfl) (.inr rfl) (.inl rfl)
    · exact hs
  clear_value x2
  refine Frame.ite (fun _ => ?_) (fun _ => ?_)
  · exact Frame.upd hs (.inl rfl) (.inl rfl) (.inl ⟨rfl, rfl⟩) (.inl rfl) (.inl rfl) (.inr rfl) (.inl rfl) (.inl rfl) (.inl rfl) (.inl rfl) (.inl ⟨rfl, rfl, rfl⟩) (.inl rfl) (.inl ⟨rfl, rfl, rfl⟩) (.inl ⟨rfl, rfl⟩) (.inl ⟨rfl, rfl, rfl, rfl, rfl, rfl, rfl, rfl⟩) (.inl ⟨rfl, rfl⟩) (.inl ⟨rfl, rfl, rfl, rfl, rfl, rfl, rfl, rfl, rfl, rfl⟩) (.inl ⟨rfl, rfl⟩) (.inl ⟨rfl, rfl⟩) (.inl rfl) (.inl rfl) (.inl rfl) (.inl rfl) (.inl ⟨rfl, rfl, rfl, rfl, rfl, rfl, rfl, rfl, rfl⟩) (.inl ⟨rfl, rfl, rfl, rfl, rfl, rfl, rfl, rfl, rfl⟩) (.inl ⟨rfl, rfl, rfl⟩) (.inl ⟨rfl, rfl, rfl, rfl, rfl, rfl, rfl, rfl, rfl, rfl, rfl, rfl, rfl, rfl, rfl, rfl, rfl, rfl, rfl, rfl, rfl, rfl, rfl, rfl, rfl, rfl, rfl⟩) (.inl ⟨rfl, rfl, rfl, rfl, rfl, rfl, rfl, rfl, rfl, rfl, rfl, rfl⟩) (.inl ⟨rfl, rfl, rfl, rfl, rfl, rfl, rfl, rfl, rfl⟩) (.inl ⟨rfl, rfl, rfl⟩) (.inl ⟨rfl, rfl, rfl⟩) (.inl ⟨rfl, rfl, rfl, rfl, rfl, rfl, rfl, rfl, rfl⟩) (.inl rfl) (.inl rfl) (.inl rfl) (.inl rfl) (.inl ⟨rfl, rfl⟩) (.inl ⟨rfl, rfl⟩) (.inl rfl) (.inl ⟨rfl, rfl, rfl, rfl, rfl⟩) (.inl ⟨rfl, rfl⟩) (.inl ⟨rfl, rfl, rfl, rfl⟩) (.inl ⟨rfl, rfl, rfl⟩) (.inl rfl) (.inl ⟨rfl, rfl⟩) (.inr rfl) (.inl ⟨rfl, rfl, rfl, rfl, rfl⟩) (.inl rfl) (.inl ⟨rfl, rfl, rfl, rfl, rfl, rfl⟩) (.inl ⟨rfl, rfl, rfl, rfl, rfl, rfl, rfl, rfl, rfl, rfl, rfl⟩) (.inl ⟨rfl, rfl, rfl, rfl⟩) (.inl rfl) (.inl rfl) (.inl ⟨rfl, rfl, rfl, rfl, rfl, rfl, rfl, rfl, rfl, rfl, rfl, rfl⟩) (.inl ⟨rfl, rfl⟩) (.inl ⟨rfl, rfl, rfl, rfl, rfl, rfl⟩) (.inl ⟨rfl, rfl, rfl, rfl, rfl, rfl⟩) (.inl ⟨rfl, rfl, rfl, rfl, rfl, rfl, rfl, rfl, rfl, rfl, rfl, rfl⟩) (.inl ⟨rfl, rfl, rfl⟩) (.inl ⟨rfl, rfl, rfl, rfl⟩) (.inl ⟨rfl, rfl, rfl, rfl, rfl⟩) (.inl ⟨rfl, rfl, rfl, rfl, rfl, rfl, rfl, rfl, rfl, rfl⟩) (.inl ⟨rfl, rfl, rfl, rfl, rfl, rfl, rfl, rfl, rfl⟩) (.inl ⟨rfl, rfl, rfl, rfl, rfl, rfl, rfl, rfl, rfl, rfl, rfl, rfl, rfl⟩) (.inl ⟨rfl, rfl, rfl⟩) (.inl ⟨rfl, rfl, rfl, rfl, rfl⟩) (.inl rfl) (.inl rfl) (.inl ⟨rfl, rfl⟩) (.inl ⟨rfl, rfl, rfl, rfl, rfl, rfl, rfl, rfl, rfl, rfl, rfl, rfl, rfl⟩) (.inl rfl) (.inl rfl) (.inr rfl) (.inl rfl)
  · refine Frame.after ?_ (Frame.mono rfl (out_frame _ _))
    exact h3

theorem irqRoll_frame (s : State) : Frame touches97 s (State.irqRoll s) := by
  have hs := Frame.refl touches97 s
  unfold State.irqRoll
  extract_lets -merge -useContext -underBinder x0
  refine Frame.ite (fun _ => ?_) (fun _ => ?_)
  · exact hs
  · exact Frame.upd hs (.inl rfl) (.inl rfl) (.inl ⟨rfl, rfl⟩) (.inl rfl) (.inl rfl) (.inl rfl) (.inl rfl) (.inl rfl) (.inl rfl) (.inl rfl) (.inl ⟨rfl, rfl, rfl⟩) (.inl rfl) (.inl ⟨rfl, rfl, rfl⟩) (.inl ⟨rfl, rfl⟩) (.inl ⟨rfl, rfl, rfl, rfl, rfl, rfl, rfl, rfl⟩) (.inl ⟨rfl, rfl⟩) (.inl ⟨rfl, rfl, rfl, rfl, rfl, rfl, rfl, rfl, rfl, rfl⟩) (.inl ⟨rfl, rfl⟩) (.inl ⟨rfl, rfl⟩) (.inl rfl) (.inl rfl) (.inl rfl) (.inl rfl) (.inl ⟨rfl, rfl, rfl, rfl, rfl, rfl, rfl, rfl, rfl⟩) (.inl ⟨rfl, rfl, rfl, rfl, rfl, rfl, rfl, rfl, rfl⟩) (.inl ⟨rfl, rfl, rfl⟩) (.inl ⟨rfl, rfl, rfl, rfl, rfl, rfl, rfl, rfl, rfl, rfl, rfl, rfl, rfl, rfl, rfl, rfl, rfl, rfl, rfl, rfl, rfl, rfl, rfl, rfl, rfl, rfl, rfl⟩) (.inl ⟨rfl, rfl, rfl, rfl, rfl, rfl, rfl, rfl, rfl, rfl, rfl, rfl⟩) (.inl ⟨rfl, rfl, rfl, rfl, rfl, rfl, rfl, rfl, rfl⟩) (.inl ⟨rfl, rfl, rfl⟩) (.inl ⟨rfl, rfl, rfl⟩) (.inl ⟨rfl, rfl, rfl, rfl, rfl, rfl, rfl, rfl, rfl⟩) (.inl rfl) (.inl rfl) (.inl rfl) (.inl rfl) (.inl ⟨rfl, rfl⟩) (.inl ⟨rfl, rfl⟩) (.inl rfl) (.inl ⟨rfl, rfl, rfl, rfl, rfl⟩) (.inl ⟨rfl, rfl⟩) (.inl ⟨rfl, rfl, rfl, rfl⟩) (.inl ⟨rfl, rfl, rfl⟩) (.inl rfl) (.inl ⟨rfl, rfl⟩) (.inl ⟨rfl, rfl, rfl, rfl, rfl, rfl, rfl⟩) (.inl ⟨rfl, rfl, rfl, rfl, rfl⟩) (.inl rfl) (.inl ⟨rfl, rfl, rfl, rfl, rfl, rfl⟩) (.inl ⟨rfl, rfl, rfl, rfl, rfl, rfl, rfl, rfl, rfl, rfl, rfl⟩) (.inl ⟨rfl, rfl, rfl, rfl⟩) (.inl rfl) (.inl rfl) (.inr rfl) (.inl ⟨rfl, rfl⟩) (.inl ⟨rfl, rfl, rfl, rfl, rfl, rfl⟩) (.inl ⟨rfl, rfl, rfl, rfl, rfl, rfl⟩) (.inl ⟨rfl, rfl, rfl, rfl, rfl, rfl, rfl, rfl, rfl, rfl, rfl, rfl⟩) (.inl ⟨rfl, rfl, rfl⟩) (.inl ⟨rfl, rfl, rfl, rfl⟩) (.inl ⟨rfl, rfl, rfl, rfl, rfl⟩) (.inl ⟨rfl, rfl, rfl, rfl, rfl, rfl, rfl, rfl, rfl, rfl⟩) (.inl ⟨rfl, rfl, rfl, rfl, rfl, rfl, rfl, rfl, rfl⟩) (.inl ⟨rfl, rfl, rfl, rfl, rfl, rfl, rfl, rfl, rfl, rfl, rfl, rfl, rfl⟩) (.inl ⟨rfl, rfl, rfl⟩) (.inl ⟨rfl, rfl, rfl, rfl, rfl⟩) (.inl rfl) (.inl rfl) (.inl ⟨rfl, rfl⟩) (.inl ⟨rfl, rfl, rfl, rfl, rfl, rfl, rfl, rfl, rfl, rfl, rfl, rfl, rfl⟩) (.inl rfl) (.inl rfl) (.inl ⟨rfl, rfl, rfl⟩) (.inl rfl)

theorem setSrc_frame (s : State) (a1 : Nat) (a2 : IrqSrc) : Frame touches97 s (State.setSrc s a1 a2) := by
  have hs := Frame.refl touches97 s
  unfold State.setSrc
  extract_lets -merge -useContext -underBinder x0
  exact Frame.upd hs (.inl rfl) (.inl rfl) (.inl ⟨rfl, rfl⟩) (.inl rfl) (.inl rfl) (.inl rfl) (.inl rfl) (.inl rfl) (.inl rfl) (.inl rfl) (.inl ⟨rfl, rfl, rfl⟩) (.inl rfl) (.inl ⟨rfl, rfl, rfl⟩) (.inl ⟨rfl, rfl⟩) (.inl ⟨rfl, rfl, rfl, rfl, rfl, rfl, rfl, rfl⟩) (.inl ⟨rfl, rfl⟩) (.inl ⟨rfl, rfl, rfl, rfl, rfl, rfl, rfl, rfl, rfl, rfl⟩) (.inl ⟨rfl, rfl⟩) (.inl ⟨rfl, rfl⟩) (.inl rfl) (.inl rfl) (.inl rfl) (.inl rfl) (.inl ⟨rfl, rfl, rfl, rfl, rfl, rfl, rfl, rfl, rfl⟩) (.inl ⟨rfl, rfl, rfl, rfl, rfl, rfl, rfl, rfl, rfl⟩) (.inl ⟨rfl, rfl, rfl⟩) (.inl ⟨rfl, rfl, rfl, rfl, rfl, rfl, rfl, rfl, rfl, rfl, rfl, rfl, rfl, rfl, rfl, rfl, rfl, rfl, rfl, rfl, rfl, rfl, rfl, rfl, rfl, rfl, rfl⟩) (.inl ⟨rfl, rfl, rfl, rfl, rfl, rfl, rfl, rfl, rfl, rfl, rfl, rfl⟩) (.inl ⟨rfl, rfl, rfl, rfl, rfl, rfl, rfl, rfl, rfl⟩) (.inl ⟨rfl, rfl, rfl⟩) (.inl ⟨rfl, rfl, rfl⟩) (.inl ⟨rfl, rfl, rfl, rfl, rfl, rfl, rfl, rfl, rfl⟩) (.inl rfl) (.inl rfl) (.inl rfl) (.inl rfl) (.inl ⟨rfl, rfl⟩) (.inl ⟨rfl, rfl⟩) (.inl rfl) (.inl ⟨rfl, rfl, rfl, rfl, rfl⟩) (.inl ⟨rfl, rfl⟩) (.inl ⟨rfl, rfl, rfl, rfl⟩) (.inl ⟨rfl, rfl, rfl⟩) (.inl rfl) (.inl ⟨rfl, rfl⟩) (.inl ⟨rfl, rfl, rfl, rfl, rfl, rfl, rfl⟩) (.inl ⟨rfl, rfl, rfl, rfl, rfl⟩) (.inl rfl) (.inl ⟨rfl, rfl, rfl, rfl, rfl, rfl⟩) (.inl ⟨rfl, rfl, rfl, rfl, rfl, rfl, rfl, rfl, rfl, rfl, rfl⟩) (.inl ⟨rfl, rfl, rfl, rfl⟩) (.inl rfl) (.inl rfl) (.inr rfl) (.inl ⟨rfl, rfl⟩) (.inl ⟨rfl, rfl, rfl, rfl, rfl, rfl⟩) (.inl ⟨rfl, rfl, rfl, rfl, rfl, rfl⟩) (.inl ⟨rfl, rfl, rfl, rfl, rfl, rfl, rfl, rfl, rfl, rfl, rfl, rfl⟩) (.inl ⟨rfl, rfl, rfl⟩) (.inl ⟨rfl, rfl, rfl, rfl⟩) (.inl ⟨rfl, rfl, rfl, rfl, rfl⟩) (.inl ⟨rfl, rfl, rfl, rfl, rfl, rfl, rfl, rfl, rfl, rfl⟩) (.inl ⟨rfl, rfl, rfl, rfl, rfl, rfl, rfl, rfl, rfl⟩) (.inl ⟨rfl, rfl, rfl, rfl, rfl, rfl, rfl, rfl, rfl, rfl, rfl, rfl, rfl⟩) (.inl ⟨rfl, rfl, rfl⟩) (.inl ⟨rfl, rfl, rfl, rfl, rfl⟩) (.inl rfl) (.inl rfl) (.inl ⟨rfl, rfl⟩) (.inl ⟨rfl, rfl, rfl, rfl, rfl, rfl, rfl, rfl, rfl, rfl, rfl, rfl, rfl⟩) (.inl rfl) (.inl rfl) (.inl ⟨rfl, rfl, rfl⟩) (.inl rfl)

theorem setPending_frame (s : State) (a1 : Nat) (a2 : IrqSrc) (a3 : Bool) : Frame touches98 s (State.setPending s a1 a2 a3) := by
  have hs := Frame.refl touches98 s
  unfold State.setPending
  extract_lets -merge -useContext -underBinder x0 x1 x2
  clear_value x0
  have h3 : Frame touches98 s x1 := by
    unfold x1
    refine Frame.after ?_ (Frame.mono rfl (irqRoll_frame _))
    exact hs
  clear_value x1
  refine Frame.ite (fun _ => ?_) (fun _ => ?_)
  · refine Frame.ite (fun _ => ?_) (fun _ => ?_)
    · refine Frame.after ?_ (Frame.mono rfl (cell_frame _ _ _ _ _))
      refine Frame.after ?_ (Frame.mono rfl (cnt_frame _ _))
      refine Frame.after ?_ (Frame.mono rfl (stk_frame _ _ _))
      refine Frame.after ?_ (Frame.mono rfl (setMark_frame _ _ _))
      refine Frame.after ?_ (Frame.mono rfl (setSrc_frame _ _ _))
      exact h3
    · refine Frame.after ?_ (Frame.mono rfl (setSrc_frame _ _ _))
      exact h3
  · refine Frame.after ?_ (Frame.mono rfl (setSrc_frame _ _ _))
    exact hs

theorem pendSeen_frame (s : State) (a1 : Nat) : Frame touches98 s (State.pendSeen s a1) := by
  have hs := Frame.refl touches98 s
  unfold State.pendSeen
  extract_lets -merge -useContext -underBinder x0
  clear_value x0
  refine Frame.ite (fun _ => ?_) (fun _ => ?_)
  · refine Frame.after ?_ (Frame.mono rfl (setPending_frame _ _ _ _))
    exact hs
  · refine Frame.after ?_ (Frame.mono rfl (setSrc_frame _ _ _))
    exact hs

theorem irqSend_frame (s : State) : Frame touches117 s (State.irqSend s) := by
  have hs := Frame.refl touches117 s
  unfold State.irqSend
  extract_lets -merge -useContext -underBinder x0
  refine Frame.ite (fun _ => ?_) (fun _ => ?_)
  · refine Frame.foldl ?_ (fun x1 y2 h3 => ?_)
    · exact Frame.upd hs (.inl rfl) (.inl rfl) (.inl ⟨rfl, rfl⟩) (.inl rfl) (.inl rfl) (.inr rfl) (.inl rfl) (.inl rfl) (.inl rfl) (.inl rfl) (.inl ⟨rfl, rfl, rfl⟩) (.inl rfl) (.inl ⟨rfl, rfl, rfl⟩) (.inl ⟨rfl, rfl⟩) (.inl ⟨rfl, rfl, rfl, rfl, rfl, rfl, rfl, rfl⟩) (.inl ⟨rfl, rfl⟩) (.inl ⟨rfl, rfl, rfl, rfl, rfl, rfl, rfl, rfl, rfl, rfl⟩) (.inl ⟨rfl, rfl⟩) (.inl ⟨rfl, rfl⟩) (.inl rfl) (.inl rfl) (.inl rfl) (.inl rfl) (.inl ⟨rfl, rfl, rfl, rfl, rfl, rfl, rfl, rfl, rfl⟩) (.inl ⟨rfl, rfl, rfl, rfl, rfl, rfl, rfl, rfl, rfl⟩) (.inl ⟨rfl, rfl, rfl⟩) (.inl ⟨rfl, rfl, rfl, rfl, rfl, rfl, rfl, rfl, rfl, rfl, rfl, rfl, rfl, rfl, rfl, rfl, rfl, rfl, rfl, rfl, rfl, rfl, rfl, rfl, rfl, rfl, rfl⟩) (.inl ⟨rfl, rfl, rfl, rfl, rfl, rfl, rfl, rfl, rfl, rfl, rfl, rfl⟩) (.inl ⟨rfl, rfl, rfl, rfl, rfl, rfl, rfl, rfl, rfl⟩) (.inl ⟨rfl, rfl, rfl⟩) (.inl ⟨rfl, rfl, rfl⟩) (.inl ⟨rfl, rfl, rfl, rfl, rfl, rfl, rfl, rfl, rfl⟩) (.inl rfl) (.inl rfl) (.inl rfl) (.inl rfl) (.inl ⟨rfl, rfl⟩) (.inl ⟨rfl, rfl⟩) (.inl rfl) (.inl ⟨rfl, rfl, rfl, rfl, rfl⟩) (.inl ⟨rfl, rfl⟩) (.inl ⟨rfl, rfl, rfl, rfl⟩) (.inl ⟨rfl, rfl, rfl⟩) (.inl rfl) (.inl ⟨rfl, rfl⟩) (.inr rfl) (.inl ⟨rfl, rfl, rfl, rfl, rfl⟩) (.inl rfl) (.inl ⟨rfl, rfl, rfl, rfl, rfl, rfl⟩) (.inl ⟨rfl, rfl, rfl, rfl, rfl, rfl, rfl, rfl, rfl, rfl, rfl⟩) (.inl ⟨rfl, rfl, rfl, rfl⟩) (.inl rfl) (.inl rfl) (.inr rfl) (.inl ⟨rfl, rfl⟩) (.inl ⟨rfl, rfl, rfl, rfl, rfl, rfl⟩) (.inl ⟨rfl, rfl, rfl, rfl, rfl, rfl⟩) (.inl ⟨rfl, rfl, rfl, rfl, rfl, rfl, rfl, rfl, rfl, rfl, rfl, rfl⟩) (.inl ⟨rfl, rfl, rfl⟩) (.inl ⟨rfl, rfl, rfl, rfl⟩) (.inl ⟨rfl, rfl, rfl, rfl, rfl⟩) (.inl ⟨rfl, rfl, rfl, rfl, rfl, rfl, rfl, rfl, rfl, rfl⟩) (.inl ⟨rfl, rfl, rfl, rfl, rfl, rfl, rfl, rfl, rfl⟩) (.inl ⟨rfl, rfl, rfl, rfl, rfl, rfl, rfl, rfl, rfl, rfl, rfl, rfl, rfl⟩) (.inl ⟨rfl, rfl, rfl⟩) (.inl ⟨rfl, rfl, rfl, rfl, rfl⟩) (.inl rfl) (.inl rfl) (.inl ⟨rfl, rfl⟩) (.inl ⟨rfl, rfl, rfl, rfl, rfl, rfl, rfl, rfl, rfl, rfl, rfl, rfl, rfl⟩) (.inl rfl) (.inl rfl) (.inr rfl) (.inl rfl)
    · refine Frame.after ?_ (Frame.mono rfl (msixOut_frame _ _))
      exact h3
  · exact hs

theorem irqTell_frame (s : State) : Frame touches117 s (State.irqTell s) := by
  have hs := Frame.refl touches117 s
  unfold State.irqTell
  extract_lets -merge -useContext -underBinder x0 x1 x2 x3
  clear_value x0
  clear_value x1
  clear_value x2
  refine Frame.after ?_ (Frame.mono rfl (irqSend_frame _))
  exact Frame.upd hs (.inl rfl) (.inl rfl) (.inl ⟨rfl, rfl⟩) (.inl rfl) (.inl rfl) (.inr rfl) (.inl rfl) (.inl rfl) (.inl rfl) (.inl rfl) (.inl ⟨rfl, rfl, rfl⟩) (.inl rfl) (.inl ⟨rfl, rfl, rfl⟩) (.inl ⟨rfl, rfl⟩) (.inl ⟨rfl, rfl, rfl, rfl, rfl, rfl, rfl, rfl⟩) (.inl ⟨rfl, rfl⟩) (.inl ⟨rfl, rfl, rfl, rfl, rfl, rfl, rfl, rfl, rfl, rfl⟩) (.inl ⟨rfl, rfl⟩) (.inl ⟨rfl, rfl⟩) (.inl rfl) (.inl rfl) (.inl rfl) (.inl rfl) (.inl ⟨rfl, rfl, rfl, rfl, rfl, rfl, rfl, rfl, rfl⟩) (.inl ⟨rfl, rfl, rfl, rfl, rfl, rfl, rfl, rfl, rfl⟩) (.inl ⟨rfl, rfl, rfl⟩) (.inl ⟨rfl, rfl, rfl, rfl, rfl, rfl, rfl, rfl, rfl, rfl, rfl, rfl, rfl, rfl, rfl, rfl, rfl, rfl, rfl, rfl, rfl, rfl, rfl, rfl, rfl, rfl, rfl⟩) (.inl ⟨rfl, rfl, rfl, rfl, rfl, rfl, rfl, rfl, rfl, rfl, rfl, rfl⟩) (.inl ⟨rfl, rfl, rfl, rfl, rfl, rfl, rfl, rfl, rfl⟩) (.inl ⟨rfl, rfl, rfl⟩) (.inl ⟨rfl, rfl, rfl⟩) (.inl ⟨rfl, rfl, rfl, rfl, rfl, rfl, rfl, rfl, rfl⟩) (.inl rfl) (.inl rfl) (.inl rfl) (.inl rfl) (.inl ⟨rfl, rfl⟩) (.inl ⟨rfl, rfl⟩) (.inl rfl) (.inl ⟨rfl, rfl, rfl, rfl, rfl⟩) (.inl ⟨rfl, rfl⟩) (.inl ⟨rfl, rfl, rfl, rfl⟩) (.inl ⟨rfl, rfl, rfl⟩) (.inl rfl) (.inl ⟨rfl, rfl⟩) (.inr rfl) (.inl ⟨rfl, rfl, rfl, rfl, rfl⟩) (.inl rfl) (.inl ⟨rfl, rfl, rfl, rfl, rfl, rfl⟩) (.inl ⟨rfl, rfl, rfl, rfl, rfl, rfl, rfl, rfl, rfl, rfl, rfl⟩) (.inl ⟨rfl, rfl, rfl, rfl⟩) (.inl rfl) (.inl rfl) (.inr rfl) (.inl ⟨rfl, rfl⟩) (.inl ⟨rfl, rfl, rfl, rfl, rfl, rfl⟩) (.inl ⟨rfl, rfl, rfl, rfl, rfl, rfl⟩) (.inl ⟨rfl, rfl, rfl, rfl, rfl, rfl, rfl, rfl, rfl, rfl, rfl, rfl⟩) (.inl ⟨rfl, rfl, rfl⟩) (.inl ⟨rfl, rfl, rfl, rfl⟩) (.inl ⟨rfl, rfl, rfl, rfl, rfl⟩) (.inl ⟨rfl, rfl, rfl, rfl, rfl, rfl, rfl, rfl, rfl, rfl⟩) (.inl ⟨rfl, rfl, rfl, rfl, rfl, rfl, rfl, rfl, rfl⟩) (.inl ⟨rfl, rfl, rfl, rfl, rfl, rfl, rfl, rfl, rfl, rfl, rfl, rfl, rfl⟩) (.inl ⟨rfl, rfl, rfl⟩) (.inl ⟨rfl, rfl, rfl, rfl, rfl⟩) (.inl rfl) (.inl rfl) (.inl ⟨rfl, rfl⟩) (.inl ⟨rfl, rfl, rfl, rfl, rfl, rfl, rfl, rfl, rfl, rfl, rfl, rfl, rfl⟩) (.inl rfl) (.inl rfl) (.inr rfl) (.inl rfl)

theorem eventsPrune_frame (s : State) : Frame touches17 s (State.eventsPrune s) := by
  have hs := Frame.refl touches17 s
  unfold State.eventsPrune
  extract_lets -merge -useContext -underBinder x0
  exact Frame.upd hs (.inl rfl) (.inl rfl) (.inl ⟨rfl, rfl⟩) (.inl rfl) (.inl rfl) (.inl rfl) (.inl rfl) (.inl rfl) (.inl rfl) (.inl rfl) (.inl ⟨rfl, rfl, rfl⟩) (.inl rfl) (.inl ⟨rfl, rfl, rfl⟩) (.inl ⟨rfl, rfl⟩) (.inl ⟨rfl, rfl, rfl, rfl, rfl, rfl, rfl, rfl⟩) (.inl ⟨rfl, rfl⟩) (.inl ⟨rfl, rfl, rfl, rfl, rfl, rfl, rfl, rfl, rfl, rfl⟩) (.inl ⟨rfl, rfl⟩) (.inl ⟨rfl, rfl⟩) (.inl rfl) (.inl rfl) (.inl rfl) (.inl rfl) (.inl ⟨rfl, rfl, rfl, rfl, rfl, rfl, rfl, rfl, rfl⟩) (.inl ⟨rfl, rfl, rfl, rfl, rfl, rfl, rfl, rfl, rfl⟩) (.inl ⟨rfl, rfl, rfl⟩) (.inl ⟨rfl, rfl, rfl, rfl, rfl, rfl, rfl, rfl, rfl, rfl, rfl, rfl, rfl, rfl, rfl, rfl, rfl, rfl, rfl, rfl, rfl, rfl, rfl, rfl, rfl, rfl, rfl⟩) (.inl ⟨rfl, rfl, rfl, rfl, rfl, rfl, rfl, rfl, rfl, rfl, rfl, rfl⟩) (.inl ⟨rfl, rfl, rfl, rfl, rfl, rfl, rfl, rfl, rfl⟩) (.inl ⟨rfl, rfl, rfl⟩) (.inl ⟨rfl, rfl, rfl⟩) (.inl ⟨rfl, rfl, rfl, rfl, rfl, rfl, rfl, rfl, rfl⟩) (.inl rfl) (.inl rfl) (.inl rfl) (.inl rfl) (.inl ⟨rfl, rfl⟩) (.inl ⟨rfl, rfl⟩) (.inl rfl) (.inl ⟨rfl, rfl, rfl, rfl, rfl⟩) (.inl ⟨rfl, rfl⟩) (.inl ⟨rfl, rfl, rfl, rfl⟩) (.inl ⟨rfl, rfl, rfl⟩) (.inl rfl) (.inl ⟨rfl, rfl⟩) (.inl ⟨rfl, rfl, rfl, rfl, rfl, rfl, rfl⟩) (.inl ⟨rfl, rfl, rfl, rfl, rfl⟩) (.inl rfl) (.inl ⟨rfl, rfl, rfl, rfl, rfl, rfl⟩) (.inl ⟨rfl, rfl, rfl, rfl, rfl, rfl, rfl, rfl, rfl, rfl, rfl⟩) (.inl ⟨rfl, rfl, rfl, rfl⟩) (.inl rfl) (.inr rfl) (.inl ⟨rfl, rfl, rfl, rfl, rfl, rfl, rfl, rfl, rfl, rfl, rfl, rfl⟩) (.inl ⟨rfl, rfl⟩) (.inl ⟨rfl, rfl, rfl, rfl, rfl, rfl⟩) (.inl ⟨rfl, rfl, rfl, rfl, rfl, rfl⟩) (.inl ⟨rfl, rfl, rfl, rfl, rfl, rfl, rfl, rfl, rfl, rfl, rfl, rfl⟩) (.inl ⟨rfl, rfl, rfl⟩) (.inl ⟨rfl, rfl, rfl, rfl⟩) (.inl ⟨rfl, rfl, rfl, rfl, rfl⟩) (.inl ⟨rfl, rfl, rfl, rfl, rfl, rfl, rfl, rfl, rfl, rfl⟩) (.inl ⟨rfl, rfl, rfl, rfl, rfl, rfl, rfl, rfl, rfl⟩) (.inl ⟨rfl, rfl, rfl, rfl, rfl, rfl, rfl, rfl, rfl, rfl, rfl, rfl, rfl⟩) (.inl ⟨rfl, rfl, rfl⟩) (.inl ⟨rfl, rfl, rfl, rfl, rfl⟩) (.inl rfl) (.inl rfl) (.inl ⟨rfl, rfl⟩) (.inl ⟨rfl, rfl, rfl, rfl, rfl, rfl, rfl, rfl, rfl, rfl, rfl, rfl, rfl⟩) (.inl rfl) (.inl rfl) (.inl ⟨rfl, rfl, rfl⟩) (.inl rfl)

theorem irqApply_frame (s : State) : Frame touches118 s (State.irqApply s) := by
  have hs := Frame.refl touches118 s
  unfold State.irqApply
  refine Frame.after ?_ (Frame.mono rfl (irqTell_frame _))
  refine Frame.after ?_ (Frame.mono rfl (eventsPrune_frame _))
  refine Frame.foldl ?_ (fun x0 y1 h2 => ?_)
  · exact hs
  · extract_lets -merge -useContext -underBinder x3
    clear_value x3
    refine Frame.after ?_ (Frame.mono rfl (setPending_frame _ _ _ _))
    exact h2

theorem setIrqStack_frame (s : State) (a1 : IrqCtx) (a2 : List Nat) : Frame touches97 s (State.setIrqStack s a1 a2) := by
  have hs := Frame.refl touches97 s
  unfold State.setIrqStack
  split
  · extract_lets -merge -useContext -underBinder x0
    exact Frame.upd hs (.inl rfl) (.inl rfl) (.inl ⟨rfl, rfl⟩) (.inl rfl) (.inl rfl) (.inl rfl) (.inl rfl) (.inl rfl) (.inl rfl) (.inl rfl) (.inl ⟨rfl, rfl, rfl⟩) (.inl rfl) (.inl ⟨rfl, rfl, rfl⟩) (.inl ⟨rfl, rfl⟩) (.inl ⟨rfl, rfl, rfl, rfl, rfl, rfl, rfl, rfl⟩) (.inl ⟨rfl, rfl⟩) (.inl ⟨rfl, rfl, rfl, rfl, rfl, rfl, rfl, rfl, rfl, rfl⟩) (.inl ⟨rfl, rfl⟩) (.inl ⟨rfl, rfl⟩) (.inl rfl) (.inl rfl) (.inl rfl) (.inl rfl) (.inl ⟨rfl, rfl, rfl, rfl, rfl, rfl, rfl, rfl, rfl⟩) (.inl ⟨rfl, rfl, rfl, rfl, rfl, rfl, rfl, rfl, rfl⟩) (.inl ⟨rfl, rfl, rfl⟩) (.inl ⟨rfl, rfl, rfl, rfl, rfl, rfl, rfl, rfl, rfl, rfl, rfl, rfl, rfl, rfl, rfl, rfl, rfl, rfl, rfl, rfl, rfl, rfl, rfl, rfl, rfl, rfl, rfl⟩) (.inl ⟨rfl, rfl, rfl, rfl, rfl, rfl, rfl, rfl, rfl, rfl, rfl, rfl⟩) (.inl ⟨rfl, rfl, rfl, rfl, rfl, rfl, rfl, rfl, rfl⟩) (.inl ⟨rfl, rfl, rfl⟩) (.inl ⟨rfl, rfl, rfl⟩) (.inl ⟨rfl, rfl, rfl, rfl, rfl, rfl, rfl, rfl, rfl⟩) (.inl rfl) (.inl rfl) (.inl rfl) (.inl rfl) (.inl ⟨rfl, rfl⟩) (.inl ⟨rfl, rfl⟩) (.inl rfl) (.inl ⟨rfl, rfl, rfl, rfl, rfl⟩) (.inl ⟨rfl, rfl⟩) (.inl ⟨rfl, rfl, rfl, rfl⟩) (.inl ⟨rfl, rfl, rfl⟩) (.inl rfl) (.inl ⟨rfl, rfl⟩) (.inl ⟨rfl, rfl, rfl, rfl, rfl, rfl, rfl⟩) (.inl ⟨rfl, rfl, rfl, rfl, rfl⟩) (.inl rfl) (.inl ⟨rfl, rfl, rfl, rfl, rfl, rfl⟩) (.inl ⟨rfl, rfl, rfl, rfl, rfl, rfl, rfl, rfl, rfl, rfl, rfl⟩) (.inl ⟨rfl, rfl, rfl, rfl⟩) (.inl rfl) (.inl rfl) (.inr rfl) (.inl ⟨rfl, rfl⟩) (.inl ⟨rfl, rfl, rfl, rfl, rfl, rfl⟩) (.inl ⟨rfl, rfl, rfl, rfl, rfl, rfl⟩) (.inl ⟨rfl, rfl, rfl, rfl, rfl, rfl, rfl, rfl, rfl, rfl, rfl, rfl⟩) (.inl ⟨rfl, rfl, rfl⟩) (.inl ⟨rfl, rfl, rfl, rfl⟩) (.inl ⟨rfl, rfl, rfl, rfl, rfl⟩) (.inl ⟨rfl, rfl, rfl, rfl, rfl, rfl, rfl, rfl, rfl, rfl⟩) (.inl ⟨rfl, rfl, rfl, rfl, rfl, rfl, rfl, rfl, rfl⟩) (.inl ⟨rfl, rfl, rfl, rfl, rfl, rfl, rfl, rfl, rfl, rfl, rfl, rfl, rfl⟩) (.inl ⟨rfl, rfl, rfl⟩) (.inl ⟨rfl, rfl, rfl, rfl, rfl⟩) (.inl rfl) (.inl rfl) (.inl ⟨rfl, rfl⟩) (.inl ⟨rfl, rfl, rfl, rfl, rfl, rfl, rfl, rfl, rfl, rfl, rfl, rfl, rfl⟩) (.inl rfl) (.inl rfl) (.inl ⟨rfl, rfl, rfl⟩) (.inl rfl)
  · extract_lets -merge -useContext -underBinder x1
    exact Frame.upd hs (.inl rfl) (.inl rfl) (.inl ⟨rfl, rfl⟩) (.inl rfl) (.inl rfl) (.inl rfl) (.inl rfl) (.inl rfl) (.inl rfl) (.inl rfl) (.inl ⟨rfl, rfl, rfl⟩) (.inl rfl) (.inl ⟨rfl, rfl, rfl⟩) (.inl ⟨rfl, rfl⟩) (.inl ⟨rfl, rfl, rfl, rfl, rfl, rfl, rfl, rfl⟩) (.inl ⟨rfl, rfl⟩) (.inl ⟨rfl, rfl, rfl, rfl, rfl, rfl, rfl, rfl, rfl, rfl⟩) (.inl ⟨rfl, rfl⟩) (.inl ⟨rfl, rfl⟩) (.inl rfl) (.inl rfl) (.inl rfl) (.inl rfl) (.inl ⟨rfl, rfl, rfl, rfl, rfl, rfl, rfl, rfl, rfl⟩) (.inl ⟨rfl, rfl, rfl, rfl, rfl, rfl, rfl, rfl, rfl⟩) (.inl ⟨rfl, rfl, rfl⟩) (.inl ⟨rfl, rfl, rfl, rfl, rfl, rfl, rfl, rfl, rfl, rfl, rfl, rfl, rfl, rfl, rfl, rfl, rfl, rfl, rfl, rfl, rfl, rfl, rfl, rfl, rfl, rfl, rfl⟩) (.inl ⟨rfl, rfl, rfl, rfl, rfl, rfl, rfl, rfl, rfl, rfl, rfl, rfl⟩) (.inl ⟨rfl, rfl, rfl, rfl, rfl, rfl, rfl, rfl, rfl⟩) (.inl ⟨rfl, rfl, rfl⟩) (.inl ⟨rfl, rfl, rfl⟩) (.inl ⟨rfl, rfl, rfl, rfl, rfl, rfl, rfl, rfl, rfl⟩) (.inl rfl) (.inl rfl) (.inl rfl) (.inl rfl) (.inl ⟨rfl, rfl⟩) (.inl ⟨rfl, rfl⟩) (.inl rfl) (.inl ⟨rfl, rfl, rfl, rfl, rfl⟩) (.inl ⟨rfl, rfl⟩) (.inl ⟨rfl, rfl, rfl, rfl⟩) (.inl ⟨rfl, rfl, rfl⟩) (.inl rfl) (.inl ⟨rfl, rfl⟩) (.inl ⟨rfl, rfl, rfl, rfl, rfl, rfl, rfl⟩) (.inl ⟨rfl, rfl, rfl, rfl, rfl⟩) (.inl rfl) (.inl ⟨rfl, rfl, rfl, rfl, rfl, rfl⟩) (.inl ⟨rfl, rfl, rfl, rfl, rfl, rfl, rfl, rfl, rfl, rfl, rfl⟩) (.inl ⟨rfl, rfl, rfl, rfl⟩) (.inl rfl) (.inl rfl) (.inr rfl) (.inl ⟨rfl, rfl⟩) (.inl ⟨rfl, rfl, rfl, rfl, rfl, rfl⟩) (.inl ⟨rfl, rfl, rfl, rfl, rfl, rfl⟩) (.inl ⟨rfl, rfl, rfl, rfl, rfl, rfl, rfl, rfl, rfl, rfl, rfl, rfl⟩) (.inl ⟨rfl, rfl, rfl⟩) (.inl ⟨rfl, rfl, rfl, rfl⟩) (.inl ⟨rfl, rfl, rfl, rfl, rfl⟩) (.inl ⟨rfl, rfl, rfl, rfl, rfl, rfl, rfl, rfl, rfl, rfl⟩) (.inl ⟨rfl, rfl, rfl, rfl, rfl, rfl, rfl, rfl, rfl⟩) (.inl ⟨rfl, rfl, rfl, rfl, rfl, rfl, rfl, rfl, rfl, rfl, rfl, rfl, rfl⟩) (.inl ⟨rfl, rfl, rfl⟩) (.inl ⟨rfl, rfl, rfl, rfl, rfl⟩) (.inl rfl) (.inl rfl) (.inl ⟨rfl, rfl⟩) (.inl ⟨rfl, rfl, rfl, rfl, rfl, rfl, rfl, rfl, rfl, rfl, rfl, rfl, rfl⟩) (.inl rfl) (.inl rfl) (.inl ⟨rfl, rfl, rfl⟩) (.inl rfl)

theorem irqEoiCtx_frame (s : State) (a1 : IrqCtx) (a2 : Nat) (a3 : Bool) : Frame touches98 s (State.irqEoiCtx s a1 a2 a3) := by
  have hs := Frame.refl touches98 s
  unfold State.irqEoiCtx
  extract_lets -merge -useContext -underBinder x0 x1 x2 x3 x4
  clear_value x0
  have h5 : Frame touches98 s x1 := by
    unfold x1
    refine Frame.after ?_ (Frame.mono rfl (setIrqStack_frame _ _ _))
    exact hs
  clear_value x1
  clear_value x2
  have h6 : Frame touches98 s x3 := by
    unfold x3
    refine Frame.after ?_ (Frame.mono rfl (setSrc_frame _ _ _))
    exact h5
  clear_value x3
  have h7 : Frame touches98 s x4 := by
    unfold x4
    refine Frame.ite (fun _ => ?_) (fun _ => ?_)
    · exact h6
    · refine Frame.after ?_ (Frame.mono rfl (setPending_frame _ _ _ _))
      exact h6
  clear_value x4
  refine Frame.ite (fun _ => ?_) (fun _ => ?_)
  · refine Frame.ite (fun _ => ?_) (fun _ => ?_)
    · refine Frame.after ?_ (Frame.mono rfl (cnt_frame _ _))
      exact h7
    · exact h7
  · refine Frame.after ?_ (Frame.mono rfl (cnt_frame _ _))
    refine Frame.after ?_ (Frame.mono rfl (stk_frame _ _ _))
    exact hs

theorem irqMerged_frame (s : State) (a1 : Nat) : Frame touches139 s (State.irqMerged s a1) := by
  have hs := Frame.refl touches139 s
  unfold State.irqMerged
  extract_lets -merge -useContext -underBinder x0
  clear_value x0
  refine Frame.after ?_ (Frame.mono rfl (cnt_frame _ _))
  refine Frame.after ?_ (Frame.mono rfl (stk_frame _ _ _))
  refine Frame.after ?_ (Frame.mono rfl (setMark_frame _ _ _))
  refine Frame.after ?_ (Frame.mono rfl (setSrc_frame _ _ _))
  exact hs

theorem irqEdge_frame (s : State) (a1 : Nat) : Frame touches98 s (State.irqEdge s a1) := by
  have hs := Frame.refl touches98 s
  unfold State.irqEdge
  extract_lets -merge -useContext -underBinder x0
  clear_value x0
  refine Frame.ite (fun _ => ?_) (fun _ => ?_)
  · exact hs
  · refine Frame.ite (fun _ => ?_) (fun _ => ?_)
    · refine Frame.ite (fun _ => ?_) (fun _ => ?_)
      · refine Frame.after ?_ (Frame.mono rfl (irqMerged_frame _ _))
        exact hs
      · exact hs
    · refine Frame.after ?_ (Frame.mono rfl (setPending_frame _ _ _ _))
      exact hs

theorem irqClaimCtx_frame (s : State) (a1 : IrqCtx) : Frame touches147 s (State.irqClaimCtx s a1) := by
  have hs := Frame.refl touches147 s
  unfold State.irqClaimCtx
  split
  · exact Frame.upd hs (.inl rfl) (.inl rfl) (.inl ⟨rfl, rfl⟩) (.inr rfl) (.inl rfl) (.inl rfl) (.inl rfl) (.inl rfl) (.inl rfl) (.inl rfl) (.inl ⟨rfl, rfl, rfl⟩) (.inl rfl) (.inl ⟨rfl, rfl, rfl⟩) (.inl ⟨rfl, rfl⟩) (.inl ⟨rfl, rfl, rfl, rfl, rfl, rfl, rfl, rfl⟩) (.inl ⟨rfl, rfl⟩) (.inl ⟨rfl, rfl, rfl, rfl, rfl, rfl, rfl, rfl, rfl, rfl⟩) (.inl ⟨rfl, rfl⟩) (.inl ⟨rfl, rfl⟩) (.inl rfl) (.inl rfl) (.inl rfl) (.inl rfl) (.inl ⟨rfl, rfl, rfl, rfl, rfl, rfl, rfl, rfl, rfl⟩) (.inl ⟨rfl, rfl, rfl, rfl, rfl, rfl, rfl, rfl, rfl⟩) (.inl ⟨rfl, rfl, rfl⟩) (.inl ⟨rfl, rfl, rfl, rfl, rfl, rfl, rfl, rfl, rfl, rfl, rfl, rfl, rfl, rfl, rfl, rfl, rfl, rfl, rfl, rfl, rfl, rfl, rfl, rfl, rfl, rfl, rfl⟩) (.inl ⟨rfl, rfl, rfl, rfl, rfl, rfl, rfl, rfl, rfl, rfl, rfl, rfl⟩) (.inl ⟨rfl, rfl, rfl, rfl, rfl, rfl, rfl, rfl, rfl⟩) (.inl ⟨rfl, rfl, rfl⟩) (.inl ⟨rfl, rfl, rfl⟩) (.inl ⟨rfl, rfl, rfl, rfl, rfl, rfl, rfl, rfl, rfl⟩) (.inl rfl) (.inl rfl) (.inl rfl) (.inl rfl) (.inl ⟨rfl, rfl⟩) (.inl ⟨rfl, rfl⟩) (.inl rfl) (.inl ⟨rfl, rfl, rfl, rfl, rfl⟩) (.inl ⟨rfl, rfl⟩) (.inl ⟨rfl, rfl, rfl, rfl⟩) (.inl ⟨rfl, rfl, rfl⟩) (.inl rfl) (.inl ⟨rfl, rfl⟩) (.inl ⟨rfl, rfl, rfl, rfl, rfl, rfl, rfl⟩) (.inl ⟨rfl, rfl, rfl, rfl, rfl⟩) (.inl rfl) (.inl ⟨rfl, rfl, rfl, rfl, rfl, rfl⟩) (.inl ⟨rfl, rfl, rfl, rfl, rfl, rfl, rfl, rfl, rfl, rfl, rfl⟩) (.inl ⟨rfl, rfl, rfl, rfl⟩) (.inl rfl) (.inl rfl) (.inr rfl) (.inl ⟨rfl, rfl⟩) (.inl ⟨rfl, rfl, rfl, rfl, rfl, rfl⟩) (.inl ⟨rfl, rfl, rfl, rfl, rfl, rfl⟩) (.inl ⟨rfl, rfl, rfl, rfl, rfl, rfl, rfl, rfl, rfl, rfl, rfl, rfl⟩) (.inl ⟨rfl, rfl, rfl⟩) (.inl ⟨rfl, rfl, rfl, rfl⟩) (.inl ⟨rfl, rfl, rfl, rfl, rfl⟩) (.inl ⟨rfl, rfl, rfl, rfl, rfl, rfl, rfl, rfl, rfl, rfl⟩) (.inl ⟨rfl, rfl, rfl, rfl, rfl, rfl, rfl, rfl, rfl⟩) (.inl ⟨rfl, rfl, rfl, rfl, rfl, rfl, rfl, rfl, rfl, rfl, rfl, rfl, rfl⟩) (.inl ⟨rfl, rfl, rfl⟩) (.inl ⟨rfl, rfl, rfl, rfl, rfl⟩) (.inl rfl) (.inl rfl) (.inl ⟨rfl, rfl⟩) (.inl ⟨rfl, rfl, rfl, rfl, rfl, rfl, rfl, rfl, rfl, rfl, rfl, rfl, rfl⟩) (.inl rfl) (.inl rfl) (.inl ⟨rfl, rfl, rfl⟩) (.inl rfl)
  · extract_lets -merge -useContext -underBinder x0 x1
    clear_value x0
    have h2 : Frame touches147 s x1 := by
      unfold x1
      refine Frame.after ?_ (Frame.mono rfl (setIrqStack_frame _ _ _))
      refine Frame.after ?_ (Frame.mono rfl (setSrc_frame _ _ _))
      exact hs
    clear_value x1
    exact Frame.upd h2 (.inl rfl) (.inl rfl) (.inl ⟨rfl, rfl⟩) (.inr rfl) (.inl rfl) (.inl rfl) (.inl rfl) (.inl rfl) (.inl rfl) (.inl rfl) (.inl ⟨rfl, rfl, rfl⟩) (.inl rfl) (.inl ⟨rfl, rfl, rfl⟩) (.inl ⟨rfl, rfl⟩) (.inl ⟨rfl, rfl, rfl, rfl, rfl, rfl, rfl, rfl⟩) (.inl ⟨rfl, rfl⟩) (.inl ⟨rfl, rfl, rfl, rfl, rfl, rfl, rfl, rfl, rfl, rfl⟩) (.inl ⟨rfl, rfl⟩) (.inl ⟨rfl, rfl⟩) (.inl rfl) (.inl rfl) (.inl rfl) (.inl rfl) (.inl ⟨rfl, rfl, rfl, rfl, rfl, rfl, rfl, rfl, rfl⟩) (.inl ⟨rfl, rfl, rfl, rfl, rfl, rfl, rfl, rfl, rfl⟩) (.inl ⟨rfl, rfl, rfl⟩) (.inl ⟨rfl, rfl, rfl, rfl, rfl, rfl, rfl, rfl, rfl, rfl, rfl, rfl, rfl, rfl, rfl, rfl, rfl, rfl, rfl, rfl, rfl, rfl, rfl, rfl, rfl, rfl, rfl⟩) (.inl ⟨rfl, rfl, rfl, rfl, rfl, rfl, rfl, rfl, rfl, rfl, rfl, rfl⟩) (.inl ⟨rfl, rfl, rfl, rfl, rfl, rfl, rfl, rfl, rfl⟩) (.inl ⟨rfl, rfl, rfl⟩) (.inl ⟨rfl, rfl, rfl⟩) (.inl ⟨rfl, rfl, rfl, rfl, rfl, rfl, rfl, rfl, rfl⟩) (.inl rfl) (.inl rfl) (.inl rfl) (.inl rfl) (.inl ⟨rfl, rfl⟩) (.inl ⟨rfl, rfl⟩) (.inl rfl) (.inl ⟨rfl, rfl, rfl, rfl, rfl⟩) (.inl ⟨rfl, rfl⟩) (.inl ⟨rfl, rfl, rfl, rfl⟩) (.inl ⟨rfl, rfl, rfl⟩) (.inl rfl) (.inl ⟨rfl, rfl⟩) (.inl ⟨rfl, rfl, rfl, rfl, rfl, rfl, rfl⟩) (.inl ⟨rfl, rfl, rfl, rfl, rfl⟩) (.inl rfl) (.inl ⟨rfl, rfl, rfl, rfl, rfl, rfl⟩) (.inl ⟨rfl, rfl, rfl, rfl, rfl, rfl, rfl, rfl, rfl, rfl, rfl⟩) (.inl ⟨rfl, rfl, rfl, rfl⟩) (.inl rfl) (.inl rfl) (.inr rfl) (.inl ⟨rfl, rfl⟩) (.inl ⟨rfl, rfl, rfl, rfl, rfl, rfl⟩) (.inl ⟨rfl, rfl, rfl, rfl, rfl, rfl⟩) (.inl ⟨rfl, rfl, rfl, rfl, rfl, rfl, rfl, rfl, rfl, rfl, rfl, rfl⟩) (.inl ⟨rfl, rfl, rfl⟩) (.inl ⟨rfl, rfl, rfl, rfl⟩) (.inl ⟨rfl, rfl, rfl, rfl, rfl⟩) (.inl ⟨rfl, rfl, rfl, rfl, rfl, rfl, rfl, rfl, rfl, rfl⟩) (.inl ⟨rfl, rfl, rfl, rfl, rfl, rfl, rfl, rfl, rfl⟩) (.inl ⟨rfl, rfl, rfl, rfl, rfl, rfl, rfl, rfl, rfl, rfl, rfl, rfl, rfl⟩) (.inl ⟨rfl, rfl, rfl⟩) (.inl ⟨rfl, rfl, rfl, rfl, rfl⟩) (.inl rfl) (.inl rfl) (.inl ⟨rfl, rfl⟩) (.inl ⟨rfl, rfl, rfl, rfl, rfl, rfl, rfl, rfl, rfl, rfl, rfl, rfl, rfl⟩) (.inl rfl) (.inl rfl) (.inl ⟨rfl, rfl, rfl⟩) (.inl rfl)

theorem irqLevel_frame (s : State) (a1 : Nat) (a2 : Bool) : Frame touches98 s (State.irqLevel s a1 a2) := by
  have hs := Frame.refl touches98 s
  unfold State.irqLevel
  extract_lets -merge -useContext -underBinder x0 x1
  clear_value x0
  clear_value x1
  refine Frame.ite (fun _ => ?_) (fun _ => ?_)
  · refine Frame.after ?_ (Frame.mono rfl (setSrc_frame _ _ _))
    exact hs
  · refine Frame.after ?_ (Frame.mono rfl (setPending_frame _ _ _ _))
    exact hs

theorem msixRelease_frame (s : State) : Frame touches11 s (State.msixRelease s) := by
  have hs := Frame.refl touches11 s
  unfold State.msixRelease
  refine Frame.foldl ?_ (fun x0 y1 h2 => ?_)
  · exact hs
  · extract_lets -merge -useContext -underBinder x3
    refine Frame.ite (fun _ => ?_) (fun _ => ?_)
    · refine Frame.after ?_ (Frame.mono rfl (msixOut_frame _ _))
      exact Frame.upd h2 (.inl rfl) (.inl rfl) (.inl ⟨rfl, rfl⟩) (.inl rfl) (.inl rfl) (.inr rfl) (.inl rfl) (.inl rfl) (.inl rfl) (.inl rfl) (.inl ⟨rfl, rfl, rfl⟩) (.inl rfl) (.inl ⟨rfl, rfl, rfl⟩) (.inl ⟨rfl, rfl⟩) (.inl ⟨rfl, rfl, rfl, rfl, rfl, rfl, rfl, rfl⟩) (.inl ⟨rfl, rfl⟩) (.inl ⟨rfl, rfl, rfl, rfl, rfl, rfl, rfl, rfl, rfl, rfl⟩) (.inl ⟨rfl, rfl⟩) (.inl ⟨rfl, rfl⟩) (.inl rfl) (.inl rfl) (.inl rfl) (.inl rfl) (.inl ⟨rfl, rfl, rfl, rfl, rfl, rfl, rfl, rfl, rfl⟩) (.inl ⟨rfl, rfl, rfl, rfl, rfl, rfl, rfl, rfl, rfl⟩) (.inl ⟨rfl, rfl, rfl⟩) (.inl ⟨rfl, rfl, rfl, rfl, rfl, rfl, rfl, rfl, rfl, rfl, rfl, rfl, rfl, rfl, rfl, rfl, rfl, rfl, rfl, rfl, rfl, rfl, rfl, rfl, rfl, rfl, rfl⟩) (.inl ⟨rfl, rfl, rfl, rfl, rfl, rfl, rfl, rfl, rfl, rfl, rfl, rfl⟩) (.inl ⟨rfl, rfl, rfl, rfl, rfl, rfl, rfl, rfl, rfl⟩) (.inl ⟨rfl, rfl, rfl⟩) (.inl ⟨rfl, rfl, rfl⟩) (.inl ⟨rfl, rfl, rfl, rfl, rfl, rfl, rfl, rfl, rfl⟩) (.inl rfl) (.inl rfl) (.inl rfl) (.inl rfl) (.inl ⟨rfl, rfl⟩) (.inl ⟨rfl, rfl⟩) (.inl rfl) (.inl ⟨rfl, rfl, rfl, rfl, rfl⟩) (.inl ⟨rfl, rfl⟩) (.inl ⟨rfl, rfl, rfl, rfl⟩) (.inl ⟨rfl, rfl, rfl⟩) (.inl rfl) (.inl ⟨rfl, rfl⟩) (.inr rfl) (.inl ⟨rfl, rfl, rfl, rfl, rfl⟩) (.inl rfl) (.inl ⟨rfl, rfl, rfl, rfl, rfl, rfl⟩) (.inl ⟨rfl, rfl, rfl, rfl, rfl, rfl, rfl, rfl, rfl, rfl, rfl⟩) (.inl ⟨rfl, rfl, rfl, rfl⟩) (.inl rfl) (.inl rfl) (.inl ⟨rfl, rfl, rfl, rfl, rfl, rfl, rfl, rfl, rfl, rfl, rfl, rfl⟩) (.inl ⟨rfl, rfl⟩) (.inl ⟨rfl, rfl, rfl, rfl, rfl, rfl⟩) (.inl ⟨rfl, rfl, rfl, rfl, rfl, rfl⟩) (.inl ⟨rfl, rfl, rfl, rfl, rfl, rfl, rfl, rfl, rfl, rfl, rfl, rfl⟩) (.inl ⟨rfl, rfl, rfl⟩) (.inl ⟨rfl, rfl, rfl, rfl⟩) (.inl ⟨rfl, rfl, rfl, rfl, rfl⟩) (.inl ⟨rfl, rfl, rfl, rfl, rfl, rfl, rfl, rfl, rfl, rfl⟩) (.inl ⟨rfl, rfl, rfl, rfl, rfl, rfl, rfl, rfl, rfl⟩) (.inl ⟨rfl, rfl, rfl, rfl, rfl, rfl, rfl, rfl, rfl, rfl, rfl, rfl, rfl⟩) (.inl ⟨rfl, rfl, rfl⟩) (.inl ⟨rfl, rfl, rfl, rfl, rfl⟩) (.inl rfl) (.inl rfl) (.inl ⟨rfl, rfl⟩) (.inl ⟨rfl, rfl, rfl, rfl, rfl, rfl, rfl, rfl, rfl, rfl, rfl, rfl, rfl⟩) (.inl rfl) (.inl rfl) (.inr rfl) (.inl rfl)
    · exact h2

end Sys2Proof
end

