-- ==== Sys2Proof/Laws/FrameJobOps.lean ====
section
/-! SUPPORT. Laws/FrameJobOps.lean: what each operation of Machine/JobOps.lean leaves as it was. -/

namespace Sys2Proof

open Sys2Proof.Machine

theorem jobTake_frame (s : State) (a1 : Job) : Frame touches67 s (State.jobTake s a1) := by
  have hs := Frame.refl touches67 s
  unfold State.jobTake
  extract_lets -merge -useContext -underBinder x0 x1
  have h2 : Frame touches67 s x1 := by
    unfold x1
    exact Frame.upd hs (.inl rfl) (.inl rfl) (.inr rfl) (.inl rfl) (.inl rfl) (.inl rfl) (.inl rfl) (.inl rfl) (.inl rfl) (.inl rfl) (.inl ⟨rfl, rfl, rfl⟩) (.inl rfl) (.inl ⟨rfl, rfl, rfl⟩) (.inl ⟨rfl, rfl⟩) (.inl ⟨rfl, rfl, rfl, rfl, rfl, rfl, rfl, rfl⟩) (.inl ⟨rfl, rfl⟩) (.inl ⟨rfl, rfl, rfl, rfl, rfl, rfl, rfl, rfl, rfl, rfl⟩) (.inl ⟨rfl, rfl⟩) (.inl ⟨rfl, rfl⟩) (.inl rfl) (.inl rfl) (.inl rfl) (.inl rfl) (.inl ⟨rfl, rfl, rfl, rfl, rfl, rfl, rfl, rfl, rfl⟩) (.inl ⟨rfl, rfl, rfl, rfl, rfl, rfl, rfl, rfl, rfl⟩) (.inl ⟨rfl, rfl, rfl⟩) (.inl ⟨rfl, rfl, rfl, rfl, rfl, rfl, rfl, rfl, rfl, rfl, rfl, rfl, rfl, rfl, rfl, rfl, rfl, rfl, rfl, rfl, rfl, rfl, rfl, rfl, rfl, rfl, rfl⟩) (.inl ⟨rfl, rfl, rfl, rfl, rfl, rfl, rfl, rfl, rfl, rfl, rfl, rfl⟩) (.inl ⟨rfl, rfl, rfl, rfl, rfl, rfl, rfl, rfl, rfl⟩) (.inl ⟨rfl, rfl, rfl⟩) (.inl ⟨rfl, rfl, rfl⟩) (.inl ⟨rfl, rfl, rfl, rfl, rfl, rfl, rfl, rfl, rfl⟩) (.inl rfl) (.inl rfl) (.inl rfl) (.inl rfl) (.inl ⟨rfl, rfl⟩) (.inl ⟨rfl, rfl⟩) (.inl rfl) (.inl ⟨rfl, rfl, rfl, rfl, rfl⟩) (.inl ⟨rfl, rfl⟩) (.inl ⟨rfl, rfl, rfl, rfl⟩) (.inl ⟨rfl, rfl, rfl⟩) (.inr rfl) (.inl ⟨rfl, rfl⟩) (.inl ⟨rfl, rfl, rfl, rfl, rfl, rfl, rfl⟩) (.inl ⟨rfl, rfl, rfl, rfl, rfl⟩) (.inl rfl) (.inl ⟨rfl, rfl, rfl, rfl, rfl, rfl⟩) (.inl ⟨rfl, rfl, rfl, rfl, rfl, rfl, rfl, rfl, rfl, rfl, rfl⟩) (.inl ⟨rfl, rfl, rfl, rfl⟩) (.inl rfl) (.inl rfl) (.inl ⟨rfl, rfl, rfl, rfl, rfl, rfl, rfl, rfl, rfl, rfl, rfl, rfl⟩) (.inl ⟨rfl, rfl⟩) (.inl ⟨rfl, rfl, rfl, rfl, rfl, rfl⟩) (.inl ⟨rfl, rfl, rfl, rfl, rfl, rfl⟩) (.inl ⟨rfl, rfl, rfl, rfl, rfl, rfl, rfl, rfl, rfl, rfl, rfl, rfl⟩) (.inl ⟨rfl, rfl, rfl⟩) (.inl ⟨rfl, rfl, rfl, rfl⟩) (.inl ⟨rfl, rfl, rfl, rfl, rfl⟩) (.inl ⟨rfl, rfl, rfl, rfl, rfl, rfl, rfl, rfl, rfl, rfl⟩) (.inl ⟨rfl, rfl, rfl, rfl, rfl, rfl, rfl, rfl, rfl⟩) (.inl ⟨rfl, rfl, rfl, rfl, rfl, rfl, rfl, rfl, rfl, rfl, rfl, rfl, rfl⟩) (.inl ⟨rfl, rfl, rfl⟩) (.inl ⟨rfl, rfl, rfl, rfl, rfl⟩) (.inl rfl) (.inl rfl) (.inl ⟨rfl, rfl⟩) (.inl ⟨rfl, rfl, rfl, rfl, rfl, rfl, rfl, rfl, rfl, rfl, rfl, rfl, rfl⟩) (.inl rfl) (.inl rfl) (.inl ⟨rfl, rfl, rfl⟩) (.inl rfl)
  clear_value x1
  refine Frame.ite (fun _ => ?_) (fun _ => ?_)
  · refine Frame.after ?_ (Frame.mono rfl (setRf_frame _ _ _ _ _))
    exact h2
  · exact h2

theorem jobServeWaiting_frame (s : State) : Frame touches67 s (State.jobServeWaiting s) := by
  have hs := Frame.refl touches67 s
  unfold State.jobServeWaiting
  split
  · extract_lets -merge -useContext -underBinder x0
    refine Frame.after ?_ (Frame.mono rfl (jobTake_frame _ _))
    exact Frame.upd hs (.inl rfl) (.inl rfl) (.inr rfl) (.inl rfl) (.inl rfl) (.inl rfl) (.inl rfl) (.inl rfl) (.inl rfl) (.inl rfl) (.inl ⟨rfl, rfl, rfl⟩) (.inl rfl) (.inl ⟨rfl, rfl, rfl⟩) (.inl ⟨rfl, rfl⟩) (.inl ⟨rfl, rfl, rfl, rfl, rfl, rfl, rfl, rfl⟩) (.inl ⟨rfl, rfl⟩) (.inl ⟨rfl, rfl, rfl, rfl, rfl, rfl, rfl, rfl, rfl, rfl⟩) (.inl ⟨rfl, rfl⟩) (.inl ⟨rfl, rfl⟩) (.inl rfl) (.inl rfl) (.inl rfl) (.inl rfl) (.inl ⟨rfl, rfl, rfl, rfl, rfl, rfl, rfl, rfl, rfl⟩) (.inl ⟨rfl, rfl, rfl, rfl, rfl, rfl, rfl, rfl, rfl⟩) (.inl ⟨rfl, rfl, rfl⟩) (.inl ⟨rfl, rfl, rfl, rfl, rfl, rfl, rfl, rfl, rfl, rfl, rfl, rfl, rfl, rfl, rfl, rfl, rfl, rfl, rfl, rfl, rfl, rfl, rfl, rfl, rfl, rfl, rfl⟩) (.inl ⟨rfl, rfl, rfl, rfl, rfl, rfl, rfl, rfl, rfl, rfl, rfl, rfl⟩) (.inl ⟨rfl, rfl, rfl, rfl, rfl, rfl, rfl, rfl, rfl⟩) (.inl ⟨rfl, rfl, rfl⟩) (.inl ⟨rfl, rfl, rfl⟩) (.inl ⟨rfl, rfl, rfl, rfl, rfl, rfl, rfl, rfl, rfl⟩) (.inl rfl) (.inl rfl) (.inl rfl) (.inl rfl) (.inl ⟨rfl, rfl⟩) (.inl ⟨rfl, rfl⟩) (.inl rfl) (.inl ⟨rfl, rfl, rfl, rfl, rfl⟩) (.inl ⟨rfl, rfl⟩) (.inl ⟨rfl, rfl, rfl, rfl⟩) (.inl ⟨rfl, rfl, rfl⟩) (.inr rfl) (.inl ⟨rfl, rfl⟩) (.inl ⟨rfl, rfl, rfl, rfl, rfl, rfl, rfl⟩) (.inl ⟨rfl, rfl, rfl, rfl, rfl⟩) (.inl rfl) (.inl ⟨rfl, rfl, rfl, rfl, rfl, rfl⟩) (.inl ⟨rfl, rfl, rfl, rfl, rfl, rfl, rfl, rfl, rfl, rfl, rfl⟩) (.inl ⟨rfl, rfl, rfl, rfl⟩) (.inl rfl) (.inl rfl) (.inl ⟨rfl, rfl, rfl, rfl, rfl, rfl, rfl, rfl, rfl, rfl, rfl, rfl⟩) (.inl ⟨rfl, rfl⟩) (.inl ⟨rfl, rfl, rfl, rfl, rfl, rfl⟩) (.inl ⟨rfl, rfl, rfl, rfl, rfl, rfl⟩) (.inl ⟨rfl, rfl, rfl, rfl, rfl, rfl, rfl, rfl, rfl, rfl, rfl, rfl⟩) (.inl ⟨rfl, rfl, rfl⟩) (.inl ⟨rfl, rfl, rfl, rfl⟩) (.inl ⟨rfl, rfl, rfl, rfl, rfl⟩) (.inl ⟨rfl, rfl, rfl, rfl, rfl, rfl, rfl, rfl, rfl, rfl⟩) (.inl ⟨rfl, rfl, rfl, rfl, rfl, rfl, rfl, rfl, rfl⟩) (.inl ⟨rfl, rfl, rfl, rfl, rfl, rfl, rfl, rfl, rfl, rfl, rfl, rfl, rfl⟩) (.inl ⟨rfl, rfl, rfl⟩) (.inl ⟨rfl, rfl, rfl, rfl, rfl⟩) (.inl rfl) (.inl rfl) (.inl ⟨rfl, rfl⟩) (.inl ⟨rfl, rfl, rfl, rfl, rfl, rfl, rfl, rfl, rfl, rfl, rfl, rfl, rfl⟩) (.inl rfl) (.inl rfl) (.inl ⟨rfl, rfl, rfl⟩) (.inl rfl)
  · exact hs

theorem jobFree_frame (s : State) (a1 : Fin 7) : Frame touches67 s (State.jobFree s a1) := by
  have hs := Frame.refl touches67 s
  unfold State.jobFree
  extract_lets -merge -useContext -underBinder x0
  refine Frame.after ?_ (Frame.mono rfl (jobServeWaiting_frame _))
  exact Frame.upd hs (.inl rfl) (.inl rfl) (.inr rfl) (.inl rfl) (.inl rfl) (.inl rfl) (.inl rfl) (.inl rfl) (.inl rfl) (.inl rfl) (.inl ⟨rfl, rfl, rfl⟩) (.inl rfl) (.inl ⟨rfl, rfl, rfl⟩) (.inl ⟨rfl, rfl⟩) (.inl ⟨rfl, rfl, rfl, rfl, rfl, rfl, rfl, rfl⟩) (.inl ⟨rfl, rfl⟩) (.inl ⟨rfl, rfl, rfl, rfl, rfl, rfl, rfl, rfl, rfl, rfl⟩) (.inl ⟨rfl, rfl⟩) (.inl ⟨rfl, rfl⟩) (.inl rfl) (.inl rfl) (.inl rfl) (.inl rfl) (.inl ⟨rfl, rfl, rfl, rfl, rfl, rfl, rfl, rfl, rfl⟩) (.inl ⟨rfl, rfl, rfl, rfl, rfl, rfl, rfl, rfl, rfl⟩) (.inl ⟨rfl, rfl, rfl⟩) (.inl ⟨rfl, rfl, rfl, rfl, rfl, rfl, rfl, rfl, rfl, rfl, rfl, rfl, rfl, rfl, rfl, rfl, rfl, rfl, rfl, rfl, rfl, rfl, rfl, rfl, rfl, rfl, rfl⟩) (.inl ⟨rfl, rfl, rfl, rfl, rfl, rfl, rfl, rfl, rfl, rfl, rfl, rfl⟩) (.inl ⟨rfl, rfl, rfl, rfl, rfl, rfl, rfl, rfl, rfl⟩) (.inl ⟨rfl, rfl, rfl⟩) (.inl ⟨rfl, rfl, rfl⟩) (.inl ⟨rfl, rfl, rfl, rfl, rfl, rfl, rfl, rfl, rfl⟩) (.inl rfl) (.inl rfl) (.inl rfl) (.inl rfl) (.inl ⟨rfl, rfl⟩) (.inl ⟨rfl, rfl⟩) (.inl rfl) (.inl ⟨rfl, rfl, rfl, rfl, rfl⟩) (.inl ⟨rfl, rfl⟩) (.inl ⟨rfl, rfl, rfl, rfl⟩) (.inl ⟨rfl, rfl, rfl⟩) (.inr rfl) (.inl ⟨rfl, rfl⟩) (.inl ⟨rfl, rfl, rfl, rfl, rfl, rfl, rfl⟩) (.inl ⟨rfl, rfl, rfl, rfl, rfl⟩) (.inl rfl) (.inl ⟨rfl, rfl, rfl, rfl, rfl, rfl⟩) (.inl ⟨rfl, rfl, rfl, rfl, rfl, rfl, rfl, rfl, rfl, rfl, rfl⟩) (.inl ⟨rfl, rfl, rfl, rfl⟩) (.inl rfl) (.inl rfl) (.inl ⟨rfl, rfl, rfl, rfl, rfl, rfl, rfl, rfl, rfl, rfl, rfl, rfl⟩) (.inl ⟨rfl, rfl⟩) (.inl ⟨rfl, rfl, rfl, rfl, rfl, rfl⟩) (.inl ⟨rfl, rfl, rfl, rfl, rfl, rfl⟩) (.inl ⟨rfl, rfl, rfl, rfl, rfl, rfl, rfl, rfl, rfl, rfl, rfl, rfl⟩) (.inl ⟨rfl, rfl, rfl⟩) (.inl ⟨rfl, rfl, rfl, rfl⟩) (.inl ⟨rfl, rfl, rfl, rfl, rfl⟩) (.inl ⟨rfl, rfl, rfl, rfl, rfl, rfl, rfl, rfl, rfl, rfl⟩) (.inl ⟨rfl, rfl, rfl, rfl, rfl, rfl, rfl, rfl, rfl⟩) (.inl ⟨rfl, rfl, rfl, rfl, rfl, rfl, rfl, rfl, rfl, rfl, rfl, rfl, rfl⟩) (.inl ⟨rfl, rfl, rfl⟩) (.inl ⟨rfl, rfl, rfl, rfl, rfl⟩) (.inl rfl) (.inl rfl) (.inl ⟨rfl, rfl⟩) (.inl ⟨rfl, rfl, rfl, rfl, rfl, rfl, rfl, rfl, rfl, rfl, rfl, rfl, rfl⟩) (.inl rfl) (.inl rfl) (.inl ⟨rfl, rfl, rfl⟩) (.inl rfl)

theorem jobDone_frame (s : State) (a1 : Job) : Frame touches67 s (State.jobDone s a1) := by
  have hs := Frame.refl touches67 s
  unfold State.jobDone
  extract_lets -merge -useContext -underBinder x0
  refine Frame.after ?_ (Frame.mono rfl (jobFree_frame _ _))
  exact Frame.upd hs (.inl rfl) (.inl rfl) (.inr rfl) (.inl rfl) (.inl rfl) (.inl rfl) (.inl rfl) (.inl rfl) (.inl rfl) (.inl rfl) (.inl ⟨rfl, rfl, rfl⟩) (.inl rfl) (.inl ⟨rfl, rfl, rfl⟩) (.inl ⟨rfl, rfl⟩) (.inl ⟨rfl, rfl, rfl, rfl, rfl, rfl, rfl, rfl⟩) (.inl ⟨rfl, rfl⟩) (.inl ⟨rfl, rfl, rfl, rfl, rfl, rfl, rfl, rfl, rfl, rfl⟩) (.inl ⟨rfl, rfl⟩) (.inl ⟨rfl, rfl⟩) (.inl rfl) (.inl rfl) (.inl rfl) (.inl rfl) (.inl ⟨rfl, rfl, rfl, rfl, rfl, rfl, rfl, rfl, rfl⟩) (.inl ⟨rfl, rfl, rfl, rfl, rfl, rfl, rfl, rfl, rfl⟩) (.inl ⟨rfl, rfl, rfl⟩) (.inl ⟨rfl, rfl, rfl, rfl, rfl, rfl, rfl, rfl, rfl, rfl, rfl, rfl, rfl, rfl, rfl, rfl, rfl, rfl, rfl, rfl, rfl, rfl, rfl, rfl, rfl, rfl, rfl⟩) (.inl ⟨rfl, rfl, rfl, rfl, rfl, rfl, rfl, rfl, rfl, rfl, rfl, rfl⟩) (.inl ⟨rfl, rfl, rfl, rfl, rfl, rfl, rfl, rfl, rfl⟩) (.inl ⟨rfl, rfl, rfl⟩) (.inl ⟨rfl, rfl, rfl⟩) (.inl ⟨rfl, rfl, rfl, rfl, rfl, rfl, rfl, rfl, rfl⟩) (.inl rfl) (.inl rfl) (.inl rfl) (.inl rfl) (.inl ⟨rfl, rfl⟩) (.inl ⟨rfl, rfl⟩) (.inl rfl) (.inl ⟨rfl, rfl, rfl, rfl, rfl⟩) (.inl ⟨rfl, rfl⟩) (.inl ⟨rfl, rfl, rfl, rfl⟩) (.inl ⟨rfl, rfl, rfl⟩) (.inr rfl) (.inl ⟨rfl, rfl⟩) (.inl ⟨rfl, rfl, rfl, rfl, rfl, rfl, rfl⟩) (.inl ⟨rfl, rfl, rfl, rfl, rfl⟩) (.inl rfl) (.inl ⟨rfl, rfl, rfl, rfl, rfl, rfl⟩) (.inl ⟨rfl, rfl, rfl, rfl, rfl, rfl, rfl, rfl, rfl, rfl, rfl⟩) (.inl ⟨rfl, rfl, rfl, rfl⟩) (.inl rfl) (.inl rfl) (.inl ⟨rfl, rfl, rfl, rfl, rfl, rfl, rfl, rfl, rfl, rfl, rfl, rfl⟩) (.inl ⟨rfl, rfl⟩) (.inl ⟨rfl, rfl, rfl, rfl, rfl, rfl⟩) (.inl ⟨rfl, rfl, rfl, rfl, rfl, rfl⟩) (.inl ⟨rfl, rfl, rfl, rfl, rfl, rfl, rfl, rfl, rfl, rfl, rfl, rfl⟩) (.inl ⟨rfl, rfl, rfl⟩) (.inl ⟨rfl, rfl, rfl, rfl⟩) (.inl ⟨rfl, rfl, rfl, rfl, rfl⟩) (.inl ⟨rfl, rfl, rfl, rfl, rfl, rfl, rfl, rfl, rfl, rfl⟩) (.inl ⟨rfl, rfl, rfl, rfl, rfl, rfl, rfl, rfl, rfl⟩) (.inl ⟨rfl, rfl, rfl, rfl, rfl, rfl, rfl, rfl, rfl, rfl, rfl, rfl, rfl⟩) (.inl ⟨rfl, rfl, rfl⟩) (.inl ⟨rfl, rfl, rfl, rfl, rfl⟩) (.inl rfl) (.inl rfl) (.inl ⟨rfl, rfl⟩) (.inl ⟨rfl, rfl, rfl, rfl, rfl, rfl, rfl, rfl, rfl, rfl, rfl, rfl, rfl⟩) (.inl rfl) (.inl rfl) (.inl ⟨rfl, rfl, rfl⟩) (.inl rfl)

theorem jobRequest_frame (s : State) (a1 : Job) : Frame touches67 s (State.jobRequest s a1) := by
  have hs := Frame.refl touches67 s
  unfold State.jobRequest
  extract_lets -merge -useContext -underBinder x0
  refine Frame.ite (fun _ => ?_) (fun _ => ?_)
  · refine Frame.after ?_ (Frame.mono rfl (jobTake_frame _ _))
    exact hs
  · refine Frame.after ?_ (Frame.mono rfl (stk_frame _ _ _))
    exact Frame.upd hs (.inl rfl) (.inl rfl) (.inr rfl) (.inl rfl) (.inl rfl) (.inl rfl) (.inl rfl) (.inl rfl) (.inl rfl) (.inl rfl) (.inl ⟨rfl, rfl, rfl⟩) (.inl rfl) (.inl ⟨rfl, rfl, rfl⟩) (.inl ⟨rfl, rfl⟩) (.inl ⟨rfl, rfl, rfl, rfl, rfl, rfl, rfl, rfl⟩) (.inl ⟨rfl, rfl⟩) (.inl ⟨rfl, rfl, rfl, rfl, rfl, rfl, rfl, rfl, rfl, rfl⟩) (.inl ⟨rfl, rfl⟩) (.inl ⟨rfl, rfl⟩) (.inl rfl) (.inl rfl) (.inl rfl) (.inl rfl) (.inl ⟨rfl, rfl, rfl, rfl, rfl, rfl, rfl, rfl, rfl⟩) (.inl ⟨rfl, rfl, rfl, rfl, rfl, rfl, rfl, rfl, rfl⟩) (.inl ⟨rfl, rfl, rfl⟩) (.inl ⟨rfl, rfl, rfl, rfl, rfl, rfl, rfl, rfl, rfl, rfl, rfl, rfl, rfl, rfl, rfl, rfl, rfl, rfl, rfl, rfl, rfl, rfl, rfl, rfl, rfl, rfl, rfl⟩) (.inl ⟨rfl, rfl, rfl, rfl, rfl, rfl, rfl, rfl, rfl, rfl, rfl, rfl⟩) (.inl ⟨rfl, rfl, rfl, rfl, rfl, rfl, rfl, rfl, rfl⟩) (.inl ⟨rfl, rfl, rfl⟩) (.inl ⟨rfl, rfl, rfl⟩) (.inl ⟨rfl, rfl, rfl, rfl, rfl, rfl, rfl, rfl, rfl⟩) (.inl rfl) (.inl rfl) (.inl rfl) (.inl rfl) (.inl ⟨rfl, rfl⟩) (.inl ⟨rfl, rfl⟩) (.inl rfl) (.inl ⟨rfl, rfl, rfl, rfl, rfl⟩) (.inl ⟨rfl, rfl⟩) (.inl ⟨rfl, rfl, rfl, rfl⟩) (.inl ⟨rfl, rfl, rfl⟩) (.inr rfl) (.inl ⟨rfl, rfl⟩) (.inl ⟨rfl, rfl, rfl, rfl, rfl, rfl, rfl⟩) (.inl ⟨rfl, rfl, rfl, rfl, rfl⟩) (.inl rfl) (.inl ⟨rfl, rfl, rfl, rfl, rfl, rfl⟩) (.inl ⟨rfl, rfl, rfl, rfl, rfl, rfl, rfl, rfl, rfl, rfl, rfl⟩) (.inl ⟨rfl, rfl, rfl, rfl⟩) (.inl rfl) (.inl rfl) (.inl ⟨rfl, rfl, rfl, rfl, rfl, rfl, rfl, rfl, rfl, rfl, rfl, rfl⟩) (.inl ⟨rfl, rfl⟩) (.inl ⟨rfl, rfl, rfl, rfl, rfl, rfl⟩) (.inl ⟨rfl, rfl, rfl, rfl, rfl, rfl⟩) (.inl ⟨rfl, rfl, rfl, rfl, rfl, rfl, rfl, rfl, rfl, rfl, rfl, rfl⟩) (.inl ⟨rfl, rfl, rfl⟩) (.inl ⟨rfl, rfl, rfl, rfl⟩) (.inl ⟨rfl, rfl, rfl, rfl, rfl⟩) (.inl ⟨rfl, rfl, rfl, rfl, rfl, rfl, rfl, rfl, rfl, rfl⟩) (.inl ⟨rfl, rfl, rfl, rfl, rfl, rfl, rfl, rfl, rfl⟩) (.inl ⟨rfl, rfl, rfl, rfl, rfl, rfl, rfl, rfl, rfl, rfl, rfl, rfl, rfl⟩) (.inl ⟨rfl, rfl, rfl⟩) (.inl ⟨rfl, rfl, rfl, rfl, rfl⟩) (.inl rfl) (.inl rfl) (.inl ⟨rfl, rfl⟩) (.inl ⟨rfl, rfl, rfl, rfl, rfl, rfl, rfl, rfl, rfl, rfl, rfl, rfl, rfl⟩) (.inl rfl) (.inl rfl) (.inl ⟨rfl, rfl, rfl⟩) (.inl rfl)

theorem jobServeAll_frame (s : State) : Frame touches67 s (State.jobServeAll s) := by
  have hs := Frame.refl touches67 s
  unfold State.jobServeAll
  refine Frame.foldl ?_ (fun x0 y1 h2 => ?_)
  · exact hs
  · refine Frame.after ?_ (Frame.mono rfl (jobServeWaiting_frame _))
    exact h2

theorem jobHand_frame (s : State) (a1 : Job) : Frame touches177 s (State.jobHand s a1) := by
  have hs := Frame.refl touches177 s
  unfold State.jobHand
  split
  · refine Frame.after ?_ (Frame.mono rfl (jobFree_frame _ _))
    exact hs
  · refine Frame.after ?_ (Frame.mono rfl (jobFree_frame _ _))
    exact hs
  · refine Frame.after ?_ (Frame.mono rfl (jobFree_frame _ _))
    refine Frame.after ?_ (Frame.mono rfl (event_frame _ _))
    exact hs
  · extract_lets -merge -useContext -underBinder x0
    exact Frame.upd hs (.inl rfl) (.inl rfl) (.inr rfl) (.inl rfl) (.inl rfl) (.inl rfl) (.inl rfl) (.inl rfl) (.inl rfl) (.inl rfl) (.inl ⟨rfl, rfl, rfl⟩) (.inl rfl) (.inl ⟨rfl, rfl, rfl⟩) (.inl ⟨rfl, rfl⟩) (.inl ⟨rfl, rfl, rfl, rfl, rfl, rfl, rfl, rfl⟩) (.inl ⟨rfl, rfl⟩) (.inl ⟨rfl, rfl, rfl, rfl, rfl, rfl, rfl, rfl, rfl, rfl⟩) (.inl ⟨rfl, rfl⟩) (.inl ⟨rfl, rfl⟩) (.inl rfl) (.inl rfl) (.inl rfl) (.inl rfl) (.inl ⟨rfl, rfl, rfl, rfl, rfl, rfl, rfl, rfl, rfl⟩) (.inl ⟨rfl, rfl, rfl, rfl, rfl, rfl, rfl, rfl, rfl⟩) (.inl ⟨rfl, rfl, rfl⟩) (.inl ⟨rfl, rfl, rfl, rfl, rfl, rfl, rfl, rfl, rfl, rfl, rfl, rfl, rfl, rfl, rfl, rfl, rfl, rfl, rfl, rfl, rfl, rfl, rfl, rfl, rfl, rfl, rfl⟩) (.inl ⟨rfl, rfl, rfl, rfl, rfl, rfl, rfl, rfl, rfl, rfl, rfl, rfl⟩) (.inl ⟨rfl, rfl, rfl, rfl, rfl, rfl, rfl, rfl, rfl⟩) (.inl ⟨rfl, rfl, rfl⟩) (.inl ⟨rfl, rfl, rfl⟩) (.inl ⟨rfl, rfl, rfl, rfl, rfl, rfl, rfl, rfl, rfl⟩) (.inl rfl) (.inl rfl) (.inl rfl) (.inl rfl) (.inl ⟨rfl, rfl⟩) (.inl ⟨rfl, rfl⟩) (.inl rfl) (.inl ⟨rfl, rfl, rfl, rfl, rfl⟩) (.inl ⟨rfl, rfl⟩) (.inl ⟨rfl, rfl, rfl, rfl⟩) (.inl ⟨rfl, rfl, rfl⟩) (.inr rfl) (.inl ⟨rfl, rfl⟩) (.inl ⟨rfl, rfl, rfl, rfl, rfl, rfl, rfl⟩) (.inl ⟨rfl, rfl, rfl, rfl, rfl⟩) (.inl rfl) (.inl ⟨rfl, rfl, rfl, rfl, rfl, rfl⟩) (.inl ⟨rfl, rfl, rfl, rfl, rfl, rfl, rfl, rfl, rfl, rfl, rfl⟩) (.inl ⟨rfl, rfl, rfl, rfl⟩) (.inl rfl) (.inr rfl) (.inl ⟨rfl, rfl, rfl, rfl, rfl, rfl, rfl, rfl, rfl, rfl, rfl, rfl⟩) (.inl ⟨rfl, rfl⟩) (.inl ⟨rfl, rfl, rfl, rfl, rfl, rfl⟩) (.inl ⟨rfl, rfl, rfl, rfl, rfl, rfl⟩) (.inl ⟨rfl, rfl, rfl, rfl, rfl, rfl, rfl, rfl, rfl, rfl, rfl, rfl⟩) (.inl ⟨rfl, rfl, rfl⟩) (.inl ⟨rfl, rfl, rfl, rfl⟩) (.inl ⟨rfl, rfl, rfl, rfl, rfl⟩) (.inl ⟨rfl, rfl, rfl, rfl, rfl, rfl, rfl, rfl, rfl, rfl⟩) (.inl ⟨rfl, rfl, rfl, rfl, rfl, rfl, rfl, rfl, rfl⟩) (.inl ⟨rfl, rfl, rfl, rfl, rfl, rfl, rfl, rfl, rfl, rfl, rfl, rfl, rfl⟩) (.inl ⟨rfl, rfl, rfl⟩) (.inl ⟨rfl, rfl, rfl, rfl, rfl⟩) (.inl rfl) (.inl rfl) (.inl ⟨rfl, rfl⟩) (.inl ⟨rfl, rfl, rfl, rfl, rfl, rfl, rfl, rfl, rfl, rfl, rfl, rfl, rfl⟩) (.inl rfl) (.inl rfl) (.inl ⟨rfl, rfl, rfl⟩) (.inl rfl)

theorem groupServe_frame (s : State) (a1 : Nat) (a2 : List (Fin 7)) (a3 : Nat) : Frame touches177 s (State.groupServe s a1 a2 a3) := by
  induction a3 generalizing s a1 a2 with | zero => ?_ | succ n ih => ?_
  · have hs := Frame.refl touches177 s
    unfold State.groupServe
    exact hs
  · have hs := Frame.refl touches177 s
    unfold State.groupServe
    extract_lets -merge -useContext -underBinder x0
    clear_value x0
    split
    · extract_lets -merge -useContext -underBinder x1 x2
      have h3 : Frame touches177 s x2 := by
        unfold x2
        exact Frame.upd hs (.inl rfl) (.inl rfl) (.inr rfl) (.inl rfl) (.inl rfl) (.inl rfl) (.inl rfl) (.inl rfl) (.inl rfl) (.inl rfl) (.inl ⟨rfl, rfl, rfl⟩) (.inl rfl) (.inl ⟨rfl, rfl, rfl⟩) (.inl ⟨rfl, rfl⟩) (.inl ⟨rfl, rfl, rfl, rfl, rfl, rfl, rfl, rfl⟩) (.inl ⟨rfl, rfl⟩) (.inl ⟨rfl, rfl, rfl, rfl, rfl, rfl, rfl, rfl, rfl, rfl⟩) (.inl ⟨rfl, rfl⟩) (.inl ⟨rfl, rfl⟩) (.inl rfl) (.inl rfl) (.inl rfl) (.inl rfl) (.inl ⟨rfl, rfl, rfl, rfl, rfl, rfl, rfl, rfl, rfl⟩) (.inl ⟨rfl, rfl, rfl, rfl, rfl, rfl, rfl, rfl, rfl⟩) (.inl ⟨rfl, rfl, rfl⟩) (.inl ⟨rfl, rfl, rfl, rfl, rfl, rfl, rfl, rfl, rfl, rfl, rfl, rfl, rfl, rfl, rfl, rfl, rfl, rfl, rfl, rfl, rfl, rfl, rfl, rfl, rfl, rfl, rfl⟩) (.inl ⟨rfl, rfl, rfl, rfl, rfl, rfl, rfl, rfl, rfl, rfl, rfl, rfl⟩) (.inl ⟨rfl, rfl, rfl, rfl, rfl, rfl, rfl, rfl, rfl⟩) (.inl ⟨rfl, rfl, rfl⟩) (.inl ⟨rfl, rfl, rfl⟩) (.inl ⟨rfl, rfl, rfl, rfl, rfl, rfl, rfl, rfl, rfl⟩) (.inl rfl) (.inl rfl) (.inl rfl) (.inl rfl) (.inl ⟨rfl, rfl⟩) (.inl ⟨rfl, rfl⟩) (.inl rfl) (.inl ⟨rfl, rfl, rfl, rfl, rfl⟩) (.inl ⟨rfl, rfl⟩) (.inl ⟨rfl, rfl, rfl, rfl⟩) (.inl ⟨rfl, rfl, rfl⟩) (.inr rfl) (.inl ⟨rfl, rfl⟩) (.inl ⟨rfl, rfl, rfl, rfl, rfl, rfl, rfl⟩) (.inl ⟨rfl, rfl, rfl, rfl, rfl⟩) (.inl rfl) (.inl ⟨rfl, rfl, rfl, rfl, rfl, rfl⟩) (.inl ⟨rfl, rfl, rfl, rfl, rfl, rfl, rfl, rfl, rfl, rfl, rfl⟩) (.inl ⟨rfl, rfl, rfl, rfl⟩) (.inl rfl) (.inr rfl) (.inl ⟨rfl, rfl, rfl, rfl, rfl, rfl, rfl, rfl, rfl, rfl, rfl, rfl⟩) (.inl ⟨rfl, rfl⟩) (.inl ⟨rfl, rfl, rfl, rfl, rfl, rfl⟩) (.inl ⟨rfl, rfl, rfl, rfl, rfl, rfl⟩) (.inl ⟨rfl, rfl, rfl, rfl, rfl, rfl, rfl, rfl, rfl, rfl, rfl, rfl⟩) (.inl ⟨rfl, rfl, rfl⟩) (.inl ⟨rfl, rfl, rfl, rfl⟩) (.inl ⟨rfl, rfl, rfl, rfl, rfl⟩) (.inl ⟨rfl, rfl, rfl, rfl, rfl, rfl, rfl, rfl, rfl, rfl⟩) (.inl ⟨rfl, rfl, rfl, rfl, rfl, rfl, rfl, rfl, rfl⟩) (.inl ⟨rfl, rfl, rfl, rfl, rfl, rfl, rfl, rfl, rfl, rfl, rfl, rfl, rfl⟩) (.inl ⟨rfl, rfl, rfl⟩) (.inl ⟨rfl, rfl, rfl, rfl, rfl⟩) (.inl rfl) (.inl rfl) (.inl ⟨rfl, rfl⟩) (.inl ⟨rfl, rfl, rfl, rfl, rfl, rfl, rfl, rfl, rfl, rfl, rfl, rfl, rfl⟩) (.inl rfl) (.inl rfl) (.inl ⟨rfl, rfl, rfl⟩) (.inl rfl)
      clear_value x2
      refine Frame.ite (fun _ => ?_) (fun _ => ?_)
      · refine Frame.after ?_ (ih _ _ _)
        refine Frame.after ?_ (Frame.mono rfl (jobHand_frame _ _))
        refine Frame.after ?_ (Frame.mono rfl (cnt_frame _ _))
        exact h3
      · exact hs
    · exact hs

theorem groupVisit_frame (s : State) (a1 : Nat) (a2 : List (Fin 7)) : Frame touches177 s (State.groupVisit s a1 a2) := by
  have hs := Frame.refl touches177 s
  unfold State.groupVisit
  split
  · exact hs
  · extract_lets -merge -useContext -underBinder x0 x1 x2 x3
    have h4 : Frame touches177 s x1 := by
      unfold x1
      exact Frame.upd hs (.inl rfl) (.inl rfl) (.inr rfl) (.inl rfl) (.inl rfl) (.inl rfl) (.inl rfl) (.inl rfl) (.inl rfl) (.inl rfl) (.inl ⟨rfl, rfl, rfl⟩) (.inl rfl) (.inl ⟨rfl, rfl, rfl⟩) (.inl ⟨rfl, rfl⟩) (.inl ⟨rfl, rfl, rfl, rfl, rfl, rfl, rfl, rfl⟩) (.inl ⟨rfl, rfl⟩) (.inl ⟨rfl, rfl, rfl, rfl, rfl, rfl, rfl, rfl, rfl, rfl⟩) (.inl ⟨rfl, rfl⟩) (.inl ⟨rfl, rfl⟩) (.inl rfl) (.inl rfl) (.inl rfl) (.inl rfl) (.inl ⟨rfl, rfl, rfl, rfl, rfl, rfl, rfl, rfl, rfl⟩) (.inl ⟨rfl, rfl, rfl, rfl, rfl, rfl, rfl, rfl, rfl⟩) (.inl ⟨rfl, rfl, rfl⟩) (.inl ⟨rfl, rfl, rfl, rfl, rfl, rfl, rfl, rfl, rfl, rfl, rfl, rfl, rfl, rfl, rfl, rfl, rfl, rfl, rfl, rfl, rfl, rfl, rfl, rfl, rfl, rfl, rfl⟩) (.inl ⟨rfl, rfl, rfl, rfl, rfl, rfl, rfl, rfl, rfl, rfl, rfl, rfl⟩) (.inl ⟨rfl, rfl, rfl, rfl, rfl, rfl, rfl, rfl, rfl⟩) (.inl ⟨rfl, rfl, rfl⟩) (.inl ⟨rfl, rfl, rfl⟩) (.inl ⟨rfl, rfl, rfl, rfl, rfl, rfl, rfl, rfl, rfl⟩) (.inl rfl) (.inl rfl) (.inl rfl) (.inl rfl) (.inl ⟨rfl, rfl⟩) (.inl ⟨rfl, rfl⟩) (.inl rfl) (.inl ⟨rfl, rfl, rfl, rfl, rfl⟩) (.inl ⟨rfl, rfl⟩) (.inl ⟨rfl, rfl, rfl, rfl⟩) (.inl ⟨rfl, rfl, rfl⟩) (.inr rfl) (.inl ⟨rfl, rfl⟩) (.inl ⟨rfl, rfl, rfl, rfl, rfl, rfl, rfl⟩) (.inl ⟨rfl, rfl, rfl, rfl, rfl⟩) (.inl rfl) (.inl ⟨rfl, rfl, rfl, rfl, rfl, rfl⟩) (.inl ⟨rfl, rfl, rfl, rfl, rfl, rfl, rfl, rfl, rfl, rfl, rfl⟩) (.inl ⟨rfl, rfl, rfl, rfl⟩) (.inl rfl) (.inr rfl) (.inl ⟨rfl, rfl, rfl, rfl, rfl, rfl, rfl, rfl, rfl, rfl, rfl, rfl⟩) (.inl ⟨rfl, rfl⟩) (.inl ⟨rfl, rfl, rfl, rfl, rfl, rfl⟩) (.inl ⟨rfl, rfl, rfl, rfl, rfl, rfl⟩) (.inl ⟨rfl, rfl, rfl, rfl, rfl, rfl, rfl, rfl, rfl, rfl, rfl, rfl⟩) (.inl ⟨rfl, rfl, rfl⟩) (.inl ⟨rfl, rfl, rfl, rfl⟩) (.inl ⟨rfl, rfl, rfl, rfl, rfl⟩) (.inl ⟨rfl, rfl, rfl, rfl, rfl, rfl, rfl, rfl, rfl, rfl⟩) (.inl ⟨rfl, rfl, rfl, rfl, rfl, rfl, rfl, rfl, rfl⟩) (.inl ⟨rfl, rfl, rfl, rfl, rfl, rfl, rfl, rfl, rfl, rfl, rfl, rfl, rfl⟩) (.inl ⟨rfl, rfl, rfl⟩) (.inl ⟨rfl, rfl, rfl, rfl, rfl⟩) (.inl rfl) (.inl rfl) (.inl ⟨rfl, rfl⟩) (.inl ⟨rfl, rfl, rfl, rfl, rfl, rfl, rfl, rfl, rfl, rfl, rfl, rfl, rfl⟩) (.inl rfl) (.inl rfl) (.inl ⟨rfl, rfl, rfl⟩) (.inl rfl)
    clear_value x1
    have h5 : Frame touches177 s x2 := by
      unfold x2
      refine Frame.after ?_ (Frame.mono rfl (groupServe_frame _ _ _ _))
      exact h4
    clear_value x2
    refine Frame.ite (fun _ => ?_) (fun _ => ?_)
    · exact h5
    · exact Frame.upd h5 (.inl rfl) (.inl rfl) (.inr rfl) (.inl rfl) (.inl rfl) (.inl rfl) (.inl rfl) (.inl rfl) (.inl rfl) (.inl rfl) (.inl ⟨rfl, rfl, rfl⟩) (.inl rfl) (.inl ⟨rfl, rfl, rfl⟩) (.inl ⟨rfl, rfl⟩) (.inl ⟨rfl, rfl, rfl, rfl, rfl, rfl, rfl, rfl⟩) (.inl ⟨rfl, rfl⟩) (.inl ⟨rfl, rfl, rfl, rfl, rfl, rfl, rfl, rfl, rfl, rfl⟩) (.inl ⟨rfl, rfl⟩) (.inl ⟨rfl, rfl⟩) (.inl rfl) (.inl rfl) (.inl rfl) (.inl rfl) (.inl ⟨rfl, rfl, rfl, rfl, rfl, rfl, rfl, rfl, rfl⟩) (.inl ⟨rfl, rfl, rfl, rfl, rfl, rfl, rfl, rfl, rfl⟩) (.inl ⟨rfl, rfl, rfl⟩) (.inl ⟨rfl, rfl, rfl, rfl, rfl, rfl, rfl, rfl, rfl, rfl, rfl, rfl, rfl, rfl, rfl, rfl, rfl, rfl, rfl, rfl, rfl, rfl, rfl, rfl, rfl, rfl, rfl⟩) (.inl ⟨rfl, rfl, rfl, rfl, rfl, rfl, rfl, rfl, rfl, rfl, rfl, rfl⟩) (.inl ⟨rfl, rfl, rfl, rfl, rfl, rfl, rfl, rfl, rfl⟩) (.inl ⟨rfl, rfl, rfl⟩) (.inl ⟨rfl, rfl, rfl⟩) (.inl ⟨rfl, rfl, rfl, rfl, rfl, rfl, rfl, rfl, rfl⟩) (.inl rfl) (.inl rfl) (.inl rfl) (.inl rfl) (.inl ⟨rfl, rfl⟩) (.inl ⟨rfl, rfl⟩) (.inl rfl) (.inl ⟨rfl, rfl, rfl, rfl, rfl⟩) (.inl ⟨rfl, rfl⟩) (.inl ⟨rfl, rfl, rfl, rfl⟩) (.inl ⟨rfl, rfl, rfl⟩) (.inr rfl) (.inl ⟨rfl, rfl⟩) (.inl ⟨rfl, rfl, rfl, rfl, rfl, rfl, rfl⟩) (.inl ⟨rfl, rfl, rfl, rfl, rfl⟩) (.inl rfl) (.inl ⟨rfl, rfl, rfl, rfl, rfl, rfl⟩) (.inl ⟨rfl, rfl, rfl, rfl, rfl, rfl, rfl, rfl, rfl, rfl, rfl⟩) (.inl ⟨rfl, rfl, rfl, rfl⟩) (.inl rfl) (.inr rfl) (.inl ⟨rfl, rfl, rfl, rfl, rfl, rfl, rfl, rfl, rfl, rfl, rfl, rfl⟩) (.inl ⟨rfl, rfl⟩) (.inl ⟨rfl, rfl, rfl, rfl, rfl, rfl⟩) (.inl ⟨rfl, rfl, rfl, rfl, rfl, rfl⟩) (.inl ⟨rfl, rfl, rfl, rfl, rfl, rfl, rfl, rfl, rfl, rfl, rfl, rfl⟩) (.inl ⟨rfl, rfl, rfl⟩) (.inl ⟨rfl, rfl, rfl, rfl⟩) (.inl ⟨rfl, rfl, rfl, rfl, rfl⟩) (.inl ⟨rfl, rfl, rfl, rfl, rfl, rfl, rfl, rfl, rfl, rfl⟩) (.inl ⟨rfl, rfl, rfl, rfl, rfl, rfl, rfl, rfl, rfl⟩) (.inl ⟨rfl, rfl, rfl, rfl, rfl, rfl, rfl, rfl, rfl, rfl, rfl, rfl, rfl⟩) (.inl ⟨rfl, rfl, rfl⟩) (.inl ⟨rfl, rfl, rfl, rfl, rfl⟩) (.inl rfl) (.inl rfl) (.inl ⟨rfl, rfl⟩) (.inl ⟨rfl, rfl, rfl, rfl, rfl, rfl, rfl, rfl, rfl, rfl, rfl, rfl, rfl⟩) (.inl rfl) (.inl rfl) (.inl ⟨rfl, rfl, rfl⟩) (.inl rfl)

end Sys2Proof
end

