-- ==== Sys2Proof/Laws/FrameTimeOps.lean ====
section
/-! SUPPORT. Laws/FrameTimeOps.lean: what each operation of Machine/TimeOps.lean leaves as it was. -/

namespace Sys2Proof

open Sys2Proof.Machine

theorem setPin_frame (s : State) (a1 : Nat) (a2 : Pin) : Frame touches34 s (State.setPin s a1 a2) := by
  have hs := Frame.refl touches34 s
  unfold State.setPin
  extract_lets -merge -useContext -underBinder x0
  exact Frame.upd hs (.inl rfl) (.inl rfl) (.inl ⟨rfl, rfl⟩) (.inl rfl) (.inl rfl) (.inl rfl) (.inl rfl) (.inl rfl) (.inl rfl) (.inl rfl) (.inl ⟨rfl, rfl, rfl⟩) (.inl rfl) (.inl ⟨rfl, rfl, rfl⟩) (.inl ⟨rfl, rfl⟩) (.inl ⟨rfl, rfl, rfl, rfl, rfl, rfl, rfl, rfl⟩) (.inl ⟨rfl, rfl⟩) (.inl ⟨rfl, rfl, rfl, rfl, rfl, rfl, rfl, rfl, rfl, rfl⟩) (.inl ⟨rfl, rfl⟩) (.inl ⟨rfl, rfl⟩) (.inl rfl) (.inl rfl) (.inl rfl) (.inl rfl) (.inl ⟨rfl, rfl, rfl, rfl, rfl, rfl, rfl, rfl, rfl⟩) (.inl ⟨rfl, rfl, rfl, rfl, rfl, rfl, rfl, rfl, rfl⟩) (.inl ⟨rfl, rfl, rfl⟩) (.inl ⟨rfl, rfl, rfl, rfl, rfl, rfl, rfl, rfl, rfl, rfl, rfl, rfl, rfl, rfl, rfl, rfl, rfl, rfl, rfl, rfl, rfl, rfl, rfl, rfl, rfl, rfl, rfl⟩) (.inl ⟨rfl, rfl, rfl, rfl, rfl, rfl, rfl, rfl, rfl, rfl, rfl, rfl⟩) (.inl ⟨rfl, rfl, rfl, rfl, rfl, rfl, rfl, rfl, rfl⟩) (.inl ⟨rfl, rfl, rfl⟩) (.inl ⟨rfl, rfl, rfl⟩) (.inl ⟨rfl, rfl, rfl, rfl, rfl, rfl, rfl, rfl, rfl⟩) (.inl rfl) (.inl rfl) (.inl rfl) (.inl rfl) (.inl ⟨rfl, rfl⟩) (.inl ⟨rfl, rfl⟩) (.inl rfl) (.inl ⟨rfl, rfl, rfl, rfl, rfl⟩) (.inl ⟨rfl, rfl⟩) (.inl ⟨rfl, rfl, rfl, rfl⟩) (.inl ⟨rfl, rfl, rfl⟩) (.inl rfl) (.inl ⟨rfl, rfl⟩) (.inl ⟨rfl, rfl, rfl, rfl, rfl, rfl, rfl⟩) (.inl ⟨rfl, rfl, rfl, rfl, rfl⟩) (.inl rfl) (.inl ⟨rfl, rfl, rfl, rfl, rfl, rfl⟩) (.inl ⟨rfl, rfl, rfl, rfl, rfl, rfl, rfl, rfl, rfl, rfl, rfl⟩) (.inr rfl) (.inl rfl) (.inl rfl) (.inl ⟨rfl, rfl, rfl, rfl, rfl, rfl, rfl, rfl, rfl, rfl, rfl, rfl⟩) (.inl ⟨rfl, rfl⟩) (.inl ⟨rfl, rfl, rfl, rfl, rfl, rfl⟩) (.inl ⟨rfl, rfl, rfl, rfl, rfl, rfl⟩) (.inl ⟨rfl, rfl, rfl, rfl, rfl, rfl, rfl, rfl, rfl, rfl, rfl, rfl⟩) (.inl ⟨rfl, rfl, rfl⟩) (.inl ⟨rfl, rfl, rfl, rfl⟩) (.inl ⟨rfl, rfl, rfl, rfl, rfl⟩) (.inl ⟨rfl, rfl, rfl, rfl, rfl, rfl, rfl, rfl, rfl, rfl⟩) (.inl ⟨rfl, rfl, rfl, rfl, rfl, rfl, rfl, rfl, rfl⟩) (.inl ⟨rfl, rfl, rfl, rfl, rfl, rfl, rfl, rfl, rfl, rfl, rfl, rfl, rfl⟩) (.inl ⟨rfl, rfl, rfl⟩) (.inl ⟨rfl, rfl, rfl, rfl, rfl⟩) (.inl rfl) (.inl rfl) (.inl ⟨rfl, rfl⟩) (.inl ⟨rfl, rfl, rfl, rfl, rfl, rfl, rfl, rfl, rfl, rfl, rfl, rfl, rfl⟩) (.inl rfl) (.inl rfl) (.inl ⟨rfl, rfl, rfl⟩) (.inl rfl)

theorem pinJump_frame (s : State) (a1 : Nat) (a2 : Bool) (a3 : Nat) : Frame touches35 s (State.pinJump s a1 a2 a3) := by
  have hs := Frame.refl touches35 s
  unfold State.pinJump
  extract_lets -merge -useContext -underBinder x0 x1
  clear_value x0
  have h2 : Frame touches35 s x1 := by
    unfold x1
    refine Frame.after ?_ (when_frame rfl _ _ ?_)
    · exact hs
    · intro y3
      have h4 := Frame.refl touches35 y3
      refine Frame.after ?_ (Frame.mono rfl (stk_frame _ _ _))
      exact h4
  clear_value x1
  refine Frame.ite (fun _ => ?_) (fun _ => ?_)
  · refine Frame.ite (fun _ => ?_) (fun _ => ?_)
    · refine Frame.after ?_ (Frame.mono rfl (setPin_frame _ _ _))
      exact h2
    · refine Frame.after ?_ (when_frame rfl _ _ ?_)
      · exact h2
      · intro y5
        have h6 := Frame.refl touches35 y5
        refine Frame.after ?_ (Frame.mono rfl (stk_frame _ _ _))
        exact h6
  · exact hs

theorem stepIssue_frame (s : State) (a1 : Bool) (a2 : Bool) : Frame touches60 s (State.stepIssue s a1 a2) := by
  have hs := Frame.refl touches60 s
  unfold State.stepIssue
  extract_lets -merge -useContext -underBinder x0 x1 x2 x3 x4 x5
  have h6 : Frame touches60 s x0 := by
    unfold x0
    refine Frame.after ?_ (Frame.mono rfl (setb_frame _ _ _ _))
    refine Frame.after ?_ (Frame.mono rfl (setb_frame _ _ _ _))
    exact hs
  clear_value x0
  clear_value x1
  have h7 : Frame touches60 s x2 := by
    unfold x2
    refine Frame.after ?_ (when_frame rfl _ _ ?_)
    · exact h6
    · intro y8
      have h9 := Frame.refl touches60 y8
      refine Frame.after ?_ (Frame.mono rfl (stk_frame _ _ _))
      exact h9
  clear_value x2
  clear_value x3
  have h10 : Frame touches60 s x4 := by
    unfold x4
    refine Frame.after ?_ (when_frame rfl _ _ ?_)
    · exact h7
    · intro y11
      have h12 := Frame.refl touches60 y11
      refine Frame.after ?_ (Frame.mono rfl (stk_frame _ _ _))
      exact h12
  clear_value x4
  refine Frame.ite (fun _ => ?_) (fun _ => ?_)
  · refine Frame.after ?_ (Frame.mono rfl (stk_frame _ _ _))
    exact h6
  · exact Frame.upd h10 (.inl rfl) (.inl rfl) (.inr rfl) (.inl rfl) (.inl rfl) (.inl rfl) (.inl rfl) (.inl rfl) (.inl rfl) (.inl rfl) (.inl ⟨rfl, rfl, rfl⟩) (.inl rfl) (.inl ⟨rfl, rfl, rfl⟩) (.inl ⟨rfl, rfl⟩) (.inl ⟨rfl, rfl, rfl, rfl, rfl, rfl, rfl, rfl⟩) (.inl ⟨rfl, rfl⟩) (.inl ⟨rfl, rfl, rfl, rfl, rfl, rfl, rfl, rfl, rfl, rfl⟩) (.inl ⟨rfl, rfl⟩) (.inl ⟨rfl, rfl⟩) (.inl rfl) (.inl rfl) (.inl rfl) (.inl rfl) (.inl ⟨rfl, rfl, rfl, rfl, rfl, rfl, rfl, rfl, rfl⟩) (.inl ⟨rfl, rfl, rfl, rfl, rfl, rfl, rfl, rfl, rfl⟩) (.inl ⟨rfl, rfl, rfl⟩) (.inl ⟨rfl, rfl, rfl, rfl, rfl, rfl, rfl, rfl, rfl, rfl, rfl, rfl, rfl, rfl, rfl, rfl, rfl, rfl, rfl, rfl, rfl, rfl, rfl, rfl, rfl, rfl, rfl⟩) (.inl ⟨rfl, rfl, rfl, rfl, rfl, rfl, rfl, rfl, rfl, rfl, rfl, rfl⟩) (.inl ⟨rfl, rfl, rfl, rfl, rfl, rfl, rfl, rfl, rfl⟩) (.inl ⟨rfl, rfl, rfl⟩) (.inl ⟨rfl, rfl, rfl⟩) (.inl ⟨rfl, rfl, rfl, rfl, rfl, rfl, rfl, rfl, rfl⟩) (.inl rfl) (.inl rfl) (.inl rfl) (.inl rfl) (.inl ⟨rfl, rfl⟩) (.inl ⟨rfl, rfl⟩) (.inl rfl) (.inl ⟨rfl, rfl, rfl, rfl, rfl⟩) (.inl ⟨rfl, rfl⟩) (.inl ⟨rfl, rfl, rfl, rfl⟩) (.inl ⟨rfl, rfl, rfl⟩) (.inl rfl) (.inl ⟨rfl, rfl⟩) (.inl ⟨rfl, rfl, rfl, rfl, rfl, rfl, rfl⟩) (.inl ⟨rfl, rfl, rfl, rfl, rfl⟩) (.inl rfl) (.inl ⟨rfl, rfl, rfl, rfl, rfl, rfl⟩) (.inr rfl) (.inl ⟨rfl, rfl, rfl, rfl⟩) (.inl rfl) (.inl rfl) (.inl ⟨rfl, rfl, rfl, rfl, rfl, rfl, rfl, rfl, rfl, rfl, rfl, rfl⟩) (.inl ⟨rfl, rfl⟩) (.inl ⟨rfl, rfl, rfl, rfl, rfl, rfl⟩) (.inl ⟨rfl, rfl, rfl, rfl, rfl, rfl⟩) (.inl ⟨rfl, rfl, rfl, rfl, rfl, rfl, rfl, rfl, rfl, rfl, rfl, rfl⟩) (.inl ⟨rfl, rfl, rfl⟩) (.inl ⟨rfl, rfl, rfl, rfl⟩) (.inl ⟨rfl, rfl, rfl, rfl, rfl⟩) (.inl ⟨rfl, rfl, rfl, rfl, rfl, rfl, rfl, rfl, rfl, rfl⟩) (.inl ⟨rfl, rfl, rfl, rfl, rfl, rfl, rfl, rfl, rfl⟩) (.inl ⟨rfl, rfl, rfl, rfl, rfl, rfl, rfl, rfl, rfl, rfl, rfl, rfl, rfl⟩) (.inl ⟨rfl, rfl, rfl⟩) (.inl ⟨rfl, rfl, rfl, rfl, rfl⟩) (.inl rfl) (.inl rfl) (.inl ⟨rfl, rfl⟩) (.inl ⟨rfl, rfl, rfl, rfl, rfl, rfl, rfl, rfl, rfl, rfl, rfl, rfl, rfl⟩) (.inl rfl) (.inl rfl) (.inl ⟨rfl, rfl, rfl⟩) (.inl rfl)

theorem setTimer_frame (s : State) (a1 : Nat) (a2 : TimerCh) : Frame touches99 s (State.setTimer s a1 a2) := by
  have hs := Frame.refl touches99 s
  unfold State.setTimer
  exact Frame.upd hs (.inl rfl) (.inl rfl) (.inl ⟨rfl, rfl⟩) (.inl rfl) (.inl rfl) (.inl rfl) (.inl rfl) (.inl rfl) (.inl rfl) (.inl rfl) (.inl ⟨rfl, rfl, rfl⟩) (.inl rfl) (.inl ⟨rfl, rfl, rfl⟩) (.inl ⟨rfl, rfl⟩) (.inl ⟨rfl, rfl, rfl, rfl, rfl, rfl, rfl, rfl⟩) (.inl ⟨rfl, rfl⟩) (.inl ⟨rfl, rfl, rfl, rfl, rfl, rfl, rfl, rfl, rfl, rfl⟩) (.inl ⟨rfl, rfl⟩) (.inl ⟨rfl, rfl⟩) (.inl rfl) (.inl rfl) (.inl rfl) (.inl rfl) (.inl ⟨rfl, rfl, rfl, rfl, rfl, rfl, rfl, rfl, rfl⟩) (.inl ⟨rfl, rfl, rfl, rfl, rfl, rfl, rfl, rfl, rfl⟩) (.inl ⟨rfl, rfl, rfl⟩) (.inl ⟨rfl, rfl, rfl, rfl, rfl, rfl, rfl, rfl, rfl, rfl, rfl, rfl, rfl, rfl, rfl, rfl, rfl, rfl, rfl, rfl, rfl, rfl, rfl, rfl, rfl, rfl, rfl⟩) (.inl ⟨rfl, rfl, rfl, rfl, rfl, rfl, rfl, rfl, rfl, rfl, rfl, rfl⟩) (.inl ⟨rfl, rfl, rfl, rfl, rfl, rfl, rfl, rfl, rfl⟩) (.inl ⟨rfl, rfl, rfl⟩) (.inl ⟨rfl, rfl, rfl⟩) (.inl ⟨rfl, rfl, rfl, rfl, rfl, rfl, rfl, rfl, rfl⟩) (.inl rfl) (.inl rfl) (.inl rfl) (.inl rfl) (.inl ⟨rfl, rfl⟩) (.inl ⟨rfl, rfl⟩) (.inl rfl) (.inl ⟨rfl, rfl, rfl, rfl, rfl⟩) (.inl ⟨rfl, rfl⟩) (.inl ⟨rfl, rfl, rfl, rfl⟩) (.inl ⟨rfl, rfl, rfl⟩) (.inl rfl) (.inl ⟨rfl, rfl⟩) (.inl ⟨rfl, rfl, rfl, rfl, rfl, rfl, rfl⟩) (.inl ⟨rfl, rfl, rfl, rfl, rfl⟩) (.inl rfl) (.inl ⟨rfl, rfl, rfl, rfl, rfl, rfl⟩) (.inl ⟨rfl, rfl, rfl, rfl, rfl, rfl, rfl, rfl, rfl, rfl, rfl⟩) (.inl ⟨rfl, rfl, rfl, rfl⟩) (.inr rfl) (.inl rfl) (.inl ⟨rfl, rfl, rfl, rfl, rfl, rfl, rfl, rfl, rfl, rfl, rfl, rfl⟩) (.inl ⟨rfl, rfl⟩) (.inl ⟨rfl, rfl, rfl, rfl, rfl, rfl⟩) (.inl ⟨rfl, rfl, rfl, rfl, rfl, rfl⟩) (.inl ⟨rfl, rfl, rfl, rfl, rfl, rfl, rfl, rfl, rfl, rfl, rfl, rfl⟩) (.inl ⟨rfl, rfl, rfl⟩) (.inl ⟨rfl, rfl, rfl, rfl⟩) (.inl ⟨rfl, rfl, rfl, rfl, rfl⟩) (.inl ⟨rfl, rfl, rfl, rfl, rfl, rfl, rfl, rfl, rfl, rfl⟩) (.inl ⟨rfl, rfl, rfl, rfl, rfl, rfl, rfl, rfl, rfl⟩) (.inl ⟨rfl, rfl, rfl, rfl, rfl, rfl, rfl, rfl, rfl, rfl, rfl, rfl, rfl⟩) (.inl ⟨rfl, rfl, rfl⟩) (.inl ⟨rfl, rfl, rfl, rfl, rfl⟩) (.inl rfl) (.inl rfl) (.inl ⟨rfl, rfl⟩) (.inl ⟨rfl, rfl, rfl, rfl, rfl, rfl, rfl, rfl, rfl, rfl, rfl, rfl, rfl⟩) (.inl rfl) (.inl rfl) (.inl ⟨rfl, rfl, rfl⟩) (.inl rfl)

theorem timerStart_frame (s : State) (a1 : Nat) (a2 : Nat) (a3 : Nat) (a4 : Bool) : Frame touches100 s (State.timerStart s a1 a2 a3 a4) := by
  have hs := Frame.refl touches100 s
  unfold State.timerStart
  extract_lets -merge -useContext -underBinder x0
  clear_value x0
  refine Frame.after ?_ (Frame.mono rfl (setb_frame _ _ _ _))
  refine Frame.after ?_ (Frame.mono rfl (setTimer_frame _ _ _))
  exact hs

theorem tbCourse_frame (s : State) (a1 : Nat) (a2 : Nat) : Frame touches137 s (State.tbCourse s a1 a2) := by
  have hs := Frame.refl touches137 s
  unfold State.tbCourse
  extract_lets -merge -useContext -underBinder x0 x1 x2
  clear_value x1
  exact Frame.upd hs (.inl rfl) (.inl rfl) (.inl ⟨rfl, rfl⟩) (.inl rfl) (.inl rfl) (.inl rfl) (.inl rfl) (.inl rfl) (.inl rfl) (.inl rfl) (.inl ⟨rfl, rfl, rfl⟩) (.inl rfl) (.inl ⟨rfl, rfl, rfl⟩) (.inl ⟨rfl, rfl⟩) (.inl ⟨rfl, rfl, rfl, rfl, rfl, rfl, rfl, rfl⟩) (.inl ⟨rfl, rfl⟩) (.inl ⟨rfl, rfl, rfl, rfl, rfl, rfl, rfl, rfl, rfl, rfl⟩) (.inl ⟨rfl, rfl⟩) (.inl ⟨rfl, rfl⟩) (.inl rfl) (.inl rfl) (.inl rfl) (.inl rfl) (.inl ⟨rfl, rfl, rfl, rfl, rfl, rfl, rfl, rfl, rfl⟩) (.inl ⟨rfl, rfl, rfl, rfl, rfl, rfl, rfl, rfl, rfl⟩) (.inl ⟨rfl, rfl, rfl⟩) (.inl ⟨rfl, rfl, rfl, rfl, rfl, rfl, rfl, rfl, rfl, rfl, rfl, rfl, rfl, rfl, rfl, rfl, rfl, rfl, rfl, rfl, rfl, rfl, rfl, rfl, rfl, rfl, rfl⟩) (.inl ⟨rfl, rfl, rfl, rfl, rfl, rfl, rfl, rfl, rfl, rfl, rfl, rfl⟩) (.inl ⟨rfl, rfl, rfl, rfl, rfl, rfl, rfl, rfl, rfl⟩) (.inl ⟨rfl, rfl, rfl⟩) (.inl ⟨rfl, rfl, rfl⟩) (.inl ⟨rfl, rfl, rfl, rfl, rfl, rfl, rfl, rfl, rfl⟩) (.inl rfl) (.inl rfl) (.inl rfl) (.inl rfl) (.inl ⟨rfl, rfl⟩) (.inl ⟨rfl, rfl⟩) (.inl rfl) (.inl ⟨rfl, rfl, rfl, rfl, rfl⟩) (.inl ⟨rfl, rfl⟩) (.inl ⟨rfl, rfl, rfl, rfl⟩) (.inl ⟨rfl, rfl, rfl⟩) (.inl rfl) (.inl ⟨rfl, rfl⟩) (.inl ⟨rfl, rfl, rfl, rfl, rfl, rfl, rfl⟩) (.inl ⟨rfl, rfl, rfl, rfl, rfl⟩) (.inl rfl) (.inl ⟨rfl, rfl, rfl, rfl, rfl, rfl⟩) (.inr rfl) (.inr rfl) (.inl rfl) (.inl rfl) (.inl ⟨rfl, rfl, rfl, rfl, rfl, rfl, rfl, rfl, rfl, rfl, rfl, rfl⟩) (.inl ⟨rfl, rfl⟩) (.inl ⟨rfl, rfl, rfl, rfl, rfl, rfl⟩) (.inl ⟨rfl, rfl, rfl, rfl, rfl, rfl⟩) (.inl ⟨rfl, rfl, rfl, rfl, rfl, rfl, rfl, rfl, rfl, rfl, rfl, rfl⟩) (.inl ⟨rfl, rfl, rfl⟩) (.inl ⟨rfl, rfl, rfl, rfl⟩) (.inl ⟨rfl, rfl, rfl, rfl, rfl⟩) (.inl ⟨rfl, rfl, rfl, rfl, rfl, rfl, rfl, rfl, rfl, rfl⟩) (.inl ⟨rfl, rfl, rfl, rfl, rfl, rfl, rfl, rfl, rfl⟩) (.inl ⟨rfl, rfl, rfl, rfl, rfl, rfl, rfl, rfl, rfl, rfl, rfl, rfl, rfl⟩) (.inl ⟨rfl, rfl, rfl⟩) (.inl ⟨rfl, rfl, rfl, rfl, rfl⟩) (.inl rfl) (.inl rfl) (.inl ⟨rfl, rfl⟩) (.inl ⟨rfl, rfl, rfl, rfl, rfl, rfl, rfl, rfl, rfl, rfl, rfl, rfl, rfl⟩) (.inl rfl) (.inl rfl) (.inl ⟨rfl, rfl, rfl⟩) (.inl rfl)

theorem pinRead_frame (s : State) (a1 : Nat) : Frame touches1 s (State.pinRead s a1) := by
  have hs := Frame.refl touches1 s
  unfold State.pinRead
  extract_lets -merge -useContext -underBinder x0
  clear_value x0
  refine Frame.after ?_ (when_frame rfl _ _ ?_)
  · exact hs
  · intro y1
    have h2 := Frame.refl touches1 y1
    refine Frame.after ?_ (Frame.mono rfl (clrb_frame _ _ _))
    exact h2

theorem setTb_frame (s : State) (a1 : Nat) : Frame touches137 s (State.setTb s a1) := by
  have hs := Frame.refl touches137 s
  unfold State.setTb
  refine Frame.after ?_ (Frame.mono rfl (tbCourse_frame _ _ _))
  exact hs

theorem stepRun_frame (s : State) (a1 : StepPend) : Frame touches166 s (State.stepRun s a1) := by
  have hs := Frame.refl touches166 s
  unfold State.stepRun
  extract_lets -merge -useContext -underBinder x0 x1 x2 x3 x4 x5 x6 x7 x8 x9
  clear_value x0
  have h10 : Frame touches166 s x2 := by
    unfold x2
    exact Frame.upd hs (.inl rfl) (.inl rfl) (.inr rfl) (.inl rfl) (.inr rfl) (.inl rfl) (.inl rfl) (.inl rfl) (.inl rfl) (.inl rfl) (.inl ⟨rfl, rfl, rfl⟩) (.inl rfl) (.inl ⟨rfl, rfl, rfl⟩) (.inl ⟨rfl, rfl⟩) (.inl ⟨rfl, rfl, rfl, rfl, rfl, rfl, rfl, rfl⟩) (.inl ⟨rfl, rfl⟩) (.inl ⟨rfl, rfl, rfl, rfl, rfl, rfl, rfl, rfl, rfl, rfl⟩) (.inl ⟨rfl, rfl⟩) (.inl ⟨rfl, rfl⟩) (.inl rfl) (.inl rfl) (.inl rfl) (.inl rfl) (.inl ⟨rfl, rfl, rfl, rfl, rfl, rfl, rfl, rfl, rfl⟩) (.inl ⟨rfl, rfl, rfl, rfl, rfl, rfl, rfl, rfl, rfl⟩) (.inl ⟨rfl, rfl, rfl⟩) (.inl ⟨rfl, rfl, rfl, rfl, rfl, rfl, rfl, rfl, rfl, rfl, rfl, rfl, rfl, rfl, rfl, rfl, rfl, rfl, rfl, rfl, rfl, rfl, rfl, rfl, rfl, rfl, rfl⟩) (.inl ⟨rfl, rfl, rfl, rfl, rfl, rfl, rfl, rfl, rfl, rfl, rfl, rfl⟩) (.inl ⟨rfl, rfl, rfl, rfl, rfl, rfl, rfl, rfl, rfl⟩) (.inl ⟨rfl, rfl, rfl⟩) (.inl ⟨rfl, rfl, rfl⟩) (.inl ⟨rfl, rfl, rfl, rfl, rfl, rfl, rfl, rfl, rfl⟩) (.inl rfl) (.inl rfl) (.inl rfl) (.inl rfl) (.inl ⟨rfl, rfl⟩) (.inl ⟨rfl, rfl⟩) (.inl rfl) (.inl ⟨rfl, rfl, rfl, rfl, rfl⟩) (.inl ⟨rfl, rfl⟩) (.inl ⟨rfl, rfl, rfl, rfl⟩) (.inl ⟨rfl, rfl, rfl⟩) (.inl rfl) (.inl ⟨rfl, rfl⟩) (.inl ⟨rfl, rfl, rfl, rfl, rfl, rfl, rfl⟩) (.inl ⟨rfl, rfl, rfl, rfl, rfl⟩) (.inl rfl) (.inl ⟨rfl, rfl, rfl, rfl, rfl, rfl⟩) (.inr rfl) (.inr rfl) (.inl rfl) (.inr rfl) (.inl ⟨rfl, rfl, rfl, rfl, rfl, rfl, rfl, rfl, rfl, rfl, rfl, rfl⟩) (.inl ⟨rfl, rfl⟩) (.inl ⟨rfl, rfl, rfl, rfl, rfl, rfl⟩) (.inl ⟨rfl, rfl, rfl, rfl, rfl, rfl⟩) (.inl ⟨rfl, rfl, rfl, rfl, rfl, rfl, rfl, rfl, rfl, rfl, rfl, rfl⟩) (.inl ⟨rfl, rfl, rfl⟩) (.inl ⟨rfl, rfl, rfl, rfl⟩) (.inl ⟨rfl, rfl, rfl, rfl, rfl⟩) (.inl ⟨rfl, rfl, rfl, rfl, rfl, rfl, rfl, rfl, rfl, rfl⟩) (.inl ⟨rfl, rfl, rfl, rfl, rfl, rfl, rfl, rfl, rfl⟩) (.inl ⟨rfl, rfl, rfl, rfl, rfl, rfl, rfl, rfl, rfl, rfl, rfl, rfl, rfl⟩) (.inl ⟨rfl, rfl, rfl⟩) (.inl ⟨rfl, rfl, rfl, rfl, rfl⟩) (.inl rfl) (.inl rfl) (.inl ⟨rfl, rfl⟩) (.inl ⟨rfl, rfl, rfl, rfl, rfl, rfl, rfl, rfl, rfl, rfl, rfl, rfl, rfl⟩) (.inl rfl) (.inl rfl) (.inl ⟨rfl, rfl, rfl⟩) (.inl rfl)
  clear_value x2
  clear_value x3
  have h11 : Frame touches166 s x4 := by
    unfold x4
    refine Frame.after ?_ (Frame.mono rfl (cnt_frame _ _))
    refine Frame.after ?_ (Frame.mono rfl (setTb_frame _ _))
    exact h10
  clear_value x4
  have h12 : Frame touches166 s x6 := by
    unfold x6
    exact Frame.upd h11 (.inl rfl) (.inl rfl) (.inr rfl) (.inl rfl) (.inr rfl) (.inl rfl) (.inl rfl) (.inl rfl) (.inl rfl) (.inl rfl) (.inl ⟨rfl, rfl, rfl⟩) (.inl rfl) (.inl ⟨rfl, rfl, rfl⟩) (.inl ⟨rfl, rfl⟩) (.inl ⟨rfl, rfl, rfl, rfl, rfl, rfl, rfl, rfl⟩) (.inl ⟨rfl, rfl⟩) (.inl ⟨rfl, rfl, rfl, rfl, rfl, rfl, rfl, rfl, rfl, rfl⟩) (.inl ⟨rfl, rfl⟩) (.inl ⟨rfl, rfl⟩) (.inl rfl) (.inl rfl) (.inl rfl) (.inl rfl) (.inl ⟨rfl, rfl, rfl, rfl, rfl, rfl, rfl, rfl, rfl⟩) (.inl ⟨rfl, rfl, rfl, rfl, rfl, rfl, rfl, rfl, rfl⟩) (.inl ⟨rfl, rfl, rfl⟩) (.inl ⟨rfl, rfl, rfl, rfl, rfl, rfl, rfl, rfl, rfl, rfl, rfl, rfl, rfl, rfl, rfl, rfl, rfl, rfl, rfl, rfl, rfl, rfl, rfl, rfl, rfl, rfl, rfl⟩) (.inl ⟨rfl, rfl, rfl, rfl, rfl, rfl, rfl, rfl, rfl, rfl, rfl, rfl⟩) (.inl ⟨rfl, rfl, rfl, rfl, rfl, rfl, rfl, rfl, rfl⟩) (.inl ⟨rfl, rfl, rfl⟩) (.inl ⟨rfl, rfl, rfl⟩) (.inl ⟨rfl, rfl, rfl, rfl, rfl, rfl, rfl, rfl, rfl⟩) (.inl rfl) (.inl rfl) (.inl rfl) (.inl rfl) (.inl ⟨rfl, rfl⟩) (.inl ⟨rfl, rfl⟩) (.inl rfl) (.inl ⟨rfl, rfl, rfl, rfl, rfl⟩) (.inl ⟨rfl, rfl⟩) (.inl ⟨rfl, rfl, rfl, rfl⟩) (.inl ⟨rfl, rfl, rfl⟩) (.inl rfl) (.inl ⟨rfl, rfl⟩) (.inl ⟨rfl, rfl, rfl, rfl, rfl, rfl, rfl⟩) (.inl ⟨rfl, rfl, rfl, rfl, rfl⟩) (.inl rfl) (.inl ⟨rfl, rfl, rfl, rfl, rfl, rfl⟩) (.inr rfl) (.inr rfl) (.inl rfl) (.inr rfl) (.inl ⟨rfl, rfl, rfl, rfl, rfl, rfl, rfl, rfl, rfl, rfl, rfl, rfl⟩) (.inl ⟨rfl, rfl⟩) (.inl ⟨rfl, rfl, rfl, rfl, rfl, rfl⟩) (.inl ⟨rfl, rfl, rfl, rfl, rfl, rfl⟩) (.inl ⟨rfl, rfl, rfl, rfl, rfl, rfl, rfl, rfl, rfl, rfl, rfl, rfl⟩) (.inl ⟨rfl, rfl, rfl⟩) (.inl ⟨rfl, rfl, rfl, rfl⟩) (.inl ⟨rfl, rfl, rfl, rfl, rfl⟩) (.inl ⟨rfl, rfl, rfl, rfl, rfl, rfl, rfl, rfl, rfl, rfl⟩) (.inl ⟨rfl, rfl, rfl, rfl, rfl, rfl, rfl, rfl, rfl⟩) (.inl ⟨rfl, rfl, rfl, rfl, rfl, rfl, rfl, rfl, rfl, rfl, rfl, rfl, rfl⟩) (.inl ⟨rfl, rfl, rfl⟩) (.inl ⟨rfl, rfl, rfl, rfl, rfl⟩) (.inl rfl) (.inl rfl) (.inl ⟨rfl, rfl⟩) (.inl ⟨rfl, rfl, rfl, rfl, rfl, rfl, rfl, rfl, rfl, rfl, rfl, rfl, rfl⟩) (.inl rfl) (.inl rfl) (.inl ⟨rfl, rfl, rfl⟩) (.inl rfl)
  clear_value x6
  clear_value x7
  have h13 : Frame touches166 s x9 := by
    unfold x9
    refine Frame.ite (fun _ => ?_) (fun _ => ?_)
    · refine Frame.after ?_ (Frame.mono rfl (clrb_frame _ _ _))
      refine Frame.after ?_ (Frame.mono rfl (stk_frame _ _ _))
      exact h12
    · refine Frame.after ?_ (when_frame rfl _ _ ?_)
      · exact Frame.upd h12 (.inl rfl) (.inl rfl) (.inr rfl) (.inl rfl) (.inr rfl) (.inl rfl) (.inl rfl) (.inl rfl) (.inl rfl) (.inl rfl) (.inl ⟨rfl, rfl, rfl⟩) (.inl rfl) (.inl ⟨rfl, rfl, rfl⟩) (.inl ⟨rfl, rfl⟩) (.inl ⟨rfl, rfl, rfl, rfl, rfl, rfl, rfl, rfl⟩) (.inl ⟨rfl, rfl⟩) (.inl ⟨rfl, rfl, rfl, rfl, rfl, rfl, rfl, rfl, rfl, rfl⟩) (.inl ⟨rfl, rfl⟩) (.inl ⟨rfl, rfl⟩) (.inl rfl) (.inl rfl) (.inl rfl) (.inl rfl) (.inl ⟨rfl, rfl, rfl, rfl, rfl, rfl, rfl, rfl, rfl⟩) (.inl ⟨rfl, rfl, rfl, rfl, rfl, rfl, rfl, rfl, rfl⟩) (.inl ⟨rfl, rfl, rfl⟩) (.inl ⟨rfl, rfl, rfl, rfl, rfl, rfl, rfl, rfl, rfl, rfl, rfl, rfl, rfl, rfl, rfl, rfl, rfl, rfl, rfl, rfl, rfl, rfl, rfl, rfl, rfl, rfl, rfl⟩) (.inl ⟨rfl, rfl, rfl, rfl, rfl, rfl, rfl, rfl, rfl, rfl, rfl, rfl⟩) (.inl ⟨rfl, rfl, rfl, rfl, rfl, rfl, rfl, rfl, rfl⟩) (.inl ⟨rfl, rfl, rfl⟩) (.inl ⟨rfl, rfl, rfl⟩) (.inl ⟨rfl, rfl, rfl, rfl, rfl, rfl, rfl, rfl, rfl⟩) (.inl rfl) (.inl rfl) (.inl rfl) (.inl rfl) (.inl ⟨rfl, rfl⟩) (.inl ⟨rfl, rfl⟩) (.inl rfl) (.inl ⟨rfl, rfl, rfl, rfl, rfl⟩) (.inl ⟨rfl, rfl⟩) (.inl ⟨rfl, rfl, rfl, rfl⟩) (.inl ⟨rfl, rfl, rfl⟩) (.inl rfl) (.inl ⟨rfl, rfl⟩) (.inl ⟨rfl, rfl, rfl, rfl, rfl, rfl, rfl⟩) (.inl ⟨rfl, rfl, rfl, rfl, rfl⟩) (.inl rfl) (.inl ⟨rfl, rfl, rfl, rfl, rfl, rfl⟩) (.inr rfl) (.inr rfl) (.inl rfl) (.inr rfl) (.inl ⟨rfl, rfl, rfl, rfl, rfl, rfl, rfl, rfl, rfl, rfl, rfl, rfl⟩) (.inl ⟨rfl, rfl⟩) (.inl ⟨rfl, rfl, rfl, rfl, rfl, rfl⟩) (.inl ⟨rfl, rfl, rfl, rfl, rfl, rfl⟩) (.inl ⟨rfl, rfl, rfl, rfl, rfl, rfl, rfl, rfl, rfl, rfl, rfl, rfl⟩) (.inl ⟨rfl, rfl, rfl⟩) (.inl ⟨rfl, rfl, rfl, rfl⟩) (.inl ⟨rfl, rfl, rfl, rfl, rfl⟩) (.inl ⟨rfl, rfl, rfl, rfl, rfl, rfl, rfl, rfl, rfl, rfl⟩) (.inl ⟨rfl, rfl, rfl, rfl, rfl, rfl, rfl, rfl, rfl⟩) (.inl ⟨rfl, rfl, rfl, rfl, rfl, rfl, rfl, rfl, rfl, rfl, rfl, rfl, rfl⟩) (.inl ⟨rfl, rfl, rfl⟩) (.inl ⟨rfl, rfl, rfl, rfl, rfl⟩) (.inl rfl) (.inl rfl) (.inl ⟨rfl, rfl⟩) (.inl ⟨rfl, rfl, rfl, rfl, rfl, rfl, rfl, rfl, rfl, rfl, rfl, rfl, rfl⟩) (.inl rfl) (.inl rfl) (.inl ⟨rfl, rfl, rfl⟩) (.inl rfl)
      · intro y14
        have h15 := Frame.refl touches166 y14
        refine Frame.after ?_ (Frame.mono rfl (used_frame _))
        refine Frame.after ?_ (Frame.mono rfl (used_frame _))
        exact h15
  clear_value x9
  refine Frame.ite (fun _ => ?_) (fun _ => ?_)
  · refine Frame.after ?_ (Frame.mono rfl (event_frame _ _))
    refine Frame.foldl ?_ (fun x16 y17 h18 => ?_)
    · exact h13
    · refine Frame.after ?_ (Frame.mono rfl (pinJump_frame _ _ _ _))
      exact h18
  · refine Frame.after ?_ (Frame.mono rfl (stk_frame _ _ _))
    exact h10

theorem timerStops_frame (s : State) (a1 : Nat) (a2 : Nat) : Frame touches100 s (State.timerStops s a1 a2) := by
  have hs := Frame.refl touches100 s
  unfold State.timerStops
  extract_lets -merge -useContext -underBinder x0
  clear_value x0
  refine Frame.after ?_ (Frame.mono rfl (stk_frame _ _ _))
  refine Frame.after ?_ (Frame.mono rfl (setTimer_frame _ _ _))
  exact hs

theorem timerExpire_frame (s : State) (a1 : Nat) (a2 : Nat) : Frame touches167 s (State.timerExpire s a1 a2) := by
  have hs := Frame.refl touches167 s
  unfold State.timerExpire
  extract_lets -merge -useContext -underBinder x0
  have h1 : Frame touches167 s x0 := by
    unfold x0
    refine Frame.after ?_ (Frame.mono rfl (timerStops_frame _ _ _))
    exact hs
  clear_value x0
  refine Frame.after ?_ (Frame.mono rfl (jobRequest_frame _ _))
  exact h1

theorem timersLate_frame (s : State) (a1 : List Nat) (a2 : Nat) : Frame touches100 s (State.timersLate s a1 a2) := by
  have hs := Frame.refl touches100 s
  unfold State.timersLate
  refine Frame.foldl ?_ (fun x0 y1 h2 => ?_)
  · exact hs
  · extract_lets -merge -useContext -underBinder x3 x4
    have h5 : Frame touches100 s x3 := by
      unfold x3
      refine Frame.after ?_ (Frame.mono rfl (stk_frame _ _ _))
      refine Frame.after ?_ (Frame.mono rfl (timerStops_frame _ _ _))
      exact h2
    clear_value x3
    clear_value x4
    refine Frame.after ?_ (Frame.mono rfl (setTimer_frame _ _ _))
    exact h5

theorem pinCapture_frame (s : State) (a1 : Nat) (a2 : Nat) (a3 : Bool) : Frame touches35 s (State.pinCapture s a1 a2 a3) := by
  have hs := Frame.refl touches35 s
  unfold State.pinCapture
  extract_lets -merge -useContext -underBinder x0
  clear_value x0
  refine Frame.after ?_ (when_frame rfl _ _ ?_)
  · refine Frame.after ?_ (Frame.mono rfl (setPin_frame _ _ _))
    exact hs
  · intro y1
    have h2 := Frame.refl touches35 y1
    refine Frame.after ?_ (Frame.mono rfl (stk_frame _ _ _))
    exact h2

end Sys2Proof
end

