-- ==== Sys2Proof/Laws/FrameHostOps.lean ====
section
/-! SUPPORT. Laws/FrameHostOps.lean: what each operation of Machine/HostOps.lean leaves as it was. -/

namespace Sys2Proof

open Sys2Proof.Machine

theorem recordOut_frame (s : State) (a1 : Nat) (a2 : Nat) (a3 : Nat) (a4 : Bytes) : Frame touches2 s (State.recordOut s a1 a2 a3 a4) := by
  have hs := Frame.refl touches2 s
  unfold State.recordOut
  refine Frame.after ?_ (Frame.mono rfl (out_frame _ _))
  refine Frame.after ?_ (Frame.mono rfl (out_frame _ _))
  refine Frame.after ?_ (Frame.mono rfl (out_frame _ _))
  exact hs

theorem setRing_frame (s : State) (a1 : Nat) (a2 : Ring) : Frame touches3 s (State.setRing s a1 a2) := by
  have hs := Frame.refl touches3 s
  unfold State.setRing
  extract_lets -merge -useContext -underBinder x0
  exact Frame.upd hs (.inl rfl) (.inl rfl) (.inl ⟨rfl, rfl⟩) (.inl rfl) (.inl rfl) (.inl rfl) (.inl rfl) (.inl rfl) (.inl rfl) (.inl rfl) (.inl ⟨rfl, rfl, rfl⟩) (.inl rfl) (.inl ⟨rfl, rfl, rfl⟩) (.inl ⟨rfl, rfl⟩) (.inl ⟨rfl, rfl, rfl, rfl, rfl, rfl, rfl, rfl⟩) (.inl ⟨rfl, rfl⟩) (.inl ⟨rfl, rfl, rfl, rfl, rfl, rfl, rfl, rfl, rfl, rfl⟩) (.inl ⟨rfl, rfl⟩) (.inl ⟨rfl, rfl⟩) (.inl rfl) (.inl rfl) (.inl rfl) (.inl rfl) (.inl ⟨rfl, rfl, rfl, rfl, rfl, rfl, rfl, rfl, rfl⟩) (.inl ⟨rfl, rfl, rfl, rfl, rfl, rfl, rfl, rfl, rfl⟩) (.inl ⟨rfl, rfl, rfl⟩) (.inl ⟨rfl, rfl, rfl, rfl, rfl, rfl, rfl, rfl, rfl, rfl, rfl, rfl, rfl, rfl, rfl, rfl, rfl, rfl, rfl, rfl, rfl, rfl, rfl, rfl, rfl, rfl, rfl⟩) (.inl ⟨rfl, rfl, rfl, rfl, rfl, rfl, rfl, rfl, rfl, rfl, rfl, rfl⟩) (.inl ⟨rfl, rfl, rfl, rfl, rfl, rfl, rfl, rfl, rfl⟩) (.inl ⟨rfl, rfl, rfl⟩) (.inl ⟨rfl, rfl, rfl⟩) (.inl ⟨rfl, rfl, rfl, rfl, rfl, rfl, rfl, rfl, rfl⟩) (.inl rfl) (.inl rfl) (.inl rfl) (.inl rfl) (.inl ⟨rfl, rfl⟩) (.inl ⟨rfl, rfl⟩) (.inl rfl) (.inl ⟨rfl, rfl, rfl, rfl, rfl⟩) (.inl ⟨rfl, rfl⟩) (.inl ⟨rfl, rfl, rfl, rfl⟩) (.inl ⟨rfl, rfl, rfl⟩) (.inl rfl) (.inr rfl) (.inl ⟨rfl, rfl, rfl, rfl, rfl, rfl, rfl⟩) (.inl ⟨rfl, rfl, rfl, rfl, rfl⟩) (.inl rfl) (.inl ⟨rfl, rfl, rfl, rfl, rfl, rfl⟩) (.inl ⟨rfl, rfl, rfl, rfl, rfl, rfl, rfl, rfl, rfl, rfl, rfl⟩) (.inl ⟨rfl, rfl, rfl, rfl⟩) (.inl rfl) (.inl rfl) (.inl ⟨rfl, rfl, rfl, rfl, rfl, rfl, rfl, rfl, rfl, rfl, rfl, rfl⟩) (.inl ⟨rfl, rfl⟩) (.inl ⟨rfl, rfl, rfl, rfl, rfl, rfl⟩) (.inl ⟨rfl, rfl, rfl, rfl, rfl, rfl⟩) (.inl ⟨rfl, rfl, rfl, rfl, rfl, rfl, rfl, rfl, rfl, rfl, rfl, rfl⟩) (.inl ⟨rfl, rfl, rfl⟩) (.inl ⟨rfl, rfl, rfl, rfl⟩) (.inl ⟨rfl, rfl, rfl, rfl, rfl⟩) (.inl ⟨rfl, rfl, rfl, rfl, rfl, rfl, rfl, rfl, rfl, rfl⟩) (.inl ⟨rfl, rfl, rfl, rfl, rfl, rfl, rfl, rfl, rfl⟩) (.inl ⟨rfl, rfl, rfl, rfl, rfl, rfl, rfl, rfl, rfl, rfl, rfl, rfl, rfl⟩) (.inl ⟨rfl, rfl, rfl⟩) (.inl ⟨rfl, rfl, rfl, rfl, rfl⟩) (.inl rfl) (.inl rfl) (.inl ⟨rfl, rfl⟩) (.inl ⟨rfl, rfl, rfl, rfl, rfl, rfl, rfl, rfl, rfl, rfl, rfl, rfl, rfl⟩) (.inl rfl) (.inl rfl) (.inl ⟨rfl, rfl, rfl⟩) (.inl rfl)

theorem ringPad_frame (s : State) (a1 : Nat) (a2 : Nat) : Frame touches4 s (State.ringPad s a1 a2) := by
  have hs := Frame.refl touches4 s
  unfold State.ringPad
  extract_lets -merge -useContext -underBinder x0 x1 x2
  clear_value x0
  clear_value x2
  refine Frame.ite (fun _ => ?_) (fun _ => ?_)
  · refine Frame.after ?_ (Frame.mono rfl (recordOut_frame _ _ _ _ _))
    refine Frame.after ?_ (Frame.mono rfl (setRing_frame _ _ _))
    exact hs
  · exact hs

theorem reserveSettle_frame (s : State) : Frame touches5 s (State.reserveSettle s) := by
  have hs := Frame.refl touches5 s
  unfold State.reserveSettle
  extract_lets -merge -useContext -underBinder x0 x1 x2
  clear_value x2
  exact Frame.upd hs (.inl rfl) (.inl rfl) (.inl ⟨rfl, rfl⟩) (.inl rfl) (.inl rfl) (.inl rfl) (.inl rfl) (.inl rfl) (.inl rfl) (.inl rfl) (.inl ⟨rfl, rfl, rfl⟩) (.inl rfl) (.inl ⟨rfl, rfl, rfl⟩) (.inl ⟨rfl, rfl⟩) (.inl ⟨rfl, rfl, rfl, rfl, rfl, rfl, rfl, rfl⟩) (.inl ⟨rfl, rfl⟩) (.inl ⟨rfl, rfl, rfl, rfl, rfl, rfl, rfl, rfl, rfl, rfl⟩) (.inl ⟨rfl, rfl⟩) (.inl ⟨rfl, rfl⟩) (.inl rfl) (.inl rfl) (.inl rfl) (.inl rfl) (.inl ⟨rfl, rfl, rfl, rfl, rfl, rfl, rfl, rfl, rfl⟩) (.inl ⟨rfl, rfl, rfl, rfl, rfl, rfl, rfl, rfl, rfl⟩) (.inl ⟨rfl, rfl, rfl⟩) (.inl ⟨rfl, rfl, rfl, rfl, rfl, rfl, rfl, rfl, rfl, rfl, rfl, rfl, rfl, rfl, rfl, rfl, rfl, rfl, rfl, rfl, rfl, rfl, rfl, rfl, rfl, rfl, rfl⟩) (.inl ⟨rfl, rfl, rfl, rfl, rfl, rfl, rfl, rfl, rfl, rfl, rfl, rfl⟩) (.inl ⟨rfl, rfl, rfl, rfl, rfl, rfl, rfl, rfl, rfl⟩) (.inl ⟨rfl, rfl, rfl⟩) (.inl ⟨rfl, rfl, rfl⟩) (.inl ⟨rfl, rfl, rfl, rfl, rfl, rfl, rfl, rfl, rfl⟩) (.inl rfl) (.inl rfl) (.inl rfl) (.inl rfl) (.inl ⟨rfl, rfl⟩) (.inl ⟨rfl, rfl⟩) (.inl rfl) (.inl ⟨rfl, rfl, rfl, rfl, rfl⟩) (.inl ⟨rfl, rfl⟩) (.inl ⟨rfl, rfl, rfl, rfl⟩) (.inl ⟨rfl, rfl, rfl⟩) (.inl rfl) (.inr rfl) (.inr rfl) (.inr rfl) (.inr rfl) (.inr rfl) (.inl ⟨rfl, rfl, rfl, rfl, rfl, rfl, rfl, rfl, rfl, rfl, rfl⟩) (.inl ⟨rfl, rfl, rfl, rfl⟩) (.inl rfl) (.inl rfl) (.inl ⟨rfl, rfl, rfl, rfl, rfl, rfl, rfl, rfl, rfl, rfl, rfl, rfl⟩) (.inl ⟨rfl, rfl⟩) (.inl ⟨rfl, rfl, rfl, rfl, rfl, rfl⟩) (.inl ⟨rfl, rfl, rfl, rfl, rfl, rfl⟩) (.inl ⟨rfl, rfl, rfl, rfl, rfl, rfl, rfl, rfl, rfl, rfl, rfl, rfl⟩) (.inl ⟨rfl, rfl, rfl⟩) (.inl ⟨rfl, rfl, rfl, rfl⟩) (.inl ⟨rfl, rfl, rfl, rfl, rfl⟩) (.inl ⟨rfl, rfl, rfl, rfl, rfl, rfl, rfl, rfl, rfl, rfl⟩) (.inl ⟨rfl, rfl, rfl, rfl, rfl, rfl, rfl, rfl, rfl⟩) (.inl ⟨rfl, rfl, rfl, rfl, rfl, rfl, rfl, rfl, rfl, rfl, rfl, rfl, rfl⟩) (.inl ⟨rfl, rfl, rfl⟩) (.inl ⟨rfl, rfl, rfl, rfl, rfl⟩) (.inl rfl) (.inl rfl) (.inl ⟨rfl, rfl⟩) (.inl ⟨rfl, rfl, rfl, rfl, rfl, rfl, rfl, rfl, rfl, rfl, rfl, rfl, rfl⟩) (.inl rfl) (.inl rfl) (.inr rfl) (.inl rfl)

theorem pantryFree_frame (s : State) (a1 : Nat) (a2 : Nat) : Frame touches5 s (State.pantryFree s a1 a2) := by
  have hs := Frame.refl touches5 s
  unfold State.pantryFree
  extract_lets -merge -useContext -underBinder x0
  refine Frame.after ?_ (Frame.mono rfl (reserveSettle_frame _))
  exact Frame.upd hs (.inl rfl) (.inl rfl) (.inl ⟨rfl, rfl⟩) (.inl rfl) (.inl rfl) (.inl rfl) (.inl rfl) (.inl rfl) (.inl rfl) (.inl rfl) (.inl ⟨rfl, rfl, rfl⟩) (.inl rfl) (.inl ⟨rfl, rfl, rfl⟩) (.inl ⟨rfl, rfl⟩) (.inl ⟨rfl, rfl, rfl, rfl, rfl, rfl, rfl, rfl⟩) (.inl ⟨rfl, rfl⟩) (.inl ⟨rfl, rfl, rfl, rfl, rfl, rfl, rfl, rfl, rfl, rfl⟩) (.inl ⟨rfl, rfl⟩) (.inl ⟨rfl, rfl⟩) (.inl rfl) (.inl rfl) (.inl rfl) (.inl rfl) (.inl ⟨rfl, rfl, rfl, rfl, rfl, rfl, rfl, rfl, rfl⟩) (.inl ⟨rfl, rfl, rfl, rfl, rfl, rfl, rfl, rfl, rfl⟩) (.inl ⟨rfl, rfl, rfl⟩) (.inl ⟨rfl, rfl, rfl, rfl, rfl, rfl, rfl, rfl, rfl, rfl, rfl, rfl, rfl, rfl, rfl, rfl, rfl, rfl, rfl, rfl, rfl, rfl, rfl, rfl, rfl, rfl, rfl⟩) (.inl ⟨rfl, rfl, rfl, rfl, rfl, rfl, rfl, rfl, rfl, rfl, rfl, rfl⟩) (.inl ⟨rfl, rfl, rfl, rfl, rfl, rfl, rfl, rfl, rfl⟩) (.inl ⟨rfl, rfl, rfl⟩) (.inl ⟨rfl, rfl, rfl⟩) (.inl ⟨rfl, rfl, rfl, rfl, rfl, rfl, rfl, rfl, rfl⟩) (.inl rfl) (.inl rfl) (.inl rfl) (.inl rfl) (.inl ⟨rfl, rfl⟩) (.inl ⟨rfl, rfl⟩) (.inl rfl) (.inl ⟨rfl, rfl, rfl, rfl, rfl⟩) (.inl ⟨rfl, rfl⟩) (.inl ⟨rfl, rfl, rfl, rfl⟩) (.inl ⟨rfl, rfl, rfl⟩) (.inl rfl) (.inr rfl) (.inr rfl) (.inr rfl) (.inr rfl) (.inr rfl) (.inl ⟨rfl, rfl, rfl, rfl, rfl, rfl, rfl, rfl, rfl, rfl, rfl⟩) (.inl ⟨rfl, rfl, rfl, rfl⟩) (.inl rfl) (.inl rfl) (.inl ⟨rfl, rfl, rfl, rfl, rfl, rfl, rfl, rfl, rfl, rfl, rfl, rfl⟩) (.inl ⟨rfl, rfl⟩) (.inl ⟨rfl, rfl, rfl, rfl, rfl, rfl⟩) (.inl ⟨rfl, rfl, rfl, rfl, rfl, rfl⟩) (.inl ⟨rfl, rfl, rfl, rfl, rfl, rfl, rfl, rfl, rfl, rfl, rfl, rfl⟩) (.inl ⟨rfl, rfl, rfl⟩) (.inl ⟨rfl, rfl, rfl, rfl⟩) (.inl ⟨rfl, rfl, rfl, rfl, rfl⟩) (.inl ⟨rfl, rfl, rfl, rfl, rfl, rfl, rfl, rfl, rfl, rfl⟩) (.inl ⟨rfl, rfl, rfl, rfl, rfl, rfl, rfl, rfl, rfl⟩) (.inl ⟨rfl, rfl, rfl, rfl, rfl, rfl, rfl, rfl, rfl, rfl, rfl, rfl, rfl⟩) (.inl ⟨rfl, rfl, rfl⟩) (.inl ⟨rfl, rfl, rfl, rfl, rfl⟩) (.inl rfl) (.inl rfl) (.inl ⟨rfl, rfl⟩) (.inl ⟨rfl, rfl, rfl, rfl, rfl, rfl, rfl, rfl, rfl, rfl, rfl, rfl, rfl⟩) (.inl rfl) (.inl rfl) (.inr rfl) (.inl rfl)

theorem setPort_frame (s : State) (a1 : Nat) (a2 : EthPort) : Frame touches6 s (State.setPort s a1 a2) := by
  have hs := Frame.refl touches6 s
  unfold State.setPort
  extract_lets -merge -useContext -underBinder x0
  exact Frame.upd hs (.inl rfl) (.inl rfl) (.inl ⟨rfl, rfl⟩) (.inl rfl) (.inl rfl) (.inl rfl) (.inl rfl) (.inl rfl) (.inl rfl) (.inl rfl) (.inl ⟨rfl, rfl, rfl⟩) (.inl rfl) (.inl ⟨rfl, rfl, rfl⟩) (.inl ⟨rfl, rfl⟩) (.inl ⟨rfl, rfl, rfl, rfl, rfl, rfl, rfl, rfl⟩) (.inl ⟨rfl, rfl⟩) (.inl ⟨rfl, rfl, rfl, rfl, rfl, rfl, rfl, rfl, rfl, rfl⟩) (.inl ⟨rfl, rfl⟩) (.inl ⟨rfl, rfl⟩) (.inl rfl) (.inl rfl) (.inl rfl) (.inl rfl) (.inl ⟨rfl, rfl, rfl, rfl, rfl, rfl, rfl, rfl, rfl⟩) (.inl ⟨rfl, rfl, rfl, rfl, rfl, rfl, rfl, rfl, rfl⟩) (.inl ⟨rfl, rfl, rfl⟩) (.inl ⟨rfl, rfl, rfl, rfl, rfl, rfl, rfl, rfl, rfl, rfl, rfl, rfl, rfl, rfl, rfl, rfl, rfl, rfl, rfl, rfl, rfl, rfl, rfl, rfl, rfl, rfl, rfl⟩) (.inl ⟨rfl, rfl, rfl, rfl, rfl, rfl, rfl, rfl, rfl, rfl, rfl, rfl⟩) (.inl ⟨rfl, rfl, rfl, rfl, rfl, rfl, rfl, rfl, rfl⟩) (.inl ⟨rfl, rfl, rfl⟩) (.inl ⟨rfl, rfl, rfl⟩) (.inl ⟨rfl, rfl, rfl, rfl, rfl, rfl, rfl, rfl, rfl⟩) (.inl rfl) (.inl rfl) (.inl rfl) (.inl rfl) (.inl ⟨rfl, rfl⟩) (.inl ⟨rfl, rfl⟩) (.inl rfl) (.inl ⟨rfl, rfl, rfl, rfl, rfl⟩) (.inl ⟨rfl, rfl⟩) (.inl ⟨rfl, rfl, rfl, rfl⟩) (.inl ⟨rfl, rfl, rfl⟩) (.inl rfl) (.inl ⟨rfl, rfl⟩) (.inl ⟨rfl, rfl, rfl, rfl, rfl, rfl, rfl⟩) (.inl ⟨rfl, rfl, rfl, rfl, rfl⟩) (.inr rfl) (.inl ⟨rfl, rfl, rfl, rfl, rfl, rfl⟩) (.inl ⟨rfl, rfl, rfl, rfl, rfl, rfl, rfl, rfl, rfl, rfl, rfl⟩) (.inl ⟨rfl, rfl, rfl, rfl⟩) (.inl rfl) (.inl rfl) (.inl ⟨rfl, rfl, rfl, rfl, rfl, rfl, rfl, rfl, rfl, rfl, rfl, rfl⟩) (.inl ⟨rfl, rfl⟩) (.inl ⟨rfl, rfl, rfl, rfl, rfl, rfl⟩) (.inl ⟨rfl, rfl, rfl, rfl, rfl, rfl⟩) (.inl ⟨rfl, rfl, rfl, rfl, rfl, rfl, rfl, rfl, rfl, rfl, rfl, rfl⟩) (.inl ⟨rfl, rfl, rfl⟩) (.inl ⟨rfl, rfl, rfl, rfl⟩) (.inl ⟨rfl, rfl, rfl, rfl, rfl⟩) (.inl ⟨rfl, rfl, rfl, rfl, rfl, rfl, rfl, rfl, rfl, rfl⟩) (.inl ⟨rfl, rfl, rfl, rfl, rfl, rfl, rfl, rfl, rfl⟩) (.inl ⟨rfl, rfl, rfl, rfl, rfl, rfl, rfl, rfl, rfl, rfl, rfl, rfl, rfl⟩) (.inl ⟨rfl, rfl, rfl⟩) (.inl ⟨rfl, rfl, rfl, rfl, rfl⟩) (.inl rfl) (.inl rfl) (.inl ⟨rfl, rfl⟩) (.inl ⟨rfl, rfl, rfl, rfl, rfl, rfl, rfl, rfl, rfl, rfl, rfl, rfl, rfl⟩) (.inl rfl) (.inl rfl) (.inl ⟨rfl, rfl, rfl⟩) (.inl rfl)

theorem pauseCheck_frame (s : State) (a1 : Nat) : Frame touches7 s (State.pauseCheck s a1) := by
  have hs := Frame.refl touches7 s
  unfold State.pauseCheck
  extract_lets -merge -useContext -underBinder x0 x1
  clear_value x0
  refine Frame.ite (fun _ => ?_) (fun _ => ?_)
  · exact hs
  · split
    · refine Frame.ite (fun _ => ?_) (fun _ => ?_)
      · refine Frame.after ?_ (Frame.mono rfl (out_frame _ _))
        refine Frame.after ?_ (Frame.mono rfl (setPort_frame _ _ _))
        exact hs
      · exact hs
    · refine Frame.ite (fun _ => ?_) (fun _ => ?_)
      · refine Frame.after ?_ (Frame.mono rfl (out_frame _ _))
        refine Frame.after ?_ (Frame.mono rfl (setPort_frame _ _ _))
        exact hs
      · exact hs

theorem ingressFree_frame (s : State) (a1 : Nat) (a2 : Nat) : Frame touches7 s (State.ingressFree s a1 a2) := by
  have hs := Frame.refl touches7 s
  unfold State.ingressFree
  extract_lets -merge -useContext -underBinder x0
  clear_value x0
  refine Frame.after ?_ (Frame.mono rfl (pauseCheck_frame _ _))
  refine Frame.after ?_ (Frame.mono rfl (setPort_frame _ _ _))
  exact hs

theorem recFree_frame (s : State) (a1 : HostRec) : Frame touches8 s (State.recFree s a1) := by
  have hs := Frame.refl touches8 s
  unfold State.recFree
  split
  · refine Frame.after ?_ (Frame.mono rfl (pantryFree_frame _ _ _))
    exact hs
  · refine Frame.after ?_ (Frame.mono rfl (ingressFree_frame _ _ _))
    exact hs

theorem ringWrite_frame (s : State) (a1 : Nat) (a2 : HostRec) : Frame touches9 s (State.ringWrite s a1 a2) := by
  have hs := Frame.refl touches9 s
  unfold State.ringWrite
  extract_lets -merge -useContext -underBinder x0 x1
  clear_value x1
  refine Frame.after ?_ (Frame.mono rfl (cnt_frame _ _))
  refine Frame.after ?_ (Frame.mono rfl (recordOut_frame _ _ _ _ _))
  refine Frame.after ?_ (Frame.mono rfl (setRing_frame _ _ _))
  exact hs

theorem ringPump_frame (s : State) (a1 : Nat) (a2 : Nat) : Frame touches10 s (State.ringPump s a1 a2) := by
  induction a2 generalizing s a1 with | zero => ?_ | succ n ih => ?_
  · have hs := Frame.refl touches10 s
    unfold State.ringPump
    exact hs
  · have hs := Frame.refl touches10 s
    unfold State.ringPump
    split
    · exact hs
    · extract_lets -merge -useContext -underBinder x0 x1
      have h2 : Frame touches10 s x0 := by
        unfold x0
        refine Frame.after ?_ (Frame.mono rfl (ringPad_frame _ _ _))
        exact hs
      clear_value x0
      clear_value x1
      refine Frame.ite (fun _ => ?_) (fun _ => ?_)
      · refine Frame.ite (fun _ => ?_) (fun _ => ?_)
        · refine Frame.after ?_ (ih _ _)
          refine Frame.after ?_ (Frame.mono rfl (recFree_frame _ _))
          refine Frame.after ?_ (Frame.mono rfl (ringWrite_frame _ _ _))
          refine Frame.after ?_ (Frame.mono rfl (setRing_frame _ _ _))
          exact h2
        · exact h2
      · exact hs

theorem ringSend_frame (s : State) (a1 : Nat) : Frame touches12 s (State.ringSend s a1) := by
  have hs := Frame.refl touches12 s
  unfold State.ringSend
  extract_lets -merge -useContext -underBinder x0
  clear_value x0
  refine Frame.ite (fun _ => ?_) (fun _ => ?_)
  · refine Frame.after ?_ (Frame.mono rfl (cnt_frame _ _))
    refine Frame.after ?_ (Frame.mono rfl (msixOut_frame _ _))
    refine Frame.after ?_ (Frame.mono rfl (setRing_frame _ _ _))
    exact hs
  · exact hs

theorem hostWake_frame (s : State) (a1 : Nat) : Frame touches13 s (State.hostWake s a1) := by
  have hs := Frame.refl touches13 s
  unfold State.hostWake
  refine Frame.ite (fun _ => ?_) (fun _ => ?_)
  · split
    · exact hs
    · extract_lets -merge -useContext -underBinder x0
      refine Frame.ite (fun _ => ?_) (fun _ => ?_)
      · refine Frame.after ?_ (Frame.mono rfl (cnt_frame _ _))
        refine Frame.after ?_ (Frame.mono rfl (stk_frame _ _ _))
        refine Frame.after ?_ (Frame.mono rfl (out_frame _ _))
        exact Frame.upd hs (.inl rfl) (.inl rfl) (.inr rfl) (.inl rfl) (.inl rfl) (.inr rfl) (.inl rfl) (.inl rfl) (.inl rfl) (.inl rfl) (.inl ⟨rfl, rfl, rfl⟩) (.inl rfl) (.inl ⟨rfl, rfl, rfl⟩) (.inl ⟨rfl, rfl⟩) (.inl ⟨rfl, rfl, rfl, rfl, rfl, rfl, rfl, rfl⟩) (.inl ⟨rfl, rfl⟩) (.inl ⟨rfl, rfl, rfl, rfl, rfl, rfl, rfl, rfl, rfl, rfl⟩) (.inl ⟨rfl, rfl⟩) (.inl ⟨rfl, rfl⟩) (.inl rfl) (.inl rfl) (.inl rfl) (.inl rfl) (.inl ⟨rfl, rfl, rfl, rfl, rfl, rfl, rfl, rfl, rfl⟩) (.inl ⟨rfl, rfl, rfl, rfl, rfl, rfl, rfl, rfl, rfl⟩) (.inl ⟨rfl, rfl, rfl⟩) (.inl ⟨rfl, rfl, rfl, rfl, rfl, rfl, rfl, rfl, rfl, rfl, rfl, rfl, rfl, rfl, rfl, rfl, rfl, rfl, rfl, rfl, rfl, rfl, rfl, rfl, rfl, rfl, rfl⟩) (.inl ⟨rfl, rfl, rfl, rfl, rfl, rfl, rfl, rfl, rfl, rfl, rfl, rfl⟩) (.inl ⟨rfl, rfl, rfl, rfl, rfl, rfl, rfl, rfl, rfl⟩) (.inl ⟨rfl, rfl, rfl⟩) (.inl ⟨rfl, rfl, rfl⟩) (.inl ⟨rfl, rfl, rfl, rfl, rfl, rfl, rfl, rfl, rfl⟩) (.inl rfl) (.inl rfl) (.inl rfl) (.inl rfl) (.inl ⟨rfl, rfl⟩) (.inl ⟨rfl, rfl⟩) (.inl rfl) (.inl ⟨rfl, rfl, rfl, rfl, rfl⟩) (.inl ⟨rfl, rfl⟩) (.inl ⟨rfl, rfl, rfl, rfl⟩) (.inl ⟨rfl, rfl, rfl⟩) (.inl rfl) (.inl ⟨rfl, rfl⟩) (.inr rfl) (.inl ⟨rfl, rfl, rfl, rfl, rfl⟩) (.inl rfl) (.inl ⟨rfl, rfl, rfl, rfl, rfl, rfl⟩) (.inl ⟨rfl, rfl, rfl, rfl, rfl, rfl, rfl, rfl, rfl, rfl, rfl⟩) (.inl ⟨rfl, rfl, rfl, rfl⟩) (.inl rfl) (.inl rfl) (.inl ⟨rfl, rfl, rfl, rfl, rfl, rfl, rfl, rfl, rfl, rfl, rfl, rfl⟩) (.inl ⟨rfl, rfl⟩) (.inl ⟨rfl, rfl, rfl, rfl, rfl, rfl⟩) (.inl ⟨rfl, rfl, rfl, rfl, rfl, rfl⟩) (.inl ⟨rfl, rfl, rfl, rfl, rfl, rfl, rfl, rfl, rfl, rfl, rfl, rfl⟩) (.inl ⟨rfl, rfl, rfl⟩) (.inl ⟨rfl, rfl, rfl, rfl⟩) (.inl ⟨rfl, rfl, rfl, rfl, rfl⟩) (.inl ⟨rfl, rfl, rfl, rfl, rfl, rfl, rfl, rfl, rfl, rfl⟩) (.inl ⟨rfl, rfl, rfl, rfl, rfl, rfl, rfl, rfl, rfl⟩) (.inl ⟨rfl, rfl, rfl, rfl, rfl, rfl, rfl, rfl, rfl, rfl, rfl, rfl, rfl⟩) (.inl ⟨rfl, rfl, rfl⟩) (.inl ⟨rfl, rfl, rfl, rfl, rfl⟩) (.inl rfl) (.inl rfl) (.inl ⟨rfl, rfl⟩) (.inl ⟨rfl, rfl, rfl, rfl, rfl, rfl, rfl, rfl, rfl, rfl, rfl, rfl, rfl⟩) (.inl rfl) (.inl rfl) (.inl ⟨rfl, rfl, rfl⟩) (.inl rfl)
      · exact hs
    · refine Frame.after ?_ (Frame.mono rfl (cnt_frame _ _))
      refine Frame.after ?_ (Frame.mono rfl (stk_frame _ _ _))
      refine Frame.after ?_ (Frame.mono rfl (stk_frame _ _ _))
      refine Frame.after ?_ (Frame.mono rfl (out_frame _ _))
      exact hs
  · exact hs

theorem ringDue_frame (s : State) (a1 : Nat) : Frame touches12 s (State.ringDue s a1) := by
  have hs := Frame.refl touches12 s
  unfold State.ringDue
  extract_lets -merge -useContext -underBinder x0
  clear_value x0
  refine Frame.ite (fun _ => ?_) (fun _ => ?_)
  · refine Frame.after ?_ (Frame.mono rfl (ringSend_frame _ _))
    exact hs
  · refine Frame.after ?_ (Frame.mono rfl (hostWake_frame _ _))
    refine Frame.after ?_ (Frame.mono rfl (ringSend_frame _ _))
    refine Frame.after ?_ (Frame.mono rfl (setRing_frame _ _ _))
    exact hs

theorem ringCount_frame (s : State) (a1 : Nat) : Frame touches12 s (State.ringCount s a1) := by
  have hs := Frame.refl touches12 s
  unfold State.ringCount
  extract_lets -merge -useContext -underBinder x0 x1
  clear_value x0
  have h2 : Frame touches12 s x1 := by
    unfold x1
    refine Frame.after ?_ (Frame.mono rfl (setRing_frame _ _ _))
    exact hs
  clear_value x1
  refine Frame.ite (fun _ => ?_) (fun _ => ?_)
  · refine Frame.after ?_ (Frame.mono rfl (ringDue_frame _ _))
    exact h2
  · exact h2

theorem deliver_frame (s : State) (a1 : Nat) (a2 : HostRec) : Frame touches10 s (State.deliver s a1 a2) := by
  have hs := Frame.refl touches10 s
  unfold State.deliver
  extract_lets -merge -useContext -underBinder x0 x1
  clear_value x0
  have h2 : Frame touches10 s x1 := by
    unfold x1
    refine Frame.after ?_ (Frame.mono rfl (ringPump_frame _ _ _))
    refine Frame.after ?_ (Frame.mono rfl (setRing_frame _ _ _))
    exact hs
  clear_value x1
  refine Frame.ite (fun _ => ?_) (fun _ => ?_)
  · refine Frame.after ?_ (Frame.mono rfl (ringCount_frame _ _))
    exact h2
  · exact h2

theorem pantryTake_frame (s : State) (a1 : Nat) (a2 : Nat) : Frame touches14 s (State.pantryTake s a1 a2) := by
  have hs := Frame.refl touches14 s
  unfold State.pantryTake
  extract_lets -merge -useContext -underBinder x0
  exact Frame.upd hs (.inl rfl) (.inl rfl) (.inl ⟨rfl, rfl⟩) (.inl rfl) (.inl rfl) (.inl rfl) (.inl rfl) (.inl rfl) (.inl rfl) (.inl rfl) (.inl ⟨rfl, rfl, rfl⟩) (.inl rfl) (.inl ⟨rfl, rfl, rfl⟩) (.inl ⟨rfl, rfl⟩) (.inl ⟨rfl, rfl, rfl, rfl, rfl, rfl, rfl, rfl⟩) (.inl ⟨rfl, rfl⟩) (.inl ⟨rfl, rfl, rfl, rfl, rfl, rfl, rfl, rfl, rfl, rfl⟩) (.inl ⟨rfl, rfl⟩) (.inl ⟨rfl, rfl⟩) (.inl rfl) (.inl rfl) (.inl rfl) (.inl rfl) (.inl ⟨rfl, rfl, rfl, rfl, rfl, rfl, rfl, rfl, rfl⟩) (.inl ⟨rfl, rfl, rfl, rfl, rfl, rfl, rfl, rfl, rfl⟩) (.inl ⟨rfl, rfl, rfl⟩) (.inl ⟨rfl, rfl, rfl, rfl, rfl, rfl, rfl, rfl, rfl, rfl, rfl, rfl, rfl, rfl, rfl, rfl, rfl, rfl, rfl, rfl, rfl, rfl, rfl, rfl, rfl, rfl, rfl⟩) (.inl ⟨rfl, rfl, rfl, rfl, rfl, rfl, rfl, rfl, rfl, rfl, rfl, rfl⟩) (.inl ⟨rfl, rfl, rfl, rfl, rfl, rfl, rfl, rfl, rfl⟩) (.inl ⟨rfl, rfl, rfl⟩) (.inl ⟨rfl, rfl, rfl⟩) (.inl ⟨rfl, rfl, rfl, rfl, rfl, rfl, rfl, rfl, rfl⟩) (.inl rfl) (.inl rfl) (.inl rfl) (.inl rfl) (.inl ⟨rfl, rfl⟩) (.inl ⟨rfl, rfl⟩) (.inl rfl) (.inl ⟨rfl, rfl, rfl, rfl, rfl⟩) (.inl ⟨rfl, rfl⟩) (.inl ⟨rfl, rfl, rfl, rfl⟩) (.inl ⟨rfl, rfl, rfl⟩) (.inl rfl) (.inl ⟨rfl, rfl⟩) (.inl ⟨rfl, rfl, rfl, rfl, rfl, rfl, rfl⟩) (.inr rfl) (.inl rfl) (.inl ⟨rfl, rfl, rfl, rfl, rfl, rfl⟩) (.inl ⟨rfl, rfl, rfl, rfl, rfl, rfl, rfl, rfl, rfl, rfl, rfl⟩) (.inl ⟨rfl, rfl, rfl, rfl⟩) (.inl rfl) (.inl rfl) (.inl ⟨rfl, rfl, rfl, rfl, rfl, rfl, rfl, rfl, rfl, rfl, rfl, rfl⟩) (.inl ⟨rfl, rfl⟩) (.inl ⟨rfl, rfl, rfl, rfl, rfl, rfl⟩) (.inl ⟨rfl, rfl, rfl, rfl, rfl, rfl⟩) (.inl ⟨rfl, rfl, rfl, rfl, rfl, rfl, rfl, rfl, rfl, rfl, rfl, rfl⟩) (.inl ⟨rfl, rfl, rfl⟩) (.inl ⟨rfl, rfl, rfl, rfl⟩) (.inl ⟨rfl, rfl, rfl, rfl, rfl⟩) (.inl ⟨rfl, rfl, rfl, rfl, rfl, rfl, rfl, rfl, rfl, rfl⟩) (.inl ⟨rfl, rfl, rfl, rfl, rfl, rfl, rfl, rfl, rfl⟩) (.inl ⟨rfl, rfl, rfl, rfl, rfl, rfl, rfl, rfl, rfl, rfl, rfl, rfl, rfl⟩) (.inl ⟨rfl, rfl, rfl⟩) (.inl ⟨rfl, rfl, rfl, rfl, rfl⟩) (.inl rfl) (.inl rfl) (.inl ⟨rfl, rfl⟩) (.inl ⟨rfl, rfl, rfl, rfl, rfl, rfl, rfl, rfl, rfl, rfl, rfl, rfl, rfl⟩) (.inl rfl) (.inl rfl) (.inl ⟨rfl, rfl, rfl⟩) (.inl rfl)

theorem ringDrop_frame (s : State) (a1 : Nat) : Frame touches1 s (State.ringDrop s a1) := by
  have hs := Frame.refl touches1 s
  unfold State.ringDrop
  refine Frame.after ?_ (Frame.mono rfl (stk_frame _ _ _))
  refine Frame.after ?_ (Frame.mono rfl (cnt_frame _ _))
  exact hs

theorem completion_frame (s : State) (a1 : Nat) (a2 : Nat) (a3 : Nat) (a4 : Nat) (a5 : BitVec 64) (a6 : Nat) : Frame touches10 s (State.completion s a1 a2 a3 a4 a5 a6) := by
  have hs := Frame.refl touches10 s
  unfold State.completion
  extract_lets -merge -useContext -underBinder x0
  clear_value x0
  refine Frame.ite (fun _ => ?_) (fun _ => ?_)
  · refine Frame.after ?_ (Frame.mono rfl (cnt_frame _ _))
    exact hs
  · refine Frame.ite (fun _ => ?_) (fun _ => ?_)
    · refine Frame.after ?_ (Frame.mono rfl (deliver_frame _ _ _))
      exact hs
    · refine Frame.ite (fun _ => ?_) (fun _ => ?_)
      · refine Frame.after ?_ (Frame.mono rfl (deliver_frame _ _ _))
        refine Frame.after ?_ (Frame.mono rfl (pantryTake_frame _ _ _))
        exact hs
      · refine Frame.after ?_ (Frame.mono rfl (ringDrop_frame _ _))
        exact hs

theorem completeFrame_frame (s : State) (a1 : DlFrame) (a2 : Nat) : Frame touches10 s (State.completeFrame s a1 a2) := by
  have hs := Frame.refl touches10 s
  unfold State.completeFrame
  split
  · refine Frame.ite (fun _ => ?_) (fun _ => ?_)
    · refine Frame.after ?_ (Frame.mono rfl (completion_frame _ _ _ _ _ _ _))
      exact hs
    · exact hs
  · exact hs

theorem mailJobDone_frame (s : State) (a1 : Nat) : Frame touches67 s (State.mailJobDone s a1) := by
  have hs := Frame.refl touches67 s
  unfold State.mailJobDone
  split
  · refine Frame.after ?_ (Frame.mono rfl (jobDone_frame _ _))
    exact hs
  · exact hs

theorem mailAnswer_frame (s : State) (a1 : Nat) (a2 : Nat) (a3 : Nat) (a4 : Nat) (a5 : Bytes) : Frame touches68 s (State.mailAnswer s a1 a2 a3 a4 a5) := by
  have hs := Frame.refl touches68 s
  unfold State.mailAnswer
  extract_lets -merge -useContext -underBinder x0 x1 x2
  have h3 : Frame touches68 s x1 := by
    unfold x1
    refine Frame.after ?_ (Frame.mono rfl (out_frame _ _))
    exact hs
  clear_value x1
  clear_value x2
  refine Frame.after ?_ (Frame.mono rfl (mailJobDone_frame _ _))
  refine Frame.after ?_ (Frame.mono rfl (ringCount_frame _ _))
  refine Frame.after ?_ (Frame.mono rfl (cnt_frame _ _))
  refine Frame.after ?_ (Frame.mono rfl (setRing_frame _ _ _))
  exact h3

theorem ringKick_frame (s : State) (a1 : Nat) : Frame touches10 s (State.ringKick s a1) := by
  have hs := Frame.refl touches10 s
  unfold State.ringKick
  refine Frame.after ?_ (Frame.mono rfl (ringSend_frame _ _))
  refine Frame.after ?_ (Frame.mono rfl (ringPump_frame _ _ _))
  exact hs

theorem ringsKick_frame (s : State) : Frame touches10 s (State.ringsKick s) := by
  have hs := Frame.refl touches10 s
  unfold State.ringsKick
  refine Frame.foldl ?_ (fun x0 y1 h2 => ?_)
  · exact hs
  · refine Frame.after ?_ (Frame.mono rfl (ringKick_frame _ _))
    exact h2

theorem mailTrim_frame (s : State) (a1 : Nat) : Frame touches67 s (State.mailTrim s a1) := by
  have hs := Frame.refl touches67 s
  unfold State.mailTrim
  extract_lets -merge -useContext -underBinder x0 x1
  clear_value x0
  refine Frame.foldl ?_ (fun x2 y3 h4 => ?_)
  · exact hs
  · refine Frame.after ?_ (Frame.mono rfl (jobDone_frame _ _))
    exact h4

theorem ethToHost_frame (s : State) (a1 : Nat) (a2 : Nat) (a3 : Bytes) (a4 : Nat) : Frame touches10 s (State.ethToHost s a1 a2 a3 a4) := by
  have hs := Frame.refl touches10 s
  unfold State.ethToHost
  extract_lets -merge -useContext -underBinder x0
  clear_value x0
  refine Frame.ite (fun _ => ?_) (fun _ => ?_)
  · refine Frame.after ?_ (Frame.mono rfl (cnt_frame _ _))
    refine Frame.after ?_ (Frame.mono rfl (ingressFree_frame _ _ _))
    exact hs
  · refine Frame.ite (fun _ => ?_) (fun _ => ?_)
    · refine Frame.after ?_ (Frame.mono rfl (deliver_frame _ _ _))
      exact hs
    · refine Frame.after ?_ (Frame.mono rfl (ringDrop_frame _ _))
      refine Frame.after ?_ (Frame.mono rfl (ingressFree_frame _ _ _))
      exact hs

theorem mailDone_frame (s : State) (a1 : Msg) (a2 : Nat) (a3 : Nat) (a4 : Bytes) : Frame touches68 s (State.mailDone s a1 a2 a3 a4) := by
  have hs := Frame.refl touches68 s
  unfold State.mailDone
  refine Frame.after ?_ (Frame.mono rfl (mailAnswer_frame _ _ _ _ _ _))
  exact hs

theorem mailTaken_frame (s : State) (a1 : Msg) : Frame touches3 s (State.mailTaken s a1) := by
  have hs := Frame.refl touches3 s
  unfold State.mailTaken
  extract_lets -merge -useContext -underBinder x0
  exact Frame.upd hs (.inl rfl) (.inl rfl) (.inl ⟨rfl, rfl⟩) (.inl rfl) (.inl rfl) (.inl rfl) (.inl rfl) (.inl rfl) (.inl rfl) (.inl rfl) (.inl ⟨rfl, rfl, rfl⟩) (.inl rfl) (.inl ⟨rfl, rfl, rfl⟩) (.inl ⟨rfl, rfl⟩) (.inl ⟨rfl, rfl, rfl, rfl, rfl, rfl, rfl, rfl⟩) (.inl ⟨rfl, rfl⟩) (.inl ⟨rfl, rfl, rfl, rfl, rfl, rfl, rfl, rfl, rfl, rfl⟩) (.inl ⟨rfl, rfl⟩) (.inl ⟨rfl, rfl⟩) (.inl rfl) (.inl rfl) (.inl rfl) (.inl rfl) (.inl ⟨rfl, rfl, rfl, rfl, rfl, rfl, rfl, rfl, rfl⟩) (.inl ⟨rfl, rfl, rfl, rfl, rfl, rfl, rfl, rfl, rfl⟩) (.inl ⟨rfl, rfl, rfl⟩) (.inl ⟨rfl, rfl, rfl, rfl, rfl, rfl, rfl, rfl, rfl, rfl, rfl, rfl, rfl, rfl, rfl, rfl, rfl, rfl, rfl, rfl, rfl, rfl, rfl, rfl, rfl, rfl, rfl⟩) (.inl ⟨rfl, rfl, rfl, rfl, rfl, rfl, rfl, rfl, rfl, rfl, rfl, rfl⟩) (.inl ⟨rfl, rfl, rfl, rfl, rfl, rfl, rfl, rfl, rfl⟩) (.inl ⟨rfl, rfl, rfl⟩) (.inl ⟨rfl, rfl, rfl⟩) (.inl ⟨rfl, rfl, rfl, rfl, rfl, rfl, rfl, rfl, rfl⟩) (.inl rfl) (.inl rfl) (.inl rfl) (.inl rfl) (.inl ⟨rfl, rfl⟩) (.inl ⟨rfl, rfl⟩) (.inl rfl) (.inl ⟨rfl, rfl, rfl, rfl, rfl⟩) (.inl ⟨rfl, rfl⟩) (.inl ⟨rfl, rfl, rfl, rfl⟩) (.inl ⟨rfl, rfl, rfl⟩) (.inl rfl) (.inr rfl) (.inl ⟨rfl, rfl, rfl, rfl, rfl, rfl, rfl⟩) (.inl ⟨rfl, rfl, rfl, rfl, rfl⟩) (.inl rfl) (.inl ⟨rfl, rfl, rfl, rfl, rfl, rfl⟩) (.inl ⟨rfl, rfl, rfl, rfl, rfl, rfl, rfl, rfl, rfl, rfl, rfl⟩) (.inl ⟨rfl, rfl, rfl, rfl⟩) (.inl rfl) (.inl rfl) (.inl ⟨rfl, rfl, rfl, rfl, rfl, rfl, rfl, rfl, rfl, rfl, rfl, rfl⟩) (.inl ⟨rfl, rfl⟩) (.inl ⟨rfl, rfl, rfl, rfl, rfl, rfl⟩) (.inl ⟨rfl, rfl, rfl, rfl, rfl, rfl⟩) (.inl ⟨rfl, rfl, rfl, rfl, rfl, rfl, rfl, rfl, rfl, rfl, rfl, rfl⟩) (.inl ⟨rfl, rfl, rfl⟩) (.inl ⟨rfl, rfl, rfl, rfl⟩) (.inl ⟨rfl, rfl, rfl, rfl, rfl⟩) (.inl ⟨rfl, rfl, rfl, rfl, rfl, rfl, rfl, rfl, rfl, rfl⟩) (.inl ⟨rfl, rfl, rfl, rfl, rfl, rfl, rfl, rfl, rfl⟩) (.inl ⟨rfl, rfl, rfl, rfl, rfl, rfl, rfl, rfl, rfl, rfl, rfl, rfl, rfl⟩) (.inl ⟨rfl, rfl, rfl⟩) (.inl ⟨rfl, rfl, rfl, rfl, rfl⟩) (.inl rfl) (.inl rfl) (.inl ⟨rfl, rfl⟩) (.inl ⟨rfl, rfl, rfl, rfl, rfl, rfl, rfl, rfl, rfl, rfl, rfl, rfl, rfl⟩) (.inl rfl) (.inl rfl) (.inl ⟨rfl, rfl, rfl⟩) (.inl rfl)

theorem ringStop_frame (s : State) (a1 : Nat) : Frame touches165 s (State.ringStop s a1) := by
  have hs := Frame.refl touches165 s
  unfold State.ringStop
  extract_lets -merge -useContext -underBinder x0 x1 x2
  clear_value x0
  clear_value x1
  clear_value x2
  refine Frame.after ?_ (Frame.mono rfl (cell_frame _ _ _ _ _))
  refine Frame.after ?_ (Frame.mono rfl (stk_frame _ _ _))
  refine Frame.after ?_ (Frame.mono rfl (stk_frame _ _ _))
  refine Frame.after ?_ (Frame.mono rfl (setRing_frame _ _ _))
  exact hs

theorem mailLater_frame {G : List Field} (hG : touches153.all G.contains = true) (s : State) (a1 : Msg) (a2 : Nat) (a3 : Nat → Bool) (a4 : Nat) {a5 : Bytes → State → State × Option (Nat × Bytes)} (ha5 : ∀ b0 b1, Frame G b1 (a5 b0 b1).1) : Frame G s (State.mailLater s a1 a2 a3 a4 a5) := by
  have hs := Frame.refl G s
  unfold State.mailLater
  refine Frame.ite (fun _ => ?_) (fun _ => ?_)
  · exact hs
  · refine Frame.ite (fun _ => ?_) (fun _ => ?_)
    · refine Frame.after ?_ (Frame.mono hG (Frame.mono rfl (mailDone_frame _ _ _ _ _)))
      refine Frame.after ?_ (Frame.mono hG (Frame.mono rfl (mailTaken_frame _ _)))
      exact hs
    · refine Frame.ite (fun _ => ?_) (fun _ => ?_)
      · exact hs
      · refine Frame.ite (fun _ => ?_) (fun _ => ?_)
        · refine Frame.after ?_ (Frame.mono hG (Frame.mono rfl (mailDone_frame _ _ _ _ _)))
          refine Frame.after ?_ (Frame.mono hG (Frame.mono rfl (mailTaken_frame _ _)))
          exact hs
        · split
          · refine Frame.after ?_ (Frame.mono hG (Frame.mono rfl (ringStop_frame _ _)))
            refine Frame.after ?_ (Frame.mono hG (Frame.mono rfl (mailDone_frame _ _ _ _ _)))
            refine Frame.after ?_ (Frame.mono hG (Frame.mono rfl (mailTaken_frame _ _)))
            exact hs
          · split
            · rename_i z0 z1 z2 z3 z4
              have h5 : Frame G s z1 := Frame.pair z4 (by
                  refine Frame.after ?_ (ha5 _ _)
                  refine Frame.after ?_ (Frame.mono hG (Frame.mono rfl (mailTaken_frame _ _)))
                  exact hs)
              refine Frame.after ?_ (Frame.mono hG (Frame.mono rfl (mailDone_frame _ _ _ _ _)))
              exact h5
            · rename_i z6 z7 z8
              have h9 : Frame G s z7 := Frame.pair z8 (by
                  refine Frame.after ?_ (ha5 _ _)
                  refine Frame.after ?_ (Frame.mono hG (Frame.mono rfl (mailTaken_frame _ _)))
                  exact hs)
              exact h9

theorem mail_frame {G : List Field} (hG : touches153.all G.contains = true) (s : State) (a1 : Msg) (a2 : Nat) (a3 : Nat → Bool) (a4 : Nat) {a5 : Bytes → State → State × Nat × Bytes} (ha5 : ∀ b0 b1, Frame G b1 (a5 b0 b1).1) : Frame G s (State.mail s a1 a2 a3 a4 a5) := by
  have hs := Frame.refl G s
  unfold State.mail
  refine Frame.after ?_ (mailLater_frame (Frame.sub rfl hG) _ _ _ _ _ ?_)
  · exact hs
  · intro y0 y1
    have h2 := Frame.refl G y1
    split
    · rename_i z3 z4 z5 z6 z7
      have h8 : Frame G y1 z4 := Frame.pair z7 (by
          refine Frame.after ?_ (ha5 _ _)
          exact h2)
      dsimp only
      exact h8

theorem msgRefused_frame (s : State) (a1 : Nat) (a2 : Nat) (a3 : Nat) : Frame touches19 s (State.msgRefused s a1 a2 a3) := by
  have hs := Frame.refl touches19 s
  unfold State.msgRefused
  refine Frame.after ?_ (Frame.mono rfl (cell_frame _ _ _ _ _))
  exact hs

end Sys2Proof
end

