-- ==== Sys2Proof/Laws/FramePhyOps.lean ====
section
/-! SUPPORT. Laws/FramePhyOps.lean: what each operation of Machine/PhyOps.lean leaves as it was. -/

namespace Sys2Proof

open Sys2Proof.Machine

theorem nodeGet_frame (s : State) (a1 : Nat) : Frame touches20 s (State.nodeGet s a1).1 := by
  have hs := Frame.refl touches20 s
  unfold State.nodeGet
  extract_lets -merge -useContext -underBinder x0
  have h1 : Frame touches20 s x0 := by
    unfold x0
    refine Frame.after ?_ (Frame.mono rfl (nodeFill_frame _ _))
    exact hs
  clear_value x0
  dsimp only
  exact h1

theorem learnLookup_frame (s : State) (a1 : Nat) (a2 : Nat) (a3 : Nat) : Frame touches27 s (State.learnLookup s a1 a2 a3).1 := by
  have hs := Frame.refl touches27 s
  unfold State.learnLookup
  extract_lets -merge -useContext -underBinder x0 x1 x2
  clear_value x0
  clear_value x1
  have h3 : Frame touches27 s x2 := by
    unfold x2
    split
    · rename_i z4 z5
      exact hs
    · refine Frame.after ?_ (Frame.mono rfl (crossed_frame _ _ _ _))
      exact hs
  clear_value x2
  dsimp only
  refine Frame.after ?_ (Frame.mono rfl (countLookup_frame _ _ _))
  exact h3

theorem routeEntry_frame (s : State) (a1 : Nat) (a2 : Rec) : Frame touches27 s (State.routeEntry s a1 a2).1 := by
  have hs := Frame.refl touches27 s
  unfold State.routeEntry
  split
  · rename_i z0 z1 z2 z3
    have h4 : Frame touches27 s z1 := Frame.pair z3 (by
        refine Frame.after ?_ (Frame.mono rfl (learnLookup_frame _ _ _ _))
        exact hs)
    split
    · rename_i z5 z6 z7 z8
      have h9 : Frame touches27 s z6 := Frame.pair z8 (by
          refine Frame.iteFst (fun _ => ?_) (fun _ => ?_)
          · refine Frame.after ?_ (Frame.mono rfl (learnLookup_frame _ _ _ _))
            exact h4
          · dsimp only
            exact h4)
      dsimp only
      exact h9

theorem candidate_frame (s : State) (a1 : Region) (a2 : LEnt) : Frame touches20 s (State.candidate s a1 a2).1 := by
  have hs := Frame.refl touches20 s
  unfold State.candidate
  extract_lets -merge -useContext -underBinder x0
  clear_value x0
  refine Frame.iteFst (fun _ => ?_) (fun _ => ?_)
  · split
    · rename_i z1 z2 z3 z4
      have h5 : Frame touches20 s z2 := Frame.pair z4 (by
          refine Frame.after ?_ (Frame.mono rfl (nodeGet_frame _ _))
          exact hs)
      dsimp only
      exact h5
  · dsimp only
    exact hs

theorem selectRoute_frame (s : State) (a1 : Rec) : Frame touches28 s (State.selectRoute s a1).1 := by
  have hs := Frame.refl touches28 s
  unfold State.selectRoute
  split
  · rename_i z0 z1 z2 z3
    have h4 : Frame touches28 s z1 := Frame.pair z3 (by
        refine Frame.foldlFst ?_ (fun x5 y6 h7 => ?_)
        · dsimp only
          exact hs
        · split
          · rename_i z8 z9 z10 z11
            have h12 : Frame touches28 s z9 := Frame.pair z11 (by
                refine Frame.after ?_ (Frame.mono rfl (routeEntry_frame _ _ _))
                exact h7)
            split
            · dsimp only
              exact h12
            · split
              · rename_i z13 z14 z15 z16
                have h17 : Frame touches28 s z14 := Frame.pair z16 (by
                    refine Frame.after ?_ (Frame.mono rfl (candidate_frame _ _ _))
                    exact h12)
                extract_lets -merge -useContext -underBinder x18
                clear_value x18
                refine Frame.iteFst (fun _ => ?_) (fun _ => ?_)
                · dsimp only
                  exact h17
                · dsimp only
                  exact h17)
    dsimp only
    exact h4

theorem setLmap_frame (s : State) (a1 : Region) (a2 : Nat) (a3 : LoadMap) : Frame touches46 s (State.setLmap s a1 a2 a3) := by
  have hs := Frame.refl touches46 s
  unfold State.setLmap
  exact Frame.upd hs (.inl rfl) (.inl rfl) (.inl ⟨rfl, rfl⟩) (.inl rfl) (.inl rfl) (.inl rfl) (.inl rfl) (.inl rfl) (.inl rfl) (.inl rfl) (.inl ⟨rfl, rfl, rfl⟩) (.inl rfl) (.inl ⟨rfl, rfl, rfl⟩) (.inl ⟨rfl, rfl⟩) (.inl ⟨rfl, rfl, rfl, rfl, rfl, rfl, rfl, rfl⟩) (.inl ⟨rfl, rfl⟩) (.inl ⟨rfl, rfl, rfl, rfl, rfl, rfl, rfl, rfl, rfl, rfl⟩) (.inl ⟨rfl, rfl⟩) (.inl ⟨rfl, rfl⟩) (.inl rfl) (.inl rfl) (.inl rfl) (.inl rfl) (.inl ⟨rfl, rfl, rfl, rfl, rfl, rfl, rfl, rfl, rfl⟩) (.inl ⟨rfl, rfl, rfl, rfl, rfl, rfl, rfl, rfl, rfl⟩) (.inl ⟨rfl, rfl, rfl⟩) (.inl ⟨rfl, rfl, rfl, rfl, rfl, rfl, rfl, rfl, rfl, rfl, rfl, rfl, rfl, rfl, rfl, rfl, rfl, rfl, rfl, rfl, rfl, rfl, rfl, rfl, rfl, rfl, rfl⟩) (.inl ⟨rfl, rfl, rfl, rfl, rfl, rfl, rfl, rfl, rfl, rfl, rfl, rfl⟩) (.inl ⟨rfl, rfl, rfl, rfl, rfl, rfl, rfl, rfl, rfl⟩) (.inl ⟨rfl, rfl, rfl⟩) (.inl ⟨rfl, rfl, rfl⟩) (.inl ⟨rfl, rfl, rfl, rfl, rfl, rfl, rfl, rfl, rfl⟩) (.inl rfl) (.inl rfl) (.inr rfl) (.inl rfl) (.inl ⟨rfl, rfl⟩) (.inl ⟨rfl, rfl⟩) (.inl rfl) (.inl ⟨rfl, rfl, rfl, rfl, rfl⟩) (.inl ⟨rfl, rfl⟩) (.inl ⟨rfl, rfl, rfl, rfl⟩) (.inl ⟨rfl, rfl, rfl⟩) (.inl rfl) (.inl ⟨rfl, rfl⟩) (.inl ⟨rfl, rfl, rfl, rfl, rfl, rfl, rfl⟩) (.inl ⟨rfl, rfl, rfl, rfl, rfl⟩) (.inl rfl) (.inl ⟨rfl, rfl, rfl, rfl, rfl, rfl⟩) (.inl ⟨rfl, rfl, rfl, rfl, rfl, rfl, rfl, rfl, rfl, rfl, rfl⟩) (.inl ⟨rfl, rfl, rfl, rfl⟩) (.inl rfl) (.inl rfl) (.inl ⟨rfl, rfl, rfl, rfl, rfl, rfl, rfl, rfl, rfl, rfl, rfl, rfl⟩) (.inl ⟨rfl, rfl⟩) (.inl ⟨rfl, rfl, rfl, rfl, rfl, rfl⟩) (.inl ⟨rfl, rfl, rfl, rfl, rfl, rfl⟩) (.inl ⟨rfl, rfl, rfl, rfl, rfl, rfl, rfl, rfl, rfl, rfl, rfl, rfl⟩) (.inl ⟨rfl, rfl, rfl⟩) (.inl ⟨rfl, rfl, rfl, rfl⟩) (.inl ⟨rfl, rfl, rfl, rfl, rfl⟩) (.inl ⟨rfl, rfl, rfl, rfl, rfl, rfl, rfl, rfl, rfl, rfl⟩) (.inl ⟨rfl, rfl, rfl, rfl, rfl, rfl, rfl, rfl, rfl⟩) (.inl ⟨rfl, rfl, rfl, rfl, rfl, rfl, rfl, rfl, rfl, rfl, rfl, rfl, rfl⟩) (.inl ⟨rfl, rfl, rfl⟩) (.inl ⟨rfl, rfl, rfl, rfl, rfl⟩) (.inl rfl) (.inl rfl) (.inl ⟨rfl, rfl⟩) (.inl ⟨rfl, rfl, rfl, rfl, rfl, rfl, rfl, rfl, rfl, rfl, rfl, rfl, rfl⟩) (.inl rfl) (.inl rfl) (.inl ⟨rfl, rfl, rfl⟩) (.inl rfl)

theorem mapWrite_frame (s : State) (a1 : Region) (a2 : Nat) (a3 : BitVec 144) : Frame touches47 s (State.mapWrite s a1 a2 a3) := by
  have hs := Frame.refl touches47 s
  unfold State.mapWrite
  extract_lets -merge -useContext -underBinder x0 x1
  have h2 : Frame touches47 s x0 := by
    unfold x0
    refine Frame.after ?_ (Frame.mono rfl (setLmap_frame _ _ _ _))
    exact hs
  clear_value x0
  refine Frame.ite (fun _ => ?_) (fun _ => ?_)
  · exact Frame.upd h2 (.inl rfl) (.inl rfl) (.inl ⟨rfl, rfl⟩) (.inl rfl) (.inl rfl) (.inl rfl) (.inl rfl) (.inl rfl) (.inl rfl) (.inl rfl) (.inl ⟨rfl, rfl, rfl⟩) (.inl rfl) (.inl ⟨rfl, rfl, rfl⟩) (.inl ⟨rfl, rfl⟩) (.inl ⟨rfl, rfl, rfl, rfl, rfl, rfl, rfl, rfl⟩) (.inl ⟨rfl, rfl⟩) (.inl ⟨rfl, rfl, rfl, rfl, rfl, rfl, rfl, rfl, rfl, rfl⟩) (.inl ⟨rfl, rfl⟩) (.inl ⟨rfl, rfl⟩) (.inl rfl) (.inl rfl) (.inl rfl) (.inl rfl) (.inl ⟨rfl, rfl, rfl, rfl, rfl, rfl, rfl, rfl, rfl⟩) (.inl ⟨rfl, rfl, rfl, rfl, rfl, rfl, rfl, rfl, rfl⟩) (.inl ⟨rfl, rfl, rfl⟩) (.inl ⟨rfl, rfl, rfl, rfl, rfl, rfl, rfl, rfl, rfl, rfl, rfl, rfl, rfl, rfl, rfl, rfl, rfl, rfl, rfl, rfl, rfl, rfl, rfl, rfl, rfl, rfl, rfl⟩) (.inl ⟨rfl, rfl, rfl, rfl, rfl, rfl, rfl, rfl, rfl, rfl, rfl, rfl⟩) (.inl ⟨rfl, rfl, rfl, rfl, rfl, rfl, rfl, rfl, rfl⟩) (.inl ⟨rfl, rfl, rfl⟩) (.inl ⟨rfl, rfl, rfl⟩) (.inl ⟨rfl, rfl, rfl, rfl, rfl, rfl, rfl, rfl, rfl⟩) (.inl rfl) (.inl rfl) (.inr rfl) (.inl rfl) (.inl ⟨rfl, rfl⟩) (.inl ⟨rfl, rfl⟩) (.inl rfl) (.inl ⟨rfl, rfl, rfl, rfl, rfl⟩) (.inl ⟨rfl, rfl⟩) (.inl ⟨rfl, rfl, rfl, rfl⟩) (.inl ⟨rfl, rfl, rfl⟩) (.inl rfl) (.inl ⟨rfl, rfl⟩) (.inl ⟨rfl, rfl, rfl, rfl, rfl, rfl, rfl⟩) (.inl ⟨rfl, rfl, rfl, rfl, rfl⟩) (.inl rfl) (.inl ⟨rfl, rfl, rfl, rfl, rfl, rfl⟩) (.inl ⟨rfl, rfl, rfl, rfl, rfl, rfl, rfl, rfl, rfl, rfl, rfl⟩) (.inl ⟨rfl, rfl, rfl, rfl⟩) (.inl rfl) (.inl rfl) (.inl ⟨rfl, rfl, rfl, rfl, rfl, rfl, rfl, rfl, rfl, rfl, rfl, rfl⟩) (.inl ⟨rfl, rfl⟩) (.inl ⟨rfl, rfl, rfl, rfl, rfl, rfl⟩) (.inl ⟨rfl, rfl, rfl, rfl, rfl, rfl⟩) (.inl ⟨rfl, rfl, rfl, rfl, rfl, rfl, rfl, rfl, rfl, rfl, rfl, rfl⟩) (.inl ⟨rfl, rfl, rfl⟩) (.inl ⟨rfl, rfl, rfl, rfl⟩) (.inl ⟨rfl, rfl, rfl, rfl, rfl⟩) (.inl ⟨rfl, rfl, rfl, rfl, rfl, rfl, rfl, rfl, rfl, rfl⟩) (.inl ⟨rfl, rfl, rfl, rfl, rfl, rfl, rfl, rfl, rfl⟩) (.inr rfl) (.inl ⟨rfl, rfl, rfl⟩) (.inl ⟨rfl, rfl, rfl, rfl, rfl⟩) (.inl rfl) (.inl rfl) (.inl ⟨rfl, rfl⟩) (.inl ⟨rfl, rfl, rfl, rfl, rfl, rfl, rfl, rfl, rfl, rfl, rfl, rfl, rfl⟩) (.inl rfl) (.inl rfl) (.inl ⟨rfl, rfl, rfl⟩) (.inl rfl)
  · exact h2

theorem mapSettle_frame (s : State) (a1 : Region) : Frame touches47 s (State.mapSettle s a1) := by
  have hs := Frame.refl touches47 s
  unfold State.mapSettle
  refine Frame.foldl ?_ (fun x0 y1 h2 => ?_)
  · exact hs
  · split
    · refine Frame.ite (fun _ => ?_) (fun _ => ?_)
      · refine Frame.after ?_ (Frame.mono rfl (mapWrite_frame _ _ _ _))
        exact h2
      · exact h2
    · exact h2

theorem mapsSettle_frame (s : State) : Frame touches47 s (State.mapsSettle s) := by
  have hs := Frame.refl touches47 s
  unfold State.mapsSettle
  refine Frame.foldl ?_ (fun x0 y1 h2 => ?_)
  · exact hs
  · refine Frame.after ?_ (Frame.mono rfl (mapSettle_frame _ _))
    exact h2

theorem updateMap_frame (s : State) (a1 : Region) (a2 : Nat) (a3 : Bool) : Frame touches59 s (State.updateMap s a1 a2 a3) := by
  have hs := Frame.refl touches59 s
  unfold State.updateMap
  extract_lets -merge -useContext -underBinder x0 x1
  clear_value x0
  clear_value x1
  refine Frame.ite (fun _ => ?_) (fun _ => ?_)
  · exact hs
  · split
    · extract_lets -merge -useContext -underBinder x2 x3 x4 x5 x6
      clear_value x2
      clear_value x3
      clear_value x4
      clear_value x5
      clear_value x6
      refine Frame.ite (fun _ => ?_) (fun _ => ?_)
      · exact hs
      · split
        · rename_i z7 z8 z9 z10
          have h11 : Frame touches59 s z8 := Frame.pair z10 (by
              split
              · dsimp only
                exact hs
              · split
                · dsimp only
                  refine Frame.after ?_ (Frame.mono rfl (mapWrite_frame _ _ _ _))
                  exact hs
                · dsimp only
                  exact hs)
          extract_lets -merge -useContext -underBinder x12
          clear_value x12
          split
          · extract_lets -merge -useContext -underBinder x13
            have h14 : Frame touches59 s x13 := by
              unfold x13
              refine Frame.ite (fun _ => ?_) (fun _ => ?_)
              · refine Frame.after ?_ (Frame.mono rfl (cnt_frame _ _))
                exact h11
              · exact h11
            clear_value x13
            refine Frame.ite (fun _ => ?_) (fun _ => ?_)
            · exact h14
            · refine Frame.after ?_ (Frame.mono rfl (cnt_frame _ _))
              refine Frame.after ?_ (Frame.mono rfl (nodeUpd_frame _ _ _))
              exact h14

theorem writeRoute_frame (s : State) (a1 : Nat) (a2 : Rec) (a3 : Bool × Nat) (a4 : Nat) : Frame touches38 s (State.writeRoute s a1 a2 a3 a4) := by
  have hs := Frame.refl touches38 s
  unfold State.writeRoute
  extract_lets -merge -useContext -underBinder x0 x1
  have h2 : Frame touches38 s x0 := by
    unfold x0
    refine Frame.after ?_ (Frame.mono rfl (learnPut_frame _ _ _ _))
    exact hs
  clear_value x0
  clear_value x1
  split
  · refine Frame.after ?_ (Frame.mono rfl (learnPut_frame _ _ _ _))
    exact h2
  · exact h2

theorem routeRecord_frame (s : State) (a1 : Nat) (a2 : Nat) (a3 : Int) : Frame touches22 s (State.routeRecord s a1 a2 a3) := by
  have hs := Frame.refl touches22 s
  unfold State.routeRecord
  extract_lets -merge -useContext -underBinder x0
  refine Frame.after ?_ (Frame.mono rfl (nodeUpd_frame _ _ _))
  exact hs

theorem learn_frame (s : State) (a1 : Nat) (a2 : Nat) (a3 : Nat) (a4 : Nat) (a5 : Nat) (a6 : Int) : Frame touches228 s (State.learn s a1 a2 a3 a4 a5 a6) := by
  have hs := Frame.refl touches228 s
  unfold State.learn
  extract_lets -merge -useContext -underBinder x0
  clear_value x0
  split
  · rename_i z1 z2 z3 z4
    have h5 : Frame touches228 s z2 := Frame.pair z4 (by
        refine Frame.after ?_ (Frame.mono rfl (learnLookup_frame _ _ _ _))
        exact hs)
    split
    · split
      · rename_i z6 z7 z8 z9
        have h10 : Frame touches228 s z7 := Frame.pair z9 (by
            refine Frame.after ?_ (Frame.mono rfl (learnInsert_frame _ _ _))
            exact h5)
        refine Frame.ite (fun _ => ?_) (fun _ => ?_)
        · refine Frame.after ?_ (Frame.mono rfl (routeRecord_frame _ _ _ _))
          exact h10
        · exact h10
    · extract_lets -merge -useContext -underBinder x11 x12
      clear_value x11
      refine Frame.ite (fun _ => ?_) (fun _ => ?_)
      · refine Frame.after ?_ (Frame.mono rfl (routeRecord_frame _ _ _ _))
        refine Frame.after ?_ (Frame.mono rfl (writeRoute_frame _ _ _ _ _))
        exact h5
      · refine Frame.ite (fun _ => ?_) (fun _ => ?_)
        · refine Frame.after ?_ (Frame.mono rfl (cnt_frame _ _))
          refine Frame.after ?_ (Frame.mono rfl (nodeUpd_frame _ _ _))
          refine Frame.after ?_ (Frame.mono rfl (routeRecord_frame _ _ _ _))
          refine Frame.after ?_ (Frame.mono rfl (writeRoute_frame _ _ _ _ _))
          exact h5
        · refine Frame.after ?_ (Frame.mono rfl (cnt_frame _ _))
          refine Frame.after ?_ (Frame.mono rfl (nodeUpd_frame _ _ _))
          exact h5

end Sys2Proof
end

