-- ==== Sys2Proof/Laws/FrameKeyOps.lean ====
section
/-! SUPPORT. Laws/FrameKeyOps.lean: what each operation of Machine/KeyOps.lean leaves as it was. -/

namespace Sys2Proof

open Sys2Proof.Machine

theorem raiseStale_frame (s : State) (a1 : Nat) (a2 : Rec) : Frame touches105 s (State.raiseStale s a1 a2) := by
  have hs := Frame.refl touches105 s
  unfold State.raiseStale
  extract_lets -merge -useContext -underBinder x0 x1
  have h2 : Frame touches105 s x1 := by
    unfold x1
    exact Frame.upd hs (.inl rfl) (.inl rfl) (.inr rfl) (.inl rfl) (.inl rfl) (.inl rfl) (.inl rfl) (.inl rfl) (.inl rfl) (.inl rfl) (.inl ⟨rfl, rfl, rfl⟩) (.inl rfl) (.inl ⟨rfl, rfl, rfl⟩) (.inl ⟨rfl, rfl⟩) (.inl ⟨rfl, rfl, rfl, rfl, rfl, rfl, rfl, rfl⟩) (.inl ⟨rfl, rfl⟩) (.inl ⟨rfl, rfl, rfl, rfl, rfl, rfl, rfl, rfl, rfl, rfl⟩) (.inl ⟨rfl, rfl⟩) (.inl ⟨rfl, rfl⟩) (.inl rfl) (.inl rfl) (.inl rfl) (.inl rfl) (.inl ⟨rfl, rfl, rfl, rfl, rfl, rfl, rfl, rfl, rfl⟩) (.inl ⟨rfl, rfl, rfl, rfl, rfl, rfl, rfl, rfl, rfl⟩) (.inl ⟨rfl, rfl, rfl⟩) (.inl ⟨rfl, rfl, rfl, rfl, rfl, rfl, rfl, rfl, rfl, rfl, rfl, rfl, rfl, rfl, rfl, rfl, rfl, rfl, rfl, rfl, rfl, rfl, rfl, rfl, rfl, rfl, rfl⟩) (.inl ⟨rfl, rfl, rfl, rfl, rfl, rfl, rfl, rfl, rfl, rfl, rfl, rfl⟩) (.inl ⟨rfl, rfl, rfl, rfl, rfl, rfl, rfl, rfl, rfl⟩) (.inl ⟨rfl, rfl, rfl⟩) (.inl ⟨rfl, rfl, rfl⟩) (.inl ⟨rfl, rfl, rfl, rfl, rfl, rfl, rfl, rfl, rfl⟩) (.inl rfl) (.inl rfl) (.inl rfl) (.inl rfl) (.inl ⟨rfl, rfl⟩) (.inl ⟨rfl, rfl⟩) (.inl rfl) (.inl ⟨rfl, rfl, rfl, rfl, rfl⟩) (.inl ⟨rfl, rfl⟩) (.inl ⟨rfl, rfl, rfl, rfl⟩) (.inl ⟨rfl, rfl, rfl⟩) (.inr rfl) (.inl ⟨rfl, rfl⟩) (.inl ⟨rfl, rfl, rfl, rfl, rfl, rfl, rfl⟩) (.inl ⟨rfl, rfl, rfl, rfl, rfl⟩) (.inl rfl) (.inl ⟨rfl, rfl, rfl, rfl, rfl, rfl⟩) (.inl ⟨rfl, rfl, rfl, rfl, rfl, rfl, rfl, rfl, rfl, rfl, rfl⟩) (.inl ⟨rfl, rfl, rfl, rfl⟩) (.inl rfl) (.inl rfl) (.inl ⟨rfl, rfl, rfl, rfl, rfl, rfl, rfl, rfl, rfl, rfl, rfl, rfl⟩) (.inl ⟨rfl, rfl⟩) (.inl ⟨rfl, rfl, rfl, rfl, rfl, rfl⟩) (.inl ⟨rfl, rfl, rfl, rfl, rfl, rfl⟩) (.inr rfl) (.inl ⟨rfl, rfl, rfl⟩) (.inl ⟨rfl, rfl, rfl, rfl⟩) (.inl ⟨rfl, rfl, rfl, rfl, rfl⟩) (.inl ⟨rfl, rfl, rfl, rfl, rfl, rfl, rfl, rfl, rfl, rfl⟩) (.inl ⟨rfl, rfl, rfl, rfl, rfl, rfl, rfl, rfl, rfl⟩) (.inl ⟨rfl, rfl, rfl, rfl, rfl, rfl, rfl, rfl, rfl, rfl, rfl, rfl, rfl⟩) (.inl ⟨rfl, rfl, rfl⟩) (.inl ⟨rfl, rfl, rfl, rfl, rfl⟩) (.inl rfl) (.inl rfl) (.inl ⟨rfl, rfl⟩) (.inl ⟨rfl, rfl, rfl, rfl, rfl, rfl, rfl, rfl, rfl, rfl, rfl, rfl, rfl⟩) (.inl rfl) (.inl rfl) (.inl ⟨rfl, rfl, rfl⟩) (.inl rfl)
  clear_value x1
  refine Frame.ite (fun _ => ?_) (fun _ => ?_)
  · exact hs
  · refine Frame.after ?_ (Frame.mono rfl (jobRequest_frame _ _))
    exact h2

theorem frameKey_frame (s : State) (a1 : Nat) : Frame touches106 s (State.frameKey s a1).1 := by
  have hs := Frame.refl touches106 s
  unfold State.frameKey
  split
  · rename_i z0 z1 z2 z3
    have h4 : Frame touches106 s z1 := Frame.pair z3 (by
        refine Frame.after ?_ (Frame.mono rfl (nodeGet_frame _ _))
        exact hs)
    split
    · split
      · refine Frame.iteFst (fun _ => ?_) (fun _ => ?_)
        · dsimp only
          refine Frame.after ?_ (Frame.mono rfl (cnt_frame _ _))
          refine Frame.after ?_ (Frame.mono rfl (raiseStale_frame _ _ _))
          exact h4
        · dsimp only
          exact h4
      · dsimp only
        exact h4
    · dsimp only
      refine Frame.after ?_ (Frame.mono rfl (cnt_frame _ _))
      refine Frame.after ?_ (Frame.mono rfl (stk_frame _ _ _))
      exact h4
    · dsimp only
      exact h4

theorem fcRaise_frame (s : State) (a1 : Nat) : Frame touches22 s (State.fcRaise s a1) := by
  have hs := Frame.refl touches22 s
  unfold State.fcRaise
  extract_lets -merge -useContext -underBinder x0
  clear_value x0
  refine Frame.ite (fun _ => ?_) (fun _ => ?_)
  · refine Frame.after ?_ (Frame.mono rfl (nodeUpd_frame _ _ _))
    exact hs
  · exact hs

theorem fcAsk_frame (s : State) (a1 : Nat) (a2 : Rec) : Frame touches21 s (State.fcAsk s a1 a2) := by
  have hs := Frame.refl touches21 s
  unfold State.fcAsk
  extract_lets -merge -useContext -underBinder x0 x1
  clear_value x0
  refine Frame.ite (fun _ => ?_) (fun _ => ?_)
  · exact Frame.upd hs (.inl rfl) (.inl rfl) (.inl ⟨rfl, rfl⟩) (.inl rfl) (.inl rfl) (.inl rfl) (.inl rfl) (.inl rfl) (.inl rfl) (.inl rfl) (.inl ⟨rfl, rfl, rfl⟩) (.inl rfl) (.inl ⟨rfl, rfl, rfl⟩) (.inl ⟨rfl, rfl⟩) (.inl ⟨rfl, rfl, rfl, rfl, rfl, rfl, rfl, rfl⟩) (.inl ⟨rfl, rfl⟩) (.inl ⟨rfl, rfl, rfl, rfl, rfl, rfl, rfl, rfl, rfl, rfl⟩) (.inl ⟨rfl, rfl⟩) (.inl ⟨rfl, rfl⟩) (.inl rfl) (.inl rfl) (.inl rfl) (.inl rfl) (.inl ⟨rfl, rfl, rfl, rfl, rfl, rfl, rfl, rfl, rfl⟩) (.inl ⟨rfl, rfl, rfl, rfl, rfl, rfl, rfl, rfl, rfl⟩) (.inl ⟨rfl, rfl, rfl⟩) (.inl ⟨rfl, rfl, rfl, rfl, rfl, rfl, rfl, rfl, rfl, rfl, rfl, rfl, rfl, rfl, rfl, rfl, rfl, rfl, rfl, rfl, rfl, rfl, rfl, rfl, rfl, rfl, rfl⟩) (.inl ⟨rfl, rfl, rfl, rfl, rfl, rfl, rfl, rfl, rfl, rfl, rfl, rfl⟩) (.inl ⟨rfl, rfl, rfl, rfl, rfl, rfl, rfl, rfl, rfl⟩) (.inl ⟨rfl, rfl, rfl⟩) (.inl ⟨rfl, rfl, rfl⟩) (.inl ⟨rfl, rfl, rfl, rfl, rfl, rfl, rfl, rfl, rfl⟩) (.inl rfl) (.inl rfl) (.inl rfl) (.inl rfl) (.inl ⟨rfl, rfl⟩) (.inl ⟨rfl, rfl⟩) (.inl rfl) (.inl ⟨rfl, rfl, rfl, rfl, rfl⟩) (.inl ⟨rfl, rfl⟩) (.inl ⟨rfl, rfl, rfl, rfl⟩) (.inl ⟨rfl, rfl, rfl⟩) (.inl rfl) (.inl ⟨rfl, rfl⟩) (.inl ⟨rfl, rfl, rfl, rfl, rfl, rfl, rfl⟩) (.inl ⟨rfl, rfl, rfl, rfl, rfl⟩) (.inl rfl) (.inl ⟨rfl, rfl, rfl, rfl, rfl, rfl⟩) (.inl ⟨rfl, rfl, rfl, rfl, rfl, rfl, rfl, rfl, rfl, rfl, rfl⟩) (.inl ⟨rfl, rfl, rfl, rfl⟩) (.inl rfl) (.inl rfl) (.inl ⟨rfl, rfl, rfl, rfl, rfl, rfl, rfl, rfl, rfl, rfl, rfl, rfl⟩) (.inl ⟨rfl, rfl⟩) (.inl ⟨rfl, rfl, rfl, rfl, rfl, rfl⟩) (.inl ⟨rfl, rfl, rfl, rfl, rfl, rfl⟩) (.inl ⟨rfl, rfl, rfl, rfl, rfl, rfl, rfl, rfl, rfl, rfl, rfl, rfl⟩) (.inl ⟨rfl, rfl, rfl⟩) (.inl ⟨rfl, rfl, rfl, rfl⟩) (.inl ⟨rfl, rfl, rfl, rfl, rfl⟩) (.inl ⟨rfl, rfl, rfl, rfl, rfl, rfl, rfl, rfl, rfl, rfl⟩) (.inl ⟨rfl, rfl, rfl, rfl, rfl, rfl, rfl, rfl, rfl⟩) (.inr rfl) (.inl ⟨rfl, rfl, rfl⟩) (.inl ⟨rfl, rfl, rfl, rfl, rfl⟩) (.inl rfl) (.inl rfl) (.inl ⟨rfl, rfl⟩) (.inl ⟨rfl, rfl, rfl, rfl, rfl, rfl, rfl, rfl, rfl, rfl, rfl, rfl, rfl⟩) (.inl rfl) (.inl rfl) (.inl ⟨rfl, rfl, rfl⟩) (.inl rfl)
  · exact hs

theorem fcTake_frame (s : State) (a1 : Nat) : Frame touches22 s (State.fcTake s a1).1 := by
  have hs := Frame.refl touches22 s
  unfold State.fcTake
  extract_lets -merge -useContext -underBinder x0 x1 x2 x3 x4 x5
  have h6 : Frame touches22 s x0 := by
    unfold x0
    refine Frame.after ?_ (Frame.mono rfl (fcRaise_frame _ _))
    refine Frame.after ?_ (Frame.mono rfl (nodeFill_frame _ _))
    exact hs
  clear_value x0
  clear_value x1
  have h7 : Frame touches22 s x4 := by
    unfold x4
    exact Frame.upd h6 (.inl rfl) (.inl rfl) (.inr rfl) (.inl rfl) (.inl rfl) (.inl rfl) (.inl rfl) (.inl rfl) (.inl rfl) (.inl rfl) (.inl ⟨rfl, rfl, rfl⟩) (.inl rfl) (.inl ⟨rfl, rfl, rfl⟩) (.inl ⟨rfl, rfl⟩) (.inl ⟨rfl, rfl, rfl, rfl, rfl, rfl, rfl, rfl⟩) (.inl ⟨rfl, rfl⟩) (.inl ⟨rfl, rfl, rfl, rfl, rfl, rfl, rfl, rfl, rfl, rfl⟩) (.inl ⟨rfl, rfl⟩) (.inl ⟨rfl, rfl⟩) (.inl rfl) (.inl rfl) (.inl rfl) (.inl rfl) (.inl ⟨rfl, rfl, rfl, rfl, rfl, rfl, rfl, rfl, rfl⟩) (.inl ⟨rfl, rfl, rfl, rfl, rfl, rfl, rfl, rfl, rfl⟩) (.inl ⟨rfl, rfl, rfl⟩) (.inl ⟨rfl, rfl, rfl, rfl, rfl, rfl, rfl, rfl, rfl, rfl, rfl, rfl, rfl, rfl, rfl, rfl, rfl, rfl, rfl, rfl, rfl, rfl, rfl, rfl, rfl, rfl, rfl⟩) (.inl ⟨rfl, rfl, rfl, rfl, rfl, rfl, rfl, rfl, rfl, rfl, rfl, rfl⟩) (.inl ⟨rfl, rfl, rfl, rfl, rfl, rfl, rfl, rfl, rfl⟩) (.inl ⟨rfl, rfl, rfl⟩) (.inl ⟨rfl, rfl, rfl⟩) (.inl ⟨rfl, rfl, rfl, rfl, rfl, rfl, rfl, rfl, rfl⟩) (.inl rfl) (.inl rfl) (.inl rfl) (.inl rfl) (.inl ⟨rfl, rfl⟩) (.inl ⟨rfl, rfl⟩) (.inl rfl) (.inl ⟨rfl, rfl, rfl, rfl, rfl⟩) (.inr rfl) (.inl ⟨rfl, rfl, rfl, rfl⟩) (.inl ⟨rfl, rfl, rfl⟩) (.inl rfl) (.inl ⟨rfl, rfl⟩) (.inl ⟨rfl, rfl, rfl, rfl, rfl, rfl, rfl⟩) (.inl ⟨rfl, rfl, rfl, rfl, rfl⟩) (.inl rfl) (.inl ⟨rfl, rfl, rfl, rfl, rfl, rfl⟩) (.inl ⟨rfl, rfl, rfl, rfl, rfl, rfl, rfl, rfl, rfl, rfl, rfl⟩) (.inl ⟨rfl, rfl, rfl, rfl⟩) (.inl rfl) (.inr rfl) (.inl ⟨rfl, rfl, rfl, rfl, rfl, rfl, rfl, rfl, rfl, rfl, rfl, rfl⟩) (.inl ⟨rfl, rfl⟩) (.inl ⟨rfl, rfl, rfl, rfl, rfl, rfl⟩) (.inl ⟨rfl, rfl, rfl, rfl, rfl, rfl⟩) (.inl ⟨rfl, rfl, rfl, rfl, rfl, rfl, rfl, rfl, rfl, rfl, rfl, rfl⟩) (.inl ⟨rfl, rfl, rfl⟩) (.inl ⟨rfl, rfl, rfl, rfl⟩) (.inl ⟨rfl, rfl, rfl, rfl, rfl⟩) (.inl ⟨rfl, rfl, rfl, rfl, rfl, rfl, rfl, rfl, rfl, rfl⟩) (.inl ⟨rfl, rfl, rfl, rfl, rfl, rfl, rfl, rfl, rfl⟩) (.inr rfl) (.inl ⟨rfl, rfl, rfl⟩) (.inl ⟨rfl, rfl, rfl, rfl, rfl⟩) (.inl rfl) (.inl rfl) (.inr rfl) (.inr rfl) (.inl rfl) (.inl rfl) (.inl ⟨rfl, rfl, rfl⟩) (.inl rfl)
  clear_value x4
  have h8 : Frame touches22 s x5 := by
    unfold x5
    refine Frame.after ?_ (Frame.mono rfl (nodeUpd_frame _ _ _))
    exact h7
  clear_value x5
  refine Frame.iteFst (fun _ => ?_) (fun _ => ?_)
  · dsimp only
    refine Frame.after ?_ (Frame.mono rfl (stk_frame _ _ _))
    exact h6
  · refine Frame.iteFst (fun _ => ?_) (fun _ => ?_)
    · dsimp only
      exact h6
    · refine Frame.iteFst (fun _ => ?_) (fun _ => ?_)
      · dsimp only
        refine Frame.after ?_ (Frame.mono rfl (fcAsk_frame _ _ _))
        exact h6
      · dsimp only
        refine Frame.after ?_ (when_frame rfl _ _ ?_)
        · exact h8
        · intro y9
          have h10 := Frame.refl touches22 y9
          refine Frame.after ?_ (Frame.mono rfl (stk_frame _ _ _))
          exact h10

theorem formData_frame (s : State) (a1 : Nat) (a2 : Option Byte) (a3 : Bytes) (a4 : Bool) (a5 : Bool) : Frame touches107 s (State.formData s a1 a2 a3 a4 a5).1 := by
  have hs := Frame.refl touches107 s
  unfold State.formData
  split
  · rename_i z0 z1 z2 z3
    have h4 : Frame touches107 s z1 := Frame.pair z3 (by
        refine Frame.after ?_ (Frame.mono rfl (nodeGet_frame _ _))
        exact hs)
    extract_lets -merge -useContext -underBinder x5 x6
    clear_value x5
    have h7 : Frame touches107 s x6 := by
      unfold x6
      refine Frame.ite (fun _ => ?_) (fun _ => ?_)
      · refine Frame.after ?_ (Frame.mono rfl (nodeUpd_frame _ _ _))
        exact h4
      · exact h4
    clear_value x6
    split
    · rename_i z8 z9 z10 z11
      have h12 : Frame touches107 s z9 := Frame.pair z11 (by
          refine Frame.after ?_ (Frame.mono rfl (frameKey_frame _ _))
          exact h7)
      split
      · dsimp only
        exact h12
      · split
        · rename_i z13 z14 z15 z16
          have h17 : Frame touches107 s z14 := Frame.pair z16 (by
              refine Frame.after ?_ (Frame.mono rfl (fcTake_frame _ _))
              exact h12)
          split
          · dsimp only
            exact h17
          · extract_lets -merge -useContext -underBinder x18
            clear_value x18
            dsimp only
            exact h17

end Sys2Proof
end

