-- ==== Sys2Proof/Laws/FramePorchOps.lean ====
section
/-! SUPPORT. Laws/FramePorchOps.lean: what each operation of Machine/PorchOps.lean leaves as it was. -/

namespace Sys2Proof

open Sys2Proof.Machine

theorem unbook_frame (s : State) (a1 : Nat) : Frame touches24 s (State.unbook s a1) := by
  have hs := Frame.refl touches24 s
  unfold State.unbook
  extract_lets -merge -useContext -underBinder x0
  exact Frame.upd hs (.inl rfl) (.inl rfl) (.inl ⟨rfl, rfl⟩) (.inl rfl) (.inl rfl) (.inl rfl) (.inl rfl) (.inl rfl) (.inl rfl) (.inl rfl) (.inl ⟨rfl, rfl, rfl⟩) (.inl rfl) (.inl ⟨rfl, rfl, rfl⟩) (.inl ⟨rfl, rfl⟩) (.inl ⟨rfl, rfl, rfl, rfl, rfl, rfl, rfl, rfl⟩) (.inl ⟨rfl, rfl⟩) (.inl ⟨rfl, rfl, rfl, rfl, rfl, rfl, rfl, rfl, rfl, rfl⟩) (.inl ⟨rfl, rfl⟩) (.inl ⟨rfl, rfl⟩) (.inl rfl) (.inl rfl) (.inl rfl) (.inl rfl) (.inl ⟨rfl, rfl, rfl, rfl, rfl, rfl, rfl, rfl, rfl⟩) (.inl ⟨rfl, rfl, rfl, rfl, rfl, rfl, rfl, rfl, rfl⟩) (.inl ⟨rfl, rfl, rfl⟩) (.inl ⟨rfl, rfl, rfl, rfl, rfl, rfl, rfl, rfl, rfl, rfl, rfl, rfl, rfl, rfl, rfl, rfl, rfl, rfl, rfl, rfl, rfl, rfl, rfl, rfl, rfl, rfl, rfl⟩) (.inl ⟨rfl, rfl, rfl, rfl, rfl, rfl, rfl, rfl, rfl, rfl, rfl, rfl⟩) (.inl ⟨rfl, rfl, rfl, rfl, rfl, rfl, rfl, rfl, rfl⟩) (.inl ⟨rfl, rfl, rfl⟩) (.inl ⟨rfl, rfl, rfl⟩) (.inl ⟨rfl, rfl, rfl, rfl, rfl, rfl, rfl, rfl, rfl⟩) (.inl rfl) (.inl rfl) (.inl rfl) (.inl rfl) (.inr rfl) (.inr rfl) (.inl rfl) (.inl ⟨rfl, rfl, rfl, rfl, rfl⟩) (.inl ⟨rfl, rfl⟩) (.inl ⟨rfl, rfl, rfl, rfl⟩) (.inl ⟨rfl, rfl, rfl⟩) (.inl rfl) (.inl ⟨rfl, rfl⟩) (.inl ⟨rfl, rfl, rfl, rfl, rfl, rfl, rfl⟩) (.inl ⟨rfl, rfl, rfl, rfl, rfl⟩) (.inl rfl) (.inl ⟨rfl, rfl, rfl, rfl, rfl, rfl⟩) (.inl ⟨rfl, rfl, rfl, rfl, rfl, rfl, rfl, rfl, rfl, rfl, rfl⟩) (.inl ⟨rfl, rfl, rfl, rfl⟩) (.inl rfl) (.inl rfl) (.inl ⟨rfl, rfl, rfl, rfl, rfl, rfl, rfl, rfl, rfl, rfl, rfl, rfl⟩) (.inl ⟨rfl, rfl⟩) (.inl ⟨rfl, rfl, rfl, rfl, rfl, rfl⟩) (.inl ⟨rfl, rfl, rfl, rfl, rfl, rfl⟩) (.inl ⟨rfl, rfl, rfl, rfl, rfl, rfl, rfl, rfl, rfl, rfl, rfl, rfl⟩) (.inl ⟨rfl, rfl, rfl⟩) (.inl ⟨rfl, rfl, rfl, rfl⟩) (.inl ⟨rfl, rfl, rfl, rfl, rfl⟩) (.inl ⟨rfl, rfl, rfl, rfl, rfl, rfl, rfl, rfl, rfl, rfl⟩) (.inl ⟨rfl, rfl, rfl, rfl, rfl, rfl, rfl, rfl, rfl⟩) (.inl ⟨rfl, rfl, rfl, rfl, rfl, rfl, rfl, rfl, rfl, rfl, rfl, rfl, rfl⟩) (.inl ⟨rfl, rfl, rfl⟩) (.inl ⟨rfl, rfl, rfl, rfl, rfl⟩) (.inl rfl) (.inl rfl) (.inl ⟨rfl, rfl⟩) (.inl ⟨rfl, rfl, rfl, rfl, rfl, rfl, rfl, rfl, rfl, rfl, rfl, rfl, rfl⟩) (.inl rfl) (.inl rfl) (.inl ⟨rfl, rfl, rfl⟩) (.inl rfl)

theorem frameOut_frame (s : State) (a1 : Nat) (a2 : Nat) : Frame touches25 s (State.frameOut s a1 a2) := by
  have hs := Frame.refl touches25 s
  unfold State.frameOut
  split
  · exact hs
  · refine Frame.after ?_ (Frame.mono rfl (completeFrame_frame _ _ _))
    refine Frame.after ?_ (Frame.mono rfl (setQueue_frame _ _ _))
    refine Frame.after ?_ (Frame.mono rfl (unbook_frame _ _))
    exact hs

theorem frameExpire_frame (s : State) (a1 : Nat) : Frame touches25 s (State.frameExpire s a1) := by
  have hs := Frame.refl touches25 s
  unfold State.frameExpire
  split
  · exact hs
  · refine Frame.after ?_ (Frame.mono rfl (frameOut_frame _ _ _))
    refine Frame.after ?_ (Frame.mono rfl (cnt_frame _ _))
    exact hs

theorem restamp_frame (s : State) (a1 : Nat) (a2 : DlFrame) (a3 : Region) (a4 : Option (Nat × Nat)) (a5 : Nat) : Frame touches23 s (State.restamp s a1 a2 a3 a4 a5) := by
  have hs := Frame.refl touches23 s
  unfold State.restamp
  refine Frame.ite (fun _ => ?_) (fun _ => ?_)
  · exact hs
  · split
    · rename_i z0 z1 z2 z3
      have h4 : Frame touches23 s z1 := Frame.pair z3 (by
          refine Frame.after ?_ (Frame.mono rfl (stamp_frame _ _ _ _ _))
          exact hs)
      refine Frame.after ?_ (Frame.mono rfl (cnt_frame _ _))
      refine Frame.after ?_ (Frame.mono rfl (setHead_frame _ _ _))
      exact h4

theorem macUpd_frame (s : State) (a1 : Nat) (a2 : Rec → Rec) : Frame touches22 s (State.macUpd s a1 a2) := by
  have hs := Frame.refl touches22 s
  unfold State.macUpd
  refine Frame.ite (fun _ => ?_) (fun _ => ?_)
  · refine Frame.after ?_ (Frame.mono rfl (nodeUpd_frame _ _ _))
    exact hs
  · exact hs

theorem countPlan_frame (s : State) (a1 : Nat) (a2 : Region) (a3 : PreMode) : Frame touches22 s (State.countPlan s a1 a2 a3) := by
  have hs := Frame.refl touches22 s
  unfold State.countPlan
  split
  · refine Frame.after ?_ (Frame.mono rfl (cnt_frame _ _))
    refine Frame.after ?_ (Frame.mono rfl (macUpd_frame _ _ _))
    exact hs
  · refine Frame.after ?_ (Frame.mono rfl (cnt_frame _ _))
    refine Frame.after ?_ (Frame.mono rfl (nodeUpd_frame _ _ _))
    refine Frame.after ?_ (Frame.mono rfl (macUpd_frame _ _ _))
    exact hs
  · refine Frame.after ?_ (Frame.mono rfl (cnt_frame _ _))
    refine Frame.after ?_ (Frame.mono rfl (macUpd_frame _ _ _))
    exact hs
  · refine Frame.after ?_ (Frame.mono rfl (cnt_frame _ _))
    refine Frame.after ?_ (Frame.mono rfl (macUpd_frame _ _ _))
    exact hs
  · refine Frame.after ?_ (Frame.mono rfl (cnt_frame _ _))
    exact hs

theorem park_frame (s : State) (a1 : Nat) : Frame touches30 s (State.park s a1) := by
  have hs := Frame.refl touches30 s
  unfold State.park
  extract_lets -merge -useContext -underBinder x0
  exact Frame.upd hs (.inl rfl) (.inl rfl) (.inl ⟨rfl, rfl⟩) (.inl rfl) (.inl rfl) (.inl rfl) (.inl rfl) (.inl rfl) (.inl rfl) (.inl rfl) (.inl ⟨rfl, rfl, rfl⟩) (.inl rfl) (.inl ⟨rfl, rfl, rfl⟩) (.inl ⟨rfl, rfl⟩) (.inl ⟨rfl, rfl, rfl, rfl, rfl, rfl, rfl, rfl⟩) (.inl ⟨rfl, rfl⟩) (.inl ⟨rfl, rfl, rfl, rfl, rfl, rfl, rfl, rfl, rfl, rfl⟩) (.inl ⟨rfl, rfl⟩) (.inl ⟨rfl, rfl⟩) (.inl rfl) (.inl rfl) (.inl rfl) (.inl rfl) (.inl ⟨rfl, rfl, rfl, rfl, rfl, rfl, rfl, rfl, rfl⟩) (.inl ⟨rfl, rfl, rfl, rfl, rfl, rfl, rfl, rfl, rfl⟩) (.inl ⟨rfl, rfl, rfl⟩) (.inl ⟨rfl, rfl, rfl, rfl, rfl, rfl, rfl, rfl, rfl, rfl, rfl, rfl, rfl, rfl, rfl, rfl, rfl, rfl, rfl, rfl, rfl, rfl, rfl, rfl, rfl, rfl, rfl⟩) (.inl ⟨rfl, rfl, rfl, rfl, rfl, rfl, rfl, rfl, rfl, rfl, rfl, rfl⟩) (.inl ⟨rfl, rfl, rfl, rfl, rfl, rfl, rfl, rfl, rfl⟩) (.inl ⟨rfl, rfl, rfl⟩) (.inl ⟨rfl, rfl, rfl⟩) (.inl ⟨rfl, rfl, rfl, rfl, rfl, rfl, rfl, rfl, rfl⟩) (.inl rfl) (.inl rfl) (.inl rfl) (.inl rfl) (.inr rfl) (.inl ⟨rfl, rfl⟩) (.inl rfl) (.inl ⟨rfl, rfl, rfl, rfl, rfl⟩) (.inl ⟨rfl, rfl⟩) (.inl ⟨rfl, rfl, rfl, rfl⟩) (.inl ⟨rfl, rfl, rfl⟩) (.inl rfl) (.inl ⟨rfl, rfl⟩) (.inl ⟨rfl, rfl, rfl, rfl, rfl, rfl, rfl⟩) (.inl ⟨rfl, rfl, rfl, rfl, rfl⟩) (.inl rfl) (.inl ⟨rfl, rfl, rfl, rfl, rfl, rfl⟩) (.inl ⟨rfl, rfl, rfl, rfl, rfl, rfl, rfl, rfl, rfl, rfl, rfl⟩) (.inl ⟨rfl, rfl, rfl, rfl⟩) (.inl rfl) (.inl rfl) (.inl ⟨rfl, rfl, rfl, rfl, rfl, rfl, rfl, rfl, rfl, rfl, rfl, rfl⟩) (.inl ⟨rfl, rfl⟩) (.inl ⟨rfl, rfl, rfl, rfl, rfl, rfl⟩) (.inl ⟨rfl, rfl, rfl, rfl, rfl, rfl⟩) (.inl ⟨rfl, rfl, rfl, rfl, rfl, rfl, rfl, rfl, rfl, rfl, rfl, rfl⟩) (.inl ⟨rfl, rfl, rfl⟩) (.inl ⟨rfl, rfl, rfl, rfl⟩) (.inl ⟨rfl, rfl, rfl, rfl, rfl⟩) (.inl ⟨rfl, rfl, rfl, rfl, rfl, rfl, rfl, rfl, rfl, rfl⟩) (.inl ⟨rfl, rfl, rfl, rfl, rfl, rfl, rfl, rfl, rfl⟩) (.inl ⟨rfl, rfl, rfl, rfl, rfl, rfl, rfl, rfl, rfl, rfl, rfl, rfl, rfl⟩) (.inl ⟨rfl, rfl, rfl⟩) (.inl ⟨rfl, rfl, rfl, rfl, rfl⟩) (.inl rfl) (.inl rfl) (.inl ⟨rfl, rfl⟩) (.inl ⟨rfl, rfl, rfl, rfl, rfl, rfl, rfl, rfl, rfl, rfl, rfl, rfl, rfl⟩) (.inl rfl) (.inl rfl) (.inl ⟨rfl, rfl, rfl⟩) (.inl rfl)

theorem place_frame (s : State) (a1 : Nat) (a2 : Booking) : Frame touches31 s (State.place s a1 a2) := by
  have hs := Frame.refl touches31 s
  unfold State.place
  extract_lets -merge -useContext -underBinder x0 x1 x2
  have h3 : Frame touches31 s x1 := by
    unfold x1
    exact Frame.upd hs (.inl rfl) (.inl rfl) (.inr rfl) (.inl rfl) (.inl rfl) (.inl rfl) (.inl rfl) (.inl rfl) (.inl rfl) (.inl rfl) (.inl ⟨rfl, rfl, rfl⟩) (.inl rfl) (.inl ⟨rfl, rfl, rfl⟩) (.inl ⟨rfl, rfl⟩) (.inl ⟨rfl, rfl, rfl, rfl, rfl, rfl, rfl, rfl⟩) (.inl ⟨rfl, rfl⟩) (.inl ⟨rfl, rfl, rfl, rfl, rfl, rfl, rfl, rfl, rfl, rfl⟩) (.inl ⟨rfl, rfl⟩) (.inl ⟨rfl, rfl⟩) (.inl rfl) (.inl rfl) (.inl rfl) (.inl rfl) (.inl ⟨rfl, rfl, rfl, rfl, rfl, rfl, rfl, rfl, rfl⟩) (.inl ⟨rfl, rfl, rfl, rfl, rfl, rfl, rfl, rfl, rfl⟩) (.inl ⟨rfl, rfl, rfl⟩) (.inl ⟨rfl, rfl, rfl, rfl, rfl, rfl, rfl, rfl, rfl, rfl, rfl, rfl, rfl, rfl, rfl, rfl, rfl, rfl, rfl, rfl, rfl, rfl, rfl, rfl, rfl, rfl, rfl⟩) (.inl ⟨rfl, rfl, rfl, rfl, rfl, rfl, rfl, rfl, rfl, rfl, rfl, rfl⟩) (.inl ⟨rfl, rfl, rfl, rfl, rfl, rfl, rfl, rfl, rfl⟩) (.inl ⟨rfl, rfl, rfl⟩) (.inl ⟨rfl, rfl, rfl⟩) (.inl ⟨rfl, rfl, rfl, rfl, rfl, rfl, rfl, rfl, rfl⟩) (.inl rfl) (.inl rfl) (.inl rfl) (.inl rfl) (.inr rfl) (.inl ⟨rfl, rfl⟩) (.inl rfl) (.inl ⟨rfl, rfl, rfl, rfl, rfl⟩) (.inl ⟨rfl, rfl⟩) (.inl ⟨rfl, rfl, rfl, rfl⟩) (.inl ⟨rfl, rfl, rfl⟩) (.inl rfl) (.inl ⟨rfl, rfl⟩) (.inl ⟨rfl, rfl, rfl, rfl, rfl, rfl, rfl⟩) (.inl ⟨rfl, rfl, rfl, rfl, rfl⟩) (.inl rfl) (.inl ⟨rfl, rfl, rfl, rfl, rfl, rfl⟩) (.inl ⟨rfl, rfl, rfl, rfl, rfl, rfl, rfl, rfl, rfl, rfl, rfl⟩) (.inl ⟨rfl, rfl, rfl, rfl⟩) (.inl rfl) (.inl rfl) (.inl ⟨rfl, rfl, rfl, rfl, rfl, rfl, rfl, rfl, rfl, rfl, rfl, rfl⟩) (.inl ⟨rfl, rfl⟩) (.inl ⟨rfl, rfl, rfl, rfl, rfl, rfl⟩) (.inl ⟨rfl, rfl, rfl, rfl, rfl, rfl⟩) (.inl ⟨rfl, rfl, rfl, rfl, rfl, rfl, rfl, rfl, rfl, rfl, rfl, rfl⟩) (.inl ⟨rfl, rfl, rfl⟩) (.inl ⟨rfl, rfl, rfl, rfl⟩) (.inl ⟨rfl, rfl, rfl, rfl, rfl⟩) (.inl ⟨rfl, rfl, rfl, rfl, rfl, rfl, rfl, rfl, rfl, rfl⟩) (.inl ⟨rfl, rfl, rfl, rfl, rfl, rfl, rfl, rfl, rfl⟩) (.inl ⟨rfl, rfl, rfl, rfl, rfl, rfl, rfl, rfl, rfl, rfl, rfl, rfl, rfl⟩) (.inl ⟨rfl, rfl, rfl⟩) (.inl ⟨rfl, rfl, rfl, rfl, rfl⟩) (.inl rfl) (.inl rfl) (.inl ⟨rfl, rfl⟩) (.inl ⟨rfl, rfl, rfl, rfl, rfl, rfl, rfl, rfl, rfl, rfl, rfl, rfl, rfl⟩) (.inl rfl) (.inl rfl) (.inl ⟨rfl, rfl, rfl⟩) (.inl rfl)
  clear_value x1
  have h4 : Frame touches31 s x2 := by
    unfold x2
    refine Frame.after ?_ (Frame.mono rfl (setBooking_frame _ _ _))
    exact h3
  clear_value x2
  refine Frame.ite (fun _ => ?_) (fun _ => ?_)
  · refine Frame.after ?_ (Frame.mono rfl (setRf_frame _ _ _ _ _))
    exact h4
  · exact h4

theorem bookHead_frame (s : State) (a1 : Nat) (a2 : Route) (a3 : Bool) : Frame touches32 s (State.bookHead s a1 a2 a3) := by
  have hs := Frame.refl touches32 s
  unfold State.bookHead
  split
  · exact hs
  · extract_lets -merge -useContext -underBinder x0 x1 x2 x3 x4
    have h5 : Frame touches32 s x1 := by
      unfold x1
      refine Frame.ite (fun _ => ?_) (fun _ => ?_)
      · exact hs
      · refine Frame.after ?_ (Frame.mono rfl (restamp_frame _ _ _ _ _ _))
        exact hs
    clear_value x1
    clear_value x2
    clear_value x3
    clear_value x4
    split
    · extract_lets -merge -useContext -underBinder x6 x7 x8
      clear_value x6
      clear_value x7
      have h9 : Frame touches32 s x8 := by
        unfold x8
        refine Frame.after ?_ (Frame.mono rfl (countPlan_frame _ _ _ _))
        exact h5
      clear_value x8
      refine Frame.ite (fun _ => ?_) (fun _ => ?_)
      · refine Frame.after ?_ (Frame.mono rfl (park_frame _ _))
        exact h9
      · refine Frame.after ?_ (Frame.mono rfl (place_frame _ _ _))
        exact h9

theorem calFull_frame (s : State) (a1 : Nat) : Frame touches31 s (State.calFull s a1) := by
  have hs := Frame.refl touches31 s
  unfold State.calFull
  extract_lets -merge -useContext -underBinder x0 x1 x2
  clear_value x0
  have h3 : Frame touches31 s x2 := by
    unfold x2
    exact Frame.upd hs (.inl rfl) (.inl rfl) (.inr rfl) (.inl rfl) (.inl rfl) (.inl rfl) (.inl rfl) (.inl rfl) (.inl rfl) (.inl rfl) (.inl ⟨rfl, rfl, rfl⟩) (.inl rfl) (.inl ⟨rfl, rfl, rfl⟩) (.inl ⟨rfl, rfl⟩) (.inl ⟨rfl, rfl, rfl, rfl, rfl, rfl, rfl, rfl⟩) (.inl ⟨rfl, rfl⟩) (.inl ⟨rfl, rfl, rfl, rfl, rfl, rfl, rfl, rfl, rfl, rfl⟩) (.inl ⟨rfl, rfl⟩) (.inl ⟨rfl, rfl⟩) (.inl rfl) (.inl rfl) (.inl rfl) (.inl rfl) (.inl ⟨rfl, rfl, rfl, rfl, rfl, rfl, rfl, rfl, rfl⟩) (.inl ⟨rfl, rfl, rfl, rfl, rfl, rfl, rfl, rfl, rfl⟩) (.inl ⟨rfl, rfl, rfl⟩) (.inl ⟨rfl, rfl, rfl, rfl, rfl, rfl, rfl, rfl, rfl, rfl, rfl, rfl, rfl, rfl, rfl, rfl, rfl, rfl, rfl, rfl, rfl, rfl, rfl, rfl, rfl, rfl, rfl⟩) (.inl ⟨rfl, rfl, rfl, rfl, rfl, rfl, rfl, rfl, rfl, rfl, rfl, rfl⟩) (.inl ⟨rfl, rfl, rfl, rfl, rfl, rfl, rfl, rfl, rfl⟩) (.inl ⟨rfl, rfl, rfl⟩) (.inl ⟨rfl, rfl, rfl⟩) (.inl ⟨rfl, rfl, rfl, rfl, rfl, rfl, rfl, rfl, rfl⟩) (.inl rfl) (.inl rfl) (.inl rfl) (.inl rfl) (.inr rfl) (.inl ⟨rfl, rfl⟩) (.inl rfl) (.inl ⟨rfl, rfl, rfl, rfl, rfl⟩) (.inl ⟨rfl, rfl⟩) (.inl ⟨rfl, rfl, rfl, rfl⟩) (.inl ⟨rfl, rfl, rfl⟩) (.inl rfl) (.inl ⟨rfl, rfl⟩) (.inl ⟨rfl, rfl, rfl, rfl, rfl, rfl, rfl⟩) (.inl ⟨rfl, rfl, rfl, rfl, rfl⟩) (.inl rfl) (.inl ⟨rfl, rfl, rfl, rfl, rfl, rfl⟩) (.inl ⟨rfl, rfl, rfl, rfl, rfl, rfl, rfl, rfl, rfl, rfl, rfl⟩) (.inl ⟨rfl, rfl, rfl, rfl⟩) (.inl rfl) (.inl rfl) (.inl ⟨rfl, rfl, rfl, rfl, rfl, rfl, rfl, rfl, rfl, rfl, rfl, rfl⟩) (.inl ⟨rfl, rfl⟩) (.inl ⟨rfl, rfl, rfl, rfl, rfl, rfl⟩) (.inl ⟨rfl, rfl, rfl, rfl, rfl, rfl⟩) (.inl ⟨rfl, rfl, rfl, rfl, rfl, rfl, rfl, rfl, rfl, rfl, rfl, rfl⟩) (.inl ⟨rfl, rfl, rfl⟩) (.inl ⟨rfl, rfl, rfl, rfl⟩) (.inl ⟨rfl, rfl, rfl, rfl, rfl⟩) (.inl ⟨rfl, rfl, rfl, rfl, rfl, rfl, rfl, rfl, rfl, rfl⟩) (.inl ⟨rfl, rfl, rfl, rfl, rfl, rfl, rfl, rfl, rfl⟩) (.inl ⟨rfl, rfl, rfl, rfl, rfl, rfl, rfl, rfl, rfl, rfl, rfl, rfl, rfl⟩) (.inl ⟨rfl, rfl, rfl⟩) (.inl ⟨rfl, rfl, rfl, rfl, rfl⟩) (.inl rfl) (.inl rfl) (.inl ⟨rfl, rfl⟩) (.inl ⟨rfl, rfl, rfl, rfl, rfl, rfl, rfl, rfl, rfl, rfl, rfl, rfl, rfl⟩) (.inl rfl) (.inl rfl) (.inl ⟨rfl, rfl, rfl⟩) (.inl rfl)
  clear_value x2
  refine Frame.ite (fun _ => ?_) (fun _ => ?_)
  · exact hs
  · refine Frame.after ?_ (when_frame rfl _ _ ?_)
    · exact h3
    · intro y4
      have h5 := Frame.refl touches31 y4
      refine Frame.after ?_ (Frame.mono rfl (stk_frame _ _ _))
      refine Frame.after ?_ (Frame.mono rfl (cnt_frame _ _))
      exact h5

theorem noRoute_frame (s : State) : Frame touches1 s (State.noRoute s) := by
  have hs := Frame.refl touches1 s
  unfold State.noRoute
  refine Frame.after ?_ (Frame.mono rfl (stk_frame _ _ _))
  refine Frame.after ?_ (Frame.mono rfl (cnt_frame _ _))
  exact hs

theorem bookTry_frame (s : State) (a1 : Nat) (a2 : DlFrame) : Frame touches33 s (State.bookTry s a1 a2).1 := by
  have hs := Frame.refl touches33 s
  unfold State.bookTry
  refine Frame.iteFst (fun _ => ?_) (fun _ => ?_)
  · dsimp only
    exact hs
  · refine Frame.iteFst (fun _ => ?_) (fun _ => ?_)
    · dsimp only
      refine Frame.after ?_ (Frame.mono rfl (frameExpire_frame _ _))
      exact hs
    · split
      · rename_i z0 z1 z2 z3
        have h4 : Frame touches33 s z1 := Frame.pair z3 (by
            refine Frame.after ?_ (Frame.mono rfl (nodeGet_frame _ _))
            exact hs)
        split
        · rename_i z5 z6 z7 z8
          have h9 : Frame touches33 s z6 := Frame.pair z8 (by
              refine Frame.after ?_ (Frame.mono rfl (selectRoute_frame _ _))
              exact h4)
          split
          · dsimp only
            refine Frame.ite (fun _ => ?_) (fun _ => ?_)
            · refine Frame.after ?_ (Frame.mono rfl (bookHead_frame _ _ _ _))
              exact h9
            · refine Frame.after ?_ (Frame.mono rfl (calFull_frame _ _))
              exact h9
          · split
            · dsimp only
              refine Frame.after ?_ (Frame.mono rfl (frameOut_frame _ _ _))
              refine Frame.after ?_ (Frame.mono rfl (noRoute_frame _))
              exact h9
            · dsimp only
              refine Frame.ite (fun _ => ?_) (fun _ => ?_)
              · refine Frame.after ?_ (Frame.mono rfl (bookHead_frame _ _ _ _))
                exact h9
              · refine Frame.after ?_ (Frame.mono rfl (calFull_frame _ _))
                exact h9

theorem book_frame (s : State) (a1 : Nat) (a2 : Nat) : Frame touches33 s (State.book s a1 a2) := by
  induction a2 generalizing s a1 with | zero => ?_ | succ n ih => ?_
  · have hs := Frame.refl touches33 s
    unfold State.book
    exact hs
  · have hs := Frame.refl touches33 s
    unfold State.book
    split
    · exact hs
    · refine Frame.ite (fun _ => ?_) (fun _ => ?_)
      · refine Frame.after ?_ (ih _ _)
        refine Frame.after ?_ (Frame.mono rfl (bookTry_frame _ _ _))
        exact hs
      · refine Frame.after ?_ (Frame.mono rfl (bookTry_frame _ _ _))
        exact hs

theorem porchBook_frame (s : State) (a1 : Nat) : Frame touches33 s (State.porchBook s a1) := by
  have hs := Frame.refl touches33 s
  unfold State.porchBook
  refine Frame.after ?_ (Frame.mono rfl (book_frame _ _ _))
  exact hs

theorem nextFrame_frame (s : State) (a1 : Nat) : Frame touches33 s (State.nextFrame s a1) := by
  have hs := Frame.refl touches33 s
  unfold State.nextFrame
  refine Frame.after ?_ (Frame.mono rfl (porchBook_frame _ _))
  exact hs

theorem missed_frame (s : State) (a1 : Nat) (a2 : Region) : Frame touches22 s (State.missed s a1 a2) := by
  have hs := Frame.refl touches22 s
  unfold State.missed
  split
  · rename_i z0 z1 z2 z3
    have h4 : Frame touches22 s z1 := Frame.pair z3 (by
        refine Frame.after ?_ (Frame.mono rfl (nodeGet_frame _ _))
        exact hs)
    extract_lets -merge -useContext -underBinder x5 x6
    have h7 : Frame touches22 s x6 := by
      unfold x6
      refine Frame.after ?_ (Frame.mono rfl (macUpd_frame _ _ _))
      exact h4
    clear_value x6
    refine Frame.ite (fun _ => ?_) (fun _ => ?_)
    · refine Frame.after ?_ (Frame.mono rfl (cnt_frame _ _))
      refine Frame.after ?_ (Frame.mono rfl (stk_frame _ _ _))
      refine Frame.after ?_ (Frame.mono rfl (nodeUpd_frame _ _ _))
      refine Frame.after ?_ (Frame.mono rfl (macUpd_frame _ _ _))
      exact h7
    · exact h7

theorem frameReturn_frame (s : State) (a1 : Nat) : Frame touches33 s (State.frameReturn s a1) := by
  have hs := Frame.refl touches33 s
  unfold State.frameReturn
  refine Frame.after ?_ (Frame.mono rfl (porchBook_frame _ _))
  refine Frame.after ?_ (Frame.mono rfl (setHead_frame _ _ _))
  refine Frame.after ?_ (Frame.mono rfl (unbook_frame _ _))
  exact hs

theorem jobsOrphan_frame (s : State) (a1 : Nat) : Frame touches77 s (State.jobsOrphan s a1) := by
  have hs := Frame.refl touches77 s
  unfold State.jobsOrphan
  refine Frame.foldl ?_ (fun x0 y1 h2 => ?_)
  · exact hs
  · exact Frame.upd h2 (.inl rfl) (.inl rfl) (.inl ⟨rfl, rfl⟩) (.inl rfl) (.inl rfl) (.inl rfl) (.inl rfl) (.inl rfl) (.inl rfl) (.inl rfl) (.inl ⟨rfl, rfl, rfl⟩) (.inl rfl) (.inl ⟨rfl, rfl, rfl⟩) (.inl ⟨rfl, rfl⟩) (.inl ⟨rfl, rfl, rfl, rfl, rfl, rfl, rfl, rfl⟩) (.inl ⟨rfl, rfl⟩) (.inl ⟨rfl, rfl, rfl, rfl, rfl, rfl, rfl, rfl, rfl, rfl⟩) (.inl ⟨rfl, rfl⟩) (.inl ⟨rfl, rfl⟩) (.inl rfl) (.inl rfl) (.inl rfl) (.inl rfl) (.inr rfl) (.inr rfl) (.inr rfl) (.inr rfl) (.inr rfl) (.inr rfl) (.inr rfl) (.inr rfl) (.inr rfl) (.inl rfl) (.inl rfl) (.inl rfl) (.inl rfl) (.inl ⟨rfl, rfl⟩) (.inl ⟨rfl, rfl⟩) (.inl rfl) (.inl ⟨rfl, rfl, rfl, rfl, rfl⟩) (.inl ⟨rfl, rfl⟩) (.inl ⟨rfl, rfl, rfl, rfl⟩) (.inl ⟨rfl, rfl, rfl⟩) (.inl rfl) (.inl ⟨rfl, rfl⟩) (.inl ⟨rfl, rfl, rfl, rfl, rfl, rfl, rfl⟩) (.inl ⟨rfl, rfl, rfl, rfl, rfl⟩) (.inl rfl) (.inl ⟨rfl, rfl, rfl, rfl, rfl, rfl⟩) (.inl ⟨rfl, rfl, rfl, rfl, rfl, rfl, rfl, rfl, rfl, rfl, rfl⟩) (.inl ⟨rfl, rfl, rfl, rfl⟩) (.inl rfl) (.inl rfl) (.inl ⟨rfl, rfl, rfl, rfl, rfl, rfl, rfl, rfl, rfl, rfl, rfl, rfl⟩) (.inl ⟨rfl, rfl⟩) (.inl ⟨rfl, rfl, rfl, rfl, rfl, rfl⟩) (.inl ⟨rfl, rfl, rfl, rfl, rfl, rfl⟩) (.inl ⟨rfl, rfl, rfl, rfl, rfl, rfl, rfl, rfl, rfl, rfl, rfl, rfl⟩) (.inl ⟨rfl, rfl, rfl⟩) (.inl ⟨rfl, rfl, rfl, rfl⟩) (.inl ⟨rfl, rfl, rfl, rfl, rfl⟩) (.inl ⟨rfl, rfl, rfl, rfl, rfl, rfl, rfl, rfl, rfl, rfl⟩) (.inl ⟨rfl, rfl, rfl, rfl, rfl, rfl, rfl, rfl, rfl⟩) (.inl ⟨rfl, rfl, rfl, rfl, rfl, rfl, rfl, rfl, rfl, rfl, rfl, rfl, rfl⟩) (.inl ⟨rfl, rfl, rfl⟩) (.inl ⟨rfl, rfl, rfl, rfl, rfl⟩) (.inl rfl) (.inl rfl) (.inl ⟨rfl, rfl⟩) (.inl ⟨rfl, rfl, rfl, rfl, rfl, rfl, rfl, rfl, rfl, rfl, rfl, rfl, rfl⟩) (.inl rfl) (.inl rfl) (.inl ⟨rfl, rfl, rfl⟩) (.inl rfl)

theorem queueDiscard_frame (s : State) (a1 : Nat) : Frame touches78 s (State.queueDiscard s a1) := by
  have hs := Frame.refl touches78 s
  unfold State.queueDiscard
  extract_lets -merge -useContext -underBinder x0
  clear_value x0
  refine Frame.ite (fun _ => ?_) (fun _ => ?_)
  · exact hs
  · refine Frame.foldl ?_ (fun x1 y2 h3 => ?_)
    · refine Frame.after ?_ (Frame.mono rfl (setQueue_frame _ _ _))
      refine Frame.after ?_ (Frame.mono rfl (jobsOrphan_frame _ _))
      refine Frame.after ?_ (Frame.mono rfl (unbook_frame _ _))
      exact hs
    · refine Frame.after ?_ (Frame.mono rfl (completeFrame_frame _ _ _))
      refine Frame.after ?_ (Frame.mono rfl (cnt_frame _ _))
      exact h3

theorem rebook_frame (s : State) (a1 : Nat) : Frame touches33 s (State.rebook s a1) := by
  have hs := Frame.refl touches33 s
  unfold State.rebook
  extract_lets -merge -useContext -underBinder x0
  refine Frame.after ?_ (Frame.mono rfl (porchBook_frame _ _))
  exact Frame.upd hs (.inl rfl) (.inl rfl) (.inr rfl) (.inl rfl) (.inr rfl) (.inr rfl) (.inl rfl) (.inl rfl) (.inl rfl) (.inl rfl) (.inl ⟨rfl, rfl, rfl⟩) (.inl rfl) (.inl ⟨rfl, rfl, rfl⟩) (.inl ⟨rfl, rfl⟩) (.inl ⟨rfl, rfl, rfl, rfl, rfl, rfl, rfl, rfl⟩) (.inl ⟨rfl, rfl⟩) (.inl ⟨rfl, rfl, rfl, rfl, rfl, rfl, rfl, rfl, rfl, rfl⟩) (.inl ⟨rfl, rfl⟩) (.inl ⟨rfl, rfl⟩) (.inl rfl) (.inl rfl) (.inl rfl) (.inl rfl) (.inl ⟨rfl, rfl, rfl, rfl, rfl, rfl, rfl, rfl, rfl⟩) (.inl ⟨rfl, rfl, rfl, rfl, rfl, rfl, rfl, rfl, rfl⟩) (.inl ⟨rfl, rfl, rfl⟩) (.inl ⟨rfl, rfl, rfl, rfl, rfl, rfl, rfl, rfl, rfl, rfl, rfl, rfl, rfl, rfl, rfl, rfl, rfl, rfl, rfl, rfl, rfl, rfl, rfl, rfl, rfl, rfl, rfl⟩) (.inl ⟨rfl, rfl, rfl, rfl, rfl, rfl, rfl, rfl, rfl, rfl, rfl, rfl⟩) (.inl ⟨rfl, rfl, rfl, rfl, rfl, rfl, rfl, rfl, rfl⟩) (.inl ⟨rfl, rfl, rfl⟩) (.inl ⟨rfl, rfl, rfl⟩) (.inl ⟨rfl, rfl, rfl, rfl, rfl, rfl, rfl, rfl, rfl⟩) (.inl rfl) (.inl rfl) (.inl rfl) (.inl rfl) (.inr rfl) (.inr rfl) (.inr rfl) (.inl ⟨rfl, rfl, rfl, rfl, rfl⟩) (.inr rfl) (.inl ⟨rfl, rfl, rfl, rfl⟩) (.inl ⟨rfl, rfl, rfl⟩) (.inl rfl) (.inr rfl) (.inr rfl) (.inr rfl) (.inr rfl) (.inr rfl) (.inl ⟨rfl, rfl, rfl, rfl, rfl, rfl, rfl, rfl, rfl, rfl, rfl⟩) (.inl ⟨rfl, rfl, rfl, rfl⟩) (.inl rfl) (.inr rfl) (.inl ⟨rfl, rfl, rfl, rfl, rfl, rfl, rfl, rfl, rfl, rfl, rfl, rfl⟩) (.inl ⟨rfl, rfl⟩) (.inl ⟨rfl, rfl, rfl, rfl, rfl, rfl⟩) (.inl ⟨rfl, rfl, rfl, rfl, rfl, rfl⟩) (.inl ⟨rfl, rfl, rfl, rfl, rfl, rfl, rfl, rfl, rfl, rfl, rfl, rfl⟩) (.inl ⟨rfl, rfl, rfl⟩) (.inl ⟨rfl, rfl, rfl, rfl⟩) (.inl ⟨rfl, rfl, rfl, rfl, rfl⟩) (.inl ⟨rfl, rfl, rfl, rfl, rfl, rfl, rfl, rfl, rfl, rfl⟩) (.inl ⟨rfl, rfl, rfl, rfl, rfl, rfl, rfl, rfl, rfl⟩) (.inr rfl) (.inl ⟨rfl, rfl, rfl⟩) (.inl ⟨rfl, rfl, rfl, rfl, rfl⟩) (.inl rfl) (.inl rfl) (.inr rfl) (.inr rfl) (.inl rfl) (.inl rfl) (.inr rfl) (.inl rfl)

theorem takeFix_frame (s : State) (a1 : Nat) (a2 : Region) (a3 : Int) (a4 : UplinkIe) : Frame touches33 s (State.takeFix s a1 a2 a3 a4) := by
  have hs := Frame.refl touches33 s
  unfold State.takeFix
  extract_lets -merge -useContext -underBinder x0 x1 x2 x3 x4 x5 x6 x7 x8 x9 x10 x11 x12 x13 x14 x15 x16 x17 x18 x19
  clear_value x0
  clear_value x2
  clear_value x3
  clear_value x6
  clear_value x7
  clear_value x8
  clear_value x9
  clear_value x10
  clear_value x11
  clear_value x12
  clear_value x13
  clear_value x15
  have h20 : Frame touches33 s x16 := by
    unfold x16
    refine Frame.after ?_ (when_frame rfl _ _ ?_)
    · exact hs
    · intro y21
      have h22 := Frame.refl touches33 y21
      refine Frame.after ?_ (Frame.mono rfl (cnt_frame _ _))
      exact h22
  clear_value x16
  have h23 : Frame touches33 s x17 := by
    unfold x17
    refine Frame.after ?_ (when_frame rfl _ _ ?_)
    · exact h20
    · intro y24
      have h25 := Frame.refl touches33 y24
      refine Frame.after ?_ (Frame.mono rfl (cnt_frame _ _))
      exact h25
  clear_value x17
  have h26 : Frame touches33 s x18 := by
    unfold x18
    refine Frame.after ?_ (Frame.mono rfl (cnt_frame _ _))
    refine Frame.after ?_ (Frame.mono rfl (macUpd_frame _ _ _))
    exact h23
  clear_value x18
  clear_value x19
  refine Frame.foldl ?_ (fun x27 y28 h29 => ?_)
  · exact h26
  · split
    · refine Frame.ite (fun _ => ?_) (fun _ => ?_)
      · refine Frame.after ?_ (Frame.mono rfl (setBooking_frame _ _ _))
        exact h29
      · refine Frame.after ?_ (Frame.mono rfl (rebook_frame _ _))
        exact h29
    · exact h29

end Sys2Proof
end

