-- ==== Sys2Proof/Laws/FrameCarrierOps.lean ====
section
/-! SUPPORT. Laws/FrameCarrierOps.lean: what each operation of Machine/CarrierOps.lean leaves as it was. -/

namespace Sys2Proof

open Sys2Proof.Machine

theorem dutyRefused_frame (s : State) (a1 : Region) (a2 : Nat) : Frame touches1 s (State.dutyRefused s a1 a2) := by
  have hs := Frame.refl touches1 s
  unfold State.dutyRefused
  refine Frame.after ?_ (Frame.mono rfl (stk_frame _ _ _))
  refine Frame.after ?_ (Frame.mono rfl (cnt_frame _ _))
  exact hs

theorem setCarrier_frame (s : State) (a1 : Region) (a2 : Nat) (a3 : Carrier) : Frame touches41 s (State.setCarrier s a1 a2 a3) := by
  have hs := Frame.refl touches41 s
  unfold State.setCarrier
  refine Frame.radUpd ?_ (.inl (fun _ => ⟨rfl, rfl, rfl⟩)) (.inl (fun _ => ⟨rfl, rfl, rfl⟩)) (.inr rfl) (.inl (fun _ => ⟨rfl, rfl, rfl, rfl, rfl, rfl, rfl, rfl, rfl⟩)) (.inl (fun _ => ⟨rfl, rfl, rfl, rfl⟩)) (.inl (fun _ => ⟨rfl, rfl, rfl⟩)) (.inl (fun _ => rfl)) (.inl (fun _ => rfl)) (.inl (fun _ => ⟨rfl, rfl, rfl⟩))
  exact hs

theorem frameGiven_frame (s : State) (a1 : Nat) : Frame touches30 s (State.frameGiven s a1) := by
  have hs := Frame.refl touches30 s
  unfold State.frameGiven
  split
  · refine Frame.ite (fun _ => ?_) (fun _ => ?_)
    · exact hs
    · refine Frame.after ?_ (Frame.mono rfl (setBooking_frame _ _ _))
      exact hs
  · exact hs

theorem give_frame (s : State) (a1 : Region) (a2 : Nat) (a3 : Nat) (a4 : Booking) (a5 : Nat) : Frame touches42 s (State.give s a1 a2 a3 a4 a5) := by
  have hs := Frame.refl touches42 s
  unfold State.give
  extract_lets -merge -useContext -underBinder x0 x1 x2 x3 x4
  clear_value x0
  clear_value x1
  have h5 : Frame touches42 s x2 := by
    unfold x2
    refine Frame.after ?_ (Frame.mono rfl (cnt_frame _ _))
    refine Frame.after ?_ (Frame.mono rfl (vtimeUp_frame _ _ _))
    refine Frame.after ?_ (Frame.mono rfl (clsCharge_frame _ _ _ _))
    refine Frame.after ?_ (Frame.mono rfl (sbCharge_frame _ _ _ _))
    refine Frame.after ?_ (Frame.mono rfl (used_frame _))
    exact hs
  clear_value x2
  have h6 : Frame touches42 s x3 := by
    unfold x3
    refine Frame.after ?_ (when_frame rfl _ _ ?_)
    · refine Frame.after ?_ (when_frame rfl _ _ ?_)
      · exact h5
      · intro y7
        have h8 := Frame.refl touches42 y7
        refine Frame.after ?_ (Frame.mono rfl (cnt_frame _ _))
        exact h8
    · intro y9
      have h10 := Frame.refl touches42 y9
      refine Frame.after ?_ (Frame.mono rfl (cnt_frame _ _))
      exact h10
  clear_value x3
  clear_value x4
  refine Frame.after ?_ (Frame.mono rfl (setCarrier_frame _ _ _ _))
  refine Frame.after ?_ (Frame.mono rfl (frameGiven_frame _ _))
  refine Frame.after ?_ (Frame.mono rfl (setBooking_frame _ _ _))
  exact h6

theorem countOutcome_frame (s : State) (a1 : Region) (a2 : TxJob) (a3 : Outcome) : Frame touches1 s (State.countOutcome s a1 a2 a3) := by
  have hs := Frame.refl touches1 s
  unfold State.countOutcome
  extract_lets -merge -useContext -underBinder x0
  have h1 : Frame touches1 s x0 := by
    unfold x0
    split
    · rename_i z2
      refine Frame.after ?_ (Frame.mono rfl (cnt_frame _ _))
      exact hs
    · rename_i z3
      refine Frame.after ?_ (Frame.mono rfl (cnt_frame _ _))
      exact hs
    · rename_i z4
      refine Frame.after ?_ (Frame.mono rfl (cnt_frame _ _))
      exact hs
    · rename_i z5
      refine Frame.after ?_ (Frame.mono rfl (cnt_frame _ _))
      refine Frame.after ?_ (Frame.mono rfl (stk_frame _ _ _))
      exact hs
    · exact hs
  clear_value x0
  split
  · refine Frame.after ?_ (Frame.mono rfl (cnt_frame _ _))
    exact h1
  · refine Frame.after ?_ (Frame.mono rfl (cnt_frame _ _))
    exact h1
  · refine Frame.after ?_ (Frame.mono rfl (cnt_frame _ _))
    exact h1
  · refine Frame.after ?_ (Frame.mono rfl (cnt_frame _ _))
    exact h1
  · refine Frame.after ?_ (Frame.mono rfl (stk_frame _ _ _))
    refine Frame.after ?_ (Frame.mono rfl (cnt_frame _ _))
    exact h1
  · exact h1

theorem beaconServe_frame (s : State) (a1 : Region) : Frame touches43 s (State.beaconServe s a1) := by
  have hs := Frame.refl touches43 s
  unfold State.beaconServe
  split
  · exact hs
  · extract_lets -merge -useContext -underBinder x0
    have h1 : Frame touches43 s x0 := by
      unfold x0
      exact Frame.upd hs (.inl rfl) (.inl rfl) (.inr rfl) (.inl rfl) (.inl rfl) (.inl rfl) (.inl rfl) (.inl rfl) (.inl rfl) (.inl rfl) (.inl ⟨rfl, rfl, rfl⟩) (.inl rfl) (.inl ⟨rfl, rfl, rfl⟩) (.inl ⟨rfl, rfl⟩) (.inl ⟨rfl, rfl, rfl, rfl, rfl, rfl, rfl, rfl⟩) (.inl ⟨rfl, rfl⟩) (.inl ⟨rfl, rfl, rfl, rfl, rfl, rfl, rfl, rfl, rfl, rfl⟩) (.inl ⟨rfl, rfl⟩) (.inl ⟨rfl, rfl⟩) (.inl rfl) (.inl rfl) (.inl rfl) (.inl rfl) (.inl ⟨rfl, rfl, rfl, rfl, rfl, rfl, rfl, rfl, rfl⟩) (.inl ⟨rfl, rfl, rfl, rfl, rfl, rfl, rfl, rfl, rfl⟩) (.inr rfl) (.inl ⟨rfl, rfl, rfl, rfl, rfl, rfl, rfl, rfl, rfl, rfl, rfl, rfl, rfl, rfl, rfl, rfl, rfl, rfl, rfl, rfl, rfl, rfl, rfl, rfl, rfl, rfl, rfl⟩) (.inl ⟨rfl, rfl, rfl, rfl, rfl, rfl, rfl, rfl, rfl, rfl, rfl, rfl⟩) (.inl ⟨rfl, rfl, rfl, rfl, rfl, rfl, rfl, rfl, rfl⟩) (.inl ⟨rfl, rfl, rfl⟩) (.inl ⟨rfl, rfl, rfl⟩) (.inl ⟨rfl, rfl, rfl, rfl, rfl, rfl, rfl, rfl, rfl⟩) (.inl rfl) (.inl rfl) (.inl rfl) (.inr rfl) (.inl ⟨rfl, rfl⟩) (.inl ⟨rfl, rfl⟩) (.inl rfl) (.inl ⟨rfl, rfl, rfl, rfl, rfl⟩) (.inl ⟨rfl, rfl⟩) (.inl ⟨rfl, rfl, rfl, rfl⟩) (.inl ⟨rfl, rfl, rfl⟩) (.inl rfl) (.inl ⟨rfl, rfl⟩) (.inl ⟨rfl, rfl, rfl, rfl, rfl, rfl, rfl⟩) (.inl ⟨rfl, rfl, rfl, rfl, rfl⟩) (.inl rfl) (.inl ⟨rfl, rfl, rfl, rfl, rfl, rfl⟩) (.inl ⟨rfl, rfl, rfl, rfl, rfl, rfl, rfl, rfl, rfl, rfl, rfl⟩) (.inl ⟨rfl, rfl, rfl, rfl⟩) (.inl rfl) (.inl rfl) (.inl ⟨rfl, rfl, rfl, rfl, rfl, rfl, rfl, rfl, rfl, rfl, rfl, rfl⟩) (.inl ⟨rfl, rfl⟩) (.inl ⟨rfl, rfl, rfl, rfl, rfl, rfl⟩) (.inl ⟨rfl, rfl, rfl, rfl, rfl, rfl⟩) (.inl ⟨rfl, rfl, rfl, rfl, rfl, rfl, rfl, rfl, rfl, rfl, rfl, rfl⟩) (.inl ⟨rfl, rfl, rfl⟩) (.inl ⟨rfl, rfl, rfl, rfl⟩) (.inl ⟨rfl, rfl, rfl, rfl, rfl⟩) (.inl ⟨rfl, rfl, rfl, rfl, rfl, rfl, rfl, rfl, rfl, rfl⟩) (.inl ⟨rfl, rfl, rfl, rfl, rfl, rfl, rfl, rfl, rfl⟩) (.inl ⟨rfl, rfl, rfl, rfl, rfl, rfl, rfl, rfl, rfl, rfl, rfl, rfl, rfl⟩) (.inl ⟨rfl, rfl, rfl⟩) (.inl ⟨rfl, rfl, rfl, rfl, rfl⟩) (.inl rfl) (.inl rfl) (.inl ⟨rfl, rfl⟩) (.inl ⟨rfl, rfl, rfl, rfl, rfl, rfl, rfl, rfl, rfl, rfl, rfl, rfl, rfl⟩) (.inl rfl) (.inl rfl) (.inl ⟨rfl, rfl, rfl⟩) (.inl rfl)
    clear_value x0
    refine Frame.ite (fun _ => ?_) (fun _ => ?_)
    · refine Frame.after ?_ (Frame.mono rfl (countOutcome_frame _ _ _ _))
      exact h1
    · split
      · extract_lets -merge -useContext -underBinder x2
        clear_value x2
        refine Frame.after ?_ (Frame.mono rfl (setCarrier_frame _ _ _ _))
        exact h1
      · exact hs

theorem assign_frame (s : State) (a1 : Region) : Frame touches44 s (State.assign s a1) := by
  have hs := Frame.refl touches44 s
  unfold State.assign
  refine Frame.ite (fun _ => ?_) (fun _ => ?_)
  · refine Frame.foldl ?_ (fun x0 y1 h2 => ?_)
    · refine Frame.after ?_ (Frame.mono rfl (beaconServe_frame _ _))
      exact hs
    · refine Frame.ite (fun _ => ?_) (fun _ => ?_)
      · split
        · rename_i z3 z4 z5 z6
          have h7 : Frame touches44 s z4 := Frame.pair z6 (by
              refine Frame.after ?_ (Frame.mono rfl (choose_frame _ _))
              exact h2)
          split
          · refine Frame.after ?_ (Frame.mono rfl (give_frame _ _ _ _ _ _))
            refine Frame.ite (fun _ => ?_) (fun _ => ?_)
            · refine Frame.after ?_ (Frame.mono rfl (safetyMarks_frame _ _ _))
              exact h7
            · exact h7
          · exact h7
      · exact h2
  · exact hs

theorem coexGrant_frame (s : State) (a1 : Region) : Frame touches45 s (State.coexGrant s a1) := by
  have hs := Frame.refl touches45 s
  unfold State.coexGrant
  extract_lets -merge -useContext -underBinder x0
  clear_value x0
  refine Frame.ite (fun _ => ?_) (fun _ => ?_)
  · refine Frame.radUpd ?_ (.inl (fun _ => ⟨rfl, rfl, rfl⟩)) (.inl (fun _ => ⟨rfl, rfl, rfl⟩)) (.inl (fun _ => rfl)) (.inl (fun _ => ⟨rfl, rfl, rfl, rfl, rfl, rfl, rfl, rfl, rfl⟩)) (.inl (fun _ => ⟨rfl, rfl, rfl, rfl⟩)) (.inl (fun _ => ⟨rfl, rfl, rfl⟩)) (.inr rfl) (.inl (fun _ => rfl)) (.inl (fun _ => ⟨rfl, rfl, rfl⟩))
    exact hs
  · exact hs

theorem coexPlan_frame (s : State) (a1 : Region) : Frame touches45 s (State.coexPlan s a1) := by
  have hs := Frame.refl touches45 s
  unfold State.coexPlan
  refine Frame.ite (fun _ => ?_) (fun _ => ?_)
  · refine Frame.radUpd ?_ (.inl (fun _ => by dsimp only; split <;> exact ⟨rfl, rfl, rfl⟩)) (.inl (fun _ => by dsimp only; split <;> exact ⟨rfl, rfl, rfl⟩)) (.inl (fun _ => by dsimp only; split <;> exact rfl)) (.inl (fun _ => by dsimp only; split <;> exact ⟨rfl, rfl, rfl, rfl, rfl, rfl, rfl, rfl, rfl⟩)) (.inl (fun _ => by dsimp only; split <;> exact ⟨rfl, rfl, rfl, rfl⟩)) (.inl (fun _ => by dsimp only; split <;> exact ⟨rfl, rfl, rfl⟩)) (.inr rfl) (.inl (fun _ => by dsimp only; split <;> exact rfl)) (.inl (fun _ => by dsimp only; split <;> exact ⟨rfl, rfl, rfl⟩))
    exact hs
  · exact hs

theorem jobGone_frame (s : State) (a1 : Region) : Frame touches48 s (State.jobGone s a1) := by
  have hs := Frame.refl touches48 s
  unfold State.jobGone
  refine Frame.after ?_ (Frame.mono rfl (assign_frame _ _))
  refine Frame.after ?_ (Frame.mono rfl (coexGrant_frame _ _))
  refine Frame.after ?_ (Frame.mono rfl (coexPlan_frame _ _))
  refine Frame.after ?_ (Frame.mono rfl (mapSettle_frame _ _))
  exact hs

theorem frameNoAck_frame (s : State) (a1 : Nat) (a2 : Region) (a3 : TxJob) (a4 : Option Booking) : Frame touches33 s (State.frameNoAck s a1 a2 a3 a4) := by
  have hs := Frame.refl touches33 s
  unfold State.frameNoAck
  extract_lets -merge -useContext -underBinder x0 x1
  have h2 : Frame touches33 s x0 := by
    unfold x0
    refine Frame.after ?_ (Frame.mono rfl (nodeUpd_frame _ _ _))
    refine Frame.after ?_ (Frame.mono rfl (cnt_frame _ _))
    exact hs
  clear_value x0
  have h3 : Frame touches33 s x1 := by
    unfold x1
    split
    · rename_i z4 z5
      refine Frame.ite (fun _ => ?_) (fun _ => ?_)
      · refine Frame.after ?_ (Frame.mono rfl (missed_frame _ _ _))
        exact h2
      · exact h2
    · rename_i z6
      exact h2
  clear_value x1
  split
  · refine Frame.after ?_ (Frame.mono rfl (unbook_frame _ _))
    exact h3
  · refine Frame.ite (fun _ => ?_) (fun _ => ?_)
    · refine Frame.after ?_ (Frame.mono rfl (frameReturn_frame _ _))
      refine Frame.after ?_ (Frame.mono rfl (setHead_frame _ _ _))
      exact h3
    · refine Frame.after ?_ (Frame.mono rfl (nextFrame_frame _ _))
      refine Frame.after ?_ (Frame.mono rfl (frameOut_frame _ _ _))
      refine Frame.after ?_ (Frame.mono rfl (cnt_frame _ _))
      exact h3

theorem windowLate_frame (s : State) (a1 : Nat) (a2 : Region) : Frame touches33 s (State.windowLate s a1 a2) := by
  have hs := Frame.refl touches33 s
  unfold State.windowLate
  refine Frame.after ?_ (Frame.mono rfl (frameReturn_frame _ _))
  refine Frame.after ?_ (Frame.mono rfl (nodeUpd_frame _ _ _))
  refine Frame.after ?_ (Frame.mono rfl (cnt_frame _ _))
  exact hs

theorem dispose_frame (s : State) (a1 : Nat) (a2 : Region) (a3 : TxJob) (a4 : Outcome) : Frame touches33 s (State.dispose s a1 a2 a3 a4) := by
  have hs := Frame.refl touches33 s
  unfold State.dispose
  extract_lets -merge -useContext -underBinder x0
  clear_value x0
  split
  · refine Frame.after ?_ (Frame.mono rfl (nextFrame_frame _ _))
    refine Frame.after ?_ (Frame.mono rfl (frameOut_frame _ _ _))
    refine Frame.after ?_ (Frame.mono rfl (nodeUpd_frame _ _ _))
    exact hs
  · refine Frame.after ?_ (Frame.mono rfl (nextFrame_frame _ _))
    refine Frame.after ?_ (Frame.mono rfl (frameOut_frame _ _ _))
    exact hs
  · refine Frame.after ?_ (Frame.mono rfl (frameNoAck_frame _ _ _ _ _))
    exact hs
  · refine Frame.after ?_ (Frame.mono rfl (nextFrame_frame _ _))
    refine Frame.after ?_ (Frame.mono rfl (frameOut_frame _ _ _))
    exact hs
  · extract_lets -merge -useContext -underBinder x1
    have h2 : Frame touches33 s x1 := by
      unfold x1
      split
      · rename_i z3 z4
        refine Frame.after ?_ (Frame.mono rfl (guaranteeBroken_frame _ _ _))
        exact hs
      · rename_i z5
        exact hs
    clear_value x1
    refine Frame.after ?_ (Frame.mono rfl (windowLate_frame _ _ _))
    exact h2
  · refine Frame.after ?_ (Frame.mono rfl (windowLate_frame _ _ _))
    exact hs
  · exact hs
  · refine Frame.after ?_ (Frame.mono rfl (frameReturn_frame _ _))
    exact hs

theorem settle_frame (s : State) (a1 : Region) (a2 : TxJob) : Frame touches49 s (State.settle s a1 a2) := by
  have hs := Frame.refl touches49 s
  unfold State.settle
  extract_lets -merge -useContext -underBinder x0
  refine Frame.after ?_ (Frame.mono rfl (cntBy_frame _ _ _))
  refine Frame.after ?_ (Frame.mono rfl (clsCharge_frame _ _ _ _))
  refine Frame.after ?_ (Frame.mono rfl (sbCharge_frame _ _ _ _))
  exact hs

theorem floodDone_frame (s : State) (a1 : Nat) (a2 : Bool) : Frame touches33 s (State.floodDone s a1 a2) := by
  have hs := Frame.refl touches33 s
  unfold State.floodDone
  split
  · extract_lets -merge -useContext -underBinder x0 x1
    clear_value x0
    refine Frame.ite (fun _ => ?_) (fun _ => ?_)
    · exact Frame.upd hs (.inl rfl) (.inl rfl) (.inr rfl) (.inl rfl) (.inr rfl) (.inr rfl) (.inl rfl) (.inl rfl) (.inl rfl) (.inl rfl) (.inl ⟨rfl, rfl, rfl⟩) (.inl rfl) (.inl ⟨rfl, rfl, rfl⟩) (.inl ⟨rfl, rfl⟩) (.inl ⟨rfl, rfl, rfl, rfl, rfl, rfl, rfl, rfl⟩) (.inl ⟨rfl, rfl⟩) (.inl ⟨rfl, rfl, rfl, rfl, rfl, rfl, rfl, rfl, rfl, rfl⟩) (.inl ⟨rfl, rfl⟩) (.inl ⟨rfl, rfl⟩) (.inl rfl) (.inl rfl) (.inl rfl) (.inl rfl) (.inl ⟨rfl, rfl, rfl, rfl, rfl, rfl, rfl, rfl, rfl⟩) (.inl ⟨rfl, rfl, rfl, rfl, rfl, rfl, rfl, rfl, rfl⟩) (.inl ⟨rfl, rfl, rfl⟩) (.inl ⟨rfl, rfl, rfl, rfl, rfl, rfl, rfl, rfl, rfl, rfl, rfl, rfl, rfl, rfl, rfl, rfl, rfl, rfl, rfl, rfl, rfl, rfl, rfl, rfl, rfl, rfl, rfl⟩) (.inl ⟨rfl, rfl, rfl, rfl, rfl, rfl, rfl, rfl, rfl, rfl, rfl, rfl⟩) (.inl ⟨rfl, rfl, rfl, rfl, rfl, rfl, rfl, rfl, rfl⟩) (.inl ⟨rfl, rfl, rfl⟩) (.inl ⟨rfl, rfl, rfl⟩) (.inl ⟨rfl, rfl, rfl, rfl, rfl, rfl, rfl, rfl, rfl⟩) (.inl rfl) (.inl rfl) (.inl rfl) (.inl rfl) (.inr rfl) (.inr rfl) (.inr rfl) (.inl ⟨rfl, rfl, rfl, rfl, rfl⟩) (.inr rfl) (.inl ⟨rfl, rfl, rfl, rfl⟩) (.inl ⟨rfl, rfl, rfl⟩) (.inl rfl) (.inr rfl) (.inr rfl) (.inr rfl) (.inr rfl) (.inr rfl) (.inl ⟨rfl, rfl, rfl, rfl, rfl, rfl, rfl, rfl, rfl, rfl, rfl⟩) (.inl ⟨rfl, rfl, rfl, rfl⟩) (.inl rfl) (.inr rfl) (.inl ⟨rfl, rfl, rfl, rfl, rfl, rfl, rfl, rfl, rfl, rfl, rfl, rfl⟩) (.inl ⟨rfl, rfl⟩) (.inl ⟨rfl, rfl, rfl, rfl, rfl, rfl⟩) (.inl ⟨rfl, rfl, rfl, rfl, rfl, rfl⟩) (.inl ⟨rfl, rfl, rfl, rfl, rfl, rfl, rfl, rfl, rfl, rfl, rfl, rfl⟩) (.inl ⟨rfl, rfl, rfl⟩) (.inl ⟨rfl, rfl, rfl, rfl⟩) (.inl ⟨rfl, rfl, rfl, rfl, rfl⟩) (.inl ⟨rfl, rfl, rfl, rfl, rfl, rfl, rfl, rfl, rfl, rfl⟩) (.inl ⟨rfl, rfl, rfl, rfl, rfl, rfl, rfl, rfl, rfl⟩) (.inr rfl) (.inl ⟨rfl, rfl, rfl⟩) (.inl ⟨rfl, rfl, rfl, rfl, rfl⟩) (.inl rfl) (.inl rfl) (.inr rfl) (.inr rfl) (.inl rfl) (.inl rfl) (.inr rfl) (.inl rfl)
    · refine Frame.ite (fun _ => ?_) (fun _ => ?_)
      · refine Frame.after ?_ (Frame.mono rfl (nextFrame_frame _ _))
        refine Frame.after ?_ (Frame.mono rfl (frameOut_frame _ _ _))
        exact hs
      · refine Frame.after ?_ (Frame.mono rfl (frameReturn_frame _ _))
        exact hs

theorem floodEnd_frame (s : State) (a1 : Nat) (a2 : Region) (a3 : Outcome) : Frame touches50 s (State.floodEnd s a1 a2 a3) := by
  have hs := Frame.refl touches50 s
  unfold State.floodEnd
  extract_lets -merge -useContext -underBinder x0 x1
  have h2 : Frame touches50 s x1 := by
    unfold x1
    split
    · refine Frame.ite (fun _ => ?_) (fun _ => ?_)
      · refine Frame.after ?_ (Frame.mono rfl (guaranteeBroken_frame _ _ _))
        exact hs
      · exact hs
    · exact hs
  clear_value x1
  refine Frame.after ?_ (Frame.mono rfl (setBooking_frame _ _ _))
  exact h2

theorem ackOver_frame (s : State) (a1 : Region) (a2 : TxJob) (a3 : Bool) (a4 : Nat) : Frame touches33 s (State.ackOver s a1 a2 a3 a4) := by
  have hs := Frame.refl touches33 s
  unfold State.ackOver
  extract_lets -merge -useContext -underBinder x0
  have h1 : Frame touches33 s x0 := by
    unfold x0
    refine Frame.ite (fun _ => ?_) (fun _ => ?_)
    · exact hs
    · refine Frame.after ?_ (Frame.mono rfl (porchBook_frame _ _))
      refine Frame.after ?_ (Frame.mono rfl (nodeUpd_frame _ _ _))
      exact hs
  clear_value x0
  split
  · refine Frame.after ?_ (Frame.mono rfl (deliver_frame _ _ _))
    exact h1
  · exact h1

theorem jobOver_frame (s : State) (a1 : Region) (a2 : TxJob) (a3 : Outcome) (a4 : Nat) : Frame touches51 s (State.jobOver s a1 a2 a3 a4) := by
  have hs := Frame.refl touches51 s
  unfold State.jobOver
  split
  · refine Frame.after ?_ (Frame.mono rfl (dispose_frame _ _ _ _ _))
    refine Frame.after ?_ (Frame.mono rfl (settle_frame _ _ _))
    exact hs
  · refine Frame.after ?_ (Frame.mono rfl (floodDone_frame _ _ _))
    refine Frame.after ?_ (Frame.mono rfl (floodEnd_frame _ _ _ _))
    refine Frame.after ?_ (Frame.mono rfl (settle_frame _ _ _))
    exact hs
  · refine Frame.after ?_ (Frame.mono rfl (ackOver_frame _ _ _ _ _))
    exact hs
  · exact hs
  · refine Frame.after ?_ (Frame.mono rfl (settle_frame _ _ _))
    exact hs

theorem backoff_frame (s : State) (a1 : Region) (a2 : Nat) (a3 : TxJob) (a4 : Nat) (a5 : Nat) (a6 : Bool) : Frame touches52 s (State.backoff s a1 a2 a3 a4 a5 a6) := by
  have hs := Frame.refl touches52 s
  unfold State.backoff
  extract_lets -merge -useContext -underBinder x0 x1 x2 x3 x4
  have h5 : Frame touches52 s x1 := by
    unfold x1
    refine Frame.after ?_ (Frame.mono rfl (used_frame _))
    exact hs
  clear_value x1
  clear_value x2
  clear_value x4
  refine Frame.after ?_ (Frame.mono rfl (setCarrier_frame _ _ _ _))
  exact h5

theorem carrierFree_frame (s : State) (a1 : Region) (a2 : Nat) : Frame touches52 s (State.carrierFree s a1 a2) := by
  have hs := Frame.refl touches52 s
  unfold State.carrierFree
  extract_lets -merge -useContext -underBinder x0
  clear_value x0
  split
  · refine Frame.after ?_ (Frame.mono rfl (backoff_frame _ _ _ _ _ _ _))
    refine Frame.after ?_ (Frame.mono rfl (setCarrier_frame _ _ _ _))
    exact hs
  · refine Frame.after ?_ (Frame.mono rfl (setCarrier_frame _ _ _ _))
    exact hs

theorem jobEnd_frame (s : State) (a1 : Region) (a2 : Nat) (a3 : Outcome) : Frame touches53 s (State.jobEnd s a1 a2 a3) := by
  have hs := Frame.refl touches53 s
  unfold State.jobEnd
  extract_lets -merge -useContext -underBinder x0
  clear_value x0
  split
  · exact hs
  · refine Frame.after ?_ (Frame.mono rfl (jobGone_frame _ _))
    refine Frame.after ?_ (Frame.mono rfl (jobOver_frame _ _ _ _ _))
    refine Frame.after ?_ (Frame.mono rfl (carrierFree_frame _ _ _))
    refine Frame.after ?_ (Frame.mono rfl (countOutcome_frame _ _ _ _))
    exact hs

theorem strobeWait_frame (s : State) (a1 : Region) (a2 : Nat) (a3 : TxJob) : Frame touches53 s (State.strobeWait s a1 a2 a3) := by
  have hs := Frame.refl touches53 s
  unfold State.strobeWait
  extract_lets -merge -useContext -underBinder x0 x1
  clear_value x0
  clear_value x1
  refine Frame.ite (fun _ => ?_) (fun _ => ?_)
  · refine Frame.after ?_ (Frame.mono rfl (jobEnd_frame _ _ _ _))
    refine Frame.after ?_ (Frame.mono rfl (setCarrier_frame _ _ _ _))
    exact hs
  · refine Frame.after ?_ (Frame.mono rfl (coexPlan_frame _ _))
    refine Frame.after ?_ (Frame.mono rfl (setCarrier_frame _ _ _ _))
    exact hs

theorem strobeSkip_frame (s : State) (a1 : Region) (a2 : Nat) (a3 : TxJob) : Frame touches53 s (State.strobeSkip s a1 a2 a3) := by
  have hs := Frame.refl touches53 s
  unfold State.strobeSkip
  refine Frame.after ?_ (Frame.mono rfl (strobeWait_frame _ _ _ _))
  exact hs

theorem asideEnd_frame (s : State) (a1 : Region) (a2 : Nat) (a3 : Outcome) : Frame touches53 s (State.asideEnd s a1 a2 a3) := by
  have hs := Frame.refl touches53 s
  unfold State.asideEnd
  extract_lets -merge -useContext -underBinder x0
  clear_value x0
  split
  · exact hs
  · refine Frame.after ?_ (Frame.mono rfl (jobGone_frame _ _))
    refine Frame.after ?_ (Frame.mono rfl (jobOver_frame _ _ _ _ _))
    refine Frame.after ?_ (Frame.mono rfl (setCarrier_frame _ _ _ _))
    refine Frame.after ?_ (Frame.mono rfl (countOutcome_frame _ _ _ _))
    exact hs

theorem lbtBegin_frame (s : State) (a1 : Region) (a2 : Nat) : Frame touches53 s (State.lbtBegin s a1 a2) := by
  have hs := Frame.refl touches53 s
  unfold State.lbtBegin
  extract_lets -merge -useContext -underBinder x0
  clear_value x0
  split
  · exact hs
  · split
    · refine Frame.after ?_ (Frame.mono rfl (jobEnd_frame _ _ _ _))
      exact hs
    · extract_lets -merge -useContext -underBinder x1
      have h2 : Frame touches53 s x1 := by
        unfold x1
        refine Frame.ite (fun _ => ?_) (fun _ => ?_)
        · refine Frame.after ?_ (Frame.mono rfl (setCarrier_frame _ _ _ _))
          exact hs
        · refine Frame.ite (fun _ => ?_) (fun _ => ?_)
          · refine Frame.after ?_ (Frame.mono rfl (backoff_frame _ _ _ _ _ _ _))
            exact hs
          · refine Frame.after ?_ (Frame.mono rfl (setCarrier_frame _ _ _ _))
            exact hs
      clear_value x1
      refine Frame.after ?_ (Frame.mono rfl (coexPlan_frame _ _))
      exact h2

theorem ccaSpoil_frame (s : State) (a1 : Region) : Frame touches41 s (State.ccaSpoil s a1) := by
  have hs := Frame.refl touches41 s
  unfold State.ccaSpoil
  refine Frame.radUpd ?_ (.inl (fun _ => ⟨rfl, rfl, rfl⟩)) (.inl (fun _ => ⟨rfl, rfl, rfl⟩)) (.inr rfl) (.inl (fun _ => ⟨rfl, rfl, rfl, rfl, rfl, rfl, rfl, rfl, rfl⟩)) (.inl (fun _ => ⟨rfl, rfl, rfl, rfl⟩)) (.inl (fun _ => ⟨rfl, rfl, rfl⟩)) (.inl (fun _ => rfl)) (.inl (fun _ => rfl)) (.inl (fun _ => ⟨rfl, rfl, rfl⟩))
  exact hs

theorem samplesBad_frame (s : State) (a1 : Region) : Frame touches112 s (State.samplesBad s a1) := by
  have hs := Frame.refl touches112 s
  unfold State.samplesBad
  extract_lets -merge -useContext -underBinder x0
  have h1 : Frame touches112 s x0 := by
    unfold x0
    refine Frame.radUpd ?_ (.inl (fun _ => ⟨rfl, rfl, rfl⟩)) (.inl (fun _ => ⟨rfl, rfl, rfl⟩)) (.inr rfl) (.inl (fun _ => ⟨rfl, rfl, rfl, rfl, rfl, rfl, rfl, rfl, rfl⟩)) (.inr rfl) (.inl (fun _ => ⟨rfl, rfl, rfl⟩)) (.inl (fun _ => rfl)) (.inl (fun _ => rfl)) (.inl (fun _ => ⟨rfl, rfl, rfl⟩))
    refine Frame.after ?_ (Frame.mono rfl (ccaSpoil_frame _ _))
    exact hs
  clear_value x0
  exact Frame.upd h1 (.inl rfl) (.inl rfl) (.inl ⟨rfl, rfl⟩) (.inl rfl) (.inl rfl) (.inl rfl) (.inl rfl) (.inl rfl) (.inl rfl) (.inl rfl) (.inl ⟨rfl, rfl, rfl⟩) (.inl rfl) (.inl ⟨rfl, rfl, rfl⟩) (.inl ⟨rfl, rfl⟩) (.inl ⟨rfl, rfl, rfl, rfl, rfl, rfl, rfl, rfl⟩) (.inl ⟨rfl, rfl⟩) (.inl ⟨rfl, rfl, rfl, rfl, rfl, rfl, rfl, rfl, rfl, rfl⟩) (.inl ⟨rfl, rfl⟩) (.inl ⟨rfl, rfl⟩) (.inl rfl) (.inl rfl) (.inl rfl) (.inl rfl) (.inl ⟨rfl, rfl, rfl, rfl, rfl, rfl, rfl, rfl, rfl⟩) (.inl ⟨rfl, rfl, rfl, rfl, rfl, rfl, rfl, rfl, rfl⟩) (.inr rfl) (.inl ⟨rfl, rfl, rfl, rfl, rfl, rfl, rfl, rfl, rfl, rfl, rfl, rfl, rfl, rfl, rfl, rfl, rfl, rfl, rfl, rfl, rfl, rfl, rfl, rfl, rfl, rfl, rfl⟩) (.inr rfl) (.inl ⟨rfl, rfl, rfl, rfl, rfl, rfl, rfl, rfl, rfl⟩) (.inl ⟨rfl, rfl, rfl⟩) (.inl ⟨rfl, rfl, rfl⟩) (.inl ⟨rfl, rfl, rfl, rfl, rfl, rfl, rfl, rfl, rfl⟩) (.inl rfl) (.inr rfl) (.inl rfl) (.inl rfl) (.inl ⟨rfl, rfl⟩) (.inl ⟨rfl, rfl⟩) (.inl rfl) (.inl ⟨rfl, rfl, rfl, rfl, rfl⟩) (.inl ⟨rfl, rfl⟩) (.inl ⟨rfl, rfl, rfl, rfl⟩) (.inl ⟨rfl, rfl, rfl⟩) (.inl rfl) (.inl ⟨rfl, rfl⟩) (.inl ⟨rfl, rfl, rfl, rfl, rfl, rfl, rfl⟩) (.inl ⟨rfl, rfl, rfl, rfl, rfl⟩) (.inl rfl) (.inl ⟨rfl, rfl, rfl, rfl, rfl, rfl⟩) (.inl ⟨rfl, rfl, rfl, rfl, rfl, rfl, rfl, rfl, rfl, rfl, rfl⟩) (.inl ⟨rfl, rfl, rfl, rfl⟩) (.inl rfl) (.inl rfl) (.inl ⟨rfl, rfl, rfl, rfl, rfl, rfl, rfl, rfl, rfl, rfl, rfl, rfl⟩) (.inl ⟨rfl, rfl⟩) (.inl ⟨rfl, rfl, rfl, rfl, rfl, rfl⟩) (.inl ⟨rfl, rfl, rfl, rfl, rfl, rfl⟩) (.inl ⟨rfl, rfl, rfl, rfl, rfl, rfl, rfl, rfl, rfl, rfl, rfl, rfl⟩) (.inl ⟨rfl, rfl, rfl⟩) (.inl ⟨rfl, rfl, rfl, rfl⟩) (.inl ⟨rfl, rfl, rfl, rfl, rfl⟩) (.inl ⟨rfl, rfl, rfl, rfl, rfl, rfl, rfl, rfl, rfl, rfl⟩) (.inl ⟨rfl, rfl, rfl, rfl, rfl, rfl, rfl, rfl, rfl⟩) (.inl ⟨rfl, rfl, rfl, rfl, rfl, rfl, rfl, rfl, rfl, rfl, rfl, rfl, rfl⟩) (.inl ⟨rfl, rfl, rfl⟩) (.inl ⟨rfl, rfl, rfl, rfl, rfl⟩) (.inl rfl) (.inl rfl) (.inl ⟨rfl, rfl⟩) (.inl ⟨rfl, rfl, rfl, rfl, rfl, rfl, rfl, rfl, rfl, rfl, rfl, rfl, rfl⟩) (.inl rfl) (.inl rfl) (.inl ⟨rfl, rfl, rfl⟩) (.inl rfl)

theorem blank_frame (s : State) (a1 : Region) : Frame touches113 s (State.blank s a1) := by
  have hs := Frame.refl touches113 s
  unfold State.blank
  refine Frame.ite (fun _ => ?_) (fun _ => ?_)
  · refine Frame.radUpd ?_ (.inl (fun _ => ⟨rfl, rfl, rfl⟩)) (.inl (fun _ => ⟨rfl, rfl, rfl⟩)) (.inr rfl) (.inl (fun _ => ⟨rfl, rfl, rfl, rfl, rfl, rfl, rfl, rfl, rfl⟩)) (.inr rfl) (.inl (fun _ => ⟨rfl, rfl, rfl⟩)) (.inl (fun _ => rfl)) (.inl (fun _ => rfl)) (.inl (fun _ => ⟨rfl, rfl, rfl⟩))
    exact hs
  · refine Frame.after ?_ (Frame.mono rfl (cnt_frame _ _))
    refine Frame.after ?_ (Frame.mono rfl (samplesBad_frame _ _))
    exact hs

theorem linesOff_frame (s : State) (a1 : Region) : Frame touches114 s (State.linesOff s a1) := by
  have hs := Frame.refl touches114 s
  unfold State.linesOff
  refine Frame.radUpd ?_ (.inr rfl) (.inr rfl) (.inr rfl) (.inr rfl) (.inr rfl) (.inr rfl) (.inr rfl) (.inr rfl) (.inr rfl)
  refine Frame.ite (fun _ => ?_) (fun _ => ?_)
  · refine Frame.after ?_ (Frame.mono rfl (samplesBad_frame _ _))
    exact hs
  · refine Frame.after ?_ (Frame.mono rfl (blank_frame _ _))
    exact hs

theorem samplesGood_frame (s : State) (a1 : Region) : Frame touches115 s (State.samplesGood s a1) := by
  have hs := Frame.refl touches115 s
  unfold State.samplesGood
  refine Frame.radUpd ?_ (.inl (fun _ => ⟨rfl, rfl, rfl⟩)) (.inl (fun _ => ⟨rfl, rfl, rfl⟩)) (.inl (fun _ => rfl)) (.inl (fun _ => ⟨rfl, rfl, rfl, rfl, rfl, rfl, rfl, rfl, rfl⟩)) (.inr rfl) (.inl (fun _ => ⟨rfl, rfl, rfl⟩)) (.inl (fun _ => rfl)) (.inl (fun _ => rfl)) (.inl (fun _ => ⟨rfl, rfl, rfl⟩))
  exact hs

theorem linesRest_frame (s : State) (a1 : Region) : Frame touches114 s (State.linesRest s a1) := by
  have hs := Frame.refl touches114 s
  unfold State.linesRest
  refine Frame.ite (fun _ => ?_) (fun _ => ?_)
  · exact hs
  · refine Frame.ite (fun _ => ?_) (fun _ => ?_)
    · refine Frame.after ?_ (Frame.mono rfl (linesOff_frame _ _))
      exact hs
    · refine Frame.ite (fun _ => ?_) (fun _ => ?_)
      · refine Frame.radUpd ?_ (.inr rfl) (.inr rfl) (.inr rfl) (.inr rfl) (.inr rfl) (.inr rfl) (.inr rfl) (.inr rfl) (.inr rfl)
        exact hs
      · refine Frame.ite (fun _ => ?_) (fun _ => ?_)
        · refine Frame.after ?_ (Frame.mono rfl (samplesGood_frame _ _))
          refine Frame.radUpd ?_ (.inr rfl) (.inr rfl) (.inr rfl) (.inr rfl) (.inr rfl) (.inr rfl) (.inr rfl) (.inr rfl) (.inr rfl)
          exact hs
        · refine Frame.radUpd ?_ (.inr rfl) (.inr rfl) (.inr rfl) (.inr rfl) (.inr rfl) (.inr rfl) (.inr rfl) (.inr rfl) (.inr rfl)
          exact hs

theorem linesDown_frame (s : State) (a1 : Region) (a2 : Bool) : Frame touches114 s (State.linesDown s a1 a2) := by
  have hs := Frame.refl touches114 s
  unfold State.linesDown
  extract_lets -merge -useContext -underBinder x0 x1 x2
  have h3 : Frame touches114 s x1 := by
    unfold x1
    refine Frame.radUpd ?_ (.inr rfl) (.inr rfl) (.inr rfl) (.inr rfl) (.inr rfl) (.inr rfl) (.inr rfl) (.inr rfl) (.inr rfl)
    exact hs
  clear_value x1
  have h4 : Frame touches114 s x2 := by
    unfold x2
    refine Frame.ite (fun _ => ?_) (fun _ => ?_)
    · refine Frame.after ?_ (Frame.mono rfl (linesOff_frame _ _))
      exact h3
    · refine Frame.radUpd ?_ (.inr rfl) (.inr rfl) (.inr rfl) (.inr rfl) (.inr rfl) (.inr rfl) (.inr rfl) (.inr rfl) (.inr rfl)
      exact h3
  clear_value x2
  refine Frame.after ?_ (Frame.mono rfl (coexPlan_frame _ _))
  exact h4

theorem muteRegion_frame (s : State) (a1 : Region) (a2 : Outcome) (a3 : Outcome) (a4 : Bool) : Frame touches121 s (State.muteRegion s a1 a2 a3 a4) := by
  have hs := Frame.refl touches121 s
  unfold State.muteRegion
  extract_lets -merge -useContext -underBinder x0 x1 x2 x3
  clear_value x0
  clear_value x1
  have h4 : Frame touches121 s x2 := by
    unfold x2
    refine Frame.ite (fun _ => ?_) (fun _ => ?_)
    · refine Frame.after ?_ (Frame.mono rfl (linesDown_frame _ _ _))
      exact hs
    · refine Frame.ite (fun _ => ?_) (fun _ => ?_)
      · refine Frame.after ?_ (Frame.mono rfl (linesOff_frame _ _))
        exact hs
      · refine Frame.after ?_ (Frame.mono rfl (linesRest_frame _ _))
        exact hs
  clear_value x2
  have h5 : Frame touches121 s x3 := by
    unfold x3
    refine Frame.foldl ?_ (fun x6 y7 h8 => ?_)
    · exact h4
    · refine Frame.after ?_ (Frame.mono rfl (asideEnd_frame _ _ _ _))
      exact h8
  clear_value x3
  refine Frame.foldl ?_ (fun x9 y10 h11 => ?_)
  · exact h5
  · refine Frame.after ?_ (Frame.mono rfl (jobEnd_frame _ _ _ _))
    exact h11

theorem trimTaken_frame (s : State) (a1 : Region) : Frame touches41 s (State.trimTaken s a1) := by
  have hs := Frame.refl touches41 s
  unfold State.trimTaken
  refine Frame.radUpd ?_ (.inl (fun _ => ⟨rfl, rfl, rfl⟩)) (.inl (fun _ => ⟨rfl, rfl, rfl⟩)) (.inr rfl) (.inl (fun _ => ⟨rfl, rfl, rfl, rfl, rfl, rfl, rfl, rfl, rfl⟩)) (.inl (fun _ => ⟨rfl, rfl, rfl, rfl⟩)) (.inl (fun _ => ⟨rfl, rfl, rfl⟩)) (.inl (fun _ => rfl)) (.inl (fun _ => rfl)) (.inl (fun _ => ⟨rfl, rfl, rfl⟩))
  exact hs

theorem jobsTimed_frame (s : State) (a1 : Region) : Frame touches138 s (State.jobsTimed s a1) := by
  have hs := Frame.refl touches138 s
  unfold State.jobsTimed
  refine Frame.after ?_ (Frame.mono rfl (coexPlan_frame _ _))
  refine Frame.foldl ?_ (fun x0 y1 h2 => ?_)
  · exact hs
  · extract_lets -merge -useContext -underBinder x3 x4
    clear_value x3
    have h5 : Frame touches138 s x4 := by
      unfold x4
      refine Frame.after ?_ (Frame.mono rfl (setCarrier_frame _ _ _ _))
      exact h2
    clear_value x4
    split
    · extract_lets -merge -useContext -underBinder x6 x7
      clear_value x6
      clear_value x7
      refine Frame.ite (fun _ => ?_) (fun _ => ?_)
      · refine Frame.after ?_ (Frame.mono rfl (setCarrier_frame _ _ _ _))
        exact h5
      · exact h5
    · exact h5

theorem linesUp_frame (s : State) (a1 : Region) : Frame touches114 s (State.linesUp s a1) := by
  have hs := Frame.refl touches114 s
  unfold State.linesUp
  extract_lets -merge -useContext -underBinder x0 x1
  have h2 : Frame touches114 s x1 := by
    unfold x1
    refine Frame.ite (fun _ => ?_) (fun _ => ?_)
    · exact hs
    · refine Frame.after ?_ (Frame.mono rfl (blank_frame _ _))
      exact hs
  clear_value x1
  refine Frame.radUpd ?_ (.inr rfl) (.inr rfl) (.inr rfl) (.inr rfl) (.inr rfl) (.inr rfl) (.inr rfl) (.inr rfl) (.inr rfl)
  exact h2

theorem dutyCharge_frame (s : State) (a1 : Region) (a2 : Nat) (a3 : Nat) : Frame touches169 s (State.dutyCharge s a1 a2 a3) := by
  have hs := Frame.refl touches169 s
  unfold State.dutyCharge
  exact Frame.upd hs (.inl rfl) (.inl rfl) (.inl ⟨rfl, rfl⟩) (.inl rfl) (.inl rfl) (.inl rfl) (.inl rfl) (.inl rfl) (.inl rfl) (.inl rfl) (.inl ⟨rfl, rfl, rfl⟩) (.inl rfl) (.inl ⟨rfl, rfl, rfl⟩) (.inl ⟨rfl, rfl⟩) (.inl ⟨rfl, rfl, rfl, rfl, rfl, rfl, rfl, rfl⟩) (.inl ⟨rfl, rfl⟩) (.inl ⟨rfl, rfl, rfl, rfl, rfl, rfl, rfl, rfl, rfl, rfl⟩) (.inl ⟨rfl, rfl⟩) (.inl ⟨rfl, rfl⟩) (.inl rfl) (.inl rfl) (.inl rfl) (.inl rfl) (.inl ⟨rfl, rfl, rfl, rfl, rfl, rfl, rfl, rfl, rfl⟩) (.inl ⟨rfl, rfl, rfl, rfl, rfl, rfl, rfl, rfl, rfl⟩) (.inl ⟨rfl, rfl, rfl⟩) (.inl ⟨rfl, rfl, rfl, rfl, rfl, rfl, rfl, rfl, rfl, rfl, rfl, rfl, rfl, rfl, rfl, rfl, rfl, rfl, rfl, rfl, rfl, rfl, rfl, rfl, rfl, rfl, rfl⟩) (.inl ⟨rfl, rfl, rfl, rfl, rfl, rfl, rfl, rfl, rfl, rfl, rfl, rfl⟩) (.inl ⟨rfl, rfl, rfl, rfl, rfl, rfl, rfl, rfl, rfl⟩) (.inl ⟨rfl, rfl, rfl⟩) (.inl ⟨rfl, rfl, rfl⟩) (.inl ⟨rfl, rfl, rfl, rfl, rfl, rfl, rfl, rfl, rfl⟩) (.inl rfl) (.inl rfl) (.inl rfl) (.inr rfl) (.inl ⟨rfl, rfl⟩) (.inl ⟨rfl, rfl⟩) (.inl rfl) (.inl ⟨rfl, rfl, rfl, rfl, rfl⟩) (.inl ⟨rfl, rfl⟩) (.inl ⟨rfl, rfl, rfl, rfl⟩) (.inl ⟨rfl, rfl, rfl⟩) (.inl rfl) (.inl ⟨rfl, rfl⟩) (.inl ⟨rfl, rfl, rfl, rfl, rfl, rfl, rfl⟩) (.inl ⟨rfl, rfl, rfl, rfl, rfl⟩) (.inl rfl) (.inl ⟨rfl, rfl, rfl, rfl, rfl, rfl⟩) (.inl ⟨rfl, rfl, rfl, rfl, rfl, rfl, rfl, rfl, rfl, rfl, rfl⟩) (.inl ⟨rfl, rfl, rfl, rfl⟩) (.inl rfl) (.inl rfl) (.inl ⟨rfl, rfl, rfl, rfl, rfl, rfl, rfl, rfl, rfl, rfl, rfl, rfl⟩) (.inl ⟨rfl, rfl⟩) (.inl ⟨rfl, rfl, rfl, rfl, rfl, rfl⟩) (.inl ⟨rfl, rfl, rfl, rfl, rfl, rfl⟩) (.inl ⟨rfl, rfl, rfl, rfl, rfl, rfl, rfl, rfl, rfl, rfl, rfl, rfl⟩) (.inl ⟨rfl, rfl, rfl⟩) (.inl ⟨rfl, rfl, rfl, rfl⟩) (.inl ⟨rfl, rfl, rfl, rfl, rfl⟩) (.inl ⟨rfl, rfl, rfl, rfl, rfl, rfl, rfl, rfl, rfl, rfl⟩) (.inl ⟨rfl, rfl, rfl, rfl, rfl, rfl, rfl, rfl, rfl⟩) (.inl ⟨rfl, rfl, rfl, rfl, rfl, rfl, rfl, rfl, rfl, rfl, rfl, rfl, rfl⟩) (.inl ⟨rfl, rfl, rfl⟩) (.inl ⟨rfl, rfl, rfl, rfl, rfl⟩) (.inl rfl) (.inl rfl) (.inl ⟨rfl, rfl⟩) (.inl ⟨rfl, rfl, rfl, rfl, rfl, rfl, rfl, rfl, rfl, rfl, rfl, rfl, rfl⟩) (.inl rfl) (.inl rfl) (.inl ⟨rfl, rfl, rfl⟩) (.inl rfl)

theorem unhold_frame (s : State) (a1 : Region) : Frame touches53 s (State.unhold s a1) := by
  have hs := Frame.refl touches53 s
  unfold State.unhold
  refine Frame.foldl ?_ (fun x0 y1 h2 => ?_)
  · exact hs
  · extract_lets -merge -useContext -underBinder x3
    clear_value x3
    split
    · refine Frame.ite (fun _ => ?_) (fun _ => ?_)
      · refine Frame.after ?_ (Frame.mono rfl (lbtBegin_frame _ _ _))
        exact h2
      · exact h2
    · exact h2

theorem airMoved_frame (s : State) (a1 : Region) : Frame touches53 s (State.airMoved s a1) := by
  have hs := Frame.refl touches53 s
  unfold State.airMoved
  refine Frame.after ?_ (Frame.mono rfl (coexGrant_frame _ _))
  refine Frame.after ?_ (Frame.mono rfl (unhold_frame _ _))
  exact hs

theorem t0Again_frame (s : State) (a1 : Region) : Frame touches41 s (State.t0Again s a1) := by
  have hs := Frame.refl touches41 s
  unfold State.t0Again
  refine Frame.foldl ?_ (fun x0 y1 h2 => ?_)
  · exact hs
  · extract_lets -merge -useContext -underBinder x3
    clear_value x3
    split
    · refine Frame.ite (fun _ => ?_) (fun _ => ?_)
      · refine Frame.after ?_ (Frame.mono rfl (setCarrier_frame _ _ _ _))
        exact h2
      · exact h2
    · exact h2

theorem biasSet_frame (s : State) (a1 : Region) : Frame touches189 s (State.biasSet s a1) := by
  have hs := Frame.refl touches189 s
  unfold State.biasSet
  split
  · refine Frame.radUpd ?_ (.inl (fun _ => ⟨rfl, rfl, rfl⟩)) (.inl (fun _ => ⟨rfl, rfl, rfl⟩)) (.inl (fun _ => rfl)) (.inr rfl) (.inl (fun _ => ⟨rfl, rfl, rfl, rfl⟩)) (.inl (fun _ => ⟨rfl, rfl, rfl⟩)) (.inl (fun _ => rfl)) (.inl (fun _ => rfl)) (.inl (fun _ => ⟨rfl, rfl, rfl⟩))
    exact hs
  · exact hs

theorem airEnd_frame (s : State) (a1 : Region) (a2 : Nat) : Frame touches190 s (State.airEnd s a1 a2) := by
  have hs := Frame.refl touches190 s
  unfold State.airEnd
  refine Frame.ite (fun _ => ?_) (fun _ => ?_)
  · refine Frame.after ?_ (Frame.mono rfl (t0Again_frame _ _))
    refine Frame.radUpd ?_ (.inl (fun _ => ⟨rfl, rfl, rfl⟩)) (.inl (fun _ => ⟨rfl, rfl, rfl⟩)) (.inr rfl) (.inr rfl) (.inl (fun _ => ⟨rfl, rfl, rfl, rfl⟩)) (.inl (fun _ => ⟨rfl, rfl, rfl⟩)) (.inl (fun _ => rfl)) (.inl (fun _ => rfl)) (.inl (fun _ => ⟨rfl, rfl, rfl⟩))
    exact hs
  · refine Frame.after ?_ (Frame.mono rfl (biasSet_frame _ _))
    exact hs

theorem ccaBusy_frame (s : State) (a1 : Region) (a2 : Nat) (a3 : TxJob) : Frame touches53 s (State.ccaBusy s a1 a2 a3) := by
  have hs := Frame.refl touches53 s
  unfold State.ccaBusy
  extract_lets -merge -useContext -underBinder x0 x1
  clear_value x0
  have h2 : Frame touches53 s x1 := by
    unfold x1
    refine Frame.after ?_ (Frame.mono rfl (cnt_frame _ _))
    exact hs
  clear_value x1
  refine Frame.ite (fun _ => ?_) (fun _ => ?_)
  · refine Frame.after ?_ (Frame.mono rfl (coexPlan_frame _ _))
    refine Frame.after ?_ (Frame.mono rfl (backoff_frame _ _ _ _ _ _ _))
    exact h2
  · refine Frame.ite (fun _ => ?_) (fun _ => ?_)
    · refine Frame.after ?_ (Frame.mono rfl (strobeSkip_frame _ _ _ _))
      refine Frame.after ?_ (Frame.mono rfl (cnt_frame _ _))
      exact h2
    · refine Frame.after ?_ (Frame.mono rfl (jobEnd_frame _ _ _ _))
      exact h2

theorem powerClamp_frame (s : State) (a1 : Region) (a2 : TxJob) : Frame touches1 s (State.powerClamp s a1 a2).1 := by
  have hs := Frame.refl touches1 s
  unfold State.powerClamp
  extract_lets -merge -useContext -underBinder x0
  clear_value x0
  split
  · extract_lets -merge -useContext -underBinder x1
    refine Frame.iteFst (fun _ => ?_) (fun _ => ?_)
    · dsimp only
      refine Frame.after ?_ (when_frame rfl _ _ ?_)
      · refine Frame.after ?_ (Frame.mono rfl (cnt_frame _ _))
        exact hs
      · intro y2
        have h3 := Frame.refl touches1 y2
        refine Frame.after ?_ (Frame.mono rfl (stk_frame _ _ _))
        exact h3
    · dsimp only
      exact hs

theorem admitTx_frame (s : State) (a1 : Region) (a2 : TxJob) : Frame touches1 s (State.admitTx s a1 a2).1 := by
  have hs := Frame.refl touches1 s
  unfold State.admitTx
  split
  · dsimp only
    exact hs
  · extract_lets -merge -useContext -underBinder x0
    clear_value x0
    refine Frame.iteFst (fun _ => ?_) (fun _ => ?_)
    · dsimp only
      exact hs
    · refine Frame.iteFst (fun _ => ?_) (fun _ => ?_)
      · dsimp only
        exact hs
      · dsimp only
        refine Frame.after ?_ (Frame.mono rfl (dutyRefused_frame _ _ _))
        exact hs

theorem attempted_frame (s : State) (a1 : TxJob) : Frame touches29 s (State.attempted s a1) := by
  have hs := Frame.refl touches29 s
  unfold State.attempted
  split
  · exact hs
  · refine Frame.after ?_ (Frame.mono rfl (setHead_frame _ _ _))
    exact hs
  · exact hs

theorem txBegin_frame (s : State) (a1 : Region) (a2 : Nat) (a3 : TxJob) : Frame touches216 s (State.txBegin s a1 a2 a3) := by
  have hs := Frame.refl touches216 s
  unfold State.txBegin
  split
  · rename_i z0 z1 z2 z3
    have h4 : Frame touches216 s z1 := Frame.pair z3 (by
        refine Frame.after ?_ (Frame.mono rfl (powerClamp_frame _ _ _))
        exact hs)
    extract_lets -merge -useContext -underBinder x5 x6 x7 x8 x9 x10 x11 x12 x13 x14 x15 x16 x17
    clear_value x6
    have h18 : Frame touches216 s x7 := by
      unfold x7
      refine Frame.after ?_ (Frame.mono rfl (dutyCharge_frame _ _ _ _))
      exact h4
    clear_value x7
    have h19 : Frame touches216 s x8 := by
      unfold x8
      refine Frame.ite (fun _ => ?_) (fun _ => ?_)
      · refine Frame.after ?_ (Frame.mono rfl (sbCharge_frame _ _ _ _))
        exact h18
      · exact h18
    clear_value x8
    clear_value x9
    have h20 : Frame touches216 s x10 := by
      unfold x10
      refine Frame.after ?_ (Frame.mono rfl (attempted_frame _ _))
      refine Frame.after ?_ (Frame.mono rfl (used_frame _))
      exact h19
    clear_value x10
    have h21 : Frame touches216 s x11 := by
      unfold x11
      refine Frame.radUpd ?_ (.inr rfl) (.inr rfl) (.inr rfl) (.inr rfl) (.inr rfl) (.inr rfl) (.inr rfl) (.inr rfl) (.inr rfl)
      exact h20
    clear_value x11
    clear_value x12
    clear_value x13
    clear_value x15
    clear_value x16
    have h22 : Frame touches216 s x17 := by
      unfold x17
      refine Frame.ite (fun _ => ?_) (fun _ => ?_)
      · refine Frame.after ?_ (Frame.mono rfl (setCarrier_frame _ _ _ _))
        exact h21
      · refine Frame.ite (fun _ => ?_) (fun _ => ?_)
        · refine Frame.after ?_ (Frame.mono rfl (setCarrier_frame _ _ _ _))
          exact h21
        · refine Frame.after ?_ (Frame.mono rfl (setCarrier_frame _ _ _ _))
          refine Frame.after ?_ (Frame.mono rfl (linesUp_frame _ _))
          exact h21
    clear_value x17
    refine Frame.after ?_ (Frame.mono rfl (biasSet_frame _ _))
    refine Frame.radUpd ?_ (.inr rfl) (.inr rfl) (.inr rfl) (.inr rfl) (.inr rfl) (.inr rfl) (.inr rfl) (.inr rfl) (.inr rfl)
    exact h22

theorem frameSent_frame (s : State) (a1 : Nat) (a2 : Nat) (a3 : Nat) : Frame touches29 s (State.frameSent s a1 a2 a3) := by
  have hs := Frame.refl touches29 s
  unfold State.frameSent
  refine Frame.after ?_ (Frame.mono rfl (setHead_frame _ _ _))
  exact hs

end Sys2Proof
end

