-- ==== Sys2Proof/Laws/FrameDls.lean ====
section
/-! SUPPORT. Laws/FrameDls.lean: what each operation of Machine/Dls.lean leaves as it was. -/

namespace Sys2Proof

open Sys2Proof.Machine

theorem expireReady_frame (s : State) : Frame touches33 s (State.expireReady s) := by
  have hs := Frame.refl touches33 s
  unfold State.expireReady
  refine Frame.foldl ?_ (fun x0 y1 h2 => ?_)
  · exact hs
  · split
    · refine Frame.ite (fun _ => ?_) (fun _ => ?_)
      · refine Frame.after ?_ (Frame.mono rfl (nextFrame_frame _ _))
        refine Frame.after ?_ (Frame.mono rfl (frameExpire_frame _ _))
        exact h2
      · exact h2
    · exact h2

end Sys2Proof
end

