-- ==== Sys2Proof/Laws/FrameKeyStore.lean ====
section
/-! SUPPORT. Laws/FrameKeyStore.lean: what each operation of Machine/KeyStore.lean leaves as it was. -/

namespace Sys2Proof

open Sys2Proof.Machine

theorem keyClear_frame (s : State) : Frame touches66 s (State.keyClear s) := by
  have hs := Frame.refl touches66 s
  unfold State.keyClear
  refine Frame.keyUpd ?_ (.inl ⟨rfl, rfl, rfl, rfl, rfl, rfl⟩) (.inl ⟨rfl, rfl, rfl, rfl, rfl, rfl⟩) (.inr rfl)
  exact hs

theorem keyErase_frame (s : State) : Frame touches101 s (State.keyErase s) := by
  have hs := Frame.refl touches101 s
  unfold State.keyErase
  refine Frame.keyUpd ?_ (.inr rfl) (.inr rfl) (.inr rfl)
  exact hs

theorem omRefuse_frame (s : State) (a1 : Nat) (a2 : Nat) (a3 : Bytes) : Frame touches19 s (State.omRefuse s a1 a2 a3).1 := by
  have hs := Frame.refl touches19 s
  unfold State.omRefuse
  dsimp only
  refine Frame.after ?_ (Frame.mono rfl (msgRefused_frame _ _ _ _))
  refine Frame.after ?_ (Frame.mono rfl (cnt_frame _ _))
  exact hs

theorem offTamperTake_frame (s : State) : Frame touches170 s (State.offTamperTake s) := by
  have hs := Frame.refl touches170 s
  unfold State.offTamperTake
  refine Frame.keyUpd ?_ (.inr rfl) (.inl ⟨rfl, rfl, rfl, rfl, rfl, rfl⟩) (.inr rfl)
  exact hs

theorem keyRegen_frame (s : State) : Frame touches173 s (State.keyRegen s) := by
  have hs := Frame.refl touches173 s
  unfold State.keyRegen
  extract_lets -merge -useContext -underBinder x0 x1
  clear_value x0
  clear_value x1
  refine Frame.keyUpd ?_ (.inr rfl) (.inl ⟨rfl, rfl, rfl, rfl, rfl, rfl⟩) (.inr rfl)
  refine Frame.after ?_ (Frame.mono rfl (used_frame _))
  exact hs

theorem keyLoad_frame (s : State) (a1 : KeyStore) : Frame touches66 s (State.keyLoad s a1) := by
  have hs := Frame.refl touches66 s
  unfold State.keyLoad
  refine Frame.keyUpd ?_ (.inl ⟨rfl, rfl, rfl, rfl, rfl, rfl⟩) (.inl ⟨rfl, rfl, rfl, rfl, rfl, rfl⟩) (.inr rfl)
  exact hs

theorem storeCommit_frame (s : State) (a1 : KeyStore) (a2 : Nat) : Frame touches174 s (State.storeCommit s a1 a2) := by
  have hs := Frame.refl touches174 s
  unfold State.storeCommit
  extract_lets -merge -useContext -underBinder x0 x1
  clear_value x0
  clear_value x1
  refine Frame.after ?_ (Frame.mono rfl (event_frame _ _))
  refine Frame.keyUpd ?_ (.inr rfl) (.inr rfl) (.inr rfl)
  exact hs

theorem keyCheck_frame (s : State) : Frame touches175 s (State.keyCheck s) := by
  have hs := Frame.refl touches175 s
  unfold State.keyCheck
  extract_lets -merge -useContext -underBinder x0 x1 x2 x3 x4 x5 x6
  have h7 : Frame touches175 s x0 := by
    unfold x0
    refine Frame.after ?_ (Frame.mono rfl (offTamperTake_frame _))
    refine Frame.after ?_ (when_frame rfl _ _ ?_)
    · exact hs
    · intro y8
      have h9 := Frame.refl touches175 y8
      refine Frame.after ?_ (Frame.mono rfl (stk_frame _ _ _))
      exact h9
  clear_value x0
  have h10 : Frame touches175 s x1 := by
    unfold x1
    refine Frame.after ?_ (when_frame rfl _ _ ?_)
    · exact h7
    · intro y11
      have h12 := Frame.refl touches175 y11
      refine Frame.after ?_ (Frame.mono rfl (keyRegen_frame _))
      exact h12
  clear_value x1
  have h13 : Frame touches175 s x2 := by
    unfold x2
    refine Frame.keyUpd ?_ (.inr rfl) (.inr rfl) (.inr rfl)
    exact h10
  clear_value x2
  have h14 : ∀ y15, Frame touches175 y15 (x4 y15) := by
    intro y15
    have h16 := Frame.refl touches175 y15
    unfold x4
    refine Frame.after ?_ (Frame.mono rfl (cell_frame _ _ _ _ _))
    refine Frame.after ?_ (Frame.mono rfl (stk_frame _ _ _))
    refine Frame.keyUpd ?_ (.inr rfl) (.inr rfl) (.inr rfl)
    exact h16
  clear_value x4
  have h17 : ∀ y18 y19, Frame touches175 y18 (x5 y18 y19) := by
    intro y18 y19
    have h20 := Frame.refl touches175 y18
    unfold x5
    refine Frame.after ?_ (Frame.mono rfl (keyLoad_frame _ _))
    refine Frame.keyUpd ?_ (.inr rfl) (.inr rfl) (.inr rfl)
    exact h20
  clear_value x5
  have h21 : ∀ y22 y23 y24, Frame touches175 y22 (x6 y22 y23 y24) := by
    intro y22 y23 y24
    have h25 := Frame.refl touches175 y22
    unfold x6
    refine Frame.after ?_ (Frame.mono rfl (cell_frame _ _ _ _ _))
    refine Frame.after ?_ (Frame.mono rfl (stk_frame _ _ _))
    refine Frame.after ?_ (Frame.mono rfl (storeCommit_frame _ _ _))
    exact h25
  clear_value x6
  refine Frame.ite (fun _ => ?_) (fun _ => ?_)
  · exact h13
  · refine Frame.ite (fun _ => ?_) (fun _ => ?_)
    · refine Frame.after ?_ (h14 _)
      exact h13
    · split
      · refine Frame.ite (fun _ => ?_) (fun _ => ?_)
        · refine Frame.after ?_ (h17 _ _)
          exact h13
        · refine Frame.after ?_ (h14 _)
          exact h13
      · refine Frame.after ?_ (h17 _ _)
        refine Frame.after ?_ (h21 _ _ _)
        exact h13
      · refine Frame.after ?_ (h17 _ _)
        refine Frame.after ?_ (h21 _ _ _)
        exact h13
      · refine Frame.after ?_ (h14 _)
        exact h13

theorem keyCommit_frame (s : State) (a1 : KeyStore) (a2 : Nat) : Frame touches174 s (State.keyCommit s a1 a2) := by
  have hs := Frame.refl touches174 s
  unfold State.keyCommit
  refine Frame.keyUpd ?_ (.inr rfl) (.inr rfl) (.inr rfl)
  refine Frame.after ?_ (Frame.mono rfl (storeCommit_frame _ _ _))
  exact hs

theorem counterCommit_frame (s : State) (a1 : Nat) : Frame touches174 s (State.counterCommit s a1) := by
  have hs := Frame.refl touches174 s
  unfold State.counterCommit
  refine Frame.after ?_ (Frame.mono rfl (event_frame _ _))
  refine Frame.keyUpd ?_ (.inr rfl) (.inr rfl) (.inr rfl)
  exact hs

end Sys2Proof
end

