-- ==== Sys2Proof/Laws/FrameTwinOps.lean ====
section
/-! SUPPORT. Laws/FrameTwinOps.lean: what each operation of Machine/TwinOps.lean leaves as it was. -/

namespace Sys2Proof

open Sys2Proof.Machine

theorem linkUpd_frame (s : State) (a1 : TwinLink → TwinLink) : Frame touches21 s (State.linkUpd s a1) := by
  have hs := Frame.refl touches21 s
  unfold State.linkUpd
  extract_lets -merge -useContext -underBinder x0
  exact Frame.upd hs (.inl rfl) (.inl rfl) (.inl ⟨rfl, rfl⟩) (.inl rfl) (.inl rfl) (.inl rfl) (.inl rfl) (.inl rfl) (.inl rfl) (.inl rfl) (.inl ⟨rfl, rfl, rfl⟩) (.inl rfl) (.inl ⟨rfl, rfl, rfl⟩) (.inl ⟨rfl, rfl⟩) (.inl ⟨rfl, rfl, rfl, rfl, rfl, rfl, rfl, rfl⟩) (.inl ⟨rfl, rfl⟩) (.inl ⟨rfl, rfl, rfl, rfl, rfl, rfl, rfl, rfl, rfl, rfl⟩) (.inl ⟨rfl, rfl⟩) (.inl ⟨rfl, rfl⟩) (.inl rfl) (.inl rfl) (.inl rfl) (.inl rfl) (.inl ⟨rfl, rfl, rfl, rfl, rfl, rfl, rfl, rfl, rfl⟩) (.inl ⟨rfl, rfl, rfl, rfl, rfl, rfl, rfl, rfl, rfl⟩) (.inl ⟨rfl, rfl, rfl⟩) (.inl ⟨rfl, rfl, rfl, rfl, rfl, rfl, rfl, rfl, rfl, rfl, rfl, rfl, rfl, rfl, rfl, rfl, rfl, rfl, rfl, rfl, rfl, rfl, rfl, rfl, rfl, rfl, rfl⟩) (.inl ⟨rfl, rfl, rfl, rfl, rfl, rfl, rfl, rfl, rfl, rfl, rfl, rfl⟩) (.inl ⟨rfl, rfl, rfl, rfl, rfl, rfl, rfl, rfl, rfl⟩) (.inl ⟨rfl, rfl, rfl⟩) (.inl ⟨rfl, rfl, rfl⟩) (.inl ⟨rfl, rfl, rfl, rfl, rfl, rfl, rfl, rfl, rfl⟩) (.inl rfl) (.inl rfl) (.inl rfl) (.inl rfl) (.inl ⟨rfl, rfl⟩) (.inl ⟨rfl, rfl⟩) (.inl rfl) (.inl ⟨rfl, rfl, rfl, rfl, rfl⟩) (.inl ⟨rfl, rfl⟩) (.inl ⟨rfl, rfl, rfl, rfl⟩) (.inl ⟨rfl, rfl, rfl⟩) (.inl rfl) (.inl ⟨rfl, rfl⟩) (.inl ⟨rfl, rfl, rfl, rfl, rfl, rfl, rfl⟩) (.inl ⟨rfl, rfl, rfl, rfl, rfl⟩) (.inl rfl) (.inl ⟨rfl, rfl, rfl, rfl, rfl, rfl⟩) (.inl ⟨rfl, rfl, rfl, rfl, rfl, rfl, rfl, rfl, rfl, rfl, rfl⟩) (.inl ⟨rfl, rfl, rfl, rfl⟩) (.inl rfl) (.inl rfl) (.inl ⟨rfl, rfl, rfl, rfl, rfl, rfl, rfl, rfl, rfl, rfl, rfl, rfl⟩) (.inl ⟨rfl, rfl⟩) (.inl ⟨rfl, rfl, rfl, rfl, rfl, rfl⟩) (.inl ⟨rfl, rfl, rfl, rfl, rfl, rfl⟩) (.inl ⟨rfl, rfl, rfl, rfl, rfl, rfl, rfl, rfl, rfl, rfl, rfl, rfl⟩) (.inl ⟨rfl, rfl, rfl⟩) (.inl ⟨rfl, rfl, rfl, rfl⟩) (.inl ⟨rfl, rfl, rfl, rfl, rfl⟩) (.inl ⟨rfl, rfl, rfl, rfl, rfl, rfl, rfl, rfl, rfl, rfl⟩) (.inl ⟨rfl, rfl, rfl, rfl, rfl, rfl, rfl, rfl, rfl⟩) (.inr rfl) (.inl ⟨rfl, rfl, rfl⟩) (.inl ⟨rfl, rfl, rfl, rfl, rfl⟩) (.inl rfl) (.inl rfl) (.inl ⟨rfl, rfl⟩) (.inl ⟨rfl, rfl, rfl, rfl, rfl, rfl, rfl, rfl, rfl, rfl, rfl, rfl, rfl⟩) (.inl rfl) (.inl rfl) (.inl ⟨rfl, rfl, rfl⟩) (.inl rfl)

theorem twinSay_frame (s : State) (a1 : Byte) (a2 : Bytes) : Frame touches21 s (State.twinSay s a1 a2) := by
  have hs := Frame.refl touches21 s
  unfold State.twinSay
  refine Frame.after ?_ (Frame.mono rfl (linkUpd_frame _ _))
  exact hs

theorem resyncAsk_frame (s : State) : Frame touches61 s (State.resyncAsk s) := by
  have hs := Frame.refl touches61 s
  unfold State.resyncAsk
  refine Frame.ite (fun _ => ?_) (fun _ => ?_)
  · refine Frame.twinUpd ?_ (.inl ⟨rfl, rfl, rfl, rfl, rfl, rfl, rfl, rfl, rfl⟩) (.inr rfl) (.inr rfl)
    refine Frame.after ?_ (Frame.mono rfl (twinSay_frame _ _ _))
    exact hs
  · exact hs

theorem offerTold_frame (s : State) (a1 : Nat) : Frame touches69 s (State.offerTold s a1) := by
  have hs := Frame.refl touches69 s
  unfold State.offerTold
  split
  · extract_lets -merge -useContext -underBinder x0
    have h1 : Frame touches69 s x0 := by
      unfold x0
      refine Frame.after ?_ (Frame.mono rfl (event_frame _ _))
      refine Frame.after ?_ (Frame.mono rfl (lastResult_frame _ _ _))
      refine Frame.twinUpd ?_ (.inl ⟨rfl, rfl, rfl, rfl, rfl, rfl, rfl, rfl, rfl⟩) (.inr rfl) (.inl ⟨rfl, rfl, rfl⟩)
      exact hs
    clear_value x0
    refine Frame.ite (fun _ => ?_) (fun _ => ?_)
    · refine Frame.after ?_ (Frame.mono rfl (mailAnswer_frame _ _ _ _ _ _))
      exact h1
    · exact h1
  · exact hs

theorem setLink_frame (s : State) (a1 : Nat) : Frame touches70 s (State.setLink s a1) := by
  have hs := Frame.refl touches70 s
  unfold State.setLink
  refine Frame.ite (fun _ => ?_) (fun _ => ?_)
  · exact hs
  · refine Frame.after ?_ (Frame.mono rfl (event_frame _ _))
    refine Frame.after ?_ (Frame.mono rfl (linkUpd_frame _ _))
    exact hs

theorem linkDown_frame (s : State) : Frame touches71 s (State.linkDown s) := by
  have hs := Frame.refl touches71 s
  unfold State.linkDown
  extract_lets -merge -useContext -underBinder x0 x1 x2 x3 x4
  have h5 : Frame touches71 s x1 := by
    unfold x1
    refine Frame.ite (fun _ => ?_) (fun _ => ?_)
    · refine Frame.after ?_ (Frame.mono rfl (offerTold_frame _ _))
      refine Frame.after ?_ (Frame.mono rfl (used_frame _))
      exact hs
    · exact hs
  clear_value x1
  have h6 : Frame touches71 s x2 := by
    unfold x2
    refine Frame.after ?_ (Frame.mono rfl (setLink_frame _ _))
    exact h5
  clear_value x2
  have h7 : Frame touches71 s x4 := by
    unfold x4
    exact Frame.upd h6 (.inl rfl) (.inl rfl) (.inr rfl) (.inl rfl) (.inr rfl) (.inr rfl) (.inl rfl) (.inl rfl) (.inl rfl) (.inl rfl) (.inl ⟨rfl, rfl, rfl⟩) (.inl rfl) (.inl ⟨rfl, rfl, rfl⟩) (.inl ⟨rfl, rfl⟩) (.inl ⟨rfl, rfl, rfl, rfl, rfl, rfl, rfl, rfl⟩) (.inl ⟨rfl, rfl⟩) (.inl ⟨rfl, rfl, rfl, rfl, rfl, rfl, rfl, rfl, rfl, rfl⟩) (.inl ⟨rfl, rfl⟩) (.inl ⟨rfl, rfl⟩) (.inl rfl) (.inl rfl) (.inl rfl) (.inl rfl) (.inl ⟨rfl, rfl, rfl, rfl, rfl, rfl, rfl, rfl, rfl⟩) (.inl ⟨rfl, rfl, rfl, rfl, rfl, rfl, rfl, rfl, rfl⟩) (.inl ⟨rfl, rfl, rfl⟩) (.inl ⟨rfl, rfl, rfl, rfl, rfl, rfl, rfl, rfl, rfl, rfl, rfl, rfl, rfl, rfl, rfl, rfl, rfl, rfl, rfl, rfl, rfl, rfl, rfl, rfl, rfl, rfl, rfl⟩) (.inl ⟨rfl, rfl, rfl, rfl, rfl, rfl, rfl, rfl, rfl, rfl, rfl, rfl⟩) (.inl ⟨rfl, rfl, rfl, rfl, rfl, rfl, rfl, rfl, rfl⟩) (.inl ⟨rfl, rfl, rfl⟩) (.inl ⟨rfl, rfl, rfl⟩) (.inl ⟨rfl, rfl, rfl, rfl, rfl, rfl, rfl, rfl, rfl⟩) (.inl rfl) (.inl rfl) (.inl rfl) (.inl rfl) (.inl ⟨rfl, rfl⟩) (.inl ⟨rfl, rfl⟩) (.inl rfl) (.inl ⟨rfl, rfl, rfl, rfl, rfl⟩) (.inl ⟨rfl, rfl⟩) (.inl ⟨rfl, rfl, rfl, rfl⟩) (.inl ⟨rfl, rfl, rfl⟩) (.inr rfl) (.inr rfl) (.inr rfl) (.inl ⟨rfl, rfl, rfl, rfl, rfl⟩) (.inl rfl) (.inl ⟨rfl, rfl, rfl, rfl, rfl, rfl⟩) (.inl ⟨rfl, rfl, rfl, rfl, rfl, rfl, rfl, rfl, rfl, rfl, rfl⟩) (.inl ⟨rfl, rfl, rfl, rfl⟩) (.inl rfl) (.inr rfl) (.inl ⟨rfl, rfl, rfl, rfl, rfl, rfl, rfl, rfl, rfl, rfl, rfl, rfl⟩) (.inl ⟨rfl, rfl⟩) (.inl ⟨rfl, rfl, rfl, rfl, rfl, rfl⟩) (.inl ⟨rfl, rfl, rfl, rfl, rfl, rfl⟩) (.inl ⟨rfl, rfl, rfl, rfl, rfl, rfl, rfl, rfl, rfl, rfl, rfl, rfl⟩) (.inl ⟨rfl, rfl, rfl⟩) (.inl ⟨rfl, rfl, rfl, rfl⟩) (.inl ⟨rfl, rfl, rfl, rfl, rfl⟩) (.inl ⟨rfl, rfl, rfl, rfl, rfl, rfl, rfl, rfl, rfl, rfl⟩) (.inr rfl) (.inr rfl) (.inr rfl) (.inl ⟨rfl, rfl, rfl, rfl, rfl⟩) (.inl rfl) (.inl rfl) (.inl ⟨rfl, rfl⟩) (.inl ⟨rfl, rfl, rfl, rfl, rfl, rfl, rfl, rfl, rfl, rfl, rfl, rfl, rfl⟩) (.inl rfl) (.inl rfl) (.inr rfl) (.inl rfl)
  clear_value x4
  refine Frame.ite (fun _ => ?_) (fun _ => ?_)
  · exact hs
  · refine Frame.ite (fun _ => ?_) (fun _ => ?_)
    · refine Frame.after ?_ (Frame.mono rfl (cnt_frame _ _))
      refine Frame.after ?_ (Frame.mono rfl (stk_frame _ _ _))
      exact h7
    · exact h7

theorem lineRelease_frame (s : State) : Frame touches79 s (State.lineRelease s) := by
  have hs := Frame.refl touches79 s
  unfold State.lineRelease
  refine Frame.twinUpd ?_ (.inr rfl) (.inl ⟨rfl, rfl, rfl, rfl, rfl, rfl, rfl, rfl, rfl, rfl, rfl, rfl, rfl⟩) (.inl ⟨rfl, rfl, rfl⟩)
  exact hs

theorem twinEmit_frame (s : State) (a1 : Byte) (a2 : Bytes) : Frame touches80 s (State.twinEmit s a1 a2) := by
  have hs := Frame.refl touches80 s
  unfold State.twinEmit
  extract_lets -merge -useContext -underBinder x0
  clear_value x0
  refine Frame.after ?_ (Frame.mono rfl (out_frame _ _))
  refine Frame.after ?_ (Frame.mono rfl (linkUpd_frame _ _))
  exact hs

theorem twinNow_frame (s : State) (a1 : Byte) (a2 : Bytes) : Frame touches80 s (State.twinNow s a1 a2) := by
  have hs := Frame.refl touches80 s
  unfold State.twinNow
  refine Frame.ite (fun _ => ?_) (fun _ => ?_)
  · refine Frame.after ?_ (Frame.mono rfl (twinEmit_frame _ _ _))
    exact hs
  · refine Frame.after ?_ (Frame.mono rfl (twinSay_frame _ _ _))
    exact hs

theorem twinKeys_frame (s : State) (a1 : Bytes) : Frame touches21 s (State.twinKeys s a1) := by
  have hs := Frame.refl touches21 s
  unfold State.twinKeys
  split
  · exact hs
  · extract_lets -merge -useContext -underBinder x0 x1 x2
    clear_value x2
    refine Frame.after ?_ (Frame.mono rfl (linkUpd_frame _ _))
    exact hs

theorem resyncFill_frame (s : State) (a1 : Nat) (a2 : Nat) : Frame touches20 s (State.resyncFill s a1 a2) := by
  have hs := Frame.refl touches20 s
  unfold State.resyncFill
  refine Frame.foldl ?_ (fun x0 y1 h2 => ?_)
  · exact hs
  · refine Frame.after ?_ (Frame.mono rfl (nodeFill_frame _ _))
    exact h2

theorem mirrorApply_frame (s : State) (a1 : Nat) (a2 : Rec) (a3 : Nat) : Frame touches22 s (State.mirrorApply s a1 a2 a3) := by
  have hs := Frame.refl touches22 s
  unfold State.mirrorApply
  extract_lets -merge -useContext -underBinder x0
  clear_value x0
  refine Frame.after ?_ (Frame.mono rfl (nodeUpd_frame _ _ _))
  exact hs

theorem authFail_frame (s : State) : Frame touches71 s (State.authFail s) := by
  have hs := Frame.refl touches71 s
  unfold State.authFail
  extract_lets -merge -useContext -underBinder x0 x1
  clear_value x0
  have h2 : Frame touches71 s x1 := by
    unfold x1
    refine Frame.after ?_ (Frame.mono rfl (stk_frame _ _ _))
    refine Frame.after ?_ (Frame.mono rfl (cnt_frame _ _))
    refine Frame.after ?_ (Frame.mono rfl (linkUpd_frame _ _))
    exact hs
  clear_value x1
  refine Frame.ite (fun _ => ?_) (fun _ => ?_)
  · refine Frame.after ?_ (Frame.mono rfl (linkDown_frame _))
    exact h2
  · exact h2

theorem probe_frame (s : State) : Frame touches152 s (State.probe s) := by
  have hs := Frame.refl touches152 s
  unfold State.probe
  refine Frame.ite (fun _ => ?_) (fun _ => ?_)
  · refine Frame.twinUpd ?_ (.inr rfl) (.inr rfl) (.inl ⟨rfl, rfl, rfl⟩)
    refine Frame.after ?_ (Frame.mono rfl (twinNow_frame _ _ _))
    exact hs
  · exact hs

theorem claimBegin_frame (s : State) : Frame touches152 s (State.claimBegin s) := by
  have hs := Frame.refl touches152 s
  unfold State.claimBegin
  refine Frame.ite (fun _ => ?_) (fun _ => ?_)
  · refine Frame.after ?_ (Frame.mono rfl (probe_frame _))
    refine Frame.twinUpd ?_ (.inr rfl) (.inr rfl) (.inl ⟨rfl, rfl, rfl⟩)
    exact hs
  · exact hs

theorem mirrorItems_frame (s : State) (a1 : Nat) (a2 : Bytes) : Frame touches59 s (State.mirrorItems s a1 a2) := by
  induction a1 generalizing s a2 with | zero => ?_ | succ n ih => ?_
  · have hs := Frame.refl touches59 s
    unfold State.mirrorItems
    exact hs
  · have hs := Frame.refl touches59 s
    unfold State.mirrorItems
    split
    · extract_lets -merge -useContext -underBinder x0 x1
      clear_value x0
      clear_value x1
      refine Frame.after ?_ (ih _ _)
      refine Frame.after ?_ (Frame.mono rfl (mirrorApply_frame _ _ _ _))
      exact hs
    · extract_lets -merge -useContext -underBinder x2
      clear_value x2
      refine Frame.after ?_ (ih _ _)
      refine Frame.after ?_ (Frame.mono rfl (setLmap_frame _ _ _ _))
      exact hs
    · extract_lets -merge -useContext -underBinder x3
      clear_value x3
      refine Frame.after ?_ (ih _ _)
      refine Frame.twinUpd ?_ (.inl ⟨rfl, rfl, rfl, rfl, rfl, rfl, rfl, rfl, rfl⟩) (.inr rfl) (.inl ⟨rfl, rfl, rfl⟩)
      exact hs
    · exact hs

theorem helloEmit_frame (s : State) : Frame touches80 s (State.helloEmit s) := by
  have hs := Frame.refl touches80 s
  unfold State.helloEmit
  extract_lets -merge -useContext -underBinder x0
  refine Frame.after ?_ (Frame.mono rfl (out_frame _ _))
  refine Frame.after ?_ (Frame.mono rfl (linkUpd_frame _ _))
  exact hs

theorem mirrorTo_frame (s : State) (a1 : Nat) : Frame touches21 s (State.mirrorTo s a1) := by
  have hs := Frame.refl touches21 s
  unfold State.mirrorTo
  refine Frame.twinUpd ?_ (.inl ⟨rfl, rfl, rfl, rfl, rfl, rfl, rfl, rfl, rfl⟩) (.inr rfl) (.inl ⟨rfl, rfl, rfl⟩)
  exact hs

theorem twinAck_frame (s : State) (a1 : Nat) : Frame touches21 s (State.twinAck s a1) := by
  have hs := Frame.refl touches21 s
  unfold State.twinAck
  split
  · extract_lets -merge -useContext -underBinder x0 x1 x2
    clear_value x0
    refine Frame.ite (fun _ => ?_) (fun _ => ?_)
    · exact hs
    · exact Frame.upd hs (.inl rfl) (.inl rfl) (.inl ⟨rfl, rfl⟩) (.inl rfl) (.inl rfl) (.inl rfl) (.inl rfl) (.inl rfl) (.inl rfl) (.inl rfl) (.inl ⟨rfl, rfl, rfl⟩) (.inl rfl) (.inl ⟨rfl, rfl, rfl⟩) (.inl ⟨rfl, rfl⟩) (.inl ⟨rfl, rfl, rfl, rfl, rfl, rfl, rfl, rfl⟩) (.inl ⟨rfl, rfl⟩) (.inl ⟨rfl, rfl, rfl, rfl, rfl, rfl, rfl, rfl, rfl, rfl⟩) (.inl ⟨rfl, rfl⟩) (.inl ⟨rfl, rfl⟩) (.inl rfl) (.inl rfl) (.inl rfl) (.inl rfl) (.inl ⟨rfl, rfl, rfl, rfl, rfl, rfl, rfl, rfl, rfl⟩) (.inl ⟨rfl, rfl, rfl, rfl, rfl, rfl, rfl, rfl, rfl⟩) (.inl ⟨rfl, rfl, rfl⟩) (.inl ⟨rfl, rfl, rfl, rfl, rfl, rfl, rfl, rfl, rfl, rfl, rfl, rfl, rfl, rfl, rfl, rfl, rfl, rfl, rfl, rfl, rfl, rfl, rfl, rfl, rfl, rfl, rfl⟩) (.inl ⟨rfl, rfl, rfl, rfl, rfl, rfl, rfl, rfl, rfl, rfl, rfl, rfl⟩) (.inl ⟨rfl, rfl, rfl, rfl, rfl, rfl, rfl, rfl, rfl⟩) (.inl ⟨rfl, rfl, rfl⟩) (.inl ⟨rfl, rfl, rfl⟩) (.inl ⟨rfl, rfl, rfl, rfl, rfl, rfl, rfl, rfl, rfl⟩) (.inl rfl) (.inl rfl) (.inl rfl) (.inl rfl) (.inl ⟨rfl, rfl⟩) (.inl ⟨rfl, rfl⟩) (.inl rfl) (.inl ⟨rfl, rfl, rfl, rfl, rfl⟩) (.inl ⟨rfl, rfl⟩) (.inl ⟨rfl, rfl, rfl, rfl⟩) (.inl ⟨rfl, rfl, rfl⟩) (.inl rfl) (.inl ⟨rfl, rfl⟩) (.inl ⟨rfl, rfl, rfl, rfl, rfl, rfl, rfl⟩) (.inl ⟨rfl, rfl, rfl, rfl, rfl⟩) (.inl rfl) (.inl ⟨rfl, rfl, rfl, rfl, rfl, rfl⟩) (.inl ⟨rfl, rfl, rfl, rfl, rfl, rfl, rfl, rfl, rfl, rfl, rfl⟩) (.inl ⟨rfl, rfl, rfl, rfl⟩) (.inl rfl) (.inl rfl) (.inl ⟨rfl, rfl, rfl, rfl, rfl, rfl, rfl, rfl, rfl, rfl, rfl, rfl⟩) (.inl ⟨rfl, rfl⟩) (.inl ⟨rfl, rfl, rfl, rfl, rfl, rfl⟩) (.inl ⟨rfl, rfl, rfl, rfl, rfl, rfl⟩) (.inl ⟨rfl, rfl, rfl, rfl, rfl, rfl, rfl, rfl, rfl, rfl, rfl, rfl⟩) (.inl ⟨rfl, rfl, rfl⟩) (.inl ⟨rfl, rfl, rfl, rfl⟩) (.inl ⟨rfl, rfl, rfl, rfl, rfl⟩) (.inl ⟨rfl, rfl, rfl, rfl, rfl, rfl, rfl, rfl, rfl, rfl⟩) (.inl ⟨rfl, rfl, rfl, rfl, rfl, rfl, rfl, rfl, rfl⟩) (.inr rfl) (.inl ⟨rfl, rfl, rfl⟩) (.inl ⟨rfl, rfl, rfl, rfl, rfl⟩) (.inl rfl) (.inl rfl) (.inl ⟨rfl, rfl⟩) (.inl ⟨rfl, rfl, rfl, rfl, rfl, rfl, rfl, rfl, rfl, rfl, rfl, rfl, rfl⟩) (.inl rfl) (.inl rfl) (.inl ⟨rfl, rfl, rfl⟩) (.inl rfl)

theorem mirrorPace_frame (s : State) (a1 : Nat) : Frame touches21 s (State.mirrorPace s a1) := by
  have hs := Frame.refl touches21 s
  unfold State.mirrorPace
  refine Frame.after ?_ (Frame.mono rfl (mirrorTo_frame _ _))
  exact hs

theorem streamTo_frame (s : State) (a1 : Nat) : Frame touches21 s (State.streamTo s a1) := by
  have hs := Frame.refl touches21 s
  unfold State.streamTo
  refine Frame.twinUpd ?_ (.inl ⟨rfl, rfl, rfl, rfl, rfl, rfl, rfl, rfl, rfl⟩) (.inr rfl) (.inl ⟨rfl, rfl, rfl⟩)
  exact hs

theorem twinRecv_frame {G : List Field} (hG : touches71.all G.contains = true) (s : State) (a1 : Nat) (a2 : Bytes) {a3 : Bytes → State → State} (ha3 : ∀ b0 b1, Frame G b1 (a3 b0 b1)) : Frame G s (State.twinRecv s a1 a2 a3) := by
  have hs := Frame.refl G s
  unfold State.twinRecv
  extract_lets -merge -useContext -underBinder x0
  clear_value x0
  refine Frame.ite (fun _ => ?_) (fun _ => ?_)
  · exact hs
  · refine Frame.ite (fun _ => ?_) (fun _ => ?_)
    · refine Frame.after ?_ (Frame.mono hG (Frame.mono rfl (cnt_frame _ _)))
      exact hs
    · refine Frame.ite (fun _ => ?_) (fun _ => ?_)
      · refine Frame.after ?_ (Frame.mono hG (Frame.mono rfl (authFail_frame _)))
        exact hs
      · split
        · refine Frame.after ?_ (Frame.mono hG (Frame.mono rfl (authFail_frame _)))
          exact hs
        · refine Frame.ite (fun _ => ?_) (fun _ => ?_)
          · refine Frame.after ?_ (Frame.mono hG (Frame.mono rfl (cnt_frame _ _)))
            refine Frame.after ?_ (Frame.mono hG (Frame.mono rfl (linkUpd_frame _ _)))
            exact hs
          · refine Frame.after ?_ (ha3 _ _)
            refine Frame.after ?_ (Frame.mono hG (Frame.mono rfl (twinAck_frame _ _)))
            refine Frame.after ?_ (Frame.mono hG (Frame.mono rfl (linkUpd_frame _ _)))
            exact hs

theorem helloStart_frame (s : State) : Frame touches206 s (State.helloStart s) := by
  have hs := Frame.refl touches206 s
  unfold State.helloStart
  extract_lets -merge -useContext -underBinder x0
  clear_value x0
  refine Frame.ite (fun _ => ?_) (fun _ => ?_)
  · refine Frame.after ?_ (Frame.mono rfl (setLink_frame _ _))
    refine Frame.after ?_ (Frame.mono rfl (linkUpd_frame _ _))
    exact Frame.upd hs (.inl rfl) (.inl rfl) (.inl ⟨rfl, rfl⟩) (.inl rfl) (.inr rfl) (.inl rfl) (.inl rfl) (.inl rfl) (.inl rfl) (.inl rfl) (.inl ⟨rfl, rfl, rfl⟩) (.inl rfl) (.inl ⟨rfl, rfl, rfl⟩) (.inl ⟨rfl, rfl⟩) (.inl ⟨rfl, rfl, rfl, rfl, rfl, rfl, rfl, rfl⟩) (.inl ⟨rfl, rfl⟩) (.inl ⟨rfl, rfl, rfl, rfl, rfl, rfl, rfl, rfl, rfl, rfl⟩) (.inl ⟨rfl, rfl⟩) (.inl ⟨rfl, rfl⟩) (.inl rfl) (.inl rfl) (.inl rfl) (.inl rfl) (.inl ⟨rfl, rfl, rfl, rfl, rfl, rfl, rfl, rfl, rfl⟩) (.inl ⟨rfl, rfl, rfl, rfl, rfl, rfl, rfl, rfl, rfl⟩) (.inl ⟨rfl, rfl, rfl⟩) (.inl ⟨rfl, rfl, rfl, rfl, rfl, rfl, rfl, rfl, rfl, rfl, rfl, rfl, rfl, rfl, rfl, rfl, rfl, rfl, rfl, rfl, rfl, rfl, rfl, rfl, rfl, rfl, rfl⟩) (.inl ⟨rfl, rfl, rfl, rfl, rfl, rfl, rfl, rfl, rfl, rfl, rfl, rfl⟩) (.inl ⟨rfl, rfl, rfl, rfl, rfl, rfl, rfl, rfl, rfl⟩) (.inl ⟨rfl, rfl, rfl⟩) (.inl ⟨rfl, rfl, rfl⟩) (.inl ⟨rfl, rfl, rfl, rfl, rfl, rfl, rfl, rfl, rfl⟩) (.inl rfl) (.inl rfl) (.inl rfl) (.inl rfl) (.inl ⟨rfl, rfl⟩) (.inl ⟨rfl, rfl⟩) (.inl rfl) (.inl ⟨rfl, rfl, rfl, rfl, rfl⟩) (.inl ⟨rfl, rfl⟩) (.inl ⟨rfl, rfl, rfl, rfl⟩) (.inl ⟨rfl, rfl, rfl⟩) (.inl rfl) (.inl ⟨rfl, rfl⟩) (.inl ⟨rfl, rfl, rfl, rfl, rfl, rfl, rfl⟩) (.inl ⟨rfl, rfl, rfl, rfl, rfl⟩) (.inl rfl) (.inl ⟨rfl, rfl, rfl, rfl, rfl, rfl⟩) (.inl ⟨rfl, rfl, rfl, rfl, rfl, rfl, rfl, rfl, rfl, rfl, rfl⟩) (.inl ⟨rfl, rfl, rfl, rfl⟩) (.inl rfl) (.inr rfl) (.inl ⟨rfl, rfl, rfl, rfl, rfl, rfl, rfl, rfl, rfl, rfl, rfl, rfl⟩) (.inl ⟨rfl, rfl⟩) (.inl ⟨rfl, rfl, rfl, rfl, rfl, rfl⟩) (.inl ⟨rfl, rfl, rfl, rfl, rfl, rfl⟩) (.inl ⟨rfl, rfl, rfl, rfl, rfl, rfl, rfl, rfl, rfl, rfl, rfl, rfl⟩) (.inl ⟨rfl, rfl, rfl⟩) (.inl ⟨rfl, rfl, rfl, rfl⟩) (.inl ⟨rfl, rfl, rfl, rfl, rfl⟩) (.inl ⟨rfl, rfl, rfl, rfl, rfl, rfl, rfl, rfl, rfl, rfl⟩) (.inl ⟨rfl, rfl, rfl, rfl, rfl, rfl, rfl, rfl, rfl⟩) (.inr rfl) (.inl ⟨rfl, rfl, rfl⟩) (.inl ⟨rfl, rfl, rfl, rfl, rfl⟩) (.inl rfl) (.inl rfl) (.inl ⟨rfl, rfl⟩) (.inl ⟨rfl, rfl, rfl, rfl, rfl, rfl, rfl, rfl, rfl, rfl, rfl, rfl, rfl⟩) (.inl rfl) (.inl rfl) (.inl ⟨rfl, rfl, rfl⟩) (.inl rfl)
  · exact hs

theorem offerNext_frame (s : State) : Frame touches80 s (State.offerNext s) := by
  have hs := Frame.refl touches80 s
  unfold State.offerNext
  split
  · split
    · refine Frame.after ?_ (Frame.mono rfl (twinEmit_frame _ _ _))
      refine Frame.twinUpd ?_ (.inl ⟨rfl, rfl, rfl, rfl, rfl, rfl, rfl, rfl, rfl⟩) (.inr rfl) (.inl ⟨rfl, rfl, rfl⟩)
      exact hs
    · exact hs
  · exact hs

theorem streamOffer_frame (s : State) (a1 : Nat) (a2 : List Rec) : Frame touches21 s (State.streamOffer s a1 a2) := by
  have hs := Frame.refl touches21 s
  unfold State.streamOffer
  refine Frame.twinUpd ?_ (.inl ⟨rfl, rfl, rfl, rfl, rfl, rfl, rfl, rfl, rfl⟩) (.inr rfl) (.inl ⟨rfl, rfl, rfl⟩)
  exact hs

theorem resyncNext_frame (s : State) (a1 : Nat) : Frame touches223 s (State.resyncNext s a1) := by
  have hs := Frame.refl touches223 s
  unfold State.resyncNext
  extract_lets -merge -useContext -underBinder x0 x1 x2 x3 x4 x5 x6 x7
  have h8 : Frame touches223 s x3 := by
    unfold x3
    refine Frame.after ?_ (Frame.mono rfl (resyncFill_frame _ _ _))
    exact hs
  clear_value x3
  clear_value x4
  have h9 : Frame touches223 s x5 := by
    unfold x5
    refine Frame.after ?_ (Frame.mono rfl (twinEmit_frame _ _ _))
    exact h8
  clear_value x5
  refine Frame.ite (fun _ => ?_) (fun _ => ?_)
  · refine Frame.after ?_ (Frame.mono rfl (streamTo_frame _ _))
    refine Frame.after ?_ (Frame.mono rfl (streamOffer_frame _ _ _))
    refine Frame.after ?_ (Frame.mono rfl (mirrorPace_frame _ _))
    exact h9
  · refine Frame.ite (fun _ => ?_) (fun _ => ?_)
    · refine Frame.after ?_ (Frame.mono rfl (streamTo_frame _ _))
      refine Frame.after ?_ (Frame.mono rfl (mirrorPace_frame _ _))
      refine Frame.after ?_ (Frame.mono rfl (twinEmit_frame _ _ _))
      exact hs
    · refine Frame.ite (fun _ => ?_) (fun _ => ?_)
      · refine Frame.after ?_ (Frame.mono rfl (streamTo_frame _ _))
        refine Frame.after ?_ (Frame.mono rfl (mirrorPace_frame _ _))
        refine Frame.after ?_ (Frame.mono rfl (twinEmit_frame _ _ _))
        exact hs
      · refine Frame.twinUpd ?_ (.inl ⟨rfl, rfl, rfl, rfl, rfl, rfl, rfl, rfl, rfl⟩) (.inr rfl) (.inl ⟨rfl, rfl, rfl⟩)
        refine Frame.after ?_ (Frame.mono rfl (twinEmit_frame _ _ _))
        exact hs

theorem healthSend_frame (s : State) : Frame touches21 s (State.healthSend s) := by
  have hs := Frame.refl touches21 s
  unfold State.healthSend
  extract_lets -merge -useContext -underBinder x0 x1
  have h2 : Frame touches21 s x1 := by
    unfold x1
    refine Frame.twinUpd ?_ (.inl ⟨rfl, rfl, rfl, rfl, rfl, rfl, rfl, rfl, rfl⟩) (.inr rfl) (.inl ⟨rfl, rfl, rfl⟩)
    exact hs
  clear_value x1
  refine Frame.ite (fun _ => ?_) (fun _ => ?_)
  · refine Frame.after ?_ (Frame.mono rfl (twinSay_frame _ _ _))
    exact h2
  · exact h2

theorem peerDutyLoad_frame (s : State) : Frame touches233 s (State.peerDutyLoad s) := by
  have hs := Frame.refl touches233 s
  unfold State.peerDutyLoad
  extract_lets -merge -useContext -underBinder x0
  have h1 : Frame touches233 s x0 := by
    unfold x0
    refine Frame.foldl ?_ (fun x2 y3 h4 => ?_)
    · exact hs
    · extract_lets -merge -useContext -underBinder x5 x6 x7
      clear_value x5
      clear_value x7
      refine Frame.ite (fun _ => ?_) (fun _ => ?_)
      · refine Frame.after ?_ (Frame.mono rfl (sbCharge_frame _ _ _ _))
        exact Frame.upd h4 (.inl rfl) (.inl rfl) (.inl ⟨rfl, rfl⟩) (.inl rfl) (.inl rfl) (.inl rfl) (.inl rfl) (.inl rfl) (.inl rfl) (.inl rfl) (.inl ⟨rfl, rfl, rfl⟩) (.inl rfl) (.inl ⟨rfl, rfl, rfl⟩) (.inl ⟨rfl, rfl⟩) (.inl ⟨rfl, rfl, rfl, rfl, rfl, rfl, rfl, rfl⟩) (.inl ⟨rfl, rfl⟩) (.inl ⟨rfl, rfl, rfl, rfl, rfl, rfl, rfl, rfl, rfl, rfl⟩) (.inl ⟨rfl, rfl⟩) (.inl ⟨rfl, rfl⟩) (.inl rfl) (.inl rfl) (.inl rfl) (.inl rfl) (.inl ⟨rfl, rfl, rfl, rfl, rfl, rfl, rfl, rfl, rfl⟩) (.inl ⟨rfl, rfl, rfl, rfl, rfl, rfl, rfl, rfl, rfl⟩) (.inl ⟨rfl, rfl, rfl⟩) (.inl ⟨rfl, rfl, rfl, rfl, rfl, rfl, rfl, rfl, rfl, rfl, rfl, rfl, rfl, rfl, rfl, rfl, rfl, rfl, rfl, rfl, rfl, rfl, rfl, rfl, rfl, rfl, rfl⟩) (.inl ⟨rfl, rfl, rfl, rfl, rfl, rfl, rfl, rfl, rfl, rfl, rfl, rfl⟩) (.inl ⟨rfl, rfl, rfl, rfl, rfl, rfl, rfl, rfl, rfl⟩) (.inl ⟨rfl, rfl, rfl⟩) (.inl ⟨rfl, rfl, rfl⟩) (.inl ⟨rfl, rfl, rfl, rfl, rfl, rfl, rfl, rfl, rfl⟩) (.inl rfl) (.inl rfl) (.inl rfl) (.inr rfl) (.inl ⟨rfl, rfl⟩) (.inl ⟨rfl, rfl⟩) (.inl rfl) (.inr rfl) (.inl ⟨rfl, rfl⟩) (.inl ⟨rfl, rfl, rfl, rfl⟩) (.inl ⟨rfl, rfl, rfl⟩) (.inl rfl) (.inl ⟨rfl, rfl⟩) (.inl ⟨rfl, rfl, rfl, rfl, rfl, rfl, rfl⟩) (.inl ⟨rfl, rfl, rfl, rfl, rfl⟩) (.inl rfl) (.inl ⟨rfl, rfl, rfl, rfl, rfl, rfl⟩) (.inl ⟨rfl, rfl, rfl, rfl, rfl, rfl, rfl, rfl, rfl, rfl, rfl⟩) (.inl ⟨rfl, rfl, rfl, rfl⟩) (.inl rfl) (.inl rfl) (.inl ⟨rfl, rfl, rfl, rfl, rfl, rfl, rfl, rfl, rfl, rfl, rfl, rfl⟩) (.inl ⟨rfl, rfl⟩) (.inl ⟨rfl, rfl, rfl, rfl, rfl, rfl⟩) (.inl ⟨rfl, rfl, rfl, rfl, rfl, rfl⟩) (.inl ⟨rfl, rfl, rfl, rfl, rfl, rfl, rfl, rfl, rfl, rfl, rfl, rfl⟩) (.inl ⟨rfl, rfl, rfl⟩) (.inl ⟨rfl, rfl, rfl, rfl⟩) (.inl ⟨rfl, rfl, rfl, rfl, rfl⟩) (.inl ⟨rfl, rfl, rfl, rfl, rfl, rfl, rfl, rfl, rfl, rfl⟩) (.inl ⟨rfl, rfl, rfl, rfl, rfl, rfl, rfl, rfl, rfl⟩) (.inr rfl) (.inl ⟨rfl, rfl, rfl⟩) (.inl ⟨rfl, rfl, rfl, rfl, rfl⟩) (.inl rfl) (.inl rfl) (.inl ⟨rfl, rfl⟩) (.inl ⟨rfl, rfl, rfl, rfl, rfl, rfl, rfl, rfl, rfl, rfl, rfl, rfl, rfl⟩) (.inl rfl) (.inl rfl) (.inl ⟨rfl, rfl, rfl⟩) (.inl rfl)
      · exact h4
  clear_value x0
  refine Frame.twinUpd ?_ (.inl ⟨rfl, rfl, rfl, rfl, rfl, rfl, rfl, rfl, rfl⟩) (.inr rfl) (.inl ⟨rfl, rfl, rfl⟩)
  exact h1

theorem twinSendNext_frame (s : State) : Frame touches223 s (State.twinSendNext s) := by
  have hs := Frame.refl touches223 s
  unfold State.twinSendNext
  extract_lets -merge -useContext -underBinder x0
  have h1 : Frame touches223 s x0 := by
    unfold x0
    refine Frame.ite (fun _ => ?_) (fun _ => ?_)
    · refine Frame.after ?_ (Frame.mono rfl (healthSend_frame _))
      exact hs
    · exact hs
  clear_value x0
  refine Frame.ite (fun _ => ?_) (fun _ => ?_)
  · exact hs
  · split
    · refine Frame.after ?_ (Frame.mono rfl (twinEmit_frame _ _ _))
      refine Frame.after ?_ (Frame.mono rfl (linkUpd_frame _ _))
      exact h1
    · refine Frame.ite (fun _ => ?_) (fun _ => ?_)
      · exact h1
      · refine Frame.ite (fun _ => ?_) (fun _ => ?_)
        · split
          · refine Frame.after ?_ (Frame.mono rfl (mirrorPace_frame _ _))
            refine Frame.after ?_ (Frame.mono rfl (twinEmit_frame _ _ _))
            refine Frame.twinUpd ?_ (.inl ⟨rfl, rfl, rfl, rfl, rfl, rfl, rfl, rfl, rfl⟩) (.inr rfl) (.inl ⟨rfl, rfl, rfl⟩)
            exact h1
        · split
          · refine Frame.after ?_ (Frame.mono rfl (resyncNext_frame _ _))
            exact h1
          · refine Frame.after ?_ (Frame.mono rfl (offerNext_frame _))
            exact h1

end Sys2Proof
end

