-- ==== Sys2Proof/Laws/FrameFwd.lean ====
section
/-! SUPPORT. Laws/FrameFwd.lean: what each operation of Machine/Fwd.lean leaves as it was. -/

namespace Sys2Proof

open Sys2Proof.Machine

theorem setFwdData_frame (s : State) (a1 : Bool) (a2 : Nat) (a3 : Nat) (a4 : Nat) : Frame touches1 s (State.setFwdData s a1 a2 a3 a4) := by
  have hs := Frame.refl touches1 s
  unfold State.setFwdData
  refine Frame.foldl ?_ (fun x0 y1 h2 => ?_)
  · exact hs
  · refine Frame.after ?_ (Frame.mono rfl (setRg_frame _ _ _))
    exact h2

theorem fwdOp_frame {G : List Field} (hG : touches37.all G.contains = true) (s : State) (a1 : Bool) (a2 : Nat) (a3 : Nat) {a4 : State → State × FwdRes} (ha4 : ∀ b0, Frame G b0 (a4 b0).1) : Frame G s (State.fwdOp s a1 a2 a3 a4) := by
  have hs := Frame.refl G s
  unfold State.fwdOp
  extract_lets -merge -useContext -underBinder x0 x1
  have h2 : Frame G s x1 := by
    unfold x1
    refine Frame.after ?_ (Frame.mono hG (Frame.mono rfl (setRf_frame _ _ _ _ _)))
    exact hs
  clear_value x1
  refine Frame.ite (fun _ => ?_) (fun _ => ?_)
  · refine Frame.after ?_ (Frame.mono hG (Frame.mono rfl (unmapped_frame _)))
    exact hs
  · refine Frame.ite (fun _ => ?_) (fun _ => ?_)
    · refine Frame.ite (fun _ => ?_) (fun _ => ?_)
      · refine Frame.after ?_ (Frame.mono hG (Frame.mono rfl (setRg_frame _ _ _)))
        exact hs
      · refine Frame.after ?_ (Frame.mono hG (Frame.mono rfl (unmapped_frame _)))
        exact hs
    · refine Frame.ite (fun _ => ?_) (fun _ => ?_)
      · refine Frame.after ?_ (Frame.mono hG (Frame.mono rfl (stk_frame _ _ _)))
        exact hs
      · split
        · rename_i z3 z4 z5 z6
          have h7 : Frame G s z4 := Frame.pair z6 (by
              refine Frame.iteFst (fun _ => ?_) (fun _ => ?_)
              · dsimp only
                exact h2
              · refine Frame.after ?_ (ha4 _)
                exact h2)
          extract_lets -merge -useContext -underBinder x8
          have h9 : Frame G s x8 := by
            unfold x8
            split
            · refine Frame.after ?_ (Frame.mono hG (Frame.mono rfl (setFwdData_frame _ _ _ _ _)))
              exact h7
            · exact h7
          clear_value x8
          refine Frame.after ?_ (Frame.mono hG (Frame.mono rfl (event_frame _ _)))
          refine Frame.after ?_ (Frame.mono hG (Frame.mono rfl (fwdStart_frame _ _)))
          refine Frame.after ?_ (Frame.mono hG (Frame.mono rfl (setRg_frame _ _ _)))
          exact h9

theorem recordWrite_frame (s : State) (a1 : Nat) (a2 : Nat) (a3 : Rec) : Frame touches59 s (State.recordWrite s a1 a2 a3).1 := by
  have hs := Frame.refl touches59 s
  unfold State.recordWrite
  split
  · rename_i z0 z1 z2 z3
    have h4 : Frame touches59 s z1 := Frame.pair z3 (by
        refine Frame.after ?_ (Frame.mono rfl (nodeGet_frame _ _))
        exact hs)
    extract_lets -merge -useContext -underBinder x5 x6
    clear_value x5
    have h7 : Frame touches59 s x6 := by
      unfold x6
      refine Frame.after ?_ (Frame.mono rfl (nodeUpd_frame _ _ _))
      exact h4
    clear_value x6
    refine Frame.iteFst (fun _ => ?_) (fun _ => ?_)
    · dsimp only
      exact h4
    · refine Frame.iteFst (fun _ => ?_) (fun _ => ?_)
      · dsimp only
        exact h4
      · dsimp only
        refine Frame.ite (fun _ => ?_) (fun _ => ?_)
        · refine Frame.foldl ?_ (fun x8 y9 h10 => ?_)
          · exact h7
          · refine Frame.after ?_ (Frame.mono rfl (mapSettle_frame _ _))
            exact h10
        · exact h7

theorem fwdLoad_frame (s : State) (a1 : FwdFrom) (a2 : Nat) : Frame touches1 s (State.fwdLoad s a1 a2) := by
  have hs := Frame.refl touches1 s
  unfold State.fwdLoad
  split
  · exact hs
  · extract_lets -merge -useContext -underBinder x0
    clear_value x0
    refine Frame.ite (fun _ => ?_) (fun _ => ?_)
    · refine Frame.foldl ?_ (fun x1 y2 h3 => ?_)
      · refine Frame.after ?_ (Frame.mono rfl (setRg_frame _ _ _))
        refine Frame.after ?_ (Frame.mono rfl (setRg_frame _ _ _))
        exact hs
      · refine Frame.after ?_ (Frame.mono rfl (setRg_frame _ _ _))
        exact h3
    · exact hs

theorem learnRead_frame (s : State) (a1 : Nat) (a2 : Nat) : Frame touches16 s (State.learnRead s a1 a2).1 := by
  have hs := Frame.refl touches16 s
  unfold State.learnRead
  extract_lets -merge -useContext -underBinder x0
  clear_value x0
  refine Frame.iteFst (fun _ => ?_) (fun _ => ?_)
  · dsimp only
    exact hs
  · refine Frame.iteFst (fun _ => ?_) (fun _ => ?_)
    · dsimp only
      exact hs
    · dsimp only
      exact hs

theorem prefixRead_frame (s : State) (a1 : Nat) : Frame touches16 s (State.prefixRead s a1).1 := by
  have hs := Frame.refl touches16 s
  unfold State.prefixRead
  extract_lets -merge -useContext -underBinder x0
  clear_value x0
  refine Frame.iteFst (fun _ => ?_) (fun _ => ?_)
  · dsimp only
    exact hs
  · refine Frame.iteFst (fun _ => ?_) (fun _ => ?_)
    · dsimp only
      exact hs
    · dsimp only
      exact hs

theorem leNamed_frame (s : State) (a1 : LEnt) : Frame touches20 s (State.leNamed s a1).1 := by
  have hs := Frame.refl touches20 s
  unfold State.leNamed
  split
  · rename_i z0 z1 z2 z3
    have h4 : Frame touches20 s z1 := Frame.pair z3 (by
        refine Frame.after ?_ (Frame.mono rfl (nodeGet_frame _ _))
        exact hs)
    refine Frame.iteFst (fun _ => ?_) (fun _ => ?_)
    · split
      · rename_i z5 z6 z7 z8
        have h9 : Frame touches20 s z6 := Frame.pair z8 (by
            refine Frame.after ?_ (Frame.mono rfl (nodeGet_frame _ _))
            exact h4)
        dsimp only
        exact h9
    · dsimp only
      exact h4

theorem leGuard_frame {G : List Field} (hG : touches20.all G.contains = true) (s : State) (a1 : Nat) (a2 : LEnt) {a3 : State → State × FwdRes} (ha3 : ∀ b0, Frame G b0 (a3 b0).1) : Frame G s (State.leGuard s a1 a2 a3).1 := by
  have hs := Frame.refl G s
  unfold State.leGuard
  refine Frame.iteFst (fun _ => ?_) (fun _ => ?_)
  · dsimp only
    exact hs
  · split
    · rename_i z0 z1 z2 z3
      have h4 : Frame G s z1 := Frame.pair z3 (by
          refine Frame.after ?_ (Frame.mono hG (Frame.mono rfl (leNamed_frame _ _)))
          exact hs)
      refine Frame.iteFst (fun _ => ?_) (fun _ => ?_)
      · refine Frame.after ?_ (ha3 _)
        exact h4
      · dsimp only
        exact h4

theorem learnKeyed_frame {G : List Field} (hG : touches16.all G.contains = true) (s : State) (a1 : Nat) (a2 : LEnt) {a3 : Bool × Nat → State} (a4 : Bool) (ha3 : ∀ b0, Frame G s (a3 b0)) : Frame G s (State.learnKeyed s a1 a2 a3 a4).1 := by
  have hs := Frame.refl G s
  unfold State.learnKeyed
  refine Frame.iteFst (fun _ => ?_) (fun _ => ?_)
  · dsimp only
    exact hs
  · split
    · dsimp only
      exact ha3 _
    · dsimp only
      exact hs

theorem learnWrite_frame (s : State) (a1 : Nat) (a2 : LEnt) : Frame touches127 s (State.learnWrite s a1 a2).1 := by
  have hs := Frame.refl touches127 s
  unfold State.learnWrite
  refine Frame.after ?_ (leGuard_frame rfl _ _ _ ?_)
  · exact hs
  · intro y0
    have h1 := Frame.refl touches127 y0
    refine Frame.after ?_ (learnKeyed_frame rfl _ _ _ _ ?_)
    · exact h1
    · intro y2
      refine Frame.after ?_ (Frame.mono rfl (learnPut_frame _ _ _ _))
      exact h1

theorem peGuard_frame {G : List Field} (hG : touches20.all G.contains = true) (s : State) (a1 : PEnt) {a2 : State → State × FwdRes} (ha2 : ∀ b0, Frame G b0 (a2 b0).1) : Frame G s (State.peGuard s a1 a2).1 := by
  have hs := Frame.refl G s
  unfold State.peGuard
  refine Frame.iteFst (fun _ => ?_) (fun _ => ?_)
  · dsimp only
    exact hs
  · refine Frame.iteFst (fun _ => ?_) (fun _ => ?_)
    · split
      · rename_i z0 z1 z2 z3
        have h4 : Frame G s z1 := Frame.pair z3 (by
            refine Frame.after ?_ (Frame.mono hG (Frame.mono rfl (nodeGet_frame _ _)))
            exact hs)
        refine Frame.iteFst (fun _ => ?_) (fun _ => ?_)
        · refine Frame.after ?_ (ha2 _)
          exact h4
        · dsimp only
          exact h4
    · refine Frame.after ?_ (ha2 _)
      exact hs

theorem prefixKeyed_frame {G : List Field} (hG : touches16.all G.contains = true) (s : State) (a1 : PEnt) {a2 : Nat → State} (a3 : Bool) (ha2 : ∀ b0, Frame G s (a2 b0)) : Frame G s (State.prefixKeyed s a1 a2 a3).1 := by
  have hs := Frame.refl G s
  unfold State.prefixKeyed
  refine Frame.iteFst (fun _ => ?_) (fun _ => ?_)
  · dsimp only
    exact hs
  · split
    · dsimp only
      exact ha2 _
    · dsimp only
      exact hs

theorem prefixPut_frame (s : State) (a1 : Nat) (a2 : PEnt) : Frame touches126 s (State.prefixPut s a1 a2) := by
  have hs := Frame.refl touches126 s
  unfold State.prefixPut
  extract_lets -merge -useContext -underBinder x0
  exact Frame.upd hs (.inl rfl) (.inl rfl) (.inl ⟨rfl, rfl⟩) (.inl rfl) (.inl rfl) (.inl rfl) (.inl rfl) (.inl rfl) (.inl rfl) (.inl rfl) (.inl ⟨rfl, rfl, rfl⟩) (.inl rfl) (.inl ⟨rfl, rfl, rfl⟩) (.inl ⟨rfl, rfl⟩) (.inl ⟨rfl, rfl, rfl, rfl, rfl, rfl, rfl, rfl⟩) (.inl ⟨rfl, rfl⟩) (.inl ⟨rfl, rfl, rfl, rfl, rfl, rfl, rfl, rfl, rfl, rfl⟩) (.inl ⟨rfl, rfl⟩) (.inl ⟨rfl, rfl⟩) (.inl rfl) (.inl rfl) (.inl rfl) (.inl rfl) (.inl ⟨rfl, rfl, rfl, rfl, rfl, rfl, rfl, rfl, rfl⟩) (.inl ⟨rfl, rfl, rfl, rfl, rfl, rfl, rfl, rfl, rfl⟩) (.inl ⟨rfl, rfl, rfl⟩) (.inl ⟨rfl, rfl, rfl, rfl, rfl, rfl, rfl, rfl, rfl, rfl, rfl, rfl, rfl, rfl, rfl, rfl, rfl, rfl, rfl, rfl, rfl, rfl, rfl, rfl, rfl, rfl, rfl⟩) (.inl ⟨rfl, rfl, rfl, rfl, rfl, rfl, rfl, rfl, rfl, rfl, rfl, rfl⟩) (.inl ⟨rfl, rfl, rfl, rfl, rfl, rfl, rfl, rfl, rfl⟩) (.inl ⟨rfl, rfl, rfl⟩) (.inl ⟨rfl, rfl, rfl⟩) (.inl ⟨rfl, rfl, rfl, rfl, rfl, rfl, rfl, rfl, rfl⟩) (.inl rfl) (.inl rfl) (.inl rfl) (.inl rfl) (.inl ⟨rfl, rfl⟩) (.inl ⟨rfl, rfl⟩) (.inl rfl) (.inl ⟨rfl, rfl, rfl, rfl, rfl⟩) (.inl ⟨rfl, rfl⟩) (.inl ⟨rfl, rfl, rfl, rfl⟩) (.inr rfl) (.inl rfl) (.inl ⟨rfl, rfl⟩) (.inl ⟨rfl, rfl, rfl, rfl, rfl, rfl, rfl⟩) (.inl ⟨rfl, rfl, rfl, rfl, rfl⟩) (.inl rfl) (.inl ⟨rfl, rfl, rfl, rfl, rfl, rfl⟩) (.inl ⟨rfl, rfl, rfl, rfl, rfl, rfl, rfl, rfl, rfl, rfl, rfl⟩) (.inl ⟨rfl, rfl, rfl, rfl⟩) (.inl rfl) (.inl rfl) (.inl ⟨rfl, rfl, rfl, rfl, rfl, rfl, rfl, rfl, rfl, rfl, rfl, rfl⟩) (.inl ⟨rfl, rfl⟩) (.inl ⟨rfl, rfl, rfl, rfl, rfl, rfl⟩) (.inl ⟨rfl, rfl, rfl, rfl, rfl, rfl⟩) (.inl ⟨rfl, rfl, rfl, rfl, rfl, rfl, rfl, rfl, rfl, rfl, rfl, rfl⟩) (.inl ⟨rfl, rfl, rfl⟩) (.inl ⟨rfl, rfl, rfl, rfl⟩) (.inl ⟨rfl, rfl, rfl, rfl, rfl⟩) (.inl ⟨rfl, rfl, rfl, rfl, rfl, rfl, rfl, rfl, rfl, rfl⟩) (.inl ⟨rfl, rfl, rfl, rfl, rfl, rfl, rfl, rfl, rfl⟩) (.inl ⟨rfl, rfl, rfl, rfl, rfl, rfl, rfl, rfl, rfl, rfl, rfl, rfl, rfl⟩) (.inl ⟨rfl, rfl, rfl⟩) (.inl ⟨rfl, rfl, rfl, rfl, rfl⟩) (.inl rfl) (.inl rfl) (.inl ⟨rfl, rfl⟩) (.inl ⟨rfl, rfl, rfl, rfl, rfl, rfl, rfl, rfl, rfl, rfl, rfl, rfl, rfl⟩) (.inl rfl) (.inl rfl) (.inl ⟨rfl, rfl, rfl⟩) (.inl rfl)

theorem prefixWrite_frame (s : State) (a1 : PEnt) : Frame touches128 s (State.prefixWrite s a1).1 := by
  have hs := Frame.refl touches128 s
  unfold State.prefixWrite
  refine Frame.after ?_ (peGuard_frame rfl _ _ ?_)
  · exact hs
  · intro y0
    have h1 := Frame.refl touches128 y0
    refine Frame.after ?_ (prefixKeyed_frame rfl _ _ _ ?_)
    · exact h1
    · intro y2
      refine Frame.after ?_ (Frame.mono rfl (prefixPut_frame _ _ _))
      exact h1

theorem learnAdd_frame (s : State) (a1 : Nat) (a2 : LEnt) : Frame touches130 s (State.learnAdd s a1 a2).1 := by
  have hs := Frame.refl touches130 s
  unfold State.learnAdd
  refine Frame.after ?_ (leGuard_frame rfl _ _ _ ?_)
  · exact hs
  · intro y0
    have h1 := Frame.refl touches130 y0
    split
    · rename_i z2 z3 z4 z5
      have h6 : Frame touches130 y0 z3 := Frame.pair z5 (by
          refine Frame.after ?_ (Frame.mono rfl (learnInsert_frame _ _ _))
          exact h1)
      dsimp only
      exact h6

theorem prefixAdd_frame (s : State) (a1 : PEnt) : Frame touches132 s (State.prefixAdd s a1).1 := by
  have hs := Frame.refl touches132 s
  unfold State.prefixAdd
  refine Frame.after ?_ (peGuard_frame rfl _ _ ?_)
  · exact hs
  · intro y0
    have h1 := Frame.refl touches132 y0
    split
    · rename_i z2 z3 z4 z5
      have h6 : Frame touches132 y0 z3 := Frame.pair z5 (by
          refine Frame.after ?_ (Frame.mono rfl (prefixInsert_frame _ _))
          exact h1)
      dsimp only
      exact h6

theorem recordDelete_frame (s : State) (a1 : Nat) : Frame touches134 s (State.recordDelete s a1).1 := by
  have hs := Frame.refl touches134 s
  unfold State.recordDelete
  refine Frame.iteFst (fun _ => ?_) (fun _ => ?_)
  · dsimp only
    exact hs
  · split
    · rename_i z0 z1 z2 z3
      have h4 : Frame touches134 s z1 := Frame.pair z3 (by
          refine Frame.after ?_ (Frame.mono rfl (nodeGet_frame _ _))
          exact hs)
      extract_lets -merge -useContext -underBinder x5
      have h6 : Frame touches134 s x5 := by
        unfold x5
        refine Frame.after ?_ (Frame.mono rfl (nodeUpd_frame _ _ _))
        refine Frame.after ?_ (Frame.mono rfl (queueDiscard_frame _ _))
        refine Frame.after ?_ (Frame.mono rfl (learnForget_frame _ _ _))
        exact h4
      clear_value x5
      dsimp only
      refine Frame.foldl ?_ (fun x7 y8 h9 => ?_)
      · exact h6
      · refine Frame.after ?_ (Frame.mono rfl (mapSettle_frame _ _))
        exact h9

theorem windowWrite_frame (s : State) (a1 : Nat) (a2 : Nat) (a3 : BitVec 64) : Frame touches22 s (State.windowWrite s a1 a2 a3) := by
  have hs := Frame.refl touches22 s
  unfold State.windowWrite
  extract_lets -merge -useContext -underBinder x0
  refine Frame.ite (fun _ => ?_) (fun _ => ?_)
  · refine Frame.after ?_ (Frame.mono rfl (unmapped_frame _))
    exact hs
  · refine Frame.ite (fun _ => ?_) (fun _ => ?_)
    · refine Frame.ite (fun _ => ?_) (fun _ => ?_)
      · refine Frame.after ?_ (Frame.mono rfl (stk_frame _ _ _))
        exact hs
      · refine Frame.after ?_ (Frame.mono rfl (unmapped_frame _))
        exact hs
    · refine Frame.ite (fun _ => ?_) (fun _ => ?_)
      · refine Frame.after ?_ (Frame.mono rfl (unmapped_frame _))
        exact hs
      · refine Frame.ite (fun _ => ?_) (fun _ => ?_)
        · refine Frame.after ?_ (Frame.mono rfl (nodeUpd_frame _ _ _))
          exact hs
        · refine Frame.after ?_ (Frame.mono rfl (stk_frame _ _ _))
          exact hs

end Sys2Proof
end

