-- ==== Sys2Proof/Laws/FrameStrOps.lean ====
section
/-! SUPPORT. Laws/FrameStrOps.lean: what each operation of Machine/StrOps.lean leaves as it was. -/

namespace Sys2Proof

open Sys2Proof.Machine

theorem strGo_frame {G : List Field} (hG : touches1.all G.contains = true) (s : State) (a1 : StrWord) (a2 : Nat) {a3 : State → State} (ha3 : ∀ b0, Frame G b0 (a3 b0)) : Frame G s (State.strGo s a1 a2 a3) := by
  have hs := Frame.refl G s
  unfold State.strGo
  refine Frame.ite (fun _ => ?_) (fun _ => ?_)
  · refine Frame.after ?_ (Frame.mono hG (Frame.mono rfl (unmapped_frame _)))
    exact hs
  · refine Frame.ite (fun _ => ?_) (fun _ => ?_)
    · exact hs
    · refine Frame.ite (fun _ => ?_) (fun _ => ?_)
      · refine Frame.after ?_ (Frame.mono hG (Frame.mono rfl (stk_frame _ _ _)))
        exact hs
      · refine Frame.after ?_ (ha3 _)
        refine Frame.after ?_ (Frame.mono hG (Frame.mono rfl (setRg_frame _ _ _)))
        exact hs

theorem strResult_frame (s : State) (a1 : Nat) : Frame touches94 s (State.strResult s a1) := by
  have hs := Frame.refl touches94 s
  unfold State.strResult
  refine Frame.after ?_ (Frame.mono rfl (event_frame _ _))
  refine Frame.after ?_ (Frame.mono rfl (setRg_frame _ _ _))
  exact hs

theorem strLocked_frame {G : List Field} (hG : touches19.all G.contains = true) (s : State) {a1 : State → State} (ha1 : ∀ b0, Frame G b0 (a1 b0)) : Frame G s (State.strLocked s a1) := by
  have hs := Frame.refl G s
  unfold State.strLocked
  refine Frame.ite (fun _ => ?_) (fun _ => ?_)
  · refine Frame.after ?_ (Frame.mono hG (Frame.mono rfl (strResult_frame _ _)))
    refine Frame.after ?_ (Frame.mono hG (Frame.mono rfl (slotBusy_frame _ _)))
    exact hs
  · refine Frame.after ?_ (ha1 _)
    exact hs

theorem strChecked_frame {G : List Field} (hG : touches19.all G.contains = true) (s : State) (a1 : StrWord) (a2 : StrEnv) {a3 : Image → Bool → State → State} (ha3 : ∀ b0 b1 b2, Frame G b2 (a3 b0 b1 b2)) : Frame G s (State.strChecked s a1 a2 a3) := by
  have hs := Frame.refl G s
  unfold State.strChecked
  refine Frame.ite (fun _ => ?_) (fun _ => ?_)
  · refine Frame.after ?_ (Frame.mono hG (Frame.mono rfl (strResult_frame _ _)))
    exact hs
  · refine Frame.after ?_ (strLocked_frame (Frame.sub rfl hG) _ ?_)
    · exact hs
    · intro y0
      have h1 := Frame.refl G y0
      split
      · refine Frame.after ?_ (Frame.mono hG (Frame.mono rfl (strResult_frame _ _)))
        exact h1
      · refine Frame.after ?_ (ha3 _ _ _)
        exact h1

theorem regionsBack_frame (s : State) (a1 : State) : Frame touches74 s (State.regionsBack s a1) := by
  have hs := Frame.refl touches74 s
  unfold State.regionsBack
  refine Frame.foldl ?_ (fun x0 y1 h2 => ?_)
  · exact hs
  · refine Frame.ite (fun _ => ?_) (fun _ => ?_)
    · refine Frame.after ?_ (Frame.mono rfl (regionLit_frame _ _))
      exact h2
    · exact h2

theorem unitsBack_frame (s : State) (a1 : List UnitId) : Frame touches111 s (State.unitsBack s a1) := by
  have hs := Frame.refl touches111 s
  unfold State.unitsBack
  extract_lets -merge -useContext -underBinder x0 x1 x2 x3
  clear_value x0
  have h4 : Frame touches111 s x3 := by
    unfold x3
    exact Frame.upd hs (.inl rfl) (.inl rfl) (.inl ⟨rfl, rfl⟩) (.inl rfl) (.inl rfl) (.inl rfl) (.inl rfl) (.inl rfl) (.inr rfl) (.inr rfl) (.inl ⟨rfl, rfl, rfl⟩) (.inl rfl) (.inl ⟨rfl, rfl, rfl⟩) (.inl ⟨rfl, rfl⟩) (.inl ⟨rfl, rfl, rfl, rfl, rfl, rfl, rfl, rfl⟩) (.inl ⟨rfl, rfl⟩) (.inl ⟨rfl, rfl, rfl, rfl, rfl, rfl, rfl, rfl, rfl, rfl⟩) (.inl ⟨rfl, rfl⟩) (.inl ⟨rfl, rfl⟩) (.inl rfl) (.inl rfl) (.inl rfl) (.inl rfl) (.inr rfl) (.inl ⟨rfl, rfl, rfl, rfl, rfl, rfl, rfl, rfl, rfl⟩) (.inl ⟨rfl, rfl, rfl⟩) (.inl ⟨rfl, rfl, rfl, rfl, rfl, rfl, rfl, rfl, rfl, rfl, rfl, rfl, rfl, rfl, rfl, rfl, rfl, rfl, rfl, rfl, rfl, rfl, rfl, rfl, rfl, rfl, rfl⟩) (.inl ⟨rfl, rfl, rfl, rfl, rfl, rfl, rfl, rfl, rfl, rfl, rfl, rfl⟩) (.inl ⟨rfl, rfl, rfl, rfl, rfl, rfl, rfl, rfl, rfl⟩) (.inl ⟨rfl, rfl, rfl⟩) (.inl ⟨rfl, rfl, rfl⟩) (.inl ⟨rfl, rfl, rfl, rfl, rfl, rfl, rfl, rfl, rfl⟩) (.inl rfl) (.inl rfl) (.inl rfl) (.inl rfl) (.inl ⟨rfl, rfl⟩) (.inl ⟨rfl, rfl⟩) (.inl rfl) (.inl ⟨rfl, rfl, rfl, rfl, rfl⟩) (.inl ⟨rfl, rfl⟩) (.inl ⟨rfl, rfl, rfl, rfl⟩) (.inl ⟨rfl, rfl, rfl⟩) (.inl rfl) (.inl ⟨rfl, rfl⟩) (.inl ⟨rfl, rfl, rfl, rfl, rfl, rfl, rfl⟩) (.inl ⟨rfl, rfl, rfl, rfl, rfl⟩) (.inl rfl) (.inl ⟨rfl, rfl, rfl, rfl, rfl, rfl⟩) (.inl ⟨rfl, rfl, rfl, rfl, rfl, rfl, rfl, rfl, rfl, rfl, rfl⟩) (.inl ⟨rfl, rfl, rfl, rfl⟩) (.inl rfl) (.inl rfl) (.inl ⟨rfl, rfl, rfl, rfl, rfl, rfl, rfl, rfl, rfl, rfl, rfl, rfl⟩) (.inl ⟨rfl, rfl⟩) (.inl ⟨rfl, rfl, rfl, rfl, rfl, rfl⟩) (.inl ⟨rfl, rfl, rfl, rfl, rfl, rfl⟩) (.inl ⟨rfl, rfl, rfl, rfl, rfl, rfl, rfl, rfl, rfl, rfl, rfl, rfl⟩) (.inl ⟨rfl, rfl, rfl⟩) (.inl ⟨rfl, rfl, rfl, rfl⟩) (.inl ⟨rfl, rfl, rfl, rfl, rfl⟩) (.inl ⟨rfl, rfl, rfl, rfl, rfl, rfl, rfl, rfl, rfl, rfl⟩) (.inr rfl) (.inl ⟨rfl, rfl, rfl, rfl, rfl, rfl, rfl, rfl, rfl, rfl, rfl, rfl, rfl⟩) (.inl ⟨rfl, rfl, rfl⟩) (.inr rfl) (.inl rfl) (.inl rfl) (.inl ⟨rfl, rfl⟩) (.inl ⟨rfl, rfl, rfl, rfl, rfl, rfl, rfl, rfl, rfl, rfl, rfl, rfl, rfl⟩) (.inl rfl) (.inl rfl) (.inl ⟨rfl, rfl, rfl⟩) (.inl rfl)
  clear_value x3
  refine Frame.foldl ?_ (fun x5 y6 h7 => ?_)
  · exact h4
  · refine Frame.radUpd ?_ (.inr rfl) (.inl (fun _ => ⟨rfl, rfl, rfl⟩)) (.inl (fun _ => rfl)) (.inl (fun _ => ⟨rfl, rfl, rfl, rfl, rfl, rfl, rfl, rfl, rfl⟩)) (.inl (fun _ => ⟨rfl, rfl, rfl, rfl⟩)) (.inl (fun _ => ⟨rfl, rfl, rfl⟩)) (.inl (fun _ => rfl)) (.inl (fun _ => rfl)) (.inl (fun _ => ⟨rfl, rfl, rfl⟩))
    exact h7

theorem tripClear_frame (s : State) (a1 : Region) : Frame touches114 s (State.tripClear s a1) := by
  have hs := Frame.refl touches114 s
  unfold State.tripClear
  refine Frame.ite (fun _ => ?_) (fun _ => ?_)
  · refine Frame.after ?_ (Frame.mono rfl (linesRest_frame _ _))
    refine Frame.radUpd ?_ (.inr rfl) (.inr rfl) (.inr rfl) (.inr rfl) (.inr rfl) (.inr rfl) (.inr rfl) (.inr rfl) (.inr rfl)
    exact hs
  · exact hs

theorem mapsApply_frame (s : State) (a1 : Region) : Frame touches116 s (State.mapsApply s a1) := by
  have hs := Frame.refl touches116 s
  unfold State.mapsApply
  refine Frame.ite (fun _ => ?_) (fun _ => ?_)
  · refine Frame.foldl ?_ (fun x0 y1 h2 => ?_)
    · exact hs
    · extract_lets -merge -useContext -underBinder x3 x4
      clear_value x3
      clear_value x4
      refine Frame.ite (fun _ => ?_) (fun _ => ?_)
      · refine Frame.after ?_ (Frame.mono rfl (setLmap_frame _ _ _ _))
        exact h2
      · refine Frame.ite (fun _ => ?_) (fun _ => ?_)
        · refine Frame.after ?_ (Frame.mono rfl (mapWrite_frame _ _ _ _))
          exact h2
        · refine Frame.after ?_ (Frame.mono rfl (setLmap_frame _ _ _ _))
          refine Frame.after ?_ (when_frame rfl _ _ ?_)
          · exact h2
          · intro y5
            have h6 := Frame.refl touches116 y5
            refine Frame.after ?_ (Frame.mono rfl (cnt_frame _ _))
            exact h6
  · exact hs

theorem undegrade_frame (s : State) : Frame touches76 s (State.undegrade s) := by
  have hs := Frame.refl touches76 s
  unfold State.undegrade
  refine Frame.ite (fun _ => ?_) (fun _ => ?_)
  · refine Frame.after ?_ (Frame.mono rfl (modeTo_frame _ _))
    exact hs
  · exact hs

theorem strCommit_frame (s : State) (a1 : Image) : Frame touches119 s (State.strCommit s a1) := by
  have hs := Frame.refl touches119 s
  unfold State.strCommit
  extract_lets -merge -useContext -underBinder x0
  refine Frame.after ?_ (Frame.mono rfl (cell_frame _ _ _ _ _))
  exact Frame.upd hs (.inl rfl) (.inl rfl) (.inr rfl) (.inl rfl) (.inl rfl) (.inl rfl) (.inl rfl) (.inl rfl) (.inl rfl) (.inl rfl) (.inl ⟨rfl, rfl, rfl⟩) (.inl rfl) (.inl ⟨rfl, rfl, rfl⟩) (.inl ⟨rfl, rfl⟩) (.inl ⟨rfl, rfl, rfl, rfl, rfl, rfl, rfl, rfl⟩) (.inl ⟨rfl, rfl⟩) (.inl ⟨rfl, rfl, rfl, rfl, rfl, rfl, rfl, rfl, rfl, rfl⟩) (.inl ⟨rfl, rfl⟩) (.inl ⟨rfl, rfl⟩) (.inl rfl) (.inl rfl) (.inl rfl) (.inr rfl) (.inl ⟨rfl, rfl, rfl, rfl, rfl, rfl, rfl, rfl, rfl⟩) (.inl ⟨rfl, rfl, rfl, rfl, rfl, rfl, rfl, rfl, rfl⟩) (.inl ⟨rfl, rfl, rfl⟩) (.inl ⟨rfl, rfl, rfl, rfl, rfl, rfl, rfl, rfl, rfl, rfl, rfl, rfl, rfl, rfl, rfl, rfl, rfl, rfl, rfl, rfl, rfl, rfl, rfl, rfl, rfl, rfl, rfl⟩) (.inl ⟨rfl, rfl, rfl, rfl, rfl, rfl, rfl, rfl, rfl, rfl, rfl, rfl⟩) (.inl ⟨rfl, rfl, rfl, rfl, rfl, rfl, rfl, rfl, rfl⟩) (.inl ⟨rfl, rfl, rfl⟩) (.inl ⟨rfl, rfl, rfl⟩) (.inl ⟨rfl, rfl, rfl, rfl, rfl, rfl, rfl, rfl, rfl⟩) (.inl rfl) (.inl rfl) (.inl rfl) (.inl rfl) (.inl ⟨rfl, rfl⟩) (.inl ⟨rfl, rfl⟩) (.inl rfl) (.inl ⟨rfl, rfl, rfl, rfl, rfl⟩) (.inl ⟨rfl, rfl⟩) (.inl ⟨rfl, rfl, rfl, rfl⟩) (.inl ⟨rfl, rfl, rfl⟩) (.inl rfl) (.inl ⟨rfl, rfl⟩) (.inl ⟨rfl, rfl, rfl, rfl, rfl, rfl, rfl⟩) (.inl ⟨rfl, rfl, rfl, rfl, rfl⟩) (.inl rfl) (.inl ⟨rfl, rfl, rfl, rfl, rfl, rfl⟩) (.inl ⟨rfl, rfl, rfl, rfl, rfl, rfl, rfl, rfl, rfl, rfl, rfl⟩) (.inl ⟨rfl, rfl, rfl, rfl⟩) (.inl rfl) (.inr rfl) (.inl ⟨rfl, rfl, rfl, rfl, rfl, rfl, rfl, rfl, rfl, rfl, rfl, rfl⟩) (.inl ⟨rfl, rfl⟩) (.inl ⟨rfl, rfl, rfl, rfl, rfl, rfl⟩) (.inl ⟨rfl, rfl, rfl, rfl, rfl, rfl⟩) (.inl ⟨rfl, rfl, rfl, rfl, rfl, rfl, rfl, rfl, rfl, rfl, rfl, rfl⟩) (.inl ⟨rfl, rfl, rfl⟩) (.inl ⟨rfl, rfl, rfl, rfl⟩) (.inl ⟨rfl, rfl, rfl, rfl, rfl⟩) (.inl ⟨rfl, rfl, rfl, rfl, rfl, rfl, rfl, rfl, rfl, rfl⟩) (.inl ⟨rfl, rfl, rfl, rfl, rfl, rfl, rfl, rfl, rfl⟩) (.inl ⟨rfl, rfl, rfl, rfl, rfl, rfl, rfl, rfl, rfl, rfl, rfl, rfl, rfl⟩) (.inl ⟨rfl, rfl, rfl⟩) (.inl ⟨rfl, rfl, rfl, rfl, rfl⟩) (.inl rfl) (.inl rfl) (.inr rfl) (.inr rfl) (.inl rfl) (.inl rfl) (.inl ⟨rfl, rfl, rfl⟩) (.inl rfl)

theorem applyLive_frame (s : State) (a1 : Image) (a2 : Bool) (a3 : StrEnv) : Frame touches120 s (State.applyLive s a1 a2 a3) := by
  have hs := Frame.refl touches120 s
  unfold State.applyLive
  extract_lets -merge -useContext -underBinder x0 x1 x2 x3 x4 x5 x6
  clear_value x0
  have h7 : Frame touches120 s x2 := by
    unfold x2
    exact Frame.upd hs (.inl rfl) (.inl rfl) (.inr rfl) (.inl rfl) (.inr rfl) (.inr rfl) (.inl rfl) (.inl rfl) (.inr rfl) (.inr rfl) (.inr rfl) (.inr rfl) (.inl ⟨rfl, rfl, rfl⟩) (.inr rfl) (.inr rfl) (.inr rfl) (.inl ⟨rfl, rfl, rfl, rfl, rfl, rfl, rfl, rfl, rfl, rfl⟩) (.inl ⟨rfl, rfl⟩) (.inr rfl) (.inr rfl) (.inr rfl) (.inr rfl) (.inr rfl) (.inr rfl) (.inr rfl) (.inr rfl) (.inr rfl) (.inr rfl) (.inr rfl) (.inr rfl) (.inr rfl) (.inr rfl) (.inr rfl) (.inr rfl) (.inr rfl) (.inr rfl) (.inr rfl) (.inr rfl) (.inl rfl) (.inr rfl) (.inr rfl) (.inr rfl) (.inr rfl) (.inr rfl) (.inr rfl) (.inr rfl) (.inr rfl) (.inr rfl) (.inr rfl) (.inr rfl) (.inr rfl) (.inr rfl) (.inr rfl) (.inr rfl) (.inr rfl) (.inl ⟨rfl, rfl, rfl, rfl, rfl, rfl⟩) (.inl ⟨rfl, rfl, rfl, rfl, rfl, rfl⟩) (.inr rfl) (.inl ⟨rfl, rfl, rfl⟩) (.inl ⟨rfl, rfl, rfl, rfl⟩) (.inr rfl) (.inr rfl) (.inr rfl) (.inr rfl) (.inr rfl) (.inr rfl) (.inr rfl) (.inr rfl) (.inr rfl) (.inr rfl) (.inr rfl) (.inr rfl) (.inr rfl) (.inl rfl)
  clear_value x2
  have h8 : Frame touches120 s x3 := by
    unfold x3
    refine Frame.after ?_ (Frame.mono rfl (regionsBack_frame _ _))
    refine Frame.after ?_ (Frame.mono rfl (unitsBack_frame _ _))
    refine Frame.after ?_ (Frame.mono rfl (setb_frame _ _ _ _))
    exact h7
  clear_value x3
  have h9 : Frame touches120 s x4 := by
    unfold x4
    refine Frame.foldl ?_ (fun x10 y11 h12 => ?_)
    · exact h8
    · refine Frame.after ?_ (Frame.mono rfl (tripClear_frame _ _))
      exact h12
  clear_value x4
  have h13 : Frame touches120 s x5 := by
    unfold x5
    refine Frame.ite (fun _ => ?_) (fun _ => ?_)
    · refine Frame.foldl ?_ (fun x14 y15 h16 => ?_)
      · exact h9
      · refine Frame.after ?_ (Frame.mono rfl (mapsApply_frame _ _))
        exact h16
    · exact h9
  clear_value x5
  have h17 : Frame touches120 s x6 := by
    unfold x6
    refine Frame.ite (fun _ => ?_) (fun _ => ?_)
    · refine Frame.after ?_ (Frame.mono rfl (irqApply_frame _))
      exact h13
    · exact h13
  clear_value x6
  refine Frame.after ?_ (Frame.mono rfl (undegrade_frame _))
  refine Frame.after ?_ (Frame.mono rfl (strCommit_frame _ _))
  exact h17

theorem applyMark_frame (s : State) (a1 : Image) : Frame touches122 s (State.applyMark s a1) := by
  have hs := Frame.refl touches122 s
  unfold State.applyMark
  extract_lets -merge -useContext -underBinder x0 x1 x2
  clear_value x0
  exact Frame.upd hs (.inl rfl) (.inl rfl) (.inl ⟨rfl, rfl⟩) (.inl rfl) (.inl rfl) (.inl rfl) (.inl rfl) (.inl rfl) (.inl rfl) (.inl rfl) (.inl ⟨rfl, rfl, rfl⟩) (.inr rfl) (.inr rfl) (.inl ⟨rfl, rfl⟩) (.inl ⟨rfl, rfl, rfl, rfl, rfl, rfl, rfl, rfl⟩) (.inl ⟨rfl, rfl⟩) (.inl ⟨rfl, rfl, rfl, rfl, rfl, rfl, rfl, rfl, rfl, rfl⟩) (.inl ⟨rfl, rfl⟩) (.inl ⟨rfl, rfl⟩) (.inl rfl) (.inl rfl) (.inr rfl) (.inl rfl) (.inl ⟨rfl, rfl, rfl, rfl, rfl, rfl, rfl, rfl, rfl⟩) (.inl ⟨rfl, rfl, rfl, rfl, rfl, rfl, rfl, rfl, rfl⟩) (.inl ⟨rfl, rfl, rfl⟩) (.inl ⟨rfl, rfl, rfl, rfl, rfl, rfl, rfl, rfl, rfl, rfl, rfl, rfl, rfl, rfl, rfl, rfl, rfl, rfl, rfl, rfl, rfl, rfl, rfl, rfl, rfl, rfl, rfl⟩) (.inl ⟨rfl, rfl, rfl, rfl, rfl, rfl, rfl, rfl, rfl, rfl, rfl, rfl⟩) (.inl ⟨rfl, rfl, rfl, rfl, rfl, rfl, rfl, rfl, rfl⟩) (.inl ⟨rfl, rfl, rfl⟩) (.inl ⟨rfl, rfl, rfl⟩) (.inl ⟨rfl, rfl, rfl, rfl, rfl, rfl, rfl, rfl, rfl⟩) (.inl rfl) (.inl rfl) (.inl rfl) (.inl rfl) (.inl ⟨rfl, rfl⟩) (.inl ⟨rfl, rfl⟩) (.inl rfl) (.inl ⟨rfl, rfl, rfl, rfl, rfl⟩) (.inl ⟨rfl, rfl⟩) (.inl ⟨rfl, rfl, rfl, rfl⟩) (.inl ⟨rfl, rfl, rfl⟩) (.inl rfl) (.inl ⟨rfl, rfl⟩) (.inl ⟨rfl, rfl, rfl, rfl, rfl, rfl, rfl⟩) (.inl ⟨rfl, rfl, rfl, rfl, rfl⟩) (.inl rfl) (.inl ⟨rfl, rfl, rfl, rfl, rfl, rfl⟩) (.inl ⟨rfl, rfl, rfl, rfl, rfl, rfl, rfl, rfl, rfl, rfl, rfl⟩) (.inl ⟨rfl, rfl, rfl, rfl⟩) (.inl rfl) (.inl rfl) (.inl ⟨rfl, rfl, rfl, rfl, rfl, rfl, rfl, rfl, rfl, rfl, rfl, rfl⟩) (.inl ⟨rfl, rfl⟩) (.inl ⟨rfl, rfl, rfl, rfl, rfl, rfl⟩) (.inl ⟨rfl, rfl, rfl, rfl, rfl, rfl⟩) (.inl ⟨rfl, rfl, rfl, rfl, rfl, rfl, rfl, rfl, rfl, rfl, rfl, rfl⟩) (.inl ⟨rfl, rfl, rfl⟩) (.inl ⟨rfl, rfl, rfl, rfl⟩) (.inl ⟨rfl, rfl, rfl, rfl, rfl⟩) (.inl ⟨rfl, rfl, rfl, rfl, rfl, rfl, rfl, rfl, rfl, rfl⟩) (.inl ⟨rfl, rfl, rfl, rfl, rfl, rfl, rfl, rfl, rfl⟩) (.inl ⟨rfl, rfl, rfl, rfl, rfl, rfl, rfl, rfl, rfl, rfl, rfl, rfl, rfl⟩) (.inl ⟨rfl, rfl, rfl⟩) (.inl ⟨rfl, rfl, rfl, rfl, rfl⟩) (.inl rfl) (.inl rfl) (.inl ⟨rfl, rfl⟩) (.inl ⟨rfl, rfl, rfl, rfl, rfl, rfl, rfl, rfl, rfl, rfl, rfl, rfl, rfl⟩) (.inl rfl) (.inl rfl) (.inl ⟨rfl, rfl, rfl⟩) (.inl rfl)

theorem applyBegin_frame (s : State) (a1 : Image) (a2 : Bool) : Frame touches123 s (State.applyBegin s a1 a2) := by
  have hs := Frame.refl touches123 s
  unfold State.applyBegin
  extract_lets -merge -useContext -underBinder x0
  have h1 : Frame touches123 s x0 := by
    unfold x0
    refine Frame.foldl ?_ (fun x2 y3 h4 => ?_)
    · refine Frame.after ?_ (Frame.mono rfl (applyMark_frame _ _))
      exact hs
    · refine Frame.after ?_ (Frame.mono rfl (rxDrop_frame _ _))
      refine Frame.after ?_ (Frame.mono rfl (muteRegion_frame _ _ _ _ _))
      exact h4
  clear_value x0
  refine Frame.after ?_ (Frame.mono rfl (lockTake_frame _ _))
  refine Frame.after ?_ (Frame.mono rfl (stk_frame _ _ _))
  refine Frame.after ?_ (Frame.mono rfl (setRg_frame _ _ _))
  refine Frame.after ?_ (Frame.mono rfl (setb_frame _ _ _ _))
  exact h1

theorem strApplyImage_frame (s : State) (a1 : StrWord) (a2 : StrEnv) (a3 : Image) (a4 : Bool) : Frame touches124 s (State.strApplyImage s a1 a2 a3 a4) := by
  have hs := Frame.refl touches124 s
  unfold State.strApplyImage
  refine Frame.ite (fun _ => ?_) (fun _ => ?_)
  · refine Frame.after ?_ (Frame.mono rfl (strResult_frame _ _))
    refine Frame.after ?_ (Frame.mono rfl (applyLive_frame _ _ _ _))
    exact hs
  · refine Frame.ite (fun _ => ?_) (fun _ => ?_)
    · refine Frame.after ?_ (Frame.mono rfl (strResult_frame _ _))
      refine Frame.after ?_ (Frame.mono rfl (applyLive_frame _ _ _ _))
      exact hs
    · refine Frame.ite (fun _ => ?_) (fun _ => ?_)
      · refine Frame.after ?_ (Frame.mono rfl (strResult_frame _ _))
        exact hs
      · refine Frame.after ?_ (Frame.mono rfl (applyBegin_frame _ _ _))
        exact hs

theorem poolDiscard_frame (s : State) (a1 : Region) : Frame touches78 s (State.poolDiscard s a1) := by
  have hs := Frame.refl touches78 s
  unfold State.poolDiscard
  refine Frame.foldl ?_ (fun x0 y1 h2 => ?_)
  · exact hs
  · refine Frame.after ?_ (Frame.mono rfl (queueDiscard_frame _ _))
    exact h2

theorem trainsRealign_frame (s : State) : Frame touches34 s (State.trainsRealign s) := by
  have hs := Frame.refl touches34 s
  unfold State.trainsRealign
  refine Frame.foldl ?_ (fun x0 y1 h2 => ?_)
  · exact hs
  · extract_lets -merge -useContext -underBinder x3
    clear_value x3
    refine Frame.ite (fun _ => ?_) (fun _ => ?_)
    · refine Frame.after ?_ (Frame.mono rfl (setPin_frame _ _ _))
      exact h2
    · exact h2

theorem loadTry_frame (s : State) (a1 : StrEnv) (a2 : List Nat) : Frame touches19 s (State.loadTry s a1 a2).1 := by
  induction a2 generalizing s a1 with | nil => ?_ | cons y l ih => ?_
  · have hs := Frame.refl touches19 s
    unfold State.loadTry
    dsimp only
    exact hs
  · have hs := Frame.refl touches19 s
    unfold State.loadTry
    split
    · dsimp only
      exact hs
    · refine Frame.after ?_ (ih _ _)
      refine Frame.after ?_ (Frame.mono rfl (cell_frame _ _ _ _ _))
      exact hs

theorem ringsDisable_frame (s : State) : Frame touches192 s (State.ringsDisable s) := by
  have hs := Frame.refl touches192 s
  unfold State.ringsDisable
  refine Frame.foldl ?_ (fun x0 y1 h2 => ?_)
  · exact hs
  · extract_lets -merge -useContext -underBinder x3
    clear_value x3
    refine Frame.after ?_ (Frame.mono rfl (clrb_frame _ _ _))
    refine Frame.after ?_ (Frame.mono rfl (setRing_frame _ _ _))
    exact h2

theorem slotCountersClear_frame (s : State) : Frame touches1 s (State.slotCountersClear s) := by
  have hs := Frame.refl touches1 s
  unfold State.slotCountersClear
  exact Frame.upd hs (.inl rfl) (.inl rfl) (.inr rfl) (.inl rfl) (.inl rfl) (.inl rfl) (.inl rfl) (.inl rfl) (.inl rfl) (.inl rfl) (.inl ⟨rfl, rfl, rfl⟩) (.inl rfl) (.inl ⟨rfl, rfl, rfl⟩) (.inl ⟨rfl, rfl⟩) (.inl ⟨rfl, rfl, rfl, rfl, rfl, rfl, rfl, rfl⟩) (.inl ⟨rfl, rfl⟩) (.inl ⟨rfl, rfl, rfl, rfl, rfl, rfl, rfl, rfl, rfl, rfl⟩) (.inl ⟨rfl, rfl⟩) (.inl ⟨rfl, rfl⟩) (.inl rfl) (.inl rfl) (.inl rfl) (.inl rfl) (.inl ⟨rfl, rfl, rfl, rfl, rfl, rfl, rfl, rfl, rfl⟩) (.inl ⟨rfl, rfl, rfl, rfl, rfl, rfl, rfl, rfl, rfl⟩) (.inl ⟨rfl, rfl, rfl⟩) (.inl ⟨rfl, rfl, rfl, rfl, rfl, rfl, rfl, rfl, rfl, rfl, rfl, rfl, rfl, rfl, rfl, rfl, rfl, rfl, rfl, rfl, rfl, rfl, rfl, rfl, rfl, rfl, rfl⟩) (.inl ⟨rfl, rfl, rfl, rfl, rfl, rfl, rfl, rfl, rfl, rfl, rfl, rfl⟩) (.inl ⟨rfl, rfl, rfl, rfl, rfl, rfl, rfl, rfl, rfl⟩) (.inl ⟨rfl, rfl, rfl⟩) (.inl ⟨rfl, rfl, rfl⟩) (.inl ⟨rfl, rfl, rfl, rfl, rfl, rfl, rfl, rfl, rfl⟩) (.inl rfl) (.inl rfl) (.inl rfl) (.inl rfl) (.inl ⟨rfl, rfl⟩) (.inl ⟨rfl, rfl⟩) (.inl rfl) (.inl ⟨rfl, rfl, rfl, rfl, rfl⟩) (.inl ⟨rfl, rfl⟩) (.inl ⟨rfl, rfl, rfl, rfl⟩) (.inl ⟨rfl, rfl, rfl⟩) (.inl rfl) (.inl ⟨rfl, rfl⟩) (.inl ⟨rfl, rfl, rfl, rfl, rfl, rfl, rfl⟩) (.inl ⟨rfl, rfl, rfl, rfl, rfl⟩) (.inl rfl) (.inl ⟨rfl, rfl, rfl, rfl, rfl, rfl⟩) (.inl ⟨rfl, rfl, rfl, rfl, rfl, rfl, rfl, rfl, rfl, rfl, rfl⟩) (.inl ⟨rfl, rfl, rfl, rfl⟩) (.inl rfl) (.inl rfl) (.inl ⟨rfl, rfl, rfl, rfl, rfl, rfl, rfl, rfl, rfl, rfl, rfl, rfl⟩) (.inl ⟨rfl, rfl⟩) (.inl ⟨rfl, rfl, rfl, rfl, rfl, rfl⟩) (.inl ⟨rfl, rfl, rfl, rfl, rfl, rfl⟩) (.inl ⟨rfl, rfl, rfl, rfl, rfl, rfl, rfl, rfl, rfl, rfl, rfl, rfl⟩) (.inl ⟨rfl, rfl, rfl⟩) (.inl ⟨rfl, rfl, rfl, rfl⟩) (.inl ⟨rfl, rfl, rfl, rfl, rfl⟩) (.inl ⟨rfl, rfl, rfl, rfl, rfl, rfl, rfl, rfl, rfl, rfl⟩) (.inl ⟨rfl, rfl, rfl, rfl, rfl, rfl, rfl, rfl, rfl⟩) (.inl ⟨rfl, rfl, rfl, rfl, rfl, rfl, rfl, rfl, rfl, rfl, rfl, rfl, rfl⟩) (.inl ⟨rfl, rfl, rfl⟩) (.inl ⟨rfl, rfl, rfl, rfl, rfl⟩) (.inl rfl) (.inl rfl) (.inl ⟨rfl, rfl⟩) (.inl ⟨rfl, rfl, rfl, rfl, rfl, rfl, rfl, rfl, rfl, rfl, rfl, rfl, rfl⟩) (.inl rfl) (.inl rfl) (.inl ⟨rfl, rfl, rfl⟩) (.inl rfl)

theorem setStage_frame (s : State) (a1 : Nat) : Frame touches171 s (State.setStage s a1) := by
  have hs := Frame.refl touches171 s
  unfold State.setStage
  extract_lets -merge -useContext -underBinder x0
  exact Frame.upd hs (.inl rfl) (.inl rfl) (.inl ⟨rfl, rfl⟩) (.inl rfl) (.inl rfl) (.inl rfl) (.inl rfl) (.inl rfl) (.inl rfl) (.inl rfl) (.inl ⟨rfl, rfl, rfl⟩) (.inl rfl) (.inl ⟨rfl, rfl, rfl⟩) (.inr rfl) (.inl ⟨rfl, rfl, rfl, rfl, rfl, rfl, rfl, rfl⟩) (.inl ⟨rfl, rfl⟩) (.inl ⟨rfl, rfl, rfl, rfl, rfl, rfl, rfl, rfl, rfl, rfl⟩) (.inl ⟨rfl, rfl⟩) (.inl ⟨rfl, rfl⟩) (.inl rfl) (.inl rfl) (.inl rfl) (.inl rfl) (.inl ⟨rfl, rfl, rfl, rfl, rfl, rfl, rfl, rfl, rfl⟩) (.inl ⟨rfl, rfl, rfl, rfl, rfl, rfl, rfl, rfl, rfl⟩) (.inl ⟨rfl, rfl, rfl⟩) (.inl ⟨rfl, rfl, rfl, rfl, rfl, rfl, rfl, rfl, rfl, rfl, rfl, rfl, rfl, rfl, rfl, rfl, rfl, rfl, rfl, rfl, rfl, rfl, rfl, rfl, rfl, rfl, rfl⟩) (.inl ⟨rfl, rfl, rfl, rfl, rfl, rfl, rfl, rfl, rfl, rfl, rfl, rfl⟩) (.inl ⟨rfl, rfl, rfl, rfl, rfl, rfl, rfl, rfl, rfl⟩) (.inl ⟨rfl, rfl, rfl⟩) (.inl ⟨rfl, rfl, rfl⟩) (.inl ⟨rfl, rfl, rfl, rfl, rfl, rfl, rfl, rfl, rfl⟩) (.inl rfl) (.inl rfl) (.inl rfl) (.inl rfl) (.inl ⟨rfl, rfl⟩) (.inl ⟨rfl, rfl⟩) (.inl rfl) (.inl ⟨rfl, rfl, rfl, rfl, rfl⟩) (.inl ⟨rfl, rfl⟩) (.inl ⟨rfl, rfl, rfl, rfl⟩) (.inl ⟨rfl, rfl, rfl⟩) (.inl rfl) (.inl ⟨rfl, rfl⟩) (.inl ⟨rfl, rfl, rfl, rfl, rfl, rfl, rfl⟩) (.inl ⟨rfl, rfl, rfl, rfl, rfl⟩) (.inl rfl) (.inl ⟨rfl, rfl, rfl, rfl, rfl, rfl⟩) (.inl ⟨rfl, rfl, rfl, rfl, rfl, rfl, rfl, rfl, rfl, rfl, rfl⟩) (.inl ⟨rfl, rfl, rfl, rfl⟩) (.inl rfl) (.inl rfl) (.inl ⟨rfl, rfl, rfl, rfl, rfl, rfl, rfl, rfl, rfl, rfl, rfl, rfl⟩) (.inl ⟨rfl, rfl⟩) (.inl ⟨rfl, rfl, rfl, rfl, rfl, rfl⟩) (.inl ⟨rfl, rfl, rfl, rfl, rfl, rfl⟩) (.inl ⟨rfl, rfl, rfl, rfl, rfl, rfl, rfl, rfl, rfl, rfl, rfl, rfl⟩) (.inl ⟨rfl, rfl, rfl⟩) (.inl ⟨rfl, rfl, rfl, rfl⟩) (.inl ⟨rfl, rfl, rfl, rfl, rfl⟩) (.inl ⟨rfl, rfl, rfl, rfl, rfl, rfl, rfl, rfl, rfl, rfl⟩) (.inl ⟨rfl, rfl, rfl, rfl, rfl, rfl, rfl, rfl, rfl⟩) (.inl ⟨rfl, rfl, rfl, rfl, rfl, rfl, rfl, rfl, rfl, rfl, rfl, rfl, rfl⟩) (.inl ⟨rfl, rfl, rfl⟩) (.inl ⟨rfl, rfl, rfl, rfl, rfl⟩) (.inl rfl) (.inl rfl) (.inl ⟨rfl, rfl⟩) (.inl ⟨rfl, rfl, rfl, rfl, rfl, rfl, rfl, rfl, rfl, rfl, rfl, rfl, rfl⟩) (.inl rfl) (.inl rfl) (.inl ⟨rfl, rfl, rfl⟩) (.inl rfl)

theorem searchOut_frame (s : State) (a1 : Region) : Frame touches161 s (State.searchOut s a1) := by
  have hs := Frame.refl touches161 s
  unfold State.searchOut
  refine Frame.ite (fun _ => ?_) (fun _ => ?_)
  · refine Frame.after ?_ (Frame.mono rfl (regionOut_frame _ _ _))
    exact hs
  · exact hs

theorem calStore_frame (s : State) (a1 : Region) (a2 : List CalResult) (a3 : List CorrResult) : Frame touches114 s (State.calStore s a1 a2 a3) := by
  have hs := Frame.refl touches114 s
  unfold State.calStore
  extract_lets -merge -useContext -underBinder x0 x1
  have h2 : Frame touches114 s x0 := by
    unfold x0
    refine Frame.foldl ?_ (fun x3 y4 h5 => ?_)
    · exact hs
    · extract_lets -merge -useContext -underBinder x6 x7
      clear_value x7
      refine Frame.radUpd ?_ (.inr rfl) (.inr rfl) (.inr rfl) (.inr rfl) (.inr rfl) (.inr rfl) (.inr rfl) (.inr rfl) (.inr rfl)
      refine Frame.after ?_ (Frame.mono rfl (setRg_frame _ _ _))
      refine Frame.after ?_ (Frame.mono rfl (setRg_frame _ _ _))
      exact h5
  clear_value x0
  have h8 : Frame touches114 s x1 := by
    unfold x1
    refine Frame.foldl ?_ (fun x9 y10 h11 => ?_)
    · exact h2
    · refine Frame.radUpd ?_ (.inr rfl) (.inr rfl) (.inr rfl) (.inr rfl) (.inr rfl) (.inr rfl) (.inr rfl) (.inr rfl) (.inr rfl)
      exact h11
  clear_value x1
  refine Frame.after ?_ (Frame.mono rfl (linesRest_frame _ _))
  refine Frame.radUpd ?_ (.inr rfl) (.inr rfl) (.inr rfl) (.inr rfl) (.inr rfl) (.inr rfl) (.inr rfl) (.inr rfl) (.inr rfl)
  refine Frame.after ?_ (Frame.mono rfl (clrb_frame _ _ _))
  exact h8

theorem applyAll_frame (s : State) (a1 : Image) (a2 : StrEnv) : Frame touches219 s (State.applyAll s a1 a2) := by
  have hs := Frame.refl touches219 s
  unfold State.applyAll
  extract_lets -merge -useContext -underBinder x0 x1 x2 x3 x4 x5 x6 x7 x8 x9 x10 x11 x12 x13 x14 x15 x16
  clear_value x0
  clear_value x1
  have h17 : Frame touches219 s x2 := by
    unfold x2
    refine Frame.foldl ?_ (fun x18 y19 h20 => ?_)
    · exact hs
    · refine Frame.after ?_ (Frame.mono rfl (poolDiscard_frame _ _))
      exact h20
  clear_value x2
  have h21 : Frame touches219 s x3 := by
    unfold x3
    exact h17
  clear_value x3
  have h22 : Frame touches219 s x5 := by
    unfold x5
    exact Frame.upd h17 (.inl rfl) (.inl rfl) (.inr rfl) (.inl rfl) (.inr rfl) (.inr rfl) (.inl rfl) (.inl rfl) (.inr rfl) (.inr rfl) (.inr rfl) (.inr rfl) (.inl ⟨rfl, rfl, rfl⟩) (.inr rfl) (.inr rfl) (.inr rfl) (.inl ⟨rfl, rfl, rfl, rfl, rfl, rfl, rfl, rfl, rfl, rfl⟩) (.inr rfl) (.inr rfl) (.inr rfl) (.inr rfl) (.inr rfl) (.inl rfl) (.inr rfl) (.inr rfl) (.inr rfl) (.inr rfl) (.inr rfl) (.inr rfl) (.inr rfl) (.inr rfl) (.inr rfl) (.inr rfl) (.inr rfl) (.inr rfl) (.inr rfl) (.inr rfl) (.inr rfl) (.inr rfl) (.inr rfl) (.inr rfl) (.inr rfl) (.inr rfl) (.inr rfl) (.inr rfl) (.inr rfl) (.inr rfl) (.inr rfl) (.inr rfl) (.inr rfl) (.inr rfl) (.inr rfl) (.inr rfl) (.inr rfl) (.inr rfl) (.inl ⟨rfl, rfl, rfl, rfl, rfl, rfl⟩) (.inl ⟨rfl, rfl, rfl, rfl, rfl, rfl⟩) (.inr rfl) (.inl ⟨rfl, rfl, rfl⟩) (.inl ⟨rfl, rfl, rfl, rfl⟩) (.inr rfl) (.inr rfl) (.inr rfl) (.inr rfl) (.inr rfl) (.inr rfl) (.inr rfl) (.inr rfl) (.inr rfl) (.inr rfl) (.inr rfl) (.inr rfl) (.inr rfl) (.inl rfl)
  clear_value x5
  have h23 : Frame touches219 s x6 := by
    unfold x6
    refine Frame.ite (fun _ => ?_) (fun _ => ?_)
    · exact h22
    · refine Frame.after ?_ (Frame.mono rfl (poolsMove_frame _ _))
      exact h22
  clear_value x6
  have h24 : Frame touches219 s x7 := by
    unfold x7
    refine Frame.after ?_ (Frame.mono rfl (unitsBack_frame _ _))
    exact h23
  clear_value x7
  have h25 : Frame touches219 s x8 := by
    unfold x8
    refine Frame.after ?_ (Frame.mono rfl (maskTake_frame _ _))
    exact h24
  clear_value x8
  have h26 : Frame touches219 s x9 := by
    unfold x9
    refine Frame.ite (fun _ => ?_) (fun _ => ?_)
    · refine Frame.foldl ?_ (fun x27 y28 h29 => ?_)
      · exact h25
      · refine Frame.after ?_ (Frame.mono rfl (mapsApply_frame _ _))
        exact h29
    · exact h25
  clear_value x9
  have h30 : Frame touches219 s x11 := by
    unfold x11
    refine Frame.ite (fun _ => ?_) (fun _ => ?_)
    · exact Frame.upd h26 (.inl rfl) (.inl rfl) (.inr rfl) (.inl rfl) (.inr rfl) (.inr rfl) (.inl rfl) (.inl rfl) (.inr rfl) (.inr rfl) (.inr rfl) (.inr rfl) (.inl ⟨rfl, rfl, rfl⟩) (.inr rfl) (.inr rfl) (.inr rfl) (.inl ⟨rfl, rfl, rfl, rfl, rfl, rfl, rfl, rfl, rfl, rfl⟩) (.inr rfl) (.inr rfl) (.inr rfl) (.inr rfl) (.inr rfl) (.inl rfl) (.inr rfl) (.inr rfl) (.inr rfl) (.inr rfl) (.inr rfl) (.inr rfl) (.inr rfl) (.inr rfl) (.inr rfl) (.inr rfl) (.inr rfl) (.inr rfl) (.inr rfl) (.inr rfl) (.inr rfl) (.inr rfl) (.inr rfl) (.inr rfl) (.inr rfl) (.inr rfl) (.inr rfl) (.inr rfl) (.inr rfl) (.inr rfl) (.inr rfl) (.inr rfl) (.inr rfl) (.inr rfl) (.inr rfl) (.inr rfl) (.inr rfl) (.inr rfl) (.inl ⟨rfl, rfl, rfl, rfl, rfl, rfl⟩) (.inl ⟨rfl, rfl, rfl, rfl, rfl, rfl⟩) (.inr rfl) (.inl ⟨rfl, rfl, rfl⟩) (.inl ⟨rfl, rfl, rfl, rfl⟩) (.inr rfl) (.inr rfl) (.inr rfl) (.inr rfl) (.inr rfl) (.inr rfl) (.inr rfl) (.inr rfl) (.inr rfl) (.inr rfl) (.inr rfl) (.inr rfl) (.inr rfl) (.inl rfl)
    · exact h26
  clear_value x11
  have h31 : Frame touches219 s x12 := by
    unfold x12
    refine Frame.ite (fun _ => ?_) (fun _ => ?_)
    · refine Frame.after ?_ (Frame.mono rfl (dlsRestart_frame _))
      exact h30
    · exact h30
  clear_value x12
  have h32 : Frame touches219 s x13 := by
    unfold x13
    refine Frame.ite (fun _ => ?_) (fun _ => ?_)
    · refine Frame.after ?_ (Frame.mono rfl (ringsDisable_frame _))
      exact h31
    · exact h31
  clear_value x13
  have h33 : Frame touches219 s x14 := by
    unfold x14
    refine Frame.ite (fun _ => ?_) (fun _ => ?_)
    · refine Frame.after ?_ (Frame.mono rfl (irqApply_frame _))
      exact h32
    · exact h32
  clear_value x14
  have h34 : Frame touches219 s x15 := by
    unfold x15
    refine Frame.after ?_ (Frame.mono rfl (slotCountersClear_frame _))
    exact h33
  clear_value x15
  have h35 : Frame touches219 s x16 := by
    unfold x16
    refine Frame.ite (fun _ => ?_) (fun _ => ?_)
    · exact h34
    · refine Frame.after ?_ (Frame.mono rfl (linkDown_frame _))
      refine Frame.after ?_ (Frame.mono rfl (lineRelease_frame _))
      exact h34
  clear_value x16
  refine Frame.foldl ?_ (fun x36 y37 h38 => ?_)
  · exact h35
  · extract_lets -merge -useContext -underBinder x39 x40 x41 x42 x43 x44
    clear_value x39
    clear_value x40
    clear_value x41
    have h45 : Frame touches219 s x42 := by
      unfold x42
      refine Frame.ite (fun _ => ?_) (fun _ => ?_)
      · refine Frame.radUpd ?_ (.inr rfl) (.inr rfl) (.inr rfl) (.inr rfl) (.inr rfl) (.inr rfl) (.inr rfl) (.inr rfl) (.inr rfl)
        exact h38
      · exact h38
    clear_value x42
    have h46 : Frame touches219 s x43 := by
      unfold x43
      refine Frame.ite (fun _ => ?_) (fun _ => ?_)
      · refine Frame.after ?_ (Frame.mono rfl (setRf_frame _ _ _ _ _))
        exact h45
      · exact h45
    clear_value x43
    have h47 : Frame touches219 s x44 := by
      unfold x44
      refine Frame.radUpd ?_ (.inr rfl) (.inr rfl) (.inr rfl) (.inr rfl) (.inr rfl) (.inr rfl) (.inr rfl) (.inr rfl) (.inr rfl)
      exact h46
    clear_value x44
    refine Frame.ite (fun _ => ?_) (fun _ => ?_)
    · refine Frame.after ?_ (Frame.mono rfl (searchOut_frame _ _))
      refine Frame.after ?_ (Frame.mono rfl (calStore_frame _ _ _ _))
      exact h47
    · refine Frame.after ?_ (Frame.mono rfl (linesRest_frame _ _))
      exact h47

theorem afterLoad_frame (s : State) : Frame touches220 s (State.afterLoad s) := by
  have hs := Frame.refl touches220 s
  unfold State.afterLoad
  split
  · extract_lets -merge -useContext -underBinder x0 x1 x2
    have h3 : Frame touches220 s x0 := by
      unfold x0
      refine Frame.foldl ?_ (fun x4 y5 h6 => ?_)
      · exact hs
      · refine Frame.after ?_ (Frame.mono rfl (setRg_frame _ _ _))
        exact h6
    clear_value x0
    have h7 : Frame touches220 s x2 := by
      unfold x2
      exact Frame.upd h3 (.inl rfl) (.inl rfl) (.inr rfl) (.inl rfl) (.inr rfl) (.inr rfl) (.inl rfl) (.inl rfl) (.inl rfl) (.inl rfl) (.inr rfl) (.inr rfl) (.inr rfl) (.inr rfl) (.inr rfl) (.inr rfl) (.inl ⟨rfl, rfl, rfl, rfl, rfl, rfl, rfl, rfl, rfl, rfl⟩) (.inr rfl) (.inr rfl) (.inr rfl) (.inr rfl) (.inr rfl) (.inl rfl) (.inr rfl) (.inr rfl) (.inr rfl) (.inr rfl) (.inr rfl) (.inr rfl) (.inr rfl) (.inr rfl) (.inr rfl) (.inr rfl) (.inr rfl) (.inr rfl) (.inr rfl) (.inr rfl) (.inr rfl) (.inr rfl) (.inr rfl) (.inr rfl) (.inr rfl) (.inr rfl) (.inr rfl) (.inr rfl) (.inr rfl) (.inr rfl) (.inr rfl) (.inr rfl) (.inr rfl) (.inr rfl) (.inr rfl) (.inr rfl) (.inr rfl) (.inr rfl) (.inl ⟨rfl, rfl, rfl, rfl, rfl, rfl⟩) (.inl ⟨rfl, rfl, rfl, rfl, rfl, rfl⟩) (.inr rfl) (.inl ⟨rfl, rfl, rfl⟩) (.inl ⟨rfl, rfl, rfl, rfl⟩) (.inr rfl) (.inr rfl) (.inr rfl) (.inr rfl) (.inr rfl) (.inr rfl) (.inr rfl) (.inr rfl) (.inr rfl) (.inr rfl) (.inr rfl) (.inr rfl) (.inr rfl) (.inl rfl)
    clear_value x2
    refine Frame.ite (fun _ => ?_) (fun _ => ?_)
    · refine Frame.after ?_ (Frame.mono rfl (safeNow_frame _ _ _))
      exact h7
    · refine Frame.ite (fun _ => ?_) (fun _ => ?_)
      · exact h7
      · refine Frame.ite (fun _ => ?_) (fun _ => ?_)
        · exact h7
        · refine Frame.after ?_ (Frame.mono rfl (commandTake_frame _ _))
          exact h7
  · extract_lets -merge -useContext -underBinder x8
    refine Frame.ite (fun _ => ?_) (fun _ => ?_)
    · exact hs
    · refine Frame.ite (fun _ => ?_) (fun _ => ?_)
      · refine Frame.after ?_ (Frame.mono rfl (commandTake_frame _ _))
        exact hs
      · refine Frame.ite (fun _ => ?_) (fun _ => ?_)
        · refine Frame.after ?_ (Frame.mono rfl (commandTake_frame _ _))
          exact hs
        · exact hs

theorem defaultLoad_frame (s : State) (a1 : StrEnv) : Frame touches221 s (State.defaultLoad s a1) := by
  have hs := Frame.refl touches221 s
  unfold State.defaultLoad
  extract_lets -merge -useContext -underBinder x0
  clear_value x0
  split
  · rename_i z1 z2 z3 z4
    have h5 : Frame touches221 s z2 := Frame.pair z4 (by
        refine Frame.after ?_ (Frame.mono rfl (loadTry_frame _ _ _))
        exact hs)
    extract_lets -merge -useContext -underBinder x6 x7 x8
    have h9 : Frame touches221 s x6 := by
      unfold x6
      split
      · rename_i z10 z11 z12
        have h13 : Frame touches221 s z2 := Frame.pair z4 (by
            refine Frame.after ?_ (Frame.mono rfl (loadTry_frame _ _ _))
            exact hs)
        extract_lets -merge -useContext -underBinder x14
        have h15 : Frame touches221 s x14 := by
          unfold x14
          refine Frame.after ?_ (Frame.mono rfl (setStage_frame _ _))
          refine Frame.after ?_ (Frame.mono rfl (strCommit_frame _ _))
          refine Frame.after ?_ (Frame.mono rfl (setb_frame _ _ _ _))
          refine Frame.after ?_ (Frame.mono rfl (applyAll_frame _ _ _))
          exact h13
        clear_value x14
        refine Frame.after ?_ (when_frame rfl _ _ ?_)
        · exact h15
        · intro y16
          have h17 := Frame.refl touches221 y16
          refine Frame.after ?_ (Frame.mono rfl (trainsRealign_frame _))
          exact h17
      · rename_i z18
        have h19 : Frame touches221 s z2 := Frame.pair z4 (by
            refine Frame.after ?_ (Frame.mono rfl (loadTry_frame _ _ _))
            exact hs)
        refine Frame.after ?_ (Frame.mono rfl (cell_frame _ _ _ _ _))
        exact h19
    clear_value x6
    have h20 : Frame touches221 s x7 := by
      unfold x7
      refine Frame.ite (fun _ => ?_) (fun _ => ?_)
      · refine Frame.after ?_ (Frame.mono rfl (irqTell_frame _))
        refine Frame.foldl ?_ (fun x21 y22 h23 => ?_)
        · exact h9
        · refine Frame.after ?_ (Frame.mono rfl (pendSeen_frame _ _))
          exact h23
      · exact h9
    clear_value x7
    refine Frame.after ?_ (Frame.mono rfl (afterLoad_frame _))
    exact Frame.upd h20 (.inl rfl) (.inl rfl) (.inr rfl) (.inl rfl) (.inr rfl) (.inr rfl) (.inl rfl) (.inl rfl) (.inr rfl) (.inr rfl) (.inr rfl) (.inr rfl) (.inr rfl) (.inr rfl) (.inr rfl) (.inr rfl) (.inl ⟨rfl, rfl, rfl, rfl, rfl, rfl, rfl, rfl, rfl, rfl⟩) (.inr rfl) (.inr rfl) (.inr rfl) (.inr rfl) (.inr rfl) (.inr rfl) (.inr rfl) (.inr rfl) (.inr rfl) (.inr rfl) (.inr rfl) (.inr rfl) (.inr rfl) (.inr rfl) (.inr rfl) (.inr rfl) (.inr rfl) (.inr rfl) (.inr rfl) (.inr rfl) (.inr rfl) (.inr rfl) (.inr rfl) (.inr rfl) (.inr rfl) (.inr rfl) (.inr rfl) (.inr rfl) (.inr rfl) (.inr rfl) (.inr rfl) (.inr rfl) (.inr rfl) (.inr rfl) (.inr rfl) (.inr rfl) (.inr rfl) (.inr rfl) (.inl ⟨rfl, rfl, rfl, rfl, rfl, rfl⟩) (.inl ⟨rfl, rfl, rfl, rfl, rfl, rfl⟩) (.inr rfl) (.inl ⟨rfl, rfl, rfl⟩) (.inl ⟨rfl, rfl, rfl, rfl⟩) (.inr rfl) (.inr rfl) (.inr rfl) (.inr rfl) (.inr rfl) (.inr rfl) (.inr rfl) (.inr rfl) (.inr rfl) (.inr rfl) (.inr rfl) (.inr rfl) (.inr rfl) (.inl rfl)

theorem applyEnd_frame (s : State) (a1 : StrEnv) : Frame touches222 s (State.applyEnd s a1) := by
  have hs := Frame.refl touches222 s
  unfold State.applyEnd
  split
  · exact hs
  · extract_lets -merge -useContext -underBinder x0 x1 x2 x3 x4
    have h5 : Frame touches222 s x0 := by
      unfold x0
      refine Frame.after ?_ (Frame.mono rfl (applyAll_frame _ _ _))
      exact hs
    clear_value x0
    have h6 : Frame touches222 s x3 := by
      unfold x3
      exact Frame.upd h5 (.inl rfl) (.inl rfl) (.inr rfl) (.inl rfl) (.inr rfl) (.inr rfl) (.inl rfl) (.inl rfl) (.inr rfl) (.inr rfl) (.inr rfl) (.inr rfl) (.inl ⟨rfl, rfl, rfl⟩) (.inr rfl) (.inr rfl) (.inr rfl) (.inl ⟨rfl, rfl, rfl, rfl, rfl, rfl, rfl, rfl, rfl, rfl⟩) (.inr rfl) (.inr rfl) (.inr rfl) (.inr rfl) (.inr rfl) (.inr rfl) (.inr rfl) (.inr rfl) (.inr rfl) (.inr rfl) (.inr rfl) (.inr rfl) (.inr rfl) (.inr rfl) (.inr rfl) (.inr rfl) (.inr rfl) (.inr rfl) (.inr rfl) (.inr rfl) (.inr rfl) (.inr rfl) (.inr rfl) (.inr rfl) (.inr rfl) (.inr rfl) (.inr rfl) (.inr rfl) (.inr rfl) (.inr rfl) (.inr rfl) (.inr rfl) (.inr rfl) (.inr rfl) (.inr rfl) (.inr rfl) (.inr rfl) (.inr rfl) (.inl ⟨rfl, rfl, rfl, rfl, rfl, rfl⟩) (.inl ⟨rfl, rfl, rfl, rfl, rfl, rfl⟩) (.inr rfl) (.inl ⟨rfl, rfl, rfl⟩) (.inl ⟨rfl, rfl, rfl, rfl⟩) (.inr rfl) (.inr rfl) (.inr rfl) (.inr rfl) (.inr rfl) (.inr rfl) (.inr rfl) (.inr rfl) (.inr rfl) (.inr rfl) (.inr rfl) (.inr rfl) (.inr rfl) (.inl rfl)
    clear_value x3
    have h7 : Frame touches222 s x4 := by
      unfold x4
      refine Frame.after ?_ (Frame.mono rfl (undegrade_frame _))
      refine Frame.after ?_ (Frame.mono rfl (strResult_frame _ _))
      refine Frame.after ?_ (Frame.mono rfl (lockFree_frame _))
      refine Frame.after ?_ (Frame.mono rfl (clrb_frame _ _ _))
      refine Frame.after ?_ (Frame.mono rfl (strCommit_frame _ _))
      exact h6
    clear_value x4
    refine Frame.foldl ?_ (fun x8 y9 h10 => ?_)
    · exact h7
    · refine Frame.after ?_ (Frame.mono rfl (porchBook_frame _ _))
      exact h10

end Sys2Proof
end

