-- ==== Sys2Proof/Laws/FrameRxOps.lean ====
section
/-! SUPPORT. Laws/FrameRxOps.lean: what each operation of Machine/RxOps.lean leaves as it was. -/

namespace Sys2Proof

open Sys2Proof.Machine

theorem strobeResume_frame (s : State) (a1 : Region) (a2 : Nat) (a3 : Nat) : Frame touches53 s (State.strobeResume s a1 a2 a3) := by
  have hs := Frame.refl touches53 s
  unfold State.strobeResume
  refine Frame.foldl ?_ (fun x0 y1 h2 => ?_)
  · exact hs
  · refine Frame.ite (fun _ => ?_) (fun _ => ?_)
    · exact h2
    · split
      · refine Frame.after ?_ (Frame.mono rfl (strobeSkip_frame _ _ _ _))
        exact h2
      · exact h2

theorem flagOverlapped_frame (s : State) (a1 : Region) (a2 : Nat) (a3 : Detection) : Frame touches55 s (State.flagOverlapped s a1 a2 a3) := by
  have hs := Frame.refl touches55 s
  unfold State.flagOverlapped
  refine Frame.foldl ?_ (fun x0 y1 h2 => ?_)
  · exact hs
  · extract_lets -merge -useContext -underBinder x3
    refine Frame.after ?_ (Frame.mono rfl (cnt_frame _ _))
    refine Frame.after ?_ (Frame.mono rfl (setLane_frame _ _ _))
    exact h2

theorem startLane_frame (s : State) (a1 : Region) (a2 : Nat) (a3 : Detection) (a4 : Bool) (a5 : Bool) (a6 : Bool) : Frame touches55 s (State.startLane s a1 a2 a3 a4 a5 a6) := by
  have hs := Frame.refl touches55 s
  unfold State.startLane
  extract_lets -merge -useContext -underBinder x0
  clear_value x0
  refine Frame.after ?_ (Frame.mono rfl (cnt_frame _ _))
  refine Frame.after ?_ (Frame.mono rfl (setLane_frame _ _ _))
  exact hs

theorem giveLane_frame (s : State) (a1 : Region) (a2 : Nat) (a3 : Detection) (a4 : Bool) (a5 : Bool) (a6 : Bool) : Frame touches55 s (State.giveLane s a1 a2 a3 a4 a5 a6) := by
  have hs := Frame.refl touches55 s
  unfold State.giveLane
  refine Frame.after ?_ (when_frame rfl _ _ ?_)
  · refine Frame.after ?_ (Frame.mono rfl (flagOverlapped_frame _ _ _ _))
    refine Frame.after ?_ (Frame.mono rfl (startLane_frame _ _ _ _ _ _ _))
    exact hs
  · intro y0
    have h1 := Frame.refl touches55 y0
    refine Frame.after ?_ (Frame.mono rfl (cnt_frame _ _))
    exact h1

theorem allocCycle_frame (s : State) (a1 : Region) : Frame touches56 s (State.allocCycle s a1) := by
  have hs := Frame.refl touches56 s
  unfold State.allocCycle
  extract_lets -merge -useContext -underBinder x0 x1
  have h2 : Frame touches56 s x1 := by
    unfold x1
    refine Frame.after ?_ (Frame.mono rfl (rxUpd_frame _ _ _))
    exact hs
  clear_value x1
  exact Frame.upd h2 (.inr rfl) (.inl rfl) (.inl ⟨rfl, rfl⟩) (.inl rfl) (.inl rfl) (.inl rfl) (.inl rfl) (.inl rfl) (.inl rfl) (.inl rfl) (.inl ⟨rfl, rfl, rfl⟩) (.inl rfl) (.inl ⟨rfl, rfl, rfl⟩) (.inl ⟨rfl, rfl⟩) (.inl ⟨rfl, rfl, rfl, rfl, rfl, rfl, rfl, rfl⟩) (.inl ⟨rfl, rfl⟩) (.inl ⟨rfl, rfl, rfl, rfl, rfl, rfl, rfl, rfl, rfl, rfl⟩) (.inl ⟨rfl, rfl⟩) (.inl ⟨rfl, rfl⟩) (.inl rfl) (.inl rfl) (.inl rfl) (.inl rfl) (.inl ⟨rfl, rfl, rfl, rfl, rfl, rfl, rfl, rfl, rfl⟩) (.inl ⟨rfl, rfl, rfl, rfl, rfl, rfl, rfl, rfl, rfl⟩) (.inl ⟨rfl, rfl, rfl⟩) (.inl ⟨rfl, rfl, rfl, rfl, rfl, rfl, rfl, rfl, rfl, rfl, rfl, rfl, rfl, rfl, rfl, rfl, rfl, rfl, rfl, rfl, rfl, rfl, rfl, rfl, rfl, rfl, rfl⟩) (.inl ⟨rfl, rfl, rfl, rfl, rfl, rfl, rfl, rfl, rfl, rfl, rfl, rfl⟩) (.inl ⟨rfl, rfl, rfl, rfl, rfl, rfl, rfl, rfl, rfl⟩) (.inl ⟨rfl, rfl, rfl⟩) (.inl ⟨rfl, rfl, rfl⟩) (.inl ⟨rfl, rfl, rfl, rfl, rfl, rfl, rfl, rfl, rfl⟩) (.inr rfl) (.inl rfl) (.inl rfl) (.inl rfl) (.inl ⟨rfl, rfl⟩) (.inl ⟨rfl, rfl⟩) (.inl rfl) (.inl ⟨rfl, rfl, rfl, rfl, rfl⟩) (.inl ⟨rfl, rfl⟩) (.inl ⟨rfl, rfl, rfl, rfl⟩) (.inl ⟨rfl, rfl, rfl⟩) (.inl rfl) (.inl ⟨rfl, rfl⟩) (.inl ⟨rfl, rfl, rfl, rfl, rfl, rfl, rfl⟩) (.inl ⟨rfl, rfl, rfl, rfl, rfl⟩) (.inl rfl) (.inl ⟨rfl, rfl, rfl, rfl, rfl, rfl⟩) (.inl ⟨rfl, rfl, rfl, rfl, rfl, rfl, rfl, rfl, rfl, rfl, rfl⟩) (.inl ⟨rfl, rfl, rfl, rfl⟩) (.inl rfl) (.inl rfl) (.inl ⟨rfl, rfl, rfl, rfl, rfl, rfl, rfl, rfl, rfl, rfl, rfl, rfl⟩) (.inl ⟨rfl, rfl⟩) (.inl ⟨rfl, rfl, rfl, rfl, rfl, rfl⟩) (.inl ⟨rfl, rfl, rfl, rfl, rfl, rfl⟩) (.inl ⟨rfl, rfl, rfl, rfl, rfl, rfl, rfl, rfl, rfl, rfl, rfl, rfl⟩) (.inl ⟨rfl, rfl, rfl⟩) (.inl ⟨rfl, rfl, rfl, rfl⟩) (.inl ⟨rfl, rfl, rfl, rfl, rfl⟩) (.inl ⟨rfl, rfl, rfl, rfl, rfl, rfl, rfl, rfl, rfl, rfl⟩) (.inl ⟨rfl, rfl, rfl, rfl, rfl, rfl, rfl, rfl, rfl⟩) (.inl ⟨rfl, rfl, rfl, rfl, rfl, rfl, rfl, rfl, rfl, rfl, rfl, rfl, rfl⟩) (.inl ⟨rfl, rfl, rfl⟩) (.inl ⟨rfl, rfl, rfl, rfl, rfl⟩) (.inl rfl) (.inl rfl) (.inl ⟨rfl, rfl⟩) (.inl ⟨rfl, rfl, rfl, rfl, rfl, rfl, rfl, rfl, rfl, rfl, rfl, rfl, rfl⟩) (.inl rfl) (.inl rfl) (.inl ⟨rfl, rfl, rfl⟩) (.inl rfl)

theorem laneServe_frame (s : State) (a1 : Region) (a2 : Nat) (a3 : Nat) (a4 : Bool) (a5 : Nat) : Frame touches57 s (State.laneServe s a1 a2 a3 a4 a5) := by
  induction a5 generalizing s a1 a2 a3 a4 with | zero => ?_ | succ n ih => ?_
  · have hs := Frame.refl touches57 s
    unfold State.laneServe
    exact hs
  · have hs := Frame.refl touches57 s
    unfold State.laneServe
    split
    · exact hs
    · extract_lets -merge -useContext -underBinder x0
      have h1 : Frame touches57 s x0 := by
        unfold x0
        refine Frame.after ?_ (Frame.mono rfl (rxUpd_frame _ _ _))
        exact hs
      clear_value x0
      refine Frame.ite (fun _ => ?_) (fun _ => ?_)
      · refine Frame.after ?_ (ih _ _ _ _ _)
        refine Frame.after ?_ (Frame.mono rfl (strobeResume_frame _ _ _ _))
        refine Frame.after ?_ (Frame.mono rfl (slotBreak_frame _ _ _))
        refine Frame.after ?_ (Frame.mono rfl (cnt_frame _ _))
        exact h1
      · refine Frame.after ?_ (Frame.mono rfl (giveLane_frame _ _ _ _ _ _ _))
        refine Frame.after ?_ (Frame.mono rfl (allocCycle_frame _ _))
        exact h1

theorem setNoiseFloor_frame (s : State) (a1 : Region) (a2 : Nat) (a3 : Int) : Frame touches1 s (State.setNoiseFloor s a1 a2 a3) := by
  have hs := Frame.refl touches1 s
  unfold State.setNoiseFloor
  refine Frame.after ?_ (Frame.mono rfl (setRf_frame _ _ _ _ _))
  exact hs

theorem gainSet_frame (s : State) (a1 : Region) (a2 : Nat) : Frame touches125 s (State.gainSet s a1 a2) := by
  have hs := Frame.refl touches125 s
  unfold State.gainSet
  extract_lets -merge -useContext -underBinder x0 x1 x2 x3 x4
  clear_value x1
  have h5 : Frame touches125 s x2 := by
    unfold x2
    refine Frame.after ?_ (Frame.mono rfl (rxUpd_frame _ _ _))
    exact hs
  clear_value x2
  have h6 : Frame touches125 s x3 := by
    unfold x3
    exact Frame.upd h5 (.inl rfl) (.inl rfl) (.inr rfl) (.inl rfl) (.inl rfl) (.inl rfl) (.inl rfl) (.inl rfl) (.inl rfl) (.inl rfl) (.inl ⟨rfl, rfl, rfl⟩) (.inl rfl) (.inl ⟨rfl, rfl, rfl⟩) (.inl ⟨rfl, rfl⟩) (.inl ⟨rfl, rfl, rfl, rfl, rfl, rfl, rfl, rfl⟩) (.inl ⟨rfl, rfl⟩) (.inl ⟨rfl, rfl, rfl, rfl, rfl, rfl, rfl, rfl, rfl, rfl⟩) (.inl ⟨rfl, rfl⟩) (.inl ⟨rfl, rfl⟩) (.inl rfl) (.inl rfl) (.inl rfl) (.inl rfl) (.inl ⟨rfl, rfl, rfl, rfl, rfl, rfl, rfl, rfl, rfl⟩) (.inl ⟨rfl, rfl, rfl, rfl, rfl, rfl, rfl, rfl, rfl⟩) (.inl ⟨rfl, rfl, rfl⟩) (.inl ⟨rfl, rfl, rfl, rfl, rfl, rfl, rfl, rfl, rfl, rfl, rfl, rfl, rfl, rfl, rfl, rfl, rfl, rfl, rfl, rfl, rfl, rfl, rfl, rfl, rfl, rfl, rfl⟩) (.inl ⟨rfl, rfl, rfl, rfl, rfl, rfl, rfl, rfl, rfl, rfl, rfl, rfl⟩) (.inl ⟨rfl, rfl, rfl, rfl, rfl, rfl, rfl, rfl, rfl⟩) (.inl ⟨rfl, rfl, rfl⟩) (.inl ⟨rfl, rfl, rfl⟩) (.inl ⟨rfl, rfl, rfl, rfl, rfl, rfl, rfl, rfl, rfl⟩) (.inr rfl) (.inr rfl) (.inl rfl) (.inl rfl) (.inl ⟨rfl, rfl⟩) (.inl ⟨rfl, rfl⟩) (.inl rfl) (.inl ⟨rfl, rfl, rfl, rfl, rfl⟩) (.inl ⟨rfl, rfl⟩) (.inl ⟨rfl, rfl, rfl, rfl⟩) (.inl ⟨rfl, rfl, rfl⟩) (.inl rfl) (.inl ⟨rfl, rfl⟩) (.inl ⟨rfl, rfl, rfl, rfl, rfl, rfl, rfl⟩) (.inl ⟨rfl, rfl, rfl, rfl, rfl⟩) (.inl rfl) (.inl ⟨rfl, rfl, rfl, rfl, rfl, rfl⟩) (.inl ⟨rfl, rfl, rfl, rfl, rfl, rfl, rfl, rfl, rfl, rfl, rfl⟩) (.inl ⟨rfl, rfl, rfl, rfl⟩) (.inl rfl) (.inl rfl) (.inl ⟨rfl, rfl, rfl, rfl, rfl, rfl, rfl, rfl, rfl, rfl, rfl, rfl⟩) (.inl ⟨rfl, rfl⟩) (.inl ⟨rfl, rfl, rfl, rfl, rfl, rfl⟩) (.inl ⟨rfl, rfl, rfl, rfl, rfl, rfl⟩) (.inl ⟨rfl, rfl, rfl, rfl, rfl, rfl, rfl, rfl, rfl, rfl, rfl, rfl⟩) (.inl ⟨rfl, rfl, rfl⟩) (.inl ⟨rfl, rfl, rfl, rfl⟩) (.inl ⟨rfl, rfl, rfl, rfl, rfl⟩) (.inl ⟨rfl, rfl, rfl, rfl, rfl, rfl, rfl, rfl, rfl, rfl⟩) (.inl ⟨rfl, rfl, rfl, rfl, rfl, rfl, rfl, rfl, rfl⟩) (.inl ⟨rfl, rfl, rfl, rfl, rfl, rfl, rfl, rfl, rfl, rfl, rfl, rfl, rfl⟩) (.inl ⟨rfl, rfl, rfl⟩) (.inl ⟨rfl, rfl, rfl, rfl, rfl⟩) (.inl rfl) (.inl rfl) (.inl ⟨rfl, rfl⟩) (.inl ⟨rfl, rfl, rfl, rfl, rfl, rfl, rfl, rfl, rfl, rfl, rfl, rfl, rfl⟩) (.inl rfl) (.inl rfl) (.inl ⟨rfl, rfl, rfl⟩) (.inl rfl)
  clear_value x3
  have h7 : Frame touches125 s x4 := by
    unfold x4
    refine Frame.foldl ?_ (fun x8 y9 h10 => ?_)
    · exact h6
    · refine Frame.after ?_ (Frame.mono rfl (setNoiseFloor_frame _ _ _ _))
      exact h10
  clear_value x4
  refine Frame.after ?_ (Frame.mono rfl (clrb_frame _ _ _))
  refine Frame.after ?_ (Frame.mono rfl (clrb_frame _ _ _))
  refine Frame.after ?_ (Frame.mono rfl (setRf_frame _ _ _ _ _))
  exact h7

theorem gainApply_frame (s : State) (a1 : Region) (a2 : Nat) : Frame touches125 s (State.gainApply s a1 a2) := by
  have hs := Frame.refl touches125 s
  unfold State.gainApply
  refine Frame.ite (fun _ => ?_) (fun _ => ?_)
  · refine Frame.after ?_ (Frame.mono rfl (gainSet_frame _ _ _))
    exact hs
  · refine Frame.after ?_ (Frame.mono rfl (stk_frame _ _ _))
    refine Frame.after ?_ (Frame.mono rfl (stk_frame _ _ _))
    refine Frame.after ?_ (Frame.mono rfl (rxUpd_frame _ _ _))
    exact hs

theorem slotFail_frame (s : State) (a1 : Region) (a2 : Nat) : Frame touches154 s (State.slotFail s a1 a2) := by
  have hs := Frame.refl touches154 s
  unfold State.slotFail
  extract_lets -merge -useContext -underBinder x0
  refine Frame.ite (fun _ => ?_) (fun _ => ?_)
  · exact hs
  · refine Frame.ite (fun _ => ?_) (fun _ => ?_)
    · refine Frame.after ?_ (Frame.mono rfl (cell_frame _ _ _ _ _))
      refine Frame.after ?_ (Frame.mono rfl (stk_frame _ _ _))
      refine Frame.after ?_ (Frame.mono rfl (slotRxUpd_frame _ _ _ _))
      exact hs
    · refine Frame.after ?_ (Frame.mono rfl (slotRxUpd_frame _ _ _ _))
      exact hs

theorem pendExpired_frame (s : State) (a1 : Region) (a2 : Detection) : Frame touches155 s (State.pendExpired s a1 a2) := by
  have hs := Frame.refl touches155 s
  unfold State.pendExpired
  refine Frame.after ?_ (Frame.mono rfl (strobeResume_frame _ _ _ _))
  refine Frame.after ?_ (Frame.mono rfl (slotFail_frame _ _ _))
  refine Frame.after ?_ (Frame.mono rfl (stk_frame _ _ _))
  refine Frame.after ?_ (Frame.mono rfl (cnt_frame _ _))
  refine Frame.after ?_ (Frame.mono rfl (rxUpd_frame _ _ _))
  exact hs

theorem rssiPresent_frame (s : State) (a1 : Region) : Frame touches54 s (State.rssiPresent s a1) := by
  have hs := Frame.refl touches54 s
  unfold State.rssiPresent
  exact Frame.upd hs (.inl rfl) (.inl rfl) (.inl ⟨rfl, rfl⟩) (.inl rfl) (.inl rfl) (.inl rfl) (.inl rfl) (.inl rfl) (.inl rfl) (.inl rfl) (.inl ⟨rfl, rfl, rfl⟩) (.inl rfl) (.inl ⟨rfl, rfl, rfl⟩) (.inl ⟨rfl, rfl⟩) (.inl ⟨rfl, rfl, rfl, rfl, rfl, rfl, rfl, rfl⟩) (.inl ⟨rfl, rfl⟩) (.inl ⟨rfl, rfl, rfl, rfl, rfl, rfl, rfl, rfl, rfl, rfl⟩) (.inl ⟨rfl, rfl⟩) (.inl ⟨rfl, rfl⟩) (.inl rfl) (.inl rfl) (.inl rfl) (.inl rfl) (.inl ⟨rfl, rfl, rfl, rfl, rfl, rfl, rfl, rfl, rfl⟩) (.inl ⟨rfl, rfl, rfl, rfl, rfl, rfl, rfl, rfl, rfl⟩) (.inl ⟨rfl, rfl, rfl⟩) (.inl ⟨rfl, rfl, rfl, rfl, rfl, rfl, rfl, rfl, rfl, rfl, rfl, rfl, rfl, rfl, rfl, rfl, rfl, rfl, rfl, rfl, rfl, rfl, rfl, rfl, rfl, rfl, rfl⟩) (.inl ⟨rfl, rfl, rfl, rfl, rfl, rfl, rfl, rfl, rfl, rfl, rfl, rfl⟩) (.inl ⟨rfl, rfl, rfl, rfl, rfl, rfl, rfl, rfl, rfl⟩) (.inl ⟨rfl, rfl, rfl⟩) (.inl ⟨rfl, rfl, rfl⟩) (.inl ⟨rfl, rfl, rfl, rfl, rfl, rfl, rfl, rfl, rfl⟩) (.inl rfl) (.inr rfl) (.inl rfl) (.inl rfl) (.inl ⟨rfl, rfl⟩) (.inl ⟨rfl, rfl⟩) (.inl rfl) (.inl ⟨rfl, rfl, rfl, rfl, rfl⟩) (.inl ⟨rfl, rfl⟩) (.inl ⟨rfl, rfl, rfl, rfl⟩) (.inl ⟨rfl, rfl, rfl⟩) (.inl rfl) (.inl ⟨rfl, rfl⟩) (.inl ⟨rfl, rfl, rfl, rfl, rfl, rfl, rfl⟩) (.inl ⟨rfl, rfl, rfl, rfl, rfl⟩) (.inl rfl) (.inl ⟨rfl, rfl, rfl, rfl, rfl, rfl⟩) (.inl ⟨rfl, rfl, rfl, rfl, rfl, rfl, rfl, rfl, rfl, rfl, rfl⟩) (.inl ⟨rfl, rfl, rfl, rfl⟩) (.inl rfl) (.inl rfl) (.inl ⟨rfl, rfl, rfl, rfl, rfl, rfl, rfl, rfl, rfl, rfl, rfl, rfl⟩) (.inl ⟨rfl, rfl⟩) (.inl ⟨rfl, rfl, rfl, rfl, rfl, rfl⟩) (.inl ⟨rfl, rfl, rfl, rfl, rfl, rfl⟩) (.inl ⟨rfl, rfl, rfl, rfl, rfl, rfl, rfl, rfl, rfl, rfl, rfl, rfl⟩) (.inl ⟨rfl, rfl, rfl⟩) (.inl ⟨rfl, rfl, rfl, rfl⟩) (.inl ⟨rfl, rfl, rfl, rfl, rfl⟩) (.inl ⟨rfl, rfl, rfl, rfl, rfl, rfl, rfl, rfl, rfl, rfl⟩) (.inl ⟨rfl, rfl, rfl, rfl, rfl, rfl, rfl, rfl, rfl⟩) (.inl ⟨rfl, rfl, rfl, rfl, rfl, rfl, rfl, rfl, rfl, rfl, rfl, rfl, rfl⟩) (.inl ⟨rfl, rfl, rfl⟩) (.inl ⟨rfl, rfl, rfl, rfl, rfl⟩) (.inl rfl) (.inl rfl) (.inl ⟨rfl, rfl⟩) (.inl ⟨rfl, rfl, rfl, rfl, rfl, rfl, rfl, rfl, rfl, rfl, rfl, rfl, rfl⟩) (.inl rfl) (.inl rfl) (.inl ⟨rfl, rfl, rfl⟩) (.inl rfl)

theorem laneEnd_frame (s : State) (a1 : Nat) (a2 : Lane) (a3 : Bool) : Frame touches180 s (State.laneEnd s a1 a2 a3) := by
  have hs := Frame.refl touches180 s
  unfold State.laneEnd
  extract_lets -merge -useContext -underBinder x0 x1
  have h2 : Frame touches180 s x0 := by
    unfold x0
    refine Frame.after ?_ (Frame.mono rfl (slotRxUpd_frame _ _ _ _))
    refine Frame.after ?_ (Frame.mono rfl (setLane_frame _ _ _))
    exact hs
  clear_value x0
  have h3 : Frame touches180 s x1 := by
    unfold x1
    refine Frame.after ?_ (Frame.mono rfl (laneServe_frame _ _ _ _ _ _))
    refine Frame.ite (fun _ => ?_) (fun _ => ?_)
    · exact h2
    · refine Frame.after ?_ (Frame.mono rfl (rssiPresent_frame _ _))
      exact h2
  clear_value x1
  refine Frame.ite (fun _ => ?_) (fun _ => ?_)
  · refine Frame.after ?_ (Frame.mono rfl (hbInject_frame _ _))
    exact h3
  · exact h3

theorem laneFailed_frame (s : State) (a1 : Nat) (a2 : Lane) : Frame touches180 s (State.laneFailed s a1 a2) := by
  have hs := Frame.refl touches180 s
  unfold State.laneFailed
  extract_lets -merge -useContext -underBinder x0
  have h1 : Frame touches180 s x0 := by
    unfold x0
    refine Frame.after ?_ (Frame.mono rfl (slotFail_frame _ _ _))
    refine Frame.after ?_ (Frame.mono rfl (cnt_frame _ _))
    exact hs
  clear_value x0
  refine Frame.after ?_ (Frame.mono rfl (strobeResume_frame _ _ _ _))
  refine Frame.after ?_ (Frame.mono rfl (laneEnd_frame _ _ _ _))
  exact h1

theorem strobeHold_frame (s : State) (a1 : Region) (a2 : Nat) (a3 : Nat) : Frame touches41 s (State.strobeHold s a1 a2 a3) := by
  have hs := Frame.refl touches41 s
  unfold State.strobeHold
  refine Frame.foldl ?_ (fun x0 y1 h2 => ?_)
  · exact hs
  · extract_lets -merge -useContext -underBinder x3
    clear_value x3
    refine Frame.after ?_ (Frame.mono rfl (setCarrier_frame _ _ _ _))
    exact h2

theorem enqueuePending_frame (s : State) (a1 : Region) (a2 : Detection) : Frame touches155 s (State.enqueuePending s a1 a2) := by
  have hs := Frame.refl touches155 s
  unfold State.enqueuePending
  extract_lets -merge -useContext -underBinder x0
  have h1 : Frame touches155 s x0 := by
    unfold x0
    refine Frame.ite (fun _ => ?_) (fun _ => ?_)
    · exact hs
    · split
      · refine Frame.after ?_ (Frame.mono rfl (pendExpired_frame _ _ _))
        exact hs
      · exact hs
  clear_value x0
  refine Frame.after ?_ (Frame.mono rfl (rxUpd_frame _ _ _))
  exact h1

theorem onDetection_frame (s : State) (a1 : Region) (a2 : Detection) : Frame touches181 s (State.onDetection s a1 a2) := by
  have hs := Frame.refl touches181 s
  unfold State.onDetection
  extract_lets -merge -useContext -underBinder x0 x1 x2
  have h3 : Frame touches181 s x0 := by
    unfold x0
    refine Frame.after ?_ (Frame.mono rfl (cnt_frame _ _))
    exact hs
  clear_value x0
  have h4 : Frame touches181 s x1 := by
    unfold x1
    refine Frame.after ?_ (Frame.mono rfl (strobeHold_frame _ _ _ _))
    exact h3
  clear_value x1
  clear_value x2
  refine Frame.ite (fun _ => ?_) (fun _ => ?_)
  · refine Frame.after ?_ (Frame.mono rfl (slotBreak_frame _ _ _))
    refine Frame.after ?_ (Frame.mono rfl (cnt_frame _ _))
    exact h3
  · split
    · refine Frame.after ?_ (Frame.mono rfl (giveLane_frame _ _ _ _ _ _ _))
      exact h4
    · extract_lets -merge -useContext -underBinder x5
      have h6 : ∀ y7, Frame touches181 y7 (x5 y7) := by
        intro y7
        have h8 := Frame.refl touches181 y7
        unfold x5
        refine Frame.after ?_ (Frame.mono rfl (enqueuePending_frame _ _ _))
        refine Frame.after ?_ (Frame.mono rfl (stk_frame _ _ _))
        refine Frame.after ?_ (Frame.mono rfl (cnt_frame _ _))
        exact h8
      clear_value x5
      split
      · extract_lets -merge -useContext -underBinder x9 x10 x11
        clear_value x9
        have h12 : Frame touches181 s x10 := by
          unfold x10
          refine Frame.after ?_ (Frame.mono rfl (cnt_frame _ _))
          refine Frame.after ?_ (Frame.mono rfl (pantryFree_frame _ _ _))
          refine Frame.after ?_ (Frame.mono rfl (setLane_frame _ _ _))
          exact h4
        clear_value x10
        have h13 : Frame touches181 s x11 := by
          unfold x11
          refine Frame.after ?_ (Frame.mono rfl (slotBreak_frame _ _ _))
          exact h12
        clear_value x11
        refine Frame.ite (fun _ => ?_) (fun _ => ?_)
        · refine Frame.after ?_ (Frame.mono rfl (strobeResume_frame _ _ _ _))
          refine Frame.after ?_ (Frame.mono rfl (giveLane_frame _ _ _ _ _ _ _))
          exact h13
        · refine Frame.after ?_ (h6 _)
          exact h4
      · refine Frame.after ?_ (h6 _)
        exact h4

theorem slotPass_frame (s : State) (a1 : Region) (a2 : Nat) : Frame touches39 s (State.slotPass s a1 a2) := by
  have hs := Frame.refl touches39 s
  unfold State.slotPass
  refine Frame.after ?_ (Frame.mono rfl (slotRxUpd_frame _ _ _ _))
  exact hs

theorem laneDropped_frame (s : State) (a1 : Nat) (a2 : Lane) : Frame touches180 s (State.laneDropped s a1 a2) := by
  have hs := Frame.refl touches180 s
  unfold State.laneDropped
  refine Frame.after ?_ (Frame.mono rfl (strobeResume_frame _ _ _ _))
  refine Frame.after ?_ (Frame.mono rfl (laneEnd_frame _ _ _ _))
  refine Frame.after ?_ (Frame.mono rfl (slotBreak_frame _ _ _))
  exact hs

end Sys2Proof
end

