-- ==== Sys2Proof/Laws/FrameMacOps.lean ====
section
/-! SUPPORT. Laws/FrameMacOps.lean: what each operation of Machine/MacOps.lean leaves as it was. -/

namespace Sys2Proof

open Sys2Proof.Machine

theorem replayed_frame (s : State) (a1 : Region) (a2 : Nat) (a3 : Nat) : Frame touches22 s (State.replayed s a1 a2 a3) := by
  have hs := Frame.refl touches22 s
  unfold State.replayed
  extract_lets -merge -useContext -underBinder x0
  have h1 : Frame touches22 s x0 := by
    unfold x0
    refine Frame.after ?_ (Frame.mono rfl (nodeUpd_frame _ _ _))
    refine Frame.after ?_ (Frame.mono rfl (stk_frame _ _ _))
    refine Frame.after ?_ (Frame.mono rfl (cnt_frame _ _))
    exact hs
  clear_value x0
  refine Frame.after ?_ (when_frame rfl _ _ ?_)
  · exact h1
  · intro y2
    have h3 := Frame.refl touches22 y2
    refine Frame.after ?_ (Frame.mono rfl (stk_frame _ _ _))
    exact h3

theorem fcCheck_frame (s : State) (a1 : Region) (a2 : Nat) (a3 : Nat) (a4 : Bytes) : Frame touches22 s (State.fcCheck s a1 a2 a3 a4).1 := by
  have hs := Frame.refl touches22 s
  unfold State.fcCheck
  extract_lets -merge -useContext -underBinder x0
  clear_value x0
  refine Frame.iteFst (fun _ => ?_) (fun _ => ?_)
  · dsimp only
    refine Frame.after ?_ (Frame.mono rfl (replayed_frame _ _ _ _))
    exact hs
  · refine Frame.iteFst (fun _ => ?_) (fun _ => ?_)
    · dsimp only
      exact hs
    · dsimp only
      refine Frame.after ?_ (Frame.mono rfl (macUpd_frame _ _ _))
      exact hs

theorem rxSecure_frame (s : State) (a1 : Region) (a2 : Nat) (a3 : MacFrame) (a4 : Bool) : Frame touches107 s (State.rxSecure s a1 a2 a3 a4).1 := by
  have hs := Frame.refl touches107 s
  unfold State.rxSecure
  split
  · rename_i z0 z1 z2 z3
    have h4 : Frame touches107 s z1 := Frame.pair z3 (by
        refine Frame.after ?_ (Frame.mono rfl (nodeGet_frame _ _))
        exact hs)
    split
    · refine Frame.iteFst (fun _ => ?_) (fun _ => ?_)
      · dsimp only
        exact h4
      · refine Frame.iteFst (fun _ => ?_) (fun _ => ?_)
        · split
          · dsimp only
            refine Frame.ite (fun _ => ?_) (fun _ => ?_)
            · refine Frame.after ?_ (Frame.mono rfl (macUpd_frame _ _ _))
              exact h4
            · exact h4
        · dsimp only
          exact h4
    · refine Frame.iteFst (fun _ => ?_) (fun _ => ?_)
      · dsimp only
        refine Frame.after ?_ (Frame.mono rfl (cnt_frame _ _))
        exact h4
      · split
        · rename_i z5 z6 z7 z8
          have h9 : Frame touches107 s z6 := Frame.pair z8 (by
              refine Frame.after ?_ (Frame.mono rfl (frameKey_frame _ _))
              exact h4)
          split
          · dsimp only
            refine Frame.after ?_ (Frame.mono rfl (cnt_frame _ _))
            exact h9
          · split
            · dsimp only
              refine Frame.after ?_ (Frame.mono rfl (nodeUpd_frame _ _ _))
              exact h9
            · refine Frame.after ?_ (Frame.mono rfl (fcCheck_frame _ _ _ _ _))
              exact h9

theorem steerCheck_frame (s : State) (a1 : Nat) (a2 : HostRec) (a3 : Nat) (a4 : Bool) : Frame touches108 s (State.steerCheck s a1 a2 a3 a4).1 := by
  have hs := Frame.refl touches108 s
  unfold State.steerCheck
  extract_lets -merge -useContext -underBinder x0
  have h1 : ∀ y2, Frame touches108 y2 (x0 y2) := by
    intro y2
    have h3 := Frame.refl touches108 y2
    unfold x0
    refine Frame.after ?_ (when_frame rfl _ _ ?_)
    · refine Frame.after ?_ (Frame.mono rfl (pantryFree_frame _ _ _))
      exact h3
    · intro y4
      have h5 := Frame.refl touches108 y4
      refine Frame.after ?_ (Frame.mono rfl (cell_frame _ _ _ _ _))
      exact h5
  clear_value x0
  refine Frame.iteFst (fun _ => ?_) (fun _ => ?_)
  · dsimp only
    refine Frame.after ?_ (h1 _)
    refine Frame.after ?_ (Frame.mono rfl (cnt_frame _ _))
    exact hs
  · refine Frame.iteFst (fun _ => ?_) (fun _ => ?_)
    · dsimp only
      exact hs
    · dsimp only
      refine Frame.after ?_ (h1 _)
      refine Frame.after ?_ (Frame.mono rfl (ringDrop_frame _ _))
      exact hs

theorem rxWay_frame (s : State) (a1 : Region) (a2 : RxJob) (a3 : Nat) (a4 : Nat) (a5 : Bool) (a6 : Bytes) : Frame touches108 s (State.rxWay s a1 a2 a3 a4 a5 a6).1 := by
  have hs := Frame.refl touches108 s
  unfold State.rxWay
  extract_lets -merge -useContext -underBinder x0 x1
  clear_value x1
  refine Frame.iteFst (fun _ => ?_) (fun _ => ?_)
  · dsimp only
    refine Frame.after ?_ (Frame.mono rfl (pantryFree_frame _ _ _))
    exact hs
  · split
    · dsimp only
      exact hs
    · extract_lets -merge -useContext -underBinder x2 x3 x4 x5 x6
      have h7 : Frame touches108 s x2 := by
        unfold x2
        refine Frame.ite (fun _ => ?_) (fun _ => ?_)
        · refine Frame.after ?_ (Frame.mono rfl (cnt_frame _ _))
          exact hs
        · exact hs
      clear_value x2
      clear_value x3
      clear_value x4
      clear_value x6
      split
      · rename_i z8 z9 z10 z11
        have h12 : Frame touches108 s z9 := Frame.pair z11 (by
            refine Frame.after ?_ (Frame.mono rfl (steerCheck_frame _ _ _ _ _))
            exact h7)
        dsimp only
        exact h12

theorem ethSend_frame (s : State) (a1 : Nat) (a2 : EthOut) : Frame touches6 s (State.ethSend s a1 a2) := by
  have hs := Frame.refl touches6 s
  unfold State.ethSend
  extract_lets -merge -useContext -underBinder x0
  clear_value x0
  refine Frame.after ?_ (Frame.mono rfl (setPort_frame _ _ _))
  exact hs

theorem fastSend_frame (s : State) (a1 : Nat) (a2 : EthHeld) : Frame touches5 s (State.fastSend s a1 a2) := by
  have hs := Frame.refl touches5 s
  unfold State.fastSend
  extract_lets -merge -useContext -underBinder x0
  clear_value x0
  refine Frame.ite (fun _ => ?_) (fun _ => ?_)
  · refine Frame.after ?_ (Frame.mono rfl (ethSend_frame _ _ _))
    refine Frame.after ?_ (Frame.mono rfl (pantryFree_frame _ _ _))
    exact hs
  · refine Frame.after ?_ (Frame.mono rfl (setPort_frame _ _ _))
    exact hs

theorem rxGo_frame (s : State) (a1 : RxWay) : Frame touches10 s (State.rxGo s a1) := by
  have hs := Frame.refl touches10 s
  unfold State.rxGo
  split
  · exact hs
  · refine Frame.after ?_ (Frame.mono rfl (fastSend_frame _ _ _))
    exact hs
  · refine Frame.after ?_ (Frame.mono rfl (deliver_frame _ _ _))
    exact hs

theorem loadSampled_frame (s : State) (a1 : Region) (a2 : Nat) (a3 : RxJob) : Frame touches59 s (State.loadSampled s a1 a2 a3) := by
  have hs := Frame.refl touches59 s
  unfold State.loadSampled
  extract_lets -merge -useContext -underBinder x0 x1
  have h2 : Frame touches59 s x0 := by
    unfold x0
    refine Frame.after ?_ (Frame.mono rfl (nodeUpd_frame _ _ _))
    exact hs
  clear_value x0
  refine Frame.ite (fun _ => ?_) (fun _ => ?_)
  · refine Frame.ite (fun _ => ?_) (fun _ => ?_)
    · refine Frame.after ?_ (Frame.mono rfl (updateMap_frame _ _ _ _))
      refine Frame.after ?_ (Frame.mono rfl (updateMap_frame _ _ _ _))
      exact h2
    · exact h2
  · exact hs

theorem linkFigures_frame (s : State) (a1 : Region) (a2 : Nat) (a3 : RxJob) : Frame touches22 s (State.linkFigures s a1 a2 a3) := by
  have hs := Frame.refl touches22 s
  unfold State.linkFigures
  extract_lets -merge -useContext -underBinder x0 x1 x2 x3 x4 x5 x6 x7 x8 x9
  clear_value x0
  clear_value x1
  clear_value x2
  clear_value x4
  clear_value x5
  clear_value x6
  clear_value x7
  clear_value x8
  clear_value x9
  refine Frame.after ?_ (Frame.mono rfl (nodeUpd_frame _ _ _))
  refine Frame.after ?_ (when_frame rfl _ _ ?_)
  · exact hs
  · intro y10
    have h11 := Frame.refl touches22 y10
    refine Frame.after ?_ (Frame.mono rfl (cnt_frame _ _))
    exact h11

theorem measured_frame (s : State) (a1 : Region) (a2 : Nat) (a3 : RxJob) : Frame touches59 s (State.measured s a1 a2 a3) := by
  have hs := Frame.refl touches59 s
  unfold State.measured
  refine Frame.after ?_ (Frame.mono rfl (mapsSettle_frame _))
  refine Frame.after ?_ (Frame.mono rfl (loadSampled_frame _ _ _ _))
  refine Frame.after ?_ (Frame.mono rfl (linkFigures_frame _ _ _ _))
  exact hs

theorem rxFix_frame (s : State) (a1 : Region) (a2 : Nat) (a3 : RxJob) : Frame touches33 s (State.rxFix s a1 a2 a3) := by
  have hs := Frame.refl touches33 s
  unfold State.rxFix
  split
  · refine Frame.ite (fun _ => ?_) (fun _ => ?_)
    · refine Frame.after ?_ (Frame.mono rfl (takeFix_frame _ _ _ _ _))
      exact hs
    · exact hs
  · exact hs

theorem heard_frame (s : State) (a1 : Region) (a2 : Nat) : Frame touches22 s (State.heard s a1 a2) := by
  have hs := Frame.refl touches22 s
  unfold State.heard
  refine Frame.after ?_ (Frame.mono rfl (macUpd_frame _ _ _))
  exact hs

theorem learnRequest_frame (s : State) (a1 : Nat) (a2 : Nat) (a3 : Nat) (a4 : Nat) (a5 : Nat) (a6 : Int) : Frame touches67 s (State.learnRequest s a1 a2 a3 a4 a5 a6) := by
  have hs := Frame.refl touches67 s
  unfold State.learnRequest
  extract_lets -merge -useContext -underBinder x0 x1 x2
  have h3 : Frame touches67 s x2 := by
    unfold x2
    exact Frame.upd hs (.inl rfl) (.inl rfl) (.inr rfl) (.inl rfl) (.inl rfl) (.inl rfl) (.inl rfl) (.inl rfl) (.inl rfl) (.inl rfl) (.inl ⟨rfl, rfl, rfl⟩) (.inl rfl) (.inl ⟨rfl, rfl, rfl⟩) (.inl ⟨rfl, rfl⟩) (.inl ⟨rfl, rfl, rfl, rfl, rfl, rfl, rfl, rfl⟩) (.inl ⟨rfl, rfl⟩) (.inl ⟨rfl, rfl, rfl, rfl, rfl, rfl, rfl, rfl, rfl, rfl⟩) (.inl ⟨rfl, rfl⟩) (.inl ⟨rfl, rfl⟩) (.inl rfl) (.inl rfl) (.inl rfl) (.inl rfl) (.inl ⟨rfl, rfl, rfl, rfl, rfl, rfl, rfl, rfl, rfl⟩) (.inl ⟨rfl, rfl, rfl, rfl, rfl, rfl, rfl, rfl, rfl⟩) (.inl ⟨rfl, rfl, rfl⟩) (.inl ⟨rfl, rfl, rfl, rfl, rfl, rfl, rfl, rfl, rfl, rfl, rfl, rfl, rfl, rfl, rfl, rfl, rfl, rfl, rfl, rfl, rfl, rfl, rfl, rfl, rfl, rfl, rfl⟩) (.inl ⟨rfl, rfl, rfl, rfl, rfl, rfl, rfl, rfl, rfl, rfl, rfl, rfl⟩) (.inl ⟨rfl, rfl, rfl, rfl, rfl, rfl, rfl, rfl, rfl⟩) (.inl ⟨rfl, rfl, rfl⟩) (.inl ⟨rfl, rfl, rfl⟩) (.inl ⟨rfl, rfl, rfl, rfl, rfl, rfl, rfl, rfl, rfl⟩) (.inl rfl) (.inl rfl) (.inl rfl) (.inl rfl) (.inl ⟨rfl, rfl⟩) (.inl ⟨rfl, rfl⟩) (.inl rfl) (.inl ⟨rfl, rfl, rfl, rfl, rfl⟩) (.inl ⟨rfl, rfl⟩) (.inl ⟨rfl, rfl, rfl, rfl⟩) (.inl ⟨rfl, rfl, rfl⟩) (.inr rfl) (.inl ⟨rfl, rfl⟩) (.inl ⟨rfl, rfl, rfl, rfl, rfl, rfl, rfl⟩) (.inl ⟨rfl, rfl, rfl, rfl, rfl⟩) (.inl rfl) (.inl ⟨rfl, rfl, rfl, rfl, rfl, rfl⟩) (.inl ⟨rfl, rfl, rfl, rfl, rfl, rfl, rfl, rfl, rfl, rfl, rfl⟩) (.inl ⟨rfl, rfl, rfl, rfl⟩) (.inl rfl) (.inl rfl) (.inl ⟨rfl, rfl, rfl, rfl, rfl, rfl, rfl, rfl, rfl, rfl, rfl, rfl⟩) (.inl ⟨rfl, rfl⟩) (.inl ⟨rfl, rfl, rfl, rfl, rfl, rfl⟩) (.inl ⟨rfl, rfl, rfl, rfl, rfl, rfl⟩) (.inl ⟨rfl, rfl, rfl, rfl, rfl, rfl, rfl, rfl, rfl, rfl, rfl, rfl⟩) (.inl ⟨rfl, rfl, rfl⟩) (.inl ⟨rfl, rfl, rfl, rfl⟩) (.inl ⟨rfl, rfl, rfl, rfl, rfl⟩) (.inl ⟨rfl, rfl, rfl, rfl, rfl, rfl, rfl, rfl, rfl, rfl⟩) (.inl ⟨rfl, rfl, rfl, rfl, rfl, rfl, rfl, rfl, rfl⟩) (.inl ⟨rfl, rfl, rfl, rfl, rfl, rfl, rfl, rfl, rfl, rfl, rfl, rfl, rfl⟩) (.inl ⟨rfl, rfl, rfl⟩) (.inl ⟨rfl, rfl, rfl, rfl, rfl⟩) (.inl rfl) (.inl rfl) (.inl ⟨rfl, rfl⟩) (.inl ⟨rfl, rfl, rfl, rfl, rfl, rfl, rfl, rfl, rfl, rfl, rfl, rfl, rfl⟩) (.inl rfl) (.inl rfl) (.inl ⟨rfl, rfl, rfl⟩) (.inl rfl)
  clear_value x2
  refine Frame.after ?_ (Frame.mono rfl (jobRequest_frame _ _))
  exact h3

theorem rxLearn_frame (s : State) (a1 : Region) (a2 : RxJob) (a3 : RxSource) : Frame touches67 s (State.rxLearn s a1 a2 a3) := by
  have hs := Frame.refl touches67 s
  unfold State.rxLearn
  extract_lets -merge -useContext -underBinder x0 x1 x2
  clear_value x1
  clear_value x2
  split
  · extract_lets -merge -useContext -underBinder x3
    refine Frame.ite (fun _ => ?_) (fun _ => ?_)
    · refine Frame.after ?_ (Frame.mono rfl (learnRequest_frame _ _ _ _ _ _ _))
      exact hs
    · exact hs
  · exact hs

theorem loading_frame (s : State) (a1 : Region) (a2 : Nat) (a3 : RxJob) : Frame touches59 s (State.loading s a1 a2 a3) := by
  have hs := Frame.refl touches59 s
  unfold State.loading
  refine Frame.ite (fun _ => ?_) (fun _ => ?_)
  · refine Frame.after ?_ (Frame.mono rfl (mapsSettle_frame _))
    refine Frame.after ?_ (Frame.mono rfl (loadSampled_frame _ _ _ _))
    refine Frame.after ?_ (Frame.mono rfl (nodeUpd_frame _ _ _))
    exact hs
  · exact hs

theorem accepted_frame (s : State) (a1 : Region) (a2 : RxJob) (a3 : RxSource) : Frame touches109 s (State.accepted s a1 a2 a3) := by
  have hs := Frame.refl touches109 s
  unfold State.accepted
  refine Frame.after ?_ (Frame.mono rfl (rxFix_frame _ _ _ _))
  refine Frame.after ?_ (Frame.mono rfl (heard_frame _ _ _))
  refine Frame.after ?_ (Frame.mono rfl (rxLearn_frame _ _ _ _))
  refine Frame.after ?_ (Frame.mono rfl (loading_frame _ _ _ _))
  refine Frame.after ?_ (Frame.mono rfl (linkFigures_frame _ _ _ _))
  exact hs

theorem ackLost_frame (s : State) (a1 : Region) (a2 : Nat) (a3 : RxWay) : Frame touches33 s (State.ackLost s a1 a2 a3) := by
  have hs := Frame.refl touches33 s
  unfold State.ackLost
  refine Frame.after ?_ (Frame.mono rfl (porchBook_frame _ _))
  refine Frame.after ?_ (Frame.mono rfl (rxGo_frame _ _))
  refine Frame.after ?_ (Frame.mono rfl (nodeUpd_frame _ _ _))
  refine Frame.after ?_ (Frame.mono rfl (stk_frame _ _ _))
  refine Frame.after ?_ (Frame.mono rfl (cnt_frame _ _))
  exact hs

theorem ackFrame_frame (s : State) (a1 : Nat) (a2 : MacFrame) (a3 : Bool) : Frame touches107 s (State.ackFrame s a1 a2 a3).1 := by
  have hs := Frame.refl touches107 s
  unfold State.ackFrame
  extract_lets -merge -useContext -underBinder x0 x1
  clear_value x0
  clear_value x1
  refine Frame.iteFst (fun _ => ?_) (fun _ => ?_)
  · dsimp only
    exact hs
  · split
    · dsimp only
      exact hs
    · split
      · rename_i z2 z3 z4 z5
        have h6 : Frame touches107 s z3 := Frame.pair z5 (by
            refine Frame.after ?_ (Frame.mono rfl (frameKey_frame _ _))
            exact hs)
        split
        · dsimp only
          exact h6
        · split
          · rename_i z7 z8 z9 z10
            have h11 : Frame touches107 s z8 := Frame.pair z10 (by
                refine Frame.after ?_ (Frame.mono rfl (fcTake_frame _ _))
                exact h6)
            split
            · dsimp only
              exact h11
            · extract_lets -merge -useContext -underBinder x12
              clear_value x12
              dsimp only
              exact h11

theorem acknowledge_frame (s : State) (a1 : Region) (a2 : Nat) (a3 : RxJob) (a4 : RxWay) : Frame touches110 s (State.acknowledge s a1 a2 a3 a4) := by
  have hs := Frame.refl touches110 s
  unfold State.acknowledge
  extract_lets -merge -useContext -underBinder x0 x1 x2
  clear_value x1
  split
  · refine Frame.after ?_ (Frame.mono rfl (ackLost_frame _ _ _ _))
    exact hs
  · split
    · rename_i z3 z4 z5 z6
      have h7 : Frame touches110 s z4 := Frame.pair z6 (by
          refine Frame.after ?_ (Frame.mono rfl (ackFrame_frame _ _ _ _))
          exact hs)
      split
      · refine Frame.after ?_ (Frame.mono rfl (ackLost_frame _ _ _ _))
        exact h7
      · split
        · rename_i z8 z9 z10 z11
          have h12 : Frame touches110 s z9 := Frame.pair z11 (by
              split
              · dsimp only
                exact h7
              · dsimp only
                refine Frame.after ?_ (Frame.mono rfl (rxGo_frame _ _))
                exact h7)
          extract_lets -merge -useContext -underBinder x13
          clear_value x13
          split
          · extract_lets -merge -useContext -underBinder x14 x15 x16 x17 x18
            clear_value x14
            clear_value x15
            clear_value x16
            have h19 : Frame touches110 s x17 := by
              unfold x17
              refine Frame.after ?_ (Frame.mono rfl (setCarrier_frame _ _ _ _))
              exact h12
            clear_value x17
            have h20 : Frame touches110 s x18 := by
              unfold x18
              refine Frame.after ?_ (Frame.mono rfl (jobRequest_frame _ _))
              exact h19
            clear_value x18
            refine Frame.after ?_ (Frame.mono rfl (lbtBegin_frame _ _ _))
            exact h20

theorem rxKnown_frame (s : State) (a1 : Region) (a2 : RxJob) (a3 : RxSource) : Frame touches110 s (State.rxKnown s a1 a2 a3) := by
  have hs := Frame.refl touches110 s
  unfold State.rxKnown
  extract_lets -merge -useContext -underBinder x0
  split
  · rename_i z1 z2 z3 z4
    have h5 : Frame touches110 s z2 := Frame.pair z4 (by
        refine Frame.after ?_ (Frame.mono rfl (rxSecure_frame _ _ _ _ _))
        exact hs)
    extract_lets -merge -useContext -underBinder x6 x7 x8
    have h9 : ∀ y10 y11, Frame touches110 y10 (x6 y10 y11) := by
      intro y10 y11
      have h12 := Frame.refl touches110 y10
      unfold x6
      split
      · rename_i z13 z14 z15 z16
        have h17 : Frame touches110 y10 z14 := Frame.pair z16 (by
            refine Frame.after ?_ (Frame.mono rfl (rxWay_frame _ _ _ _ _ _ _))
            exact h12)
        refine Frame.after ?_ (Frame.mono rfl (rxGo_frame _ _))
        exact h17
    clear_value x6
    have h18 : Frame touches110 s x8 := by
      unfold x8
      refine Frame.ite (fun _ => ?_) (fun _ => ?_)
      · exact h5
      · exact Frame.upd h5 (.inl rfl) (.inl rfl) (.inr rfl) (.inl rfl) (.inr rfl) (.inr rfl) (.inl rfl) (.inl rfl) (.inl rfl) (.inl rfl) (.inl ⟨rfl, rfl, rfl⟩) (.inl rfl) (.inl ⟨rfl, rfl, rfl⟩) (.inl ⟨rfl, rfl⟩) (.inl ⟨rfl, rfl, rfl, rfl, rfl, rfl, rfl, rfl⟩) (.inl ⟨rfl, rfl⟩) (.inl ⟨rfl, rfl, rfl, rfl, rfl, rfl, rfl, rfl, rfl, rfl⟩) (.inl ⟨rfl, rfl⟩) (.inl ⟨rfl, rfl⟩) (.inl rfl) (.inl rfl) (.inl rfl) (.inl rfl) (.inl ⟨rfl, rfl, rfl, rfl, rfl, rfl, rfl, rfl, rfl⟩) (.inl ⟨rfl, rfl, rfl, rfl, rfl, rfl, rfl, rfl, rfl⟩) (.inr rfl) (.inl ⟨rfl, rfl, rfl, rfl, rfl, rfl, rfl, rfl, rfl, rfl, rfl, rfl, rfl, rfl, rfl, rfl, rfl, rfl, rfl, rfl, rfl, rfl, rfl, rfl, rfl, rfl, rfl⟩) (.inl ⟨rfl, rfl, rfl, rfl, rfl, rfl, rfl, rfl, rfl, rfl, rfl, rfl⟩) (.inl ⟨rfl, rfl, rfl, rfl, rfl, rfl, rfl, rfl, rfl⟩) (.inr rfl) (.inl ⟨rfl, rfl, rfl⟩) (.inl ⟨rfl, rfl, rfl, rfl, rfl, rfl, rfl, rfl, rfl⟩) (.inl rfl) (.inl rfl) (.inr rfl) (.inr rfl) (.inr rfl) (.inr rfl) (.inr rfl) (.inr rfl) (.inr rfl) (.inl ⟨rfl, rfl, rfl, rfl⟩) (.inl ⟨rfl, rfl, rfl⟩) (.inr rfl) (.inr rfl) (.inr rfl) (.inr rfl) (.inr rfl) (.inr rfl) (.inl ⟨rfl, rfl, rfl, rfl, rfl, rfl, rfl, rfl, rfl, rfl, rfl⟩) (.inl ⟨rfl, rfl, rfl, rfl⟩) (.inl rfl) (.inr rfl) (.inl ⟨rfl, rfl, rfl, rfl, rfl, rfl, rfl, rfl, rfl, rfl, rfl, rfl⟩) (.inl ⟨rfl, rfl⟩) (.inl ⟨rfl, rfl, rfl, rfl, rfl, rfl⟩) (.inl ⟨rfl, rfl, rfl, rfl, rfl, rfl⟩) (.inr rfl) (.inl ⟨rfl, rfl, rfl⟩) (.inl ⟨rfl, rfl, rfl, rfl⟩) (.inl ⟨rfl, rfl, rfl, rfl, rfl⟩) (.inl ⟨rfl, rfl, rfl, rfl, rfl, rfl, rfl, rfl, rfl, rfl⟩) (.inl ⟨rfl, rfl, rfl, rfl, rfl, rfl, rfl, rfl, rfl⟩) (.inr rfl) (.inl ⟨rfl, rfl, rfl⟩) (.inl ⟨rfl, rfl, rfl, rfl, rfl⟩) (.inl rfl) (.inl rfl) (.inr rfl) (.inr rfl) (.inl rfl) (.inl rfl) (.inr rfl) (.inl rfl)
    clear_value x8
    split
    · refine Frame.after ?_ (Frame.mono rfl (pantryFree_frame _ _ _))
      refine Frame.after ?_ (Frame.mono rfl (measured_frame _ _ _ _))
      exact h18
    · refine Frame.after ?_ (h9 _ _)
      refine Frame.after ?_ (Frame.mono rfl (measured_frame _ _ _ _))
      exact h18
    · refine Frame.after ?_ (h9 _ _)
      refine Frame.after ?_ (Frame.mono rfl (measured_frame _ _ _ _))
      exact h18
    · refine Frame.after ?_ (h9 _ _)
      refine Frame.after ?_ (Frame.mono rfl (measured_frame _ _ _ _))
      exact h18
    · extract_lets -merge -useContext -underBinder x19
      have h20 : Frame touches110 s x19 := by
        unfold x19
        refine Frame.after ?_ (Frame.mono rfl (accepted_frame _ _ _ _))
        exact h18
      clear_value x19
      split
      · rename_i z21 z22 z23 z24
        have h25 : Frame touches110 s z22 := Frame.pair z24 (by
            refine Frame.iteFst (fun _ => ?_) (fun _ => ?_)
            · dsimp only
              refine Frame.after ?_ (Frame.mono rfl (pantryFree_frame _ _ _))
              refine Frame.after ?_ (Frame.mono rfl (nodeUpd_frame _ _ _))
              refine Frame.after ?_ (Frame.mono rfl (cnt_frame _ _))
              exact h20
            · refine Frame.after ?_ (Frame.mono rfl (rxWay_frame _ _ _ _ _ _ _))
              refine Frame.after ?_ (Frame.mono rfl (nodeUpd_frame _ _ _))
              exact h20)
        extract_lets -merge -useContext -underBinder x26 x27 x28 x29
        clear_value x26
        clear_value x27
        clear_value x28
        have h30 : Frame touches110 s x29 := by
          unfold x29
          refine Frame.ite (fun _ => ?_) (fun _ => ?_)
          · refine Frame.after ?_ (Frame.mono rfl (acknowledge_frame _ _ _ _ _))
            exact h25
          · refine Frame.after ?_ (Frame.mono rfl (rxGo_frame _ _))
            exact h25
        clear_value x29
        refine Frame.foldl ?_ (fun x31 y32 h33 => ?_)
        · exact h30
        · refine Frame.after ?_ (Frame.mono rfl (porchBook_frame _ _))
          exact h33

theorem egressMove_frame (s : State) (a1 : Nat) : Frame touches5 s (State.egressMove s a1) := by
  have hs := Frame.refl touches5 s
  unfold State.egressMove
  split
  · exact hs
  · extract_lets -merge -useContext -underBinder x0 x1
    clear_value x1
    refine Frame.ite (fun _ => ?_) (fun _ => ?_)
    · refine Frame.after ?_ (Frame.mono rfl (ethSend_frame _ _ _))
      refine Frame.after ?_ (Frame.mono rfl (pantryFree_frame _ _ _))
      refine Frame.after ?_ (Frame.mono rfl (setPort_frame _ _ _))
      exact hs
    · exact hs

theorem egressFill_frame (s : State) (a1 : Nat) : Frame touches5 s (State.egressFill s a1) := by
  have hs := Frame.refl touches5 s
  unfold State.egressFill
  refine Frame.foldl ?_ (fun x0 y1 h2 => ?_)
  · exact hs
  · refine Frame.after ?_ (Frame.mono rfl (egressMove_frame _ _))
    exact h2

theorem rxUnknown_frame (s : State) (a1 : Region) (a2 : RxJob) : Frame touches168 s (State.rxUnknown s a1 a2) := by
  have hs := Frame.refl touches168 s
  unfold State.rxUnknown
  extract_lets -merge -useContext -underBinder x0 x1
  have h2 : Frame touches168 s x1 := by
    unfold x1
    refine Frame.after ?_ (Frame.mono rfl (cnt_frame _ _))
    exact hs
  clear_value x1
  split
  · rename_i z3 z4 z5 z6
    have h7 : Frame touches168 s z4 := Frame.pair z6 (by
        refine Frame.after ?_ (Frame.mono rfl (rxWay_frame _ _ _ _ _ _ _))
        exact h2)
    refine Frame.after ?_ (Frame.mono rfl (rxGo_frame _ _))
    exact h7

theorem resolveIn_frame (s : State) (a1 : Nat) (a2 : Nat) (a3 : List Nat) : Frame touches27 s (State.resolveIn s a1 a2 a3).1 := by
  induction a3 generalizing s a1 a2 with | nil => ?_ | cons y l ih => ?_
  · have hs := Frame.refl touches27 s
    unfold State.resolveIn
    dsimp only
    exact hs
  · have hs := Frame.refl touches27 s
    unfold State.resolveIn
    split
    · rename_i z0 z1 z2 z3
      have h4 : Frame touches27 s z1 := Frame.pair z3 (by
          refine Frame.after ?_ (Frame.mono rfl (learnLookup_frame _ _ _ _))
          exact hs)
      split
      · dsimp only
        exact h4
      · refine Frame.after ?_ (ih _ _ _)
        exact h4

theorem resolve_frame (s : State) (a1 : Region) (a2 : MacAddr) : Frame touches28 s (State.resolve s a1 a2).1 := by
  have hs := Frame.refl touches28 s
  unfold State.resolve
  split
  · dsimp only
    exact hs
  · split
    · rename_i z0 z1 z2 z3
      have h4 : Frame touches28 s z1 := Frame.pair z3 (by
          refine Frame.after ?_ (Frame.mono rfl (resolveIn_frame _ _ _ _))
          exact hs)
      split
      · split
        · rename_i z5 z6 z7 z8
          have h9 : Frame touches28 s z6 := Frame.pair z8 (by
              refine Frame.after ?_ (Frame.mono rfl (nodeGet_frame _ _))
              exact h4)
          dsimp only
          exact h9
      · dsimp only
        exact h4

theorem rxAck_frame (s : State) (a1 : Region) (a2 : RxJob) : Frame touches110 s (State.rxAck s a1 a2) := by
  have hs := Frame.refl touches110 s
  unfold State.rxAck
  extract_lets -merge -useContext -underBinder x0 x1
  have h2 : Frame touches110 s x1 := by
    unfold x1
    refine Frame.after ?_ (Frame.mono rfl (pantryFree_frame _ _ _))
    exact hs
  clear_value x1
  split
  · rename_i z3 z4 z5 z6
    have h7 : Frame touches110 s z4 := Frame.pair z6 (by
        refine Frame.after ?_ (Frame.mono rfl (resolve_frame _ _ _))
        exact h2)
    extract_lets -merge -useContext -underBinder x8 x9
    clear_value x8
    clear_value x9
    split
    · exact h7
    · split
      · rename_i z10 z11 z12 z13
        have h14 : Frame touches110 s z11 := Frame.pair z13 (by
            refine Frame.after ?_ (Frame.mono rfl (rxSecure_frame _ _ _ _ _))
            exact h7)
        split
        · extract_lets -merge -useContext -underBinder x15
          have h16 : Frame touches110 s x15 := by
            unfold x15
            refine Frame.after ?_ (Frame.mono rfl (accepted_frame _ _ _ _))
            exact h14
          clear_value x15
          split
          · extract_lets -merge -useContext -underBinder x17 x18 x19
            clear_value x17
            have h20 : Frame touches110 s x19 := by
              unfold x19
              exact Frame.upd h16 (.inl rfl) (.inl rfl) (.inr rfl) (.inl rfl) (.inr rfl) (.inr rfl) (.inl rfl) (.inl rfl) (.inl rfl) (.inl rfl) (.inl ⟨rfl, rfl, rfl⟩) (.inl rfl) (.inl ⟨rfl, rfl, rfl⟩) (.inl ⟨rfl, rfl⟩) (.inl ⟨rfl, rfl, rfl, rfl, rfl, rfl, rfl, rfl⟩) (.inl ⟨rfl, rfl⟩) (.inl ⟨rfl, rfl, rfl, rfl, rfl, rfl, rfl, rfl, rfl, rfl⟩) (.inl ⟨rfl, rfl⟩) (.inl ⟨rfl, rfl⟩) (.inl rfl) (.inl rfl) (.inl rfl) (.inl rfl) (.inl ⟨rfl, rfl, rfl, rfl, rfl, rfl, rfl, rfl, rfl⟩) (.inl ⟨rfl, rfl, rfl, rfl, rfl, rfl, rfl, rfl, rfl⟩) (.inr rfl) (.inl ⟨rfl, rfl, rfl, rfl, rfl, rfl, rfl, rfl, rfl, rfl, rfl, rfl, rfl, rfl, rfl, rfl, rfl, rfl, rfl, rfl, rfl, rfl, rfl, rfl, rfl, rfl, rfl⟩) (.inl ⟨rfl, rfl, rfl, rfl, rfl, rfl, rfl, rfl, rfl, rfl, rfl, rfl⟩) (.inl ⟨rfl, rfl, rfl, rfl, rfl, rfl, rfl, rfl, rfl⟩) (.inr rfl) (.inl ⟨rfl, rfl, rfl⟩) (.inl ⟨rfl, rfl, rfl, rfl, rfl, rfl, rfl, rfl, rfl⟩) (.inl rfl) (.inl rfl) (.inr rfl) (.inr rfl) (.inr rfl) (.inr rfl) (.inr rfl) (.inr rfl) (.inr rfl) (.inl ⟨rfl, rfl, rfl, rfl⟩) (.inl ⟨rfl, rfl, rfl⟩) (.inr rfl) (.inr rfl) (.inr rfl) (.inr rfl) (.inr rfl) (.inr rfl) (.inl ⟨rfl, rfl, rfl, rfl, rfl, rfl, rfl, rfl, rfl, rfl, rfl⟩) (.inl ⟨rfl, rfl, rfl, rfl⟩) (.inl rfl) (.inr rfl) (.inl ⟨rfl, rfl, rfl, rfl, rfl, rfl, rfl, rfl, rfl, rfl, rfl, rfl⟩) (.inl ⟨rfl, rfl⟩) (.inl ⟨rfl, rfl, rfl, rfl, rfl, rfl⟩) (.inl ⟨rfl, rfl, rfl, rfl, rfl, rfl⟩) (.inr rfl) (.inl ⟨rfl, rfl, rfl⟩) (.inl ⟨rfl, rfl, rfl, rfl⟩) (.inl ⟨rfl, rfl, rfl, rfl, rfl⟩) (.inl ⟨rfl, rfl, rfl, rfl, rfl, rfl, rfl, rfl, rfl, rfl⟩) (.inl ⟨rfl, rfl, rfl, rfl, rfl, rfl, rfl, rfl, rfl⟩) (.inr rfl) (.inl ⟨rfl, rfl, rfl⟩) (.inl ⟨rfl, rfl, rfl, rfl, rfl⟩) (.inl rfl) (.inl rfl) (.inr rfl) (.inr rfl) (.inl rfl) (.inl rfl) (.inr rfl) (.inl rfl)
            clear_value x19
            refine Frame.after ?_ (Frame.mono rfl (jobEnd_frame _ _ _ _))
            exact h20
          · exact h16
        · refine Frame.after ?_ (Frame.mono rfl (measured_frame _ _ _ _))
          exact h14

theorem rxSource_frame (s : State) (a1 : Region) (a2 : MacFrame) : Frame touches28 s (State.rxSource s a1 a2).1 := by
  have hs := Frame.refl touches28 s
  unfold State.rxSource
  split
  · split
    · rename_i z0 z1 z2 z3
      have h4 : Frame touches28 s z1 := Frame.pair z3 (by
          refine Frame.after ?_ (Frame.mono rfl (resolve_frame _ _ _))
          exact hs)
      dsimp only
      exact h4
  · split
    · rename_i z5 z6 z7 z8
      have h9 : Frame touches28 s z6 := Frame.pair z8 (by
          refine Frame.after ?_ (Frame.mono rfl (resolve_frame _ _ _))
          exact hs)
      split
      · rename_i z10 z11 z12 z13
        have h14 : Frame touches28 s z11 := Frame.pair z13 (by
            refine Frame.after ?_ (Frame.mono rfl (resolve_frame _ _ _))
            exact h9)
        split
        · dsimp only
          exact h14
        · dsimp only
          exact h14

theorem ieCount_frame (s : State) (a1 : Region) (a2 : MacFrame) : Frame touches1 s (State.ieCount s a1 a2) := by
  have hs := Frame.refl touches1 s
  unfold State.ieCount
  refine Frame.after ?_ (Frame.mono rfl (cntBy_frame _ _ _))
  exact hs

end Sys2Proof
end

