-- ==== Sys2Proof/Laws/FrameRadio.lean ====
section
/-! SUPPORT. Laws/FrameRadio.lean: what each operation of Machine/Radio.lean leaves as it was. -/

namespace Sys2Proof

open Sys2Proof.Machine

theorem recalRaise_frame (s : State) (a1 : Region) : Frame touches93 s (State.recalRaise s a1) := by
  have hs := Frame.refl touches93 s
  unfold State.recalRaise
  refine Frame.radUpd ?_ (.inl (fun _ => by dsimp only; split <;> exact ⟨rfl, rfl, rfl⟩)) (.inl (fun _ => by dsimp only; split <;> exact ⟨rfl, rfl, rfl⟩)) (.inl (fun _ => by dsimp only; split <;> exact rfl)) (.inl (fun _ => by dsimp only; split <;> exact ⟨rfl, rfl, rfl, rfl, rfl, rfl, rfl, rfl, rfl⟩)) (.inl (fun _ => by dsimp only; split <;> exact ⟨rfl, rfl, rfl, rfl⟩)) (.inl (fun _ => by dsimp only; split <;> exact ⟨rfl, rfl, rfl⟩)) (.inl (fun _ => by dsimp only; split <;> exact rfl)) (.inr rfl) (.inl (fun _ => by dsimp only; split <;> exact ⟨rfl, rfl, rfl⟩))
  exact hs

theorem winStep_frame (s : State) (a1 : Region) : Frame touches1 s (State.winStep s a1) := by
  have hs := Frame.refl touches1 s
  unfold State.winStep
  refine Frame.after ?_ (Frame.mono rfl (setRf_frame _ _ _ _ _))
  exact hs

theorem onPhase_frame {G : List Field} (hG : touches16.all G.contains = true) (s : State) (a1 : Region) (a2 : Nat) (a3 : CPhase) {a4 : TxJob → State → State} (ha4 : ∀ b0 b1, Frame G b1 (a4 b0 b1)) : Frame G s (State.onPhase s a1 a2 a3 a4) := by
  have hs := Frame.refl G s
  unfold State.onPhase
  extract_lets -merge -useContext -underBinder x0
  clear_value x0
  split
  · refine Frame.ite (fun _ => ?_) (fun _ => ?_)
    · refine Frame.after ?_ (ha4 _ _)
      exact hs
    · exact hs
  · exact hs

theorem corrStale_frame (s : State) (a1 : Region) (a2 : Byte) (a3 : Nat) : Frame touches176 s (State.corrStale s a1 a2 a3) := by
  have hs := Frame.refl touches176 s
  unfold State.corrStale
  refine Frame.radUpd ?_ (.inl (fun _ => ⟨rfl, rfl, rfl⟩)) (.inl (fun _ => ⟨rfl, rfl, rfl⟩)) (.inl (fun _ => rfl)) (.inl (fun _ => ⟨rfl, rfl, rfl, rfl, rfl, rfl, rfl, rfl, rfl⟩)) (.inl (fun _ => ⟨rfl, rfl, rfl, rfl⟩)) (.inl (fun _ => ⟨rfl, rfl, rfl⟩)) (.inl (fun _ => rfl)) (.inl (fun _ => rfl)) (.inr rfl)
  exact hs

theorem rfTrip_frame (s : State) (a1 : Region) (a2 : Byte) : Frame touches160 s (State.rfTrip s a1 a2) := by
  have hs := Frame.refl touches160 s
  unfold State.rfTrip
  extract_lets -merge -useContext -underBinder x0
  have h1 : Frame touches160 s x0 := by
    unfold x0
    refine Frame.after ?_ (Frame.mono rfl (cell_frame _ _ _ _ _))
    refine Frame.after ?_ (Frame.mono rfl (stk_frame _ _ _))
    refine Frame.after ?_ (Frame.mono rfl (linesOff_frame _ _))
    refine Frame.radUpd ?_ (.inr rfl) (.inr rfl) (.inr rfl) (.inr rfl) (.inr rfl) (.inr rfl) (.inr rfl) (.inr rfl) (.inr rfl)
    exact hs
  clear_value x0
  refine Frame.after ?_ (Frame.mono rfl (safe_frame _ _ _))
  exact h1

theorem setPhase_frame (s : State) (a1 : Region) (a2 : Nat) (a3 : CPhase) (a4 : Nat) : Frame touches41 s (State.setPhase s a1 a2 a3 a4) := by
  have hs := Frame.refl touches41 s
  unfold State.setPhase
  extract_lets -merge -useContext -underBinder x0
  clear_value x0
  refine Frame.after ?_ (Frame.mono rfl (setCarrier_frame _ _ _ _))
  exact hs

theorem loopback_frame (s : State) (a1 : Region) : Frame touches93 s (State.loopback s a1) := by
  have hs := Frame.refl touches93 s
  unfold State.loopback
  refine Frame.ite (fun _ => ?_) (fun _ => ?_)
  · refine Frame.radUpd ?_ (.inl (fun _ => ⟨rfl, rfl, rfl⟩)) (.inl (fun _ => ⟨rfl, rfl, rfl⟩)) (.inl (fun _ => rfl)) (.inl (fun _ => ⟨rfl, rfl, rfl, rfl, rfl, rfl, rfl, rfl, rfl⟩)) (.inl (fun _ => ⟨rfl, rfl, rfl, rfl⟩)) (.inl (fun _ => ⟨rfl, rfl, rfl⟩)) (.inl (fun _ => rfl)) (.inr rfl) (.inl (fun _ => ⟨rfl, rfl, rfl⟩))
    exact hs
  · exact hs

theorem postAckBook_frame (s : State) (a1 : Nat) (a2 : Int) : Frame touches33 s (State.postAckBook s a1 a2) := by
  have hs := Frame.refl touches33 s
  unfold State.postAckBook
  extract_lets -merge -useContext -underBinder x0 x1
  have h2 : Frame touches33 s x1 := by
    unfold x1
    exact Frame.upd hs (.inl rfl) (.inl rfl) (.inr rfl) (.inl rfl) (.inr rfl) (.inr rfl) (.inl rfl) (.inl rfl) (.inl rfl) (.inl rfl) (.inl ⟨rfl, rfl, rfl⟩) (.inl rfl) (.inl ⟨rfl, rfl, rfl⟩) (.inl ⟨rfl, rfl⟩) (.inl ⟨rfl, rfl, rfl, rfl, rfl, rfl, rfl, rfl⟩) (.inl ⟨rfl, rfl⟩) (.inl ⟨rfl, rfl, rfl, rfl, rfl, rfl, rfl, rfl, rfl, rfl⟩) (.inl ⟨rfl, rfl⟩) (.inl ⟨rfl, rfl⟩) (.inl rfl) (.inl rfl) (.inl rfl) (.inl rfl) (.inl ⟨rfl, rfl, rfl, rfl, rfl, rfl, rfl, rfl, rfl⟩) (.inl ⟨rfl, rfl, rfl, rfl, rfl, rfl, rfl, rfl, rfl⟩) (.inl ⟨rfl, rfl, rfl⟩) (.inl ⟨rfl, rfl, rfl, rfl, rfl, rfl, rfl, rfl, rfl, rfl, rfl, rfl, rfl, rfl, rfl, rfl, rfl, rfl, rfl, rfl, rfl, rfl, rfl, rfl, rfl, rfl, rfl⟩) (.inl ⟨rfl, rfl, rfl, rfl, rfl, rfl, rfl, rfl, rfl, rfl, rfl, rfl⟩) (.inl ⟨rfl, rfl, rfl, rfl, rfl, rfl, rfl, rfl, rfl⟩) (.inl ⟨rfl, rfl, rfl⟩) (.inl ⟨rfl, rfl, rfl⟩) (.inl ⟨rfl, rfl, rfl, rfl, rfl, rfl, rfl, rfl, rfl⟩) (.inl rfl) (.inl rfl) (.inl rfl) (.inl rfl) (.inr rfl) (.inr rfl) (.inr rfl) (.inl ⟨rfl, rfl, rfl, rfl, rfl⟩) (.inr rfl) (.inl ⟨rfl, rfl, rfl, rfl⟩) (.inl ⟨rfl, rfl, rfl⟩) (.inl rfl) (.inr rfl) (.inr rfl) (.inr rfl) (.inr rfl) (.inr rfl) (.inl ⟨rfl, rfl, rfl, rfl, rfl, rfl, rfl, rfl, rfl, rfl, rfl⟩) (.inl ⟨rfl, rfl, rfl, rfl⟩) (.inl rfl) (.inr rfl) (.inl ⟨rfl, rfl, rfl, rfl, rfl, rfl, rfl, rfl, rfl, rfl, rfl, rfl⟩) (.inl ⟨rfl, rfl⟩) (.inl ⟨rfl, rfl, rfl, rfl, rfl, rfl⟩) (.inl ⟨rfl, rfl, rfl, rfl, rfl, rfl⟩) (.inl ⟨rfl, rfl, rfl, rfl, rfl, rfl, rfl, rfl, rfl, rfl, rfl, rfl⟩) (.inl ⟨rfl, rfl, rfl⟩) (.inl ⟨rfl, rfl, rfl, rfl⟩) (.inl ⟨rfl, rfl, rfl, rfl, rfl⟩) (.inl ⟨rfl, rfl, rfl, rfl, rfl, rfl, rfl, rfl, rfl, rfl⟩) (.inl ⟨rfl, rfl, rfl, rfl, rfl, rfl, rfl, rfl, rfl⟩) (.inr rfl) (.inl ⟨rfl, rfl, rfl⟩) (.inl ⟨rfl, rfl, rfl, rfl, rfl⟩) (.inl rfl) (.inl rfl) (.inr rfl) (.inr rfl) (.inl rfl) (.inl rfl) (.inr rfl) (.inl rfl)
  clear_value x1
  split
  · refine Frame.ite (fun _ => ?_) (fun _ => ?_)
    · exact h2
    · refine Frame.after ?_ (Frame.mono rfl (rebook_frame _ _))
      exact h2
  · refine Frame.after ?_ (Frame.mono rfl (porchBook_frame _ _))
    exact h2

theorem txDone_frame (s : State) (a1 : Region) (a2 : Nat) (a3 : TxJob) : Frame touches53 s (State.txDone s a1 a2 a3) := by
  have hs := Frame.refl touches53 s
  unfold State.txDone
  extract_lets -merge -useContext -underBinder x0 x1 x2 x3 x4 x5 x6
  clear_value x0
  have h7 : Frame touches53 s x2 := by
    unfold x2
    refine Frame.after ?_ (Frame.mono rfl (out_frame _ _))
    exact hs
  clear_value x2
  have h8 : Frame touches53 s x3 := by
    unfold x3
    split
    · exact h7
    · refine Frame.after ?_ (Frame.mono rfl (frameSent_frame _ _ _ _))
      exact h7
    · exact h7
  clear_value x3
  clear_value x6
  refine Frame.ite (fun _ => ?_) (fun _ => ?_)
  · refine Frame.after ?_ (Frame.mono rfl (cnt_frame _ _))
    refine Frame.after ?_ (Frame.mono rfl (coexPlan_frame _ _))
    refine Frame.after ?_ (Frame.mono rfl (setCarrier_frame _ _ _ _))
    exact h8
  · split
    · refine Frame.after ?_ (Frame.mono rfl (coexPlan_frame _ _))
      refine Frame.after ?_ (Frame.mono rfl (setCarrier_frame _ _ _ _))
      exact h8
    · extract_lets -merge -useContext -underBinder x9
      have h10 : Frame touches53 s x9 := by
        unfold x9
        refine Frame.after ?_ (Frame.mono rfl (jobEnd_frame _ _ _ _))
        refine Frame.after ?_ (Frame.mono rfl (setCarrier_frame _ _ _ _))
        exact h8
      clear_value x9
      split
      · refine Frame.after ?_ (Frame.mono rfl (postAckBook_frame _ _ _))
        exact h10
      · exact h10
    · refine Frame.after ?_ (Frame.mono rfl (jobEnd_frame _ _ _ _))
      refine Frame.after ?_ (Frame.mono rfl (setCarrier_frame _ _ _ _))
      exact h8

theorem recalGo_frame (s : State) (a1 : Region) : Frame touches114 s (State.recalGo s a1) := by
  have hs := Frame.refl touches114 s
  unfold State.recalGo
  extract_lets -merge -useContext -underBinder x0
  clear_value x0
  refine Frame.after ?_ (Frame.mono rfl (clrb_frame _ _ _))
  refine Frame.radUpd ?_ (.inr rfl) (.inr rfl) (.inr rfl) (.inr rfl) (.inr rfl) (.inr rfl) (.inr rfl) (.inr rfl) (.inr rfl)
  refine Frame.after ?_ (Frame.mono rfl (samplesBad_frame _ _))
  exact hs

end Sys2Proof
end

