-- ==== Sys2Proof/Laws/FrameMac.lean ====
section
/-! SUPPORT. Laws/FrameMac.lean: what each operation of Machine/Mac.lean leaves as it was. -/

namespace Sys2Proof

open Sys2Proof.Machine

theorem setStaging_frame (s : State) (a1 : List DlFrame) : Frame touches14 s (State.setStaging s a1) := by
  have hs := Frame.refl touches14 s
  unfold State.setStaging
  extract_lets -merge -useContext -underBinder x0
  exact Frame.upd hs (.inl rfl) (.inl rfl) (.inl ⟨rfl, rfl⟩) (.inl rfl) (.inl rfl) (.inl rfl) (.inl rfl) (.inl rfl) (.inl rfl) (.inl rfl) (.inl ⟨rfl, rfl, rfl⟩) (.inl rfl) (.inl ⟨rfl, rfl, rfl⟩) (.inl ⟨rfl, rfl⟩) (.inl ⟨rfl, rfl, rfl, rfl, rfl, rfl, rfl, rfl⟩) (.inl ⟨rfl, rfl⟩) (.inl ⟨rfl, rfl, rfl, rfl, rfl, rfl, rfl, rfl, rfl, rfl⟩) (.inl ⟨rfl, rfl⟩) (.inl ⟨rfl, rfl⟩) (.inl rfl) (.inl rfl) (.inl rfl) (.inl rfl) (.inl ⟨rfl, rfl, rfl, rfl, rfl, rfl, rfl, rfl, rfl⟩) (.inl ⟨rfl, rfl, rfl, rfl, rfl, rfl, rfl, rfl, rfl⟩) (.inl ⟨rfl, rfl, rfl⟩) (.inl ⟨rfl, rfl, rfl, rfl, rfl, rfl, rfl, rfl, rfl, rfl, rfl, rfl, rfl, rfl, rfl, rfl, rfl, rfl, rfl, rfl, rfl, rfl, rfl, rfl, rfl, rfl, rfl⟩) (.inl ⟨rfl, rfl, rfl, rfl, rfl, rfl, rfl, rfl, rfl, rfl, rfl, rfl⟩) (.inl ⟨rfl, rfl, rfl, rfl, rfl, rfl, rfl, rfl, rfl⟩) (.inl ⟨rfl, rfl, rfl⟩) (.inl ⟨rfl, rfl, rfl⟩) (.inl ⟨rfl, rfl, rfl, rfl, rfl, rfl, rfl, rfl, rfl⟩) (.inl rfl) (.inl rfl) (.inl rfl) (.inl rfl) (.inl ⟨rfl, rfl⟩) (.inl ⟨rfl, rfl⟩) (.inl rfl) (.inl ⟨rfl, rfl, rfl, rfl, rfl⟩) (.inl ⟨rfl, rfl⟩) (.inl ⟨rfl, rfl, rfl, rfl⟩) (.inl ⟨rfl, rfl, rfl⟩) (.inl rfl) (.inl ⟨rfl, rfl⟩) (.inl ⟨rfl, rfl, rfl, rfl, rfl, rfl, rfl⟩) (.inr rfl) (.inl rfl) (.inl ⟨rfl, rfl, rfl, rfl, rfl, rfl⟩) (.inl ⟨rfl, rfl, rfl, rfl, rfl, rfl, rfl, rfl, rfl, rfl, rfl⟩) (.inl ⟨rfl, rfl, rfl, rfl⟩) (.inl rfl) (.inl rfl) (.inl ⟨rfl, rfl, rfl, rfl, rfl, rfl, rfl, rfl, rfl, rfl, rfl, rfl⟩) (.inl ⟨rfl, rfl⟩) (.inl ⟨rfl, rfl, rfl, rfl, rfl, rfl⟩) (.inl ⟨rfl, rfl, rfl, rfl, rfl, rfl⟩) (.inl ⟨rfl, rfl, rfl, rfl, rfl, rfl, rfl, rfl, rfl, rfl, rfl, rfl⟩) (.inl ⟨rfl, rfl, rfl⟩) (.inl ⟨rfl, rfl, rfl, rfl⟩) (.inl ⟨rfl, rfl, rfl, rfl, rfl⟩) (.inl ⟨rfl, rfl, rfl, rfl, rfl, rfl, rfl, rfl, rfl, rfl⟩) (.inl ⟨rfl, rfl, rfl, rfl, rfl, rfl, rfl, rfl, rfl⟩) (.inl ⟨rfl, rfl, rfl, rfl, rfl, rfl, rfl, rfl, rfl, rfl, rfl, rfl, rfl⟩) (.inl ⟨rfl, rfl, rfl⟩) (.inl ⟨rfl, rfl, rfl, rfl, rfl⟩) (.inl rfl) (.inl rfl) (.inl ⟨rfl, rfl⟩) (.inl ⟨rfl, rfl, rfl, rfl, rfl, rfl, rfl, rfl, rfl, rfl, rfl, rfl, rfl⟩) (.inl rfl) (.inl rfl) (.inl ⟨rfl, rfl, rfl⟩) (.inl rfl)

theorem dlPlace_frame (s : State) (a1 : DlFrame) : Frame touches28 s (State.dlPlace s a1).1 := by
  have hs := Frame.refl touches28 s
  unfold State.dlPlace
  split
  · rename_i z0 z1 z2 z3
    have h4 : Frame touches28 s z1 := Frame.pair z3 (by
        refine Frame.after ?_ (Frame.mono rfl (nodeGet_frame _ _))
        exact hs)
    split
    · rename_i z5 z6 z7 z8
      have h9 : Frame touches28 s z6 := Frame.pair z8 (by
          refine Frame.after ?_ (Frame.mono rfl (selectRoute_frame _ _))
          exact h4)
      split
      · dsimp only
        exact h9
      · dsimp only
        exact h9
      · dsimp only
        exact h9

theorem dlFree_frame (s : State) (a1 : DlFrame) : Frame touches7 s (State.dlFree s a1) := by
  have hs := Frame.refl touches7 s
  unfold State.dlFree
  split
  · exact hs
  · refine Frame.after ?_ (Frame.mono rfl (ingressFree_frame _ _ _))
    exact hs

theorem pfxRoute_frame (s : State) (a1 : Bytes) : Frame touches27 s (State.pfxRoute s a1).1 := by
  have hs := Frame.refl touches27 s
  unfold State.pfxRoute
  split
  · rename_i z0 z1 z2 z3
    have h4 : Frame touches27 s z1 := Frame.pair z3 (by
        refine Frame.after ?_ (Frame.mono rfl (prefixLookup_frame _ _))
        exact hs)
    extract_lets -merge -useContext -underBinder x5
    clear_value x5
    split
    · dsimp only
      exact h4
    · refine Frame.iteFst (fun _ => ?_) (fun _ => ?_)
      · dsimp only
        exact h4
      · split
        · rename_i z6 z7 z8 z9
          have h10 : Frame touches27 s z7 := Frame.pair z9 (by
              split
              · dsimp only
                exact h4
              · refine Frame.iteFst (fun _ => ?_) (fun _ => ?_)
                · refine Frame.after ?_ (Frame.mono rfl (resolveIn_frame _ _ _ _))
                  exact h4
                · dsimp only
                  exact h4
              · refine Frame.after ?_ (Frame.mono rfl (resolveIn_frame _ _ _ _))
                exact h4
              · dsimp only
                exact h4
              · dsimp only
                exact h4)
          split
          · dsimp only
            exact h10
          · dsimp only
            refine Frame.after ?_ (Frame.mono rfl (cnt_frame _ _))
            exact h10

theorem dlToHost_frame (s : State) (a1 : DlFrame) : Frame touches10 s (State.dlToHost s a1) := by
  have hs := Frame.refl touches10 s
  unfold State.dlToHost
  split
  · refine Frame.after ?_ (Frame.mono rfl (completeFrame_frame _ _ _))
    exact hs
  · refine Frame.after ?_ (Frame.mono rfl (ethToHost_frame _ _ _ _ _))
    exact hs

theorem dlResolve_frame (s : State) (a1 : DlFrame) : Frame touches202 s (State.dlResolve s a1).1 := by
  have hs := Frame.refl touches202 s
  unfold State.dlResolve
  extract_lets -merge -useContext -underBinder x0
  clear_value x0
  refine Frame.iteFst (fun _ => ?_) (fun _ => ?_)
  · split
    · rename_i z1 z2 z3 z4
      have h5 : Frame touches202 s z2 := Frame.pair z4 (by
          refine Frame.after ?_ (Frame.mono rfl (nodeGet_frame _ _))
          exact hs)
      refine Frame.iteFst (fun _ => ?_) (fun _ => ?_)
      · dsimp only
        exact h5
      · dsimp only
        refine Frame.after ?_ (Frame.mono rfl (completeFrame_frame _ _ _))
        refine Frame.after ?_ (Frame.mono rfl (dlFree_frame _ _))
        exact h5
  · split
    · dsimp only
      refine Frame.after ?_ (Frame.mono rfl (completeFrame_frame _ _ _))
      refine Frame.after ?_ (Frame.mono rfl (dlFree_frame _ _))
      refine Frame.after ?_ (Frame.mono rfl (cnt_frame _ _))
      exact hs
    · split
      · rename_i z6 z7 z8 z9
        have h10 : Frame touches202 s z7 := Frame.pair z9 (by
            refine Frame.after ?_ (Frame.mono rfl (pfxRoute_frame _ _))
            exact hs)
        split
        · dsimp only
          refine Frame.after ?_ (Frame.mono rfl (dlToHost_frame _ _))
          exact h10
        · dsimp only
          refine Frame.after ?_ (Frame.mono rfl (completeFrame_frame _ _ _))
          refine Frame.after ?_ (Frame.mono rfl (dlFree_frame _ _))
          exact h10
        · extract_lets -merge -useContext -underBinder x11
          clear_value x11
          split
          · refine Frame.iteFst (fun _ => ?_) (fun _ => ?_)
            · dsimp only
              exact h10
            · dsimp only
              refine Frame.after ?_ (Frame.mono rfl (dlToHost_frame _ _))
              refine Frame.after ?_ (Frame.mono rfl (cnt_frame _ _))
              exact h10
          · dsimp only
            refine Frame.after ?_ (Frame.mono rfl (dlToHost_frame _ _))
            refine Frame.after ?_ (Frame.mono rfl (cnt_frame _ _))
            exact h10

theorem dlEnqueue_frame (s : State) (a1 : DlFrame) (a2 : Region) (a3 : Nat) (a4 : Nat) (a5 : Option (Nat × Nat)) : Frame touches33 s (State.dlEnqueue s a1 a2 a3 a4 a5) := by
  have hs := Frame.refl touches33 s
  unfold State.dlEnqueue
  split
  · rename_i z0 z1 z2 z3
    have h4 : Frame touches33 s z1 := Frame.pair z3 (by
        refine Frame.after ?_ (Frame.mono rfl (stamp_frame _ _ _ _ _))
        exact hs)
    extract_lets -merge -useContext -underBinder x5 x6 x7 x8
    clear_value x5
    clear_value x6
    clear_value x7
    have h9 : Frame touches33 s x8 := by
      unfold x8
      refine Frame.after ?_ (Frame.mono rfl (setQueue_frame _ _ _))
      refine Frame.after ?_ (Frame.mono rfl (dlFree_frame _ _))
      refine Frame.after ?_ (Frame.mono rfl (used_frame _))
      exact h4
    clear_value x8
    refine Frame.ite (fun _ => ?_) (fun _ => ?_)
    · refine Frame.after ?_ (Frame.mono rfl (porchBook_frame _ _))
      exact h9
    · exact h9

theorem dlStore_frame (s : State) (a1 : DlFrame) : Frame touches33 s (State.dlStore s a1).1 := by
  have hs := Frame.refl touches33 s
  unfold State.dlStore
  split
  · rename_i z0 z1 z2 z3
    have h4 : Frame touches33 s z1 := Frame.pair z3 (by
        refine Frame.after ?_ (Frame.mono rfl (dlPlace_frame _ _))
        exact hs)
    split
    · dsimp only
      refine Frame.after ?_ (Frame.mono rfl (completeFrame_frame _ _ _))
      refine Frame.after ?_ (Frame.mono rfl (dlFree_frame _ _))
      refine Frame.after ?_ (Frame.mono rfl (noRoute_frame _))
      exact h4
    · refine Frame.iteFst (fun _ => ?_) (fun _ => ?_)
      · dsimp only
        refine Frame.after ?_ (Frame.mono rfl (completeFrame_frame _ _ _))
        refine Frame.after ?_ (Frame.mono rfl (dlFree_frame _ _))
        refine Frame.after ?_ (Frame.mono rfl (cnt_frame _ _))
        exact h4
      · refine Frame.iteFst (fun _ => ?_) (fun _ => ?_)
        · dsimp only
          refine Frame.after ?_ (Frame.mono rfl (dlEnqueue_frame _ _ _ _ _ _))
          exact h4
        · dsimp only
          refine Frame.ite (fun _ => ?_) (fun _ => ?_)
          · exact h4
          · refine Frame.after ?_ (Frame.mono rfl (stk_frame _ _ _))
            refine Frame.after ?_ (Frame.mono rfl (cnt_frame _ _))
            exact h4

theorem dlServe_frame (s : State) (a1 : Nat) (a2 : DlFrame) : Frame touches33 s (State.dlServe s a1 a2) := by
  have hs := Frame.refl touches33 s
  unfold State.dlServe
  extract_lets -merge -useContext -underBinder x0 x1
  have h2 : Frame touches33 s x0 := by
    unfold x0
    refine Frame.after ?_ (Frame.mono rfl (setStaging_frame _ _))
    exact hs
  clear_value x0
  have h3 : ∀ y4 y5, Frame touches33 y4 (x1 y4 y5) := by
    intro y4 y5
    have h6 := Frame.refl touches33 y4
    unfold x1
    extract_lets -merge -useContext -underBinder x7
    have h8 : Frame touches33 y4 x7 := by
      unfold x7
      refine Frame.after ?_ (Frame.mono rfl (setStaging_frame _ _))
      exact h6
    clear_value x7
    split
    · extract_lets -merge -useContext -underBinder x9
      exact Frame.upd h8 (.inl rfl) (.inl rfl) (.inr rfl) (.inl rfl) (.inr rfl) (.inr rfl) (.inl rfl) (.inl rfl) (.inl rfl) (.inl rfl) (.inl ⟨rfl, rfl, rfl⟩) (.inl rfl) (.inl ⟨rfl, rfl, rfl⟩) (.inl ⟨rfl, rfl⟩) (.inl ⟨rfl, rfl, rfl, rfl, rfl, rfl, rfl, rfl⟩) (.inl ⟨rfl, rfl⟩) (.inl ⟨rfl, rfl, rfl, rfl, rfl, rfl, rfl, rfl, rfl, rfl⟩) (.inl ⟨rfl, rfl⟩) (.inl ⟨rfl, rfl⟩) (.inl rfl) (.inl rfl) (.inl rfl) (.inl rfl) (.inl ⟨rfl, rfl, rfl, rfl, rfl, rfl, rfl, rfl, rfl⟩) (.inl ⟨rfl, rfl, rfl, rfl, rfl, rfl, rfl, rfl, rfl⟩) (.inl ⟨rfl, rfl, rfl⟩) (.inl ⟨rfl, rfl, rfl, rfl, rfl, rfl, rfl, rfl, rfl, rfl, rfl, rfl, rfl, rfl, rfl, rfl, rfl, rfl, rfl, rfl, rfl, rfl, rfl, rfl, rfl, rfl, rfl⟩) (.inl ⟨rfl, rfl, rfl, rfl, rfl, rfl, rfl, rfl, rfl, rfl, rfl, rfl⟩) (.inl ⟨rfl, rfl, rfl, rfl, rfl, rfl, rfl, rfl, rfl⟩) (.inl ⟨rfl, rfl, rfl⟩) (.inl ⟨rfl, rfl, rfl⟩) (.inl ⟨rfl, rfl, rfl, rfl, rfl, rfl, rfl, rfl, rfl⟩) (.inl rfl) (.inl rfl) (.inl rfl) (.inl rfl) (.inr rfl) (.inr rfl) (.inr rfl) (.inl ⟨rfl, rfl, rfl, rfl, rfl⟩) (.inr rfl) (.inl ⟨rfl, rfl, rfl, rfl⟩) (.inl ⟨rfl, rfl, rfl⟩) (.inl rfl) (.inr rfl) (.inr rfl) (.inr rfl) (.inr rfl) (.inr rfl) (.inl ⟨rfl, rfl, rfl, rfl, rfl, rfl, rfl, rfl, rfl, rfl, rfl⟩) (.inl ⟨rfl, rfl, rfl, rfl⟩) (.inl rfl) (.inr rfl) (.inl ⟨rfl, rfl, rfl, rfl, rfl, rfl, rfl, rfl, rfl, rfl, rfl, rfl⟩) (.inl ⟨rfl, rfl⟩) (.inl ⟨rfl, rfl, rfl, rfl, rfl, rfl⟩) (.inl ⟨rfl, rfl, rfl, rfl, rfl, rfl⟩) (.inl ⟨rfl, rfl, rfl, rfl, rfl, rfl, rfl, rfl, rfl, rfl, rfl, rfl⟩) (.inl ⟨rfl, rfl, rfl⟩) (.inl ⟨rfl, rfl, rfl, rfl⟩) (.inl ⟨rfl, rfl, rfl, rfl, rfl⟩) (.inl ⟨rfl, rfl, rfl, rfl, rfl, rfl, rfl, rfl, rfl, rfl⟩) (.inl ⟨rfl, rfl, rfl, rfl, rfl, rfl, rfl, rfl, rfl⟩) (.inr rfl) (.inl ⟨rfl, rfl, rfl⟩) (.inl ⟨rfl, rfl, rfl, rfl, rfl⟩) (.inl rfl) (.inl rfl) (.inr rfl) (.inr rfl) (.inl rfl) (.inl rfl) (.inr rfl) (.inl rfl)
    · exact h8
  clear_value x1
  split
  · rename_i z10 z11 z12 z13
    have h14 : Frame touches33 s z11 := Frame.pair z13 (by
        refine Frame.iteFst (fun _ => ?_) (fun _ => ?_)
        · dsimp only
          exact h2
        · refine Frame.after ?_ (Frame.mono rfl (dlResolve_frame _ _))
          exact h2)
    split
    · exact h14
    · split
      · rename_i z15 z16 z17 z18
        have h19 : Frame touches33 s z16 := Frame.pair z18 (by
            refine Frame.after ?_ (Frame.mono rfl (dlStore_frame _ _))
            exact h14)
        refine Frame.ite (fun _ => ?_) (fun _ => ?_)
        · refine Frame.after ?_ (h3 _ _)
          exact h19
        · exact h19

theorem macFrame_frame (s : State) (a1 : Region) (a2 : RxJob) : Frame touches110 s (State.macFrame s a1 a2) := by
  have hs := Frame.refl touches110 s
  unfold State.macFrame
  extract_lets -merge -useContext -underBinder x0 x1 x2
  have h3 : Frame touches110 s x1 := by
    unfold x1
    refine Frame.after ?_ (Frame.mono rfl (ieCount_frame _ _ _))
    exact hs
  clear_value x1
  have h4 : Frame touches110 s x2 := by
    unfold x2
    refine Frame.ite (fun _ => ?_) (fun _ => ?_)
    · refine Frame.after ?_ (Frame.mono rfl (pantryFree_frame _ _ _))
      exact h3
    · refine Frame.ite (fun _ => ?_) (fun _ => ?_)
      · refine Frame.after ?_ (Frame.mono rfl (rxAck_frame _ _ _))
        exact h3
      · split
        · rename_i z5 z6 z7 z8
          have h9 : Frame touches110 s z6 := Frame.pair z8 (by
              refine Frame.after ?_ (Frame.mono rfl (rxSource_frame _ _ _))
              exact h3)
          split
          · refine Frame.after ?_ (Frame.mono rfl (rxUnknown_frame _ _ _))
            exact h9
          · refine Frame.after ?_ (Frame.mono rfl (rxKnown_frame _ _ _ _))
            exact h9
  clear_value x2
  refine Frame.ite (fun _ => ?_) (fun _ => ?_)
  · refine Frame.after ?_ (Frame.mono rfl (strobeResume_frame _ _ _ _))
    refine Frame.after ?_ (Frame.mono rfl (pantryFree_frame _ _ _))
    exact hs
  · refine Frame.after ?_ (Frame.mono rfl (strobeResume_frame _ _ _ _))
    exact h4

theorem floodCopy_frame (s : State) (a1 : Nat) (a2 : Booking) (a3 : DlFrame) (a4 : Bytes) (a5 : Byte) (a6 : Region) : Frame touches31 s (State.floodCopy s a1 a2 a3 a4 a5 a6) := by
  have hs := Frame.refl touches31 s
  unfold State.floodCopy
  extract_lets -merge -useContext -underBinder x0 x1
  clear_value x0
  clear_value x1
  split
  · rename_i z2 z3 z4 z5
    have h6 : Frame touches31 s z3 := Frame.pair z5 (by
        refine Frame.after ?_ (Frame.mono rfl (stampFlood_frame _ _ _))
        exact hs)
    refine Frame.after ?_ (Frame.mono rfl (setBooking_frame _ _ _))
    exact h6

theorem floodRelease_frame (s : State) (a1 : Nat) (a2 : Booking) (a3 : DlFrame) (a4 : Bytes) (a5 : Byte) : Frame touches214 s (State.floodRelease s a1 a2 a3 a4 a5) := by
  have hs := Frame.refl touches214 s
  unfold State.floodRelease
  extract_lets -merge -useContext -underBinder x0
  have h1 : Frame touches214 s x0 := by
    unfold x0
    refine Frame.after ?_ (Frame.mono rfl (cnt_frame _ _))
    exact hs
  clear_value x0
  split
  · refine Frame.after ?_ (Frame.mono rfl (frameReturn_frame _ _))
    exact h1
  · extract_lets -merge -useContext -underBinder x2 x3 x4 x5
    have h6 : Frame touches214 s x2 := by
      unfold x2
      refine Frame.after ?_ (Frame.mono rfl (setBooking_frame _ _ _))
      exact h1
    clear_value x2
    have h7 : Frame touches214 s x3 := by
      unfold x3
      refine Frame.foldl ?_ (fun x8 y9 h10 => ?_)
      · exact h6
      · refine Frame.after ?_ (Frame.mono rfl (floodCopy_frame _ _ _ _ _ _ _))
        exact h10
    clear_value x3
    have h11 : Frame touches214 s x5 := by
      unfold x5
      exact Frame.upd h7 (.inl rfl) (.inl rfl) (.inr rfl) (.inl rfl) (.inr rfl) (.inr rfl) (.inl rfl) (.inl rfl) (.inl rfl) (.inl rfl) (.inl ⟨rfl, rfl, rfl⟩) (.inl rfl) (.inl ⟨rfl, rfl, rfl⟩) (.inl ⟨rfl, rfl⟩) (.inl ⟨rfl, rfl, rfl, rfl, rfl, rfl, rfl, rfl⟩) (.inl ⟨rfl, rfl⟩) (.inl ⟨rfl, rfl, rfl, rfl, rfl, rfl, rfl, rfl, rfl, rfl⟩) (.inl ⟨rfl, rfl⟩) (.inl ⟨rfl, rfl⟩) (.inl rfl) (.inl rfl) (.inl rfl) (.inl rfl) (.inl ⟨rfl, rfl, rfl, rfl, rfl, rfl, rfl, rfl, rfl⟩) (.inl ⟨rfl, rfl, rfl, rfl, rfl, rfl, rfl, rfl, rfl⟩) (.inr rfl) (.inl ⟨rfl, rfl, rfl, rfl, rfl, rfl, rfl, rfl, rfl, rfl, rfl, rfl, rfl, rfl, rfl, rfl, rfl, rfl, rfl, rfl, rfl, rfl, rfl, rfl, rfl, rfl, rfl⟩) (.inl ⟨rfl, rfl, rfl, rfl, rfl, rfl, rfl, rfl, rfl, rfl, rfl, rfl⟩) (.inl ⟨rfl, rfl, rfl, rfl, rfl, rfl, rfl, rfl, rfl⟩) (.inl ⟨rfl, rfl, rfl⟩) (.inl ⟨rfl, rfl, rfl⟩) (.inl ⟨rfl, rfl, rfl, rfl, rfl, rfl, rfl, rfl, rfl⟩) (.inl rfl) (.inl rfl) (.inl rfl) (.inr rfl) (.inr rfl) (.inr rfl) (.inr rfl) (.inr rfl) (.inr rfl) (.inl ⟨rfl, rfl, rfl, rfl⟩) (.inl ⟨rfl, rfl, rfl⟩) (.inl rfl) (.inr rfl) (.inr rfl) (.inr rfl) (.inr rfl) (.inr rfl) (.inl ⟨rfl, rfl, rfl, rfl, rfl, rfl, rfl, rfl, rfl, rfl, rfl⟩) (.inl ⟨rfl, rfl, rfl, rfl⟩) (.inl rfl) (.inr rfl) (.inl ⟨rfl, rfl, rfl, rfl, rfl, rfl, rfl, rfl, rfl, rfl, rfl, rfl⟩) (.inl ⟨rfl, rfl⟩) (.inl ⟨rfl, rfl, rfl, rfl, rfl, rfl⟩) (.inl ⟨rfl, rfl, rfl, rfl, rfl, rfl⟩) (.inl ⟨rfl, rfl, rfl, rfl, rfl, rfl, rfl, rfl, rfl, rfl, rfl, rfl⟩) (.inl ⟨rfl, rfl, rfl⟩) (.inl ⟨rfl, rfl, rfl, rfl⟩) (.inl ⟨rfl, rfl, rfl, rfl, rfl⟩) (.inl ⟨rfl, rfl, rfl, rfl, rfl, rfl, rfl, rfl, rfl, rfl⟩) (.inl ⟨rfl, rfl, rfl, rfl, rfl, rfl, rfl, rfl, rfl⟩) (.inr rfl) (.inl ⟨rfl, rfl, rfl⟩) (.inl ⟨rfl, rfl, rfl, rfl, rfl⟩) (.inl rfl) (.inl rfl) (.inr rfl) (.inr rfl) (.inl rfl) (.inl rfl) (.inr rfl) (.inl rfl)
    clear_value x5
    refine Frame.foldl ?_ (fun x12 y13 h14 => ?_)
    · exact h11
    · refine Frame.after ?_ (Frame.mono rfl (assign_frame _ _))
      exact h14

theorem bookLate_frame (s : State) (a1 : Nat) (a2 : Booking) : Frame touches33 s (State.bookLate s a1 a2) := by
  have hs := Frame.refl touches33 s
  unfold State.bookLate
  refine Frame.after ?_ (Frame.mono rfl (windowLate_frame _ _ _))
  refine Frame.after ?_ (Frame.mono rfl (guaranteeBroken_frame _ _ _))
  refine Frame.after ?_ (Frame.mono rfl (cnt_frame _ _))
  exact hs

theorem bookRelease_frame (s : State) (a1 : Nat) (a2 : Booking) (a3 : DlFrame) : Frame touches227 s (State.bookRelease s a1 a2 a3) := by
  have hs := Frame.refl touches227 s
  unfold State.bookRelease
  extract_lets -merge -useContext -underBinder x0
  clear_value x0
  split
  · rename_i z1 z2 z3 z4
    have h5 : Frame touches227 s z2 := Frame.pair z4 (by
        refine Frame.after ?_ (Frame.mono rfl (formData_frame _ _ _ _ _ _))
        exact hs)
    split
    · refine Frame.after ?_ (Frame.mono rfl (bookLate_frame _ _ _))
      exact h5
    · extract_lets -merge -useContext -underBinder x6
      have h7 : Frame touches227 s x6 := by
        unfold x6
        refine Frame.after ?_ (Frame.mono rfl (setHead_frame _ _ _))
        exact h5
      clear_value x6
      refine Frame.ite (fun _ => ?_) (fun _ => ?_)
      · refine Frame.after ?_ (Frame.mono rfl (floodRelease_frame _ _ _ _ _ _))
        exact h7
      · refine Frame.after ?_ (Frame.mono rfl (assign_frame _ _))
        refine Frame.after ?_ (Frame.mono rfl (setBooking_frame _ _ _))
        exact h7

theorem dutyAge_frame (s : State) (a1 : Region) : Frame touches169 s (State.dutyAge s a1) := by
  have hs := Frame.refl touches169 s
  unfold State.dutyAge
  exact Frame.upd hs (.inl rfl) (.inl rfl) (.inl ⟨rfl, rfl⟩) (.inl rfl) (.inl rfl) (.inl rfl) (.inl rfl) (.inl rfl) (.inl rfl) (.inl rfl) (.inl ⟨rfl, rfl, rfl⟩) (.inl rfl) (.inl ⟨rfl, rfl, rfl⟩) (.inl ⟨rfl, rfl⟩) (.inl ⟨rfl, rfl, rfl, rfl, rfl, rfl, rfl, rfl⟩) (.inl ⟨rfl, rfl⟩) (.inl ⟨rfl, rfl, rfl, rfl, rfl, rfl, rfl, rfl, rfl, rfl⟩) (.inl ⟨rfl, rfl⟩) (.inl ⟨rfl, rfl⟩) (.inl rfl) (.inl rfl) (.inl rfl) (.inl rfl) (.inl ⟨rfl, rfl, rfl, rfl, rfl, rfl, rfl, rfl, rfl⟩) (.inl ⟨rfl, rfl, rfl, rfl, rfl, rfl, rfl, rfl, rfl⟩) (.inl ⟨rfl, rfl, rfl⟩) (.inl ⟨rfl, rfl, rfl, rfl, rfl, rfl, rfl, rfl, rfl, rfl, rfl, rfl, rfl, rfl, rfl, rfl, rfl, rfl, rfl, rfl, rfl, rfl, rfl, rfl, rfl, rfl, rfl⟩) (.inl ⟨rfl, rfl, rfl, rfl, rfl, rfl, rfl, rfl, rfl, rfl, rfl, rfl⟩) (.inl ⟨rfl, rfl, rfl, rfl, rfl, rfl, rfl, rfl, rfl⟩) (.inl ⟨rfl, rfl, rfl⟩) (.inl ⟨rfl, rfl, rfl⟩) (.inl ⟨rfl, rfl, rfl, rfl, rfl, rfl, rfl, rfl, rfl⟩) (.inl rfl) (.inl rfl) (.inl rfl) (.inr rfl) (.inl ⟨rfl, rfl⟩) (.inl ⟨rfl, rfl⟩) (.inl rfl) (.inl ⟨rfl, rfl, rfl, rfl, rfl⟩) (.inl ⟨rfl, rfl⟩) (.inl ⟨rfl, rfl, rfl, rfl⟩) (.inl ⟨rfl, rfl, rfl⟩) (.inl rfl) (.inl ⟨rfl, rfl⟩) (.inl ⟨rfl, rfl, rfl, rfl, rfl, rfl, rfl⟩) (.inl ⟨rfl, rfl, rfl, rfl, rfl⟩) (.inl rfl) (.inl ⟨rfl, rfl, rfl, rfl, rfl, rfl⟩) (.inl ⟨rfl, rfl, rfl, rfl, rfl, rfl, rfl, rfl, rfl, rfl, rfl⟩) (.inl ⟨rfl, rfl, rfl, rfl⟩) (.inl rfl) (.inl rfl) (.inl ⟨rfl, rfl, rfl, rfl, rfl, rfl, rfl, rfl, rfl, rfl, rfl, rfl⟩) (.inl ⟨rfl, rfl⟩) (.inl ⟨rfl, rfl, rfl, rfl, rfl, rfl⟩) (.inl ⟨rfl, rfl, rfl, rfl, rfl, rfl⟩) (.inl ⟨rfl, rfl, rfl, rfl, rfl, rfl, rfl, rfl, rfl, rfl, rfl, rfl⟩) (.inl ⟨rfl, rfl, rfl⟩) (.inl ⟨rfl, rfl, rfl, rfl⟩) (.inl ⟨rfl, rfl, rfl, rfl, rfl⟩) (.inl ⟨rfl, rfl, rfl, rfl, rfl, rfl, rfl, rfl, rfl, rfl⟩) (.inl ⟨rfl, rfl, rfl, rfl, rfl, rfl, rfl, rfl, rfl⟩) (.inl ⟨rfl, rfl, rfl, rfl, rfl, rfl, rfl, rfl, rfl, rfl, rfl, rfl, rfl⟩) (.inl ⟨rfl, rfl, rfl⟩) (.inl ⟨rfl, rfl, rfl, rfl, rfl⟩) (.inl rfl) (.inl rfl) (.inl ⟨rfl, rfl⟩) (.inl ⟨rfl, rfl, rfl, rfl, rfl, rfl, rfl, rfl, rfl, rfl, rfl, rfl, rfl⟩) (.inl rfl) (.inl rfl) (.inl ⟨rfl, rfl, rfl⟩) (.inl rfl)

theorem bookDeadline_frame (s : State) (a1 : Nat) : Frame touches53 s (State.bookDeadline s a1) := by
  have hs := Frame.refl touches53 s
  unfold State.bookDeadline
  split
  · exact hs
  · split
    · exact hs
    · refine Frame.ite (fun _ => ?_) (fun _ => ?_)
      · exact hs
      · refine Frame.ite (fun _ => ?_) (fun _ => ?_)
        · split
          · refine Frame.after ?_ (Frame.mono rfl (jobEnd_frame _ _ _ _))
            exact hs
          · exact hs
        · refine Frame.ite (fun _ => ?_) (fun _ => ?_)
          · refine Frame.after ?_ (Frame.mono rfl (bookLate_frame _ _ _))
            exact hs
          · refine Frame.after ?_ (Frame.mono rfl (floodDone_frame _ _ _))
            refine Frame.after ?_ (Frame.mono rfl (setBooking_frame _ _ _))
            refine Frame.after ?_ (Frame.mono rfl (guaranteeBroken_frame _ _ _))
            refine Frame.after ?_ (Frame.mono rfl (cnt_frame _ _))
            exact hs

end Sys2Proof
end

