-- ==== Sys2Proof/Laws/FrameEthOps.lean ====
section
/-! SUPPORT. Laws/FrameEthOps.lean: what each operation of Machine/EthOps.lean leaves as it was. -/

namespace Sys2Proof

open Sys2Proof.Machine

theorem heldDiscard_frame (s : State) (a1 : Nat) : Frame touches10 s (State.heldDiscard s a1) := by
  have hs := Frame.refl touches10 s
  unfold State.heldDiscard
  extract_lets -merge -useContext -underBinder x0 x1
  clear_value x1
  refine Frame.foldl ?_ (fun x2 y3 h4 => ?_)
  · refine Frame.after ?_ (Frame.mono rfl (setRing_frame _ _ _))
    exact hs
  · refine Frame.after ?_ (Frame.mono rfl (recFree_frame _ _))
    refine Frame.ite (fun _ => ?_) (fun _ => ?_)
    · refine Frame.after ?_ (Frame.mono rfl (cnt_frame _ _))
      exact h4
    · exact h4

theorem submissionsDiscard_frame (s : State) (a1 : Nat) : Frame touches78 s (State.submissionsDiscard s a1) := by
  have hs := Frame.refl touches78 s
  unfold State.submissionsDiscard
  extract_lets -merge -useContext -underBinder x0 x1 x2
  clear_value x0
  have h3 : Frame touches78 s x1 := by
    unfold x1
    refine Frame.after ?_ (Frame.mono rfl (setStaging_frame _ _))
    exact hs
  clear_value x1
  have h4 : Frame touches78 s x2 := by
    unfold x2
    refine Frame.foldl ?_ (fun x5 y6 h7 => ?_)
    · exact h3
    · refine Frame.after ?_ (Frame.mono rfl (completeFrame_frame _ _ _))
      exact h7
  clear_value x2
  refine Frame.foldl ?_ (fun x8 y9 h10 => ?_)
  · exact h4
  · refine Frame.after ?_ (Frame.mono rfl (queueDiscard_frame _ _))
    exact h10

theorem ringResetNow_frame (s : State) (a1 : Nat) : Frame touches136 s (State.ringResetNow s a1) := by
  have hs := Frame.refl touches136 s
  unfold State.ringResetNow
  extract_lets -merge -useContext -underBinder x0 x1 x2
  have h3 : Frame touches136 s x0 := by
    unfold x0
    refine Frame.after ?_ (Frame.mono rfl (heldDiscard_frame _ _))
    exact hs
  clear_value x0
  clear_value x1
  have h4 : Frame touches136 s x2 := by
    unfold x2
    refine Frame.after ?_ (Frame.mono rfl (setRing_frame _ _ _))
    exact h3
  clear_value x2
  refine Frame.ite (fun _ => ?_) (fun _ => ?_)
  · refine Frame.after ?_ (Frame.mono rfl (submissionsDiscard_frame _ _))
    exact h4
  · refine Frame.ite (fun _ => ?_) (fun _ => ?_)
    · refine Frame.after ?_ (Frame.mono rfl (mailTrim_frame _ _))
      exact h4
    · exact h4

theorem stage_frame (s : State) (a1 : DlFrame) : Frame touches184 s (State.stage s a1) := by
  have hs := Frame.refl touches184 s
  unfold State.stage
  extract_lets -merge -useContext -underBinder x0
  have h1 : Frame touches184 s x0 := by
    unfold x0
    refine Frame.after ?_ (Frame.mono rfl (setStaging_frame _ _))
    exact hs
  clear_value x0
  refine Frame.after ?_ (Frame.mono rfl (jobRequest_frame _ _))
  exact h1

theorem descPassed_frame (s : State) (a1 : Nat) : Frame touches12 s (State.descPassed s a1) := by
  have hs := Frame.refl touches12 s
  unfold State.descPassed
  extract_lets -merge -useContext -underBinder x0
  clear_value x0
  refine Frame.after ?_ (Frame.mono rfl (ringCount_frame _ _))
  refine Frame.after ?_ (Frame.mono rfl (cnt_frame _ _))
  refine Frame.after ?_ (Frame.mono rfl (setRing_frame _ _ _))
  exact hs

theorem descTake_frame (s : State) (a1 : Nat) (a2 : Desc) (a3 : Option Bytes) : Frame touches211 s (State.descTake s a1 a2 a3) := by
  have hs := Frame.refl touches211 s
  unfold State.descTake
  extract_lets -merge -useContext -underBinder x0
  refine Frame.ite (fun _ => ?_) (fun _ => ?_)
  · refine Frame.after ?_ (Frame.mono rfl (descPassed_frame _ _))
    refine Frame.ite (fun _ => ?_) (fun _ => ?_)
    · refine Frame.after ?_ (Frame.mono rfl (completion_frame _ _ _ _ _ _ _))
      refine Frame.after ?_ (Frame.mono rfl (used_frame _))
      exact hs
    · exact hs
  · split
    · refine Frame.after ?_ (Frame.mono rfl (ringStop_frame _ _))
      refine Frame.after ?_ (Frame.mono rfl (completion_frame _ _ _ _ _ _ _))
      exact hs
    · extract_lets -merge -useContext -underBinder x1 x2 x3 x4 x5
      clear_value x1
      clear_value x2
      clear_value x3
      clear_value x4
      refine Frame.ite (fun _ => ?_) (fun _ => ?_)
      · refine Frame.ite (fun _ => ?_) (fun _ => ?_)
        · refine Frame.after ?_ (Frame.mono rfl (descPassed_frame _ _))
          refine Frame.after ?_ (Frame.mono rfl (ethSend_frame _ _ _))
          exact hs
        · exact hs
      · refine Frame.ite (fun _ => ?_) (fun _ => ?_)
        · exact Frame.upd hs (.inl rfl) (.inl rfl) (.inr rfl) (.inl rfl) (.inr rfl) (.inr rfl) (.inl rfl) (.inl rfl) (.inl rfl) (.inl rfl) (.inl ⟨rfl, rfl, rfl⟩) (.inl rfl) (.inl ⟨rfl, rfl, rfl⟩) (.inl ⟨rfl, rfl⟩) (.inl ⟨rfl, rfl, rfl, rfl, rfl, rfl, rfl, rfl⟩) (.inl ⟨rfl, rfl⟩) (.inl ⟨rfl, rfl, rfl, rfl, rfl, rfl, rfl, rfl, rfl, rfl⟩) (.inl ⟨rfl, rfl⟩) (.inl ⟨rfl, rfl⟩) (.inl rfl) (.inl rfl) (.inl rfl) (.inl rfl) (.inl ⟨rfl, rfl, rfl, rfl, rfl, rfl, rfl, rfl, rfl⟩) (.inl ⟨rfl, rfl, rfl, rfl, rfl, rfl, rfl, rfl, rfl⟩) (.inl ⟨rfl, rfl, rfl⟩) (.inl ⟨rfl, rfl, rfl, rfl, rfl, rfl, rfl, rfl, rfl, rfl, rfl, rfl, rfl, rfl, rfl, rfl, rfl, rfl, rfl, rfl, rfl, rfl, rfl, rfl, rfl, rfl, rfl⟩) (.inl ⟨rfl, rfl, rfl, rfl, rfl, rfl, rfl, rfl, rfl, rfl, rfl, rfl⟩) (.inl ⟨rfl, rfl, rfl, rfl, rfl, rfl, rfl, rfl, rfl⟩) (.inl ⟨rfl, rfl, rfl⟩) (.inl ⟨rfl, rfl, rfl⟩) (.inl ⟨rfl, rfl, rfl, rfl, rfl, rfl, rfl, rfl, rfl⟩) (.inl rfl) (.inl rfl) (.inl rfl) (.inl rfl) (.inl ⟨rfl, rfl⟩) (.inl ⟨rfl, rfl⟩) (.inl rfl) (.inl ⟨rfl, rfl, rfl, rfl, rfl⟩) (.inl ⟨rfl, rfl⟩) (.inl ⟨rfl, rfl, rfl, rfl⟩) (.inl ⟨rfl, rfl, rfl⟩) (.inr rfl) (.inr rfl) (.inr rfl) (.inr rfl) (.inr rfl) (.inr rfl) (.inl ⟨rfl, rfl, rfl, rfl, rfl, rfl, rfl, rfl, rfl, rfl, rfl⟩) (.inl ⟨rfl, rfl, rfl, rfl⟩) (.inl rfl) (.inr rfl) (.inl ⟨rfl, rfl, rfl, rfl, rfl, rfl, rfl, rfl, rfl, rfl, rfl, rfl⟩) (.inl ⟨rfl, rfl⟩) (.inl ⟨rfl, rfl, rfl, rfl, rfl, rfl⟩) (.inl ⟨rfl, rfl, rfl, rfl, rfl, rfl⟩) (.inl ⟨rfl, rfl, rfl, rfl, rfl, rfl, rfl, rfl, rfl, rfl, rfl, rfl⟩) (.inl ⟨rfl, rfl, rfl⟩) (.inl ⟨rfl, rfl, rfl, rfl⟩) (.inl ⟨rfl, rfl, rfl, rfl, rfl⟩) (.inl ⟨rfl, rfl, rfl, rfl, rfl, rfl, rfl, rfl, rfl, rfl⟩) (.inl ⟨rfl, rfl, rfl, rfl, rfl, rfl, rfl, rfl, rfl⟩) (.inl ⟨rfl, rfl, rfl, rfl, rfl, rfl, rfl, rfl, rfl, rfl, rfl, rfl, rfl⟩) (.inl ⟨rfl, rfl, rfl⟩) (.inl ⟨rfl, rfl, rfl, rfl, rfl⟩) (.inl rfl) (.inl rfl) (.inr rfl) (.inr rfl) (.inl rfl) (.inl rfl) (.inr rfl) (.inl rfl)
        · refine Frame.after ?_ (Frame.mono rfl (descPassed_frame _ _))
          refine Frame.after ?_ (Frame.mono rfl (stage_frame _ _))
          exact hs

theorem ptpInsert_frame (s : State) (a1 : Nat) (a2 : Nat) (a3 : Bytes) : Frame touches94 s (State.ptpInsert s a1 a2 a3).1 := by
  have hs := Frame.refl touches94 s
  unfold State.ptpInsert
  split
  · dsimp only
    exact hs
  · extract_lets -merge -useContext -underBinder x0 x1
    clear_value x0
    refine Frame.iteFst (fun _ => ?_) (fun _ => ?_)
    · refine Frame.iteFst (fun _ => ?_) (fun _ => ?_)
      · dsimp only
        refine Frame.after ?_ (Frame.mono rfl (event_frame _ _))
        refine Frame.after ?_ (Frame.mono rfl (cnt_frame _ _))
        exact hs
      · dsimp only
        refine Frame.after ?_ (Frame.mono rfl (cnt_frame _ _))
        exact hs
    · dsimp only
      refine Frame.after ?_ (Frame.mono rfl (cnt_frame _ _))
      exact hs

theorem ethDepart_frame (s : State) (a1 : Nat) (a2 : EthOut) : Frame touches217 s (State.ethDepart s a1 a2) := by
  have hs := Frame.refl touches217 s
  unfold State.ethDepart
  extract_lets -merge -useContext -underBinder x0
  clear_value x0
  split
  · rename_i z1 z2 z3 z4
    have h5 : Frame touches217 s z2 := Frame.pair z4 (by
        refine Frame.after ?_ (Frame.mono rfl (ptpInsert_frame _ _ _ _))
        exact hs)
    extract_lets -merge -useContext -underBinder x6
    have h7 : Frame touches217 s x6 := by
      unfold x6
      refine Frame.after ?_ (Frame.mono rfl (out_frame _ _))
      exact h5
    clear_value x6
    split
    · refine Frame.ite (fun _ => ?_) (fun _ => ?_)
      · refine Frame.after ?_ (Frame.mono rfl (completion_frame _ _ _ _ _ _ _))
        exact h7
      · exact h7
    · exact h7

theorem descRead_frame (s : State) (a1 : Nat) (a2 : Option Bytes) (a3 : Option Bytes) : Frame touches211 s (State.descRead s a1 a2 a3) := by
  have hs := Frame.refl touches211 s
  unfold State.descRead
  extract_lets -merge -useContext -underBinder x0
  split
  · refine Frame.after ?_ (Frame.mono rfl (ringStop_frame _ _))
    exact hs
  · extract_lets -merge -useContext -underBinder x1
    clear_value x1
    refine Frame.ite (fun _ => ?_) (fun _ => ?_)
    · refine Frame.after ?_ (Frame.mono rfl (descPassed_frame _ _))
      refine Frame.after ?_ (Frame.mono rfl (cnt_frame _ _))
      exact hs
    · refine Frame.ite (fun _ => ?_) (fun _ => ?_)
      · refine Frame.after ?_ (Frame.mono rfl (descPassed_frame _ _))
        refine Frame.after ?_ (Frame.mono rfl (completion_frame _ _ _ _ _ _ _))
        exact hs
      · refine Frame.after ?_ (Frame.mono rfl (descTake_frame _ _ _ _))
        exact hs

theorem ethReceive_frame (s : State) (a1 : Nat) (a2 : Bytes) : Frame touches231 s (State.ethReceive s a1 a2) := by
  have hs := Frame.refl touches231 s
  unfold State.ethReceive
  extract_lets -merge -useContext -underBinder x0 x1 x2 x3 x4
  clear_value x0
  clear_value x1
  clear_value x2
  clear_value x3
  have h5 : Frame touches231 s x4 := by
    unfold x4
    refine Frame.after ?_ (Frame.mono rfl (pauseCheck_frame _ _))
    refine Frame.after ?_ (Frame.mono rfl (setPort_frame _ _ _))
    exact hs
  clear_value x4
  refine Frame.ite (fun _ => ?_) (fun _ => ?_)
  · refine Frame.after ?_ (Frame.mono rfl (cnt_frame _ _))
    exact hs
  · refine Frame.ite (fun _ => ?_) (fun _ => ?_)
    · exact hs
    · refine Frame.ite (fun _ => ?_) (fun _ => ?_)
      · refine Frame.after ?_ (Frame.mono rfl (cnt_frame _ _))
        exact hs
      · refine Frame.ite (fun _ => ?_) (fun _ => ?_)
        · refine Frame.after ?_ (Frame.mono rfl (stage_frame _ _))
          exact h5
        · refine Frame.after ?_ (Frame.mono rfl (ethToHost_frame _ _ _ _ _))
          exact h5

end Sys2Proof
end

