-- ==== Sys2Proof/Laws/FrameHost.lean ====
section
/-! SUPPORT. Laws/FrameHost.lean: what each operation of Machine/Host.lean leaves as it was. -/

namespace Sys2Proof

open Sys2Proof.Machine

theorem headWrite_frame (s : State) (a1 : Nat) (a2 : Nat) : Frame touches10 s (State.headWrite s a1 a2) := by
  have hs := Frame.refl touches10 s
  unfold State.headWrite
  extract_lets -merge -useContext -underBinder x0 x1
  clear_value x0
  clear_value x1
  refine Frame.ite (fun _ => ?_) (fun _ => ?_)
  · refine Frame.after ?_ (Frame.mono rfl (ringKick_frame _ _))
    refine Frame.after ?_ (Frame.mono rfl (setRing_frame _ _ _))
    exact hs
  · refine Frame.after ?_ (Frame.mono rfl (stk_frame _ _ _))
    exact hs

theorem tailWrite_frame (s : State) (a1 : Nat) (a2 : Nat) : Frame touches135 s (State.tailWrite s a1 a2) := by
  have hs := Frame.refl touches135 s
  unfold State.tailWrite
  extract_lets -merge -useContext -underBinder x0 x1 x2
  clear_value x0
  clear_value x1
  clear_value x2
  refine Frame.foldl ?_ (fun x3 y4 h5 => ?_)
  · refine Frame.after ?_ (Frame.mono rfl (setRing_frame _ _ _))
    exact hs
  · refine Frame.after ?_ (Frame.mono rfl (jobRequest_frame _ _))
    exact h5

theorem onRing_frame {G : List Field} (hG : touches1.all G.contains = true) (s : State) (a1 : RingKind) (a2 : Nat) {a3 : State → Nat → State} (ha3 : ∀ b0 b1, Frame G b0 (a3 b0 b1)) : Frame G s (State.onRing s a1 a2 a3) := by
  have hs := Frame.refl G s
  unfold State.onRing
  refine Frame.ite (fun _ => ?_) (fun _ => ?_)
  · refine Frame.after ?_ (ha3 _ _)
    exact hs
  · refine Frame.after ?_ (Frame.mono hG (Frame.mono rfl (unmapped_frame _)))
    exact hs

theorem wakesDue_frame (s : State) : Frame touches13 s (State.wakesDue s) := by
  have hs := Frame.refl touches13 s
  unfold State.wakesDue
  refine Frame.foldl ?_ (fun x0 y1 h2 => ?_)
  · exact hs
  · refine Frame.after ?_ (Frame.mono rfl (hostWake_frame _ _))
    exact h2

theorem learnsRun_frame (s : State) : Frame touches232 s (State.learnsRun s) := by
  have hs := Frame.refl touches232 s
  unfold State.learnsRun
  refine Frame.foldl ?_ (fun x0 y1 h2 => ?_)
  · exact hs
  · extract_lets -merge -useContext -underBinder x3 x4 x5 x6
    clear_value x3
    have h7 : Frame touches232 s x5 := by
      unfold x5
      exact Frame.upd h2 (.inl rfl) (.inl rfl) (.inr rfl) (.inl rfl) (.inr rfl) (.inl rfl) (.inl rfl) (.inl rfl) (.inl rfl) (.inl rfl) (.inl ⟨rfl, rfl, rfl⟩) (.inl rfl) (.inl ⟨rfl, rfl, rfl⟩) (.inl ⟨rfl, rfl⟩) (.inl ⟨rfl, rfl, rfl, rfl, rfl, rfl, rfl, rfl⟩) (.inl ⟨rfl, rfl⟩) (.inl ⟨rfl, rfl, rfl, rfl, rfl, rfl, rfl, rfl, rfl, rfl⟩) (.inl ⟨rfl, rfl⟩) (.inl ⟨rfl, rfl⟩) (.inl rfl) (.inl rfl) (.inl rfl) (.inl rfl) (.inl ⟨rfl, rfl, rfl, rfl, rfl, rfl, rfl, rfl, rfl⟩) (.inl ⟨rfl, rfl, rfl, rfl, rfl, rfl, rfl, rfl, rfl⟩) (.inl ⟨rfl, rfl, rfl⟩) (.inl ⟨rfl, rfl, rfl, rfl, rfl, rfl, rfl, rfl, rfl, rfl, rfl, rfl, rfl, rfl, rfl, rfl, rfl, rfl, rfl, rfl, rfl, rfl, rfl, rfl, rfl, rfl, rfl⟩) (.inl ⟨rfl, rfl, rfl, rfl, rfl, rfl, rfl, rfl, rfl, rfl, rfl, rfl⟩) (.inl ⟨rfl, rfl, rfl, rfl, rfl, rfl, rfl, rfl, rfl⟩) (.inl ⟨rfl, rfl, rfl⟩) (.inl ⟨rfl, rfl, rfl⟩) (.inl ⟨rfl, rfl, rfl, rfl, rfl, rfl, rfl, rfl, rfl⟩) (.inl rfl) (.inl rfl) (.inl rfl) (.inl rfl) (.inl ⟨rfl, rfl⟩) (.inl ⟨rfl, rfl⟩) (.inl rfl) (.inl ⟨rfl, rfl, rfl, rfl, rfl⟩) (.inr rfl) (.inr rfl) (.inl ⟨rfl, rfl, rfl⟩) (.inr rfl) (.inl ⟨rfl, rfl⟩) (.inl ⟨rfl, rfl, rfl, rfl, rfl, rfl, rfl⟩) (.inl ⟨rfl, rfl, rfl, rfl, rfl⟩) (.inl rfl) (.inl ⟨rfl, rfl, rfl, rfl, rfl, rfl⟩) (.inl ⟨rfl, rfl, rfl, rfl, rfl, rfl, rfl, rfl, rfl, rfl, rfl⟩) (.inl ⟨rfl, rfl, rfl, rfl⟩) (.inl rfl) (.inr rfl) (.inl ⟨rfl, rfl, rfl, rfl, rfl, rfl, rfl, rfl, rfl, rfl, rfl, rfl⟩) (.inl ⟨rfl, rfl⟩) (.inl ⟨rfl, rfl, rfl, rfl, rfl, rfl⟩) (.inl ⟨rfl, rfl, rfl, rfl, rfl, rfl⟩) (.inl ⟨rfl, rfl, rfl, rfl, rfl, rfl, rfl, rfl, rfl, rfl, rfl, rfl⟩) (.inl ⟨rfl, rfl, rfl⟩) (.inl ⟨rfl, rfl, rfl, rfl⟩) (.inl ⟨rfl, rfl, rfl, rfl, rfl⟩) (.inl ⟨rfl, rfl, rfl, rfl, rfl, rfl, rfl, rfl, rfl, rfl⟩) (.inl ⟨rfl, rfl, rfl, rfl, rfl, rfl, rfl, rfl, rfl⟩) (.inr rfl) (.inl ⟨rfl, rfl, rfl⟩) (.inl ⟨rfl, rfl, rfl, rfl, rfl⟩) (.inl rfl) (.inl rfl) (.inr rfl) (.inr rfl) (.inl rfl) (.inl rfl) (.inl ⟨rfl, rfl, rfl⟩) (.inl rfl)
    clear_value x5
    have h8 : Frame touches232 s x6 := by
      unfold x6
      split
      · rename_i z9 z10
        refine Frame.ite (fun _ => ?_) (fun _ => ?_)
        · refine Frame.after ?_ (Frame.mono rfl (learn_frame _ _ _ _ _ _ _))
          exact h7
        · exact h7
      · rename_i z11
        exact h7
    clear_value x6
    refine Frame.after ?_ (Frame.mono rfl (jobDone_frame _ _))
    exact h8

end Sys2Proof
end

