-- ==== Sys2Proof/Laws/FrameInterrupts.lean ====
section
/-! SUPPORT. Laws/FrameInterrupts.lean: what each operation of Machine/Interrupts.lean leaves as it was. -/

namespace Sys2Proof

open Sys2Proof.Machine

theorem irqExt_frame (s : State) (a1 : Nat) : Frame touches98 s (State.irqExt s a1) := by
  have hs := Frame.refl touches98 s
  unfold State.irqExt
  extract_lets -merge -useContext -underBinder x0 x1 x2
  clear_value x0
  clear_value x1
  have h3 : Frame touches98 s x2 := by
    unfold x2
    refine Frame.after ?_ (Frame.mono rfl (setSrc_frame _ _ _))
    exact hs
  clear_value x2
  refine Frame.ite (fun _ => ?_) (fun _ => ?_)
  · refine Frame.ite (fun _ => ?_) (fun _ => ?_)
    · refine Frame.after ?_ (Frame.mono rfl (irqEdge_frame _ _))
      exact h3
    · exact h3
  · refine Frame.after ?_ (Frame.mono rfl (irqLevel_frame _ _ _))
    exact hs

theorem irqPad_frame (s : State) (a1 : Nat) (a2 : Bool) : Frame touches98 s (State.irqPad s a1 a2) := by
  have hs := Frame.refl touches98 s
  unfold State.irqPad
  extract_lets -merge -useContext -underBinder x0 x1
  clear_value x0
  have h2 : Frame touches98 s x1 := by
    unfold x1
    refine Frame.after ?_ (Frame.mono rfl (irqExt_frame _ _))
    refine Frame.after ?_ (Frame.mono rfl (setSrc_frame _ _ _))
    exact hs
  clear_value x1
  refine Frame.ite (fun _ => ?_) (fun _ => ?_)
  · refine Frame.after ?_ (Frame.mono rfl (irqMerged_frame _ _))
    exact h2
  · exact h2

end Sys2Proof
end

