-- ==== Sys2Proof/Laws/FrameRx.lean ====
section
/-! SUPPORT. Laws/FrameRx.lean: what each operation of Machine/Rx.lean leaves as it was. -/

namespace Sys2Proof

open Sys2Proof.Machine

theorem rxJobRequest_frame (s : State) (a1 : Nat) (a2 : Lane) (a3 : RxReport) : Frame touches207 s (State.rxJobRequest s a1 a2 a3) := by
  have hs := Frame.refl touches207 s
  unfold State.rxJobRequest
  extract_lets -merge -useContext -underBinder x0 x1 x2 x3 x4
  clear_value x0
  have h5 : Frame touches207 s x1 := by
    unfold x1
    refine Frame.after ?_ (when_frame rfl _ _ ?_)
    · exact hs
    · intro y6
      have h7 := Frame.refl touches207 y6
      refine Frame.after ?_ (Frame.mono rfl (cnt_frame _ _))
      exact h7
  clear_value x1
  clear_value x2
  have h8 : Frame touches207 s x4 := by
    unfold x4
    exact Frame.upd h5 (.inl rfl) (.inl rfl) (.inr rfl) (.inl rfl) (.inl rfl) (.inl rfl) (.inl rfl) (.inl rfl) (.inl rfl) (.inl rfl) (.inl ⟨rfl, rfl, rfl⟩) (.inl rfl) (.inl ⟨rfl, rfl, rfl⟩) (.inl ⟨rfl, rfl⟩) (.inl ⟨rfl, rfl, rfl, rfl, rfl, rfl, rfl, rfl⟩) (.inl ⟨rfl, rfl⟩) (.inl ⟨rfl, rfl, rfl, rfl, rfl, rfl, rfl, rfl, rfl, rfl⟩) (.inl ⟨rfl, rfl⟩) (.inl ⟨rfl, rfl⟩) (.inl rfl) (.inl rfl) (.inl rfl) (.inl rfl) (.inl ⟨rfl, rfl, rfl, rfl, rfl, rfl, rfl, rfl, rfl⟩) (.inl ⟨rfl, rfl, rfl, rfl, rfl, rfl, rfl, rfl, rfl⟩) (.inl ⟨rfl, rfl, rfl⟩) (.inl ⟨rfl, rfl, rfl, rfl, rfl, rfl, rfl, rfl, rfl, rfl, rfl, rfl, rfl, rfl, rfl, rfl, rfl, rfl, rfl, rfl, rfl, rfl, rfl, rfl, rfl, rfl, rfl⟩) (.inl ⟨rfl, rfl, rfl, rfl, rfl, rfl, rfl, rfl, rfl, rfl, rfl, rfl⟩) (.inl ⟨rfl, rfl, rfl, rfl, rfl, rfl, rfl, rfl, rfl⟩) (.inl ⟨rfl, rfl, rfl⟩) (.inl ⟨rfl, rfl, rfl⟩) (.inl ⟨rfl, rfl, rfl, rfl, rfl, rfl, rfl, rfl, rfl⟩) (.inl rfl) (.inl rfl) (.inl rfl) (.inl rfl) (.inl ⟨rfl, rfl⟩) (.inl ⟨rfl, rfl⟩) (.inl rfl) (.inl ⟨rfl, rfl, rfl, rfl, rfl⟩) (.inl ⟨rfl, rfl⟩) (.inl ⟨rfl, rfl, rfl, rfl⟩) (.inl ⟨rfl, rfl, rfl⟩) (.inr rfl) (.inr rfl) (.inr rfl) (.inr rfl) (.inr rfl) (.inr rfl) (.inl ⟨rfl, rfl, rfl, rfl, rfl, rfl, rfl, rfl, rfl, rfl, rfl⟩) (.inl ⟨rfl, rfl, rfl, rfl⟩) (.inl rfl) (.inl rfl) (.inl ⟨rfl, rfl, rfl, rfl, rfl, rfl, rfl, rfl, rfl, rfl, rfl, rfl⟩) (.inl ⟨rfl, rfl⟩) (.inl ⟨rfl, rfl, rfl, rfl, rfl, rfl⟩) (.inl ⟨rfl, rfl, rfl, rfl, rfl, rfl⟩) (.inl ⟨rfl, rfl, rfl, rfl, rfl, rfl, rfl, rfl, rfl, rfl, rfl, rfl⟩) (.inl ⟨rfl, rfl, rfl⟩) (.inl ⟨rfl, rfl, rfl, rfl⟩) (.inl ⟨rfl, rfl, rfl, rfl, rfl⟩) (.inl ⟨rfl, rfl, rfl, rfl, rfl, rfl, rfl, rfl, rfl, rfl⟩) (.inl ⟨rfl, rfl, rfl, rfl, rfl, rfl, rfl, rfl, rfl⟩) (.inl ⟨rfl, rfl, rfl, rfl, rfl, rfl, rfl, rfl, rfl, rfl, rfl, rfl, rfl⟩) (.inl ⟨rfl, rfl, rfl⟩) (.inl ⟨rfl, rfl, rfl, rfl, rfl⟩) (.inl rfl) (.inl rfl) (.inl ⟨rfl, rfl⟩) (.inl ⟨rfl, rfl, rfl, rfl, rfl, rfl, rfl, rfl, rfl, rfl, rfl, rfl, rfl⟩) (.inl rfl) (.inl rfl) (.inr rfl) (.inl rfl)
  clear_value x4
  refine Frame.ite (fun _ => ?_) (fun _ => ?_)
  · refine Frame.after ?_ (Frame.mono rfl (stk_frame _ _ _))
    refine Frame.after ?_ (Frame.mono rfl (cnt_frame _ _))
    refine Frame.after ?_ (Frame.mono rfl (pantryFree_frame _ _ _))
    exact hs
  · refine Frame.after ?_ (Frame.mono rfl (jobRequest_frame _ _))
    exact h8

theorem histSnap_frame (s : State) (a1 : Region) : Frame touches215 s (State.histSnap s a1) := by
  have hs := Frame.refl touches215 s
  unfold State.histSnap
  extract_lets -merge -useContext -underBinder x0 x1 x2
  clear_value x0
  have h3 : Frame touches215 s x2 := by
    unfold x2
    refine Frame.foldl ?_ (fun x4 y5 h6 => ?_)
    · exact hs
    · refine Frame.after ?_ (Frame.mono rfl (setRg_frame _ _ _))
      exact h6
  clear_value x2
  refine Frame.after ?_ (Frame.mono rfl (event_frame _ _))
  refine Frame.after ?_ (Frame.mono rfl (rxUpd_frame _ _ _))
  refine Frame.after ?_ (Frame.mono rfl (setRg_frame _ _ _))
  refine Frame.after ?_ (Frame.mono rfl (setRg_frame _ _ _))
  refine Frame.after ?_ (Frame.mono rfl (setRg_frame _ _ _))
  refine Frame.after ?_ (Frame.mono rfl (clrb_frame _ _ _))
  exact h3

theorem rssiNow_frame (s : State) (a1 : Region) (a2 : Nat) (a3 : List (Nat × Int)) : Frame touches54 s (State.rssiNow s a1 a2 a3) := by
  have hs := Frame.refl touches54 s
  unfold State.rssiNow
  refine Frame.foldl ?_ (fun x0 y1 h2 => ?_)
  · exact hs
  · split
    · refine Frame.ite (fun _ => ?_) (fun _ => ?_)
      · refine Frame.after ?_ (Frame.mono rfl (setLane_frame _ _ _))
        exact h2
      · exact h2
    · exact h2

theorem ringTake_frame (s : State) (a1 : Region) (a2 : List (List (BitVec 36))) : Frame touches39 s (State.ringTake s a1 a2) := by
  have hs := Frame.refl touches39 s
  unfold State.ringTake
  extract_lets -merge -useContext -underBinder x0 x1 x2
  clear_value x0
  clear_value x1
  clear_value x2
  refine Frame.after ?_ (Frame.mono rfl (rxUpd_frame _ _ _))
  exact hs

theorem ccaHeard_frame (s : State) (a1 : Region) (a2 : Nat) : Frame touches41 s (State.ccaHeard s a1 a2) := by
  have hs := Frame.refl touches41 s
  unfold State.ccaHeard
  refine Frame.radUpd ?_ (.inl (fun _ => ⟨rfl, rfl, rfl⟩)) (.inl (fun _ => ⟨rfl, rfl, rfl⟩)) (.inr rfl) (.inl (fun _ => ⟨rfl, rfl, rfl, rfl, rfl, rfl, rfl, rfl, rfl⟩)) (.inl (fun _ => ⟨rfl, rfl, rfl, rfl⟩)) (.inl (fun _ => ⟨rfl, rfl, rfl⟩)) (.inl (fun _ => rfl)) (.inl (fun _ => rfl)) (.inl (fun _ => ⟨rfl, rfl, rfl⟩))
  exact hs

theorem histTake_frame (s : State) (a1 : Region) (a2 : List Word) (a3 : Word) (a4 : Word) : Frame touches39 s (State.histTake s a1 a2 a3 a4) := by
  have hs := Frame.refl touches39 s
  unfold State.histTake
  extract_lets -merge -useContext -underBinder x0
  clear_value x0
  refine Frame.after ?_ (Frame.mono rfl (rxUpd_frame _ _ _))
  exact hs

end Sys2Proof
end

