-- ==== Sys2Proof/Laws/FrameTwin.lean ====
section
/-! SUPPORT. Laws/FrameTwin.lean: what each operation of Machine/Twin.lean leaves as it was. -/

namespace Sys2Proof

open Sys2Proof.Machine

theorem syncMark_frame (s : State) : Frame touches149 s (State.syncMark s) := by
  have hs := Frame.refl touches149 s
  unfold State.syncMark
  refine Frame.twinUpd ?_ (.inl ⟨rfl, rfl, rfl, rfl, rfl, rfl, rfl, rfl, rfl⟩) (.inl ⟨rfl, rfl, rfl, rfl, rfl, rfl, rfl, rfl, rfl, rfl, rfl, rfl, rfl⟩) (.inr rfl)
  exact hs

theorem selfTest_frame (s : State) : Frame touches150 s (State.selfTest s) := by
  have hs := Frame.refl touches150 s
  unfold State.selfTest
  extract_lets -merge -useContext -underBinder x0 x1
  clear_value x0
  exact Frame.upd hs (.inl rfl) (.inl rfl) (.inl ⟨rfl, rfl⟩) (.inl rfl) (.inl rfl) (.inl rfl) (.inl rfl) (.inl rfl) (.inl rfl) (.inl rfl) (.inl ⟨rfl, rfl, rfl⟩) (.inl rfl) (.inl ⟨rfl, rfl, rfl⟩) (.inl ⟨rfl, rfl⟩) (.inl ⟨rfl, rfl, rfl, rfl, rfl, rfl, rfl, rfl⟩) (.inl ⟨rfl, rfl⟩) (.inl ⟨rfl, rfl, rfl, rfl, rfl, rfl, rfl, rfl, rfl, rfl⟩) (.inl ⟨rfl, rfl⟩) (.inl ⟨rfl, rfl⟩) (.inl rfl) (.inl rfl) (.inl rfl) (.inl rfl) (.inl ⟨rfl, rfl, rfl, rfl, rfl, rfl, rfl, rfl, rfl⟩) (.inl ⟨rfl, rfl, rfl, rfl, rfl, rfl, rfl, rfl, rfl⟩) (.inl ⟨rfl, rfl, rfl⟩) (.inl ⟨rfl, rfl, rfl, rfl, rfl, rfl, rfl, rfl, rfl, rfl, rfl, rfl, rfl, rfl, rfl, rfl, rfl, rfl, rfl, rfl, rfl, rfl, rfl, rfl, rfl, rfl, rfl⟩) (.inl ⟨rfl, rfl, rfl, rfl, rfl, rfl, rfl, rfl, rfl, rfl, rfl, rfl⟩) (.inl ⟨rfl, rfl, rfl, rfl, rfl, rfl, rfl, rfl, rfl⟩) (.inl ⟨rfl, rfl, rfl⟩) (.inl ⟨rfl, rfl, rfl⟩) (.inl ⟨rfl, rfl, rfl, rfl, rfl, rfl, rfl, rfl, rfl⟩) (.inl rfl) (.inl rfl) (.inl rfl) (.inl rfl) (.inl ⟨rfl, rfl⟩) (.inl ⟨rfl, rfl⟩) (.inl rfl) (.inl ⟨rfl, rfl, rfl, rfl, rfl⟩) (.inl ⟨rfl, rfl⟩) (.inl ⟨rfl, rfl, rfl, rfl⟩) (.inl ⟨rfl, rfl, rfl⟩) (.inl rfl) (.inl ⟨rfl, rfl⟩) (.inl ⟨rfl, rfl, rfl, rfl, rfl, rfl, rfl⟩) (.inl ⟨rfl, rfl, rfl, rfl, rfl⟩) (.inl rfl) (.inl ⟨rfl, rfl, rfl, rfl, rfl, rfl⟩) (.inl ⟨rfl, rfl, rfl, rfl, rfl, rfl, rfl, rfl, rfl, rfl, rfl⟩) (.inl ⟨rfl, rfl, rfl, rfl⟩) (.inl rfl) (.inl rfl) (.inl ⟨rfl, rfl, rfl, rfl, rfl, rfl, rfl, rfl, rfl, rfl, rfl, rfl⟩) (.inl ⟨rfl, rfl⟩) (.inl ⟨rfl, rfl, rfl, rfl, rfl, rfl⟩) (.inl ⟨rfl, rfl, rfl, rfl, rfl, rfl⟩) (.inl ⟨rfl, rfl, rfl, rfl, rfl, rfl, rfl, rfl, rfl, rfl, rfl, rfl⟩) (.inl ⟨rfl, rfl, rfl⟩) (.inl ⟨rfl, rfl, rfl, rfl⟩) (.inl ⟨rfl, rfl, rfl, rfl, rfl⟩) (.inl ⟨rfl, rfl, rfl, rfl, rfl, rfl, rfl, rfl, rfl, rfl⟩) (.inl ⟨rfl, rfl, rfl, rfl, rfl, rfl, rfl, rfl, rfl⟩) (.inl ⟨rfl, rfl, rfl, rfl, rfl, rfl, rfl, rfl, rfl, rfl, rfl, rfl, rfl⟩) (.inl ⟨rfl, rfl, rfl⟩) (.inl ⟨rfl, rfl, rfl, rfl, rfl⟩) (.inl rfl) (.inl rfl) (.inl ⟨rfl, rfl⟩) (.inl ⟨rfl, rfl, rfl, rfl, rfl, rfl, rfl, rfl, rfl, rfl, rfl, rfl, rfl⟩) (.inr rfl) (.inl rfl) (.inl ⟨rfl, rfl, rfl⟩) (.inl rfl)

theorem gateSet_frame (s : State) (a1 : Option Nat) : Frame touches79 s (State.gateSet s a1) := by
  have hs := Frame.refl touches79 s
  unfold State.gateSet
  refine Frame.twinUpd ?_ (.inr rfl) (.inl ⟨rfl, rfl, rfl, rfl, rfl, rfl, rfl, rfl, rfl, rfl, rfl, rfl, rfl⟩) (.inl ⟨rfl, rfl, rfl⟩)
  exact hs

theorem airHole_frame (s : State) (a1 : Region) (a2 : Nat) (a3 : Nat) (a4 : Nat) : Frame touches41 s (State.airHole s a1 a2 a3 a4) := by
  have hs := Frame.refl touches41 s
  unfold State.airHole
  extract_lets -merge -useContext -underBinder x0
  clear_value x0
  split
  · refine Frame.ite (fun _ => ?_) (fun _ => ?_)
    · refine Frame.after ?_ (Frame.mono rfl (setCarrier_frame _ _ _ _))
      exact hs
    · exact hs
  · exact hs

theorem airHoles_frame (s : State) (a1 : Region) (a2 : Nat) (a3 : Nat) : Frame touches41 s (State.airHoles s a1 a2 a3) := by
  have hs := Frame.refl touches41 s
  unfold State.airHoles
  refine Frame.foldl ?_ (fun x0 y1 h2 => ?_)
  · exact hs
  · refine Frame.after ?_ (Frame.mono rfl (airHole_frame _ _ _ _ _))
    exact h2

theorem gateMove_frame (s : State) (a1 : Bool) : Frame touches182 s (State.gateMove s a1) := by
  have hs := Frame.refl touches182 s
  unfold State.gateMove
  refine Frame.ite (fun _ => ?_) (fun _ => ?_)
  · refine Frame.after ?_ (Frame.mono rfl (gateSet_frame _ _))
    exact hs
  · split
    · refine Frame.after ?_ (Frame.mono rfl (gateSet_frame _ _))
      refine Frame.foldl ?_ (fun x0 y1 h2 => ?_)
      · exact hs
      · refine Frame.after ?_ (Frame.mono rfl (airHoles_frame _ _ _ _))
        exact h2
    · exact hs

theorem peerSilent_frame (s : State) : Frame touches201 s (State.peerSilent s) := by
  have hs := Frame.refl touches201 s
  unfold State.peerSilent
  refine Frame.ite (fun _ => ?_) (fun _ => ?_)
  · refine Frame.after ?_ (Frame.mono rfl (stk_frame _ _ _))
    refine Frame.twinUpd ?_ (.inl ⟨rfl, rfl, rfl, rfl, rfl, rfl, rfl, rfl, rfl⟩) (.inr rfl) (.inl ⟨rfl, rfl, rfl⟩)
    exact hs
  · exact hs

theorem peerWord_frame (s : State) (a1 : Word) : Frame touches70 s (State.peerWord s a1) := by
  have hs := Frame.refl touches70 s
  unfold State.peerWord
  extract_lets -merge -useContext -underBinder x0 x1
  clear_value x1
  refine Frame.after ?_ (when_frame rfl _ _ ?_)
  · refine Frame.after ?_ (Frame.mono rfl (linkUpd_frame _ _))
    exact hs
  · intro y2
    have h3 := Frame.refl touches70 y2
    refine Frame.after ?_ (Frame.mono rfl (event_frame _ _))
    exact h3

theorem helloTake_frame (s : State) (a1 : Bytes) : Frame touches210 s (State.helloTake s a1) := by
  have hs := Frame.refl touches210 s
  unfold State.helloTake
  extract_lets -merge -useContext -underBinder x0 x1
  clear_value x1
  refine Frame.ite (fun _ => ?_) (fun _ => ?_)
  · refine Frame.after ?_ (Frame.mono rfl (linkUpd_frame _ _))
    refine Frame.after ?_ (Frame.mono rfl (stk_frame _ _ _))
    exact hs
  · refine Frame.ite (fun _ => ?_) (fun _ => ?_)
    · refine Frame.after ?_ (Frame.mono rfl (helloEmit_frame _))
      exact hs
    · refine Frame.after ?_ (Frame.mono rfl (twinEmit_frame _ _ _))
      refine Frame.after ?_ (Frame.mono rfl (setLink_frame _ _))
      refine Frame.after ?_ (Frame.mono rfl (twinKeys_frame _ _))
      refine Frame.after ?_ (Frame.mono rfl (helloEmit_frame _))
      exact hs

theorem digestCheck_frame (s : State) (a1 : Bytes) : Frame touches160 s (State.digestCheck s a1) := by
  have hs := Frame.refl touches160 s
  unfold State.digestCheck
  extract_lets -merge -useContext -underBinder x0 x1
  have h2 : Frame touches160 s x0 := by
    unfold x0
    refine Frame.after ?_ (Frame.mono rfl (stk_frame _ _ _))
    exact hs
  clear_value x0
  refine Frame.ite (fun _ => ?_) (fun _ => ?_)
  · refine Frame.after ?_ (Frame.mono rfl (clrb_frame _ _ _))
    exact hs
  · refine Frame.ite (fun _ => ?_) (fun _ => ?_)
    · exact h2
    · refine Frame.after ?_ (Frame.mono rfl (safe_frame _ _ _))
      refine Frame.after ?_ (Frame.mono rfl (cell_frame _ _ _ _ _))
      exact h2

theorem linkedUp_frame (s : State) (a1 : Bytes) : Frame touches160 s (State.linkedUp s a1) := by
  have hs := Frame.refl touches160 s
  unfold State.linkedUp
  extract_lets -merge -useContext -underBinder x0
  have h1 : Frame touches160 s x0 := by
    unfold x0
    refine Frame.after ?_ (Frame.mono rfl (digestCheck_frame _ _))
    exact hs
  clear_value x0
  refine Frame.after ?_ (Frame.mono rfl (resyncAsk_frame _))
  refine Frame.after ?_ (when_frame rfl _ _ ?_)
  · exact h1
  · intro y2
    have h3 := Frame.refl touches160 y2
    refine Frame.after ?_ (Frame.mono rfl (probe_frame _))
    exact h3

theorem twinHear_frame {G : List Field} (hG : touches81.all G.contains = true) (s : State) (a1 : Nat) (a2 : Bytes) {a3 : Bytes → State → State} (ha3 : ∀ b0 b1, Frame G b1 (a3 b0 b1)) : Frame G s (State.twinHear s a1 a2 a3) := by
  have hs := Frame.refl G s
  unfold State.twinHear
  refine Frame.after ?_ (Frame.mono hG (Frame.mono rfl (yieldCheck_frame _)))
  refine Frame.after ?_ (twinRecv_frame (Frame.sub rfl hG) _ _ _ ?_)
  · exact hs
  · intro y0 y1
    have h2 := Frame.refl G y1
    refine Frame.after ?_ (ha3 _ _)
    exact h2

theorem probeAnswer_frame (s : State) : Frame touches229 s (State.probeAnswer s) := by
  have hs := Frame.refl touches229 s
  unfold State.probeAnswer
  refine Frame.ite (fun _ => ?_) (fun _ => ?_)
  · refine Frame.ite (fun _ => ?_) (fun _ => ?_)
    · refine Frame.after ?_ (Frame.mono rfl (cell_frame _ _ _ _ _))
      refine Frame.after ?_ (Frame.mono rfl (stk_frame _ _ _))
      refine Frame.twinUpd ?_ (.inr rfl) (.inl ⟨rfl, rfl, rfl, rfl, rfl, rfl, rfl, rfl, rfl, rfl, rfl, rfl, rfl⟩) (.inl ⟨rfl, rfl, rfl⟩)
      exact hs
    · refine Frame.twinUpd ?_ (.inr rfl) (.inl ⟨rfl, rfl, rfl, rfl, rfl, rfl, rfl, rfl, rfl, rfl, rfl, rfl, rfl⟩) (.inl ⟨rfl, rfl, rfl⟩)
      exact hs
  · exact hs

theorem claimLost_frame (s : State) : Frame touches81 s (State.claimLost s) := by
  have hs := Frame.refl touches81 s
  unfold State.claimLost
  extract_lets -merge -useContext -underBinder x0
  have h1 : Frame touches81 s x0 := by
    unfold x0
    refine Frame.twinUpd ?_ (.inr rfl) (.inr rfl) (.inr rfl)
    exact hs
  clear_value x0
  refine Frame.ite (fun _ => ?_) (fun _ => ?_)
  · refine Frame.after ?_ (Frame.mono rfl (resyncAsk_frame _))
    refine Frame.after ?_ (Frame.mono rfl (modeTo_frame _ _))
    refine Frame.after ?_ (Frame.mono rfl (yieldLine_frame _ _))
    exact h1
  · exact h1

end Sys2Proof
end

