-- ==== Sys2Proof/Laws/FrameUpdate.lean ====
section
/-! SUPPORT. Laws/FrameUpdate.lean: what each operation of Machine/Update.lean leaves as it was. -/

namespace Sys2Proof

open Sys2Proof.Machine

theorem offerAnswer_frame (s : State) (a1 : Nat) (a2 : Nat) (a3 : Nat) (a4 : Nat) : Frame touches94 s (State.offerAnswer s a1 a2 a3 a4).1 := by
  have hs := Frame.refl touches94 s
  unfold State.offerAnswer
  dsimp only
  refine Frame.after ?_ (Frame.mono rfl (event_frame _ _))
  refine Frame.after ?_ (Frame.mono rfl (lastResult_frame _ _ _))
  exact hs

theorem offerDone_frame (s : State) (a1 : Nat) (a2 : Nat) (a3 : Nat) (a4 : Nat) : Frame touches96 s (State.offerDone s a1 a2 a3 a4).1 := by
  have hs := Frame.refl touches96 s
  unfold State.offerDone
  refine Frame.after ?_ (Frame.mono rfl (offerAnswer_frame _ _ _ _ _))
  refine Frame.after ?_ (when_frame rfl _ _ ?_)
  · exact hs
  · intro y0
    have h1 := Frame.refl touches96 y0
    refine Frame.after ?_ (Frame.mono rfl (lockFree_frame _))
    exact h1

theorem halfWrite_frame (s : State) (a1 : Nat) (a2 : Bytes) : Frame touches95 s (State.halfWrite s a1 a2) := by
  have hs := Frame.refl touches95 s
  unfold State.halfWrite
  extract_lets -merge -useContext -underBinder x0 x1
  clear_value x0
  exact Frame.upd hs (.inl rfl) (.inl rfl) (.inl ⟨rfl, rfl⟩) (.inl rfl) (.inl rfl) (.inl rfl) (.inl rfl) (.inl rfl) (.inl rfl) (.inl rfl) (.inl ⟨rfl, rfl, rfl⟩) (.inl rfl) (.inl ⟨rfl, rfl, rfl⟩) (.inl ⟨rfl, rfl⟩) (.inl ⟨rfl, rfl, rfl, rfl, rfl, rfl, rfl, rfl⟩) (.inl ⟨rfl, rfl⟩) (.inl ⟨rfl, rfl, rfl, rfl, rfl, rfl, rfl, rfl, rfl, rfl⟩) (.inl ⟨rfl, rfl⟩) (.inl ⟨rfl, rfl⟩) (.inl rfl) (.inl rfl) (.inl rfl) (.inl rfl) (.inl ⟨rfl, rfl, rfl, rfl, rfl, rfl, rfl, rfl, rfl⟩) (.inl ⟨rfl, rfl, rfl, rfl, rfl, rfl, rfl, rfl, rfl⟩) (.inl ⟨rfl, rfl, rfl⟩) (.inl ⟨rfl, rfl, rfl, rfl, rfl, rfl, rfl, rfl, rfl, rfl, rfl, rfl, rfl, rfl, rfl, rfl, rfl, rfl, rfl, rfl, rfl, rfl, rfl, rfl, rfl, rfl, rfl⟩) (.inl ⟨rfl, rfl, rfl, rfl, rfl, rfl, rfl, rfl, rfl, rfl, rfl, rfl⟩) (.inl ⟨rfl, rfl, rfl, rfl, rfl, rfl, rfl, rfl, rfl⟩) (.inl ⟨rfl, rfl, rfl⟩) (.inl ⟨rfl, rfl, rfl⟩) (.inl ⟨rfl, rfl, rfl, rfl, rfl, rfl, rfl, rfl, rfl⟩) (.inl rfl) (.inl rfl) (.inl rfl) (.inl rfl) (.inl ⟨rfl, rfl⟩) (.inl ⟨rfl, rfl⟩) (.inl rfl) (.inl ⟨rfl, rfl, rfl, rfl, rfl⟩) (.inl ⟨rfl, rfl⟩) (.inl ⟨rfl, rfl, rfl, rfl⟩) (.inl ⟨rfl, rfl, rfl⟩) (.inl rfl) (.inl ⟨rfl, rfl⟩) (.inl ⟨rfl, rfl, rfl, rfl, rfl, rfl, rfl⟩) (.inl ⟨rfl, rfl, rfl, rfl, rfl⟩) (.inl rfl) (.inl ⟨rfl, rfl, rfl, rfl, rfl, rfl⟩) (.inl ⟨rfl, rfl, rfl, rfl, rfl, rfl, rfl, rfl, rfl, rfl, rfl⟩) (.inl ⟨rfl, rfl, rfl, rfl⟩) (.inl rfl) (.inl rfl) (.inl ⟨rfl, rfl, rfl, rfl, rfl, rfl, rfl, rfl, rfl, rfl, rfl, rfl⟩) (.inl ⟨rfl, rfl⟩) (.inl ⟨rfl, rfl, rfl, rfl, rfl, rfl⟩) (.inl ⟨rfl, rfl, rfl, rfl, rfl, rfl⟩) (.inl ⟨rfl, rfl, rfl, rfl, rfl, rfl, rfl, rfl, rfl, rfl, rfl, rfl⟩) (.inl ⟨rfl, rfl, rfl⟩) (.inl ⟨rfl, rfl, rfl, rfl⟩) (.inr rfl) (.inl ⟨rfl, rfl, rfl, rfl, rfl, rfl, rfl, rfl, rfl, rfl⟩) (.inl ⟨rfl, rfl, rfl, rfl, rfl, rfl, rfl, rfl, rfl⟩) (.inl ⟨rfl, rfl, rfl, rfl, rfl, rfl, rfl, rfl, rfl, rfl, rfl, rfl, rfl⟩) (.inl ⟨rfl, rfl, rfl⟩) (.inl ⟨rfl, rfl, rfl, rfl, rfl⟩) (.inl rfl) (.inl rfl) (.inl ⟨rfl, rfl⟩) (.inl ⟨rfl, rfl, rfl, rfl, rfl, rfl, rfl, rfl, rfl, rfl, rfl, rfl, rfl⟩) (.inl rfl) (.inl rfl) (.inl ⟨rfl, rfl, rfl⟩) (.inl rfl)

theorem offerFirmware_frame (s : State) (a1 : Msg) (a2 : Bytes) (a3 : Bytes) (a4 : Bool) : Frame touches148 s (State.offerFirmware s a1 a2 a3 a4).1 := by
  have hs := Frame.refl touches148 s
  unfold State.offerFirmware
  extract_lets -merge -useContext -underBinder x0 x1 x2 x3
  clear_value x0
  clear_value x1
  clear_value x2
  clear_value x3
  refine Frame.iteFst (fun _ => ?_) (fun _ => ?_)
  · refine Frame.after ?_ (Frame.mono rfl (offerDone_frame _ _ _ _ _))
    exact hs
  · split
    · refine Frame.after ?_ (Frame.mono rfl (offerDone_frame _ _ _ _ _))
      exact hs
    · refine Frame.iteFst (fun _ => ?_) (fun _ => ?_)
      · refine Frame.after ?_ (Frame.mono rfl (offerDone_frame _ _ _ _ _))
        exact hs
      · split
        · rename_i z4 z5 z6 z7 z8
          have h9 : Frame touches148 s z5 := Frame.pair z8 (by
              refine Frame.after ?_ (Frame.mono rfl (bankWrite_frame _ _ _ _))
              refine Frame.after ?_ (Frame.mono rfl (lockTake_frame _ _))
              exact hs)
          refine Frame.iteFst (fun _ => ?_) (fun _ => ?_)
          · split
            · rename_i z10 z11 z12
              have h13 : Frame touches148 s z11 := Frame.pair z12 (by
                  refine Frame.after ?_ (Frame.mono rfl (handoverBegin_frame _ _ _ _ _ _))
                  exact h9)
              dsimp only
              exact h13
            · rename_i z14 z15 z16
              have h17 : Frame touches148 s z15 := Frame.pair z16 (by
                  refine Frame.after ?_ (Frame.mono rfl (handoverBegin_frame _ _ _ _ _ _))
                  exact h9)
              refine Frame.after ?_ (Frame.mono rfl (offerDone_frame _ _ _ _ _))
              exact h17
          · refine Frame.after ?_ (Frame.mono rfl (offerDone_frame _ _ _ _ _))
            exact h9

theorem offerBundle_frame (s : State) (a1 : Bytes) (a2 : Bytes) : Frame touches179 s (State.offerBundle s a1 a2).1 := by
  have hs := Frame.refl touches179 s
  unfold State.offerBundle
  extract_lets -merge -useContext -underBinder x0 x1
  clear_value x0
  clear_value x1
  split
  · refine Frame.after ?_ (Frame.mono rfl (offerDone_frame _ _ _ _ _))
    exact hs
  · extract_lets -merge -useContext -underBinder x2 x3
    have h4 : Frame touches179 s x2 := by
      unfold x2
      refine Frame.after ?_ (Frame.mono rfl (progress_frame _ _ _))
      refine Frame.after ?_ (Frame.mono rfl (lockTake_frame _ _))
      exact hs
    clear_value x2
    have h5 : ∀ y6, Frame touches179 y6 (x3 y6) := by
      intro y6
      have h7 := Frame.refl touches179 y6
      unfold x3
      extract_lets -merge -useContext -underBinder x8
      exact Frame.upd h7 (.inl rfl) (.inl rfl) (.inr rfl) (.inl rfl) (.inl rfl) (.inl rfl) (.inl rfl) (.inl rfl) (.inl rfl) (.inl rfl) (.inl ⟨rfl, rfl, rfl⟩) (.inl rfl) (.inl ⟨rfl, rfl, rfl⟩) (.inl ⟨rfl, rfl⟩) (.inl ⟨rfl, rfl, rfl, rfl, rfl, rfl, rfl, rfl⟩) (.inl ⟨rfl, rfl⟩) (.inl ⟨rfl, rfl, rfl, rfl, rfl, rfl, rfl, rfl, rfl, rfl⟩) (.inl ⟨rfl, rfl⟩) (.inl ⟨rfl, rfl⟩) (.inl rfl) (.inl rfl) (.inl rfl) (.inl rfl) (.inl ⟨rfl, rfl, rfl, rfl, rfl, rfl, rfl, rfl, rfl⟩) (.inl ⟨rfl, rfl, rfl, rfl, rfl, rfl, rfl, rfl, rfl⟩) (.inl ⟨rfl, rfl, rfl⟩) (.inl ⟨rfl, rfl, rfl, rfl, rfl, rfl, rfl, rfl, rfl, rfl, rfl, rfl, rfl, rfl, rfl, rfl, rfl, rfl, rfl, rfl, rfl, rfl, rfl, rfl, rfl, rfl, rfl⟩) (.inl ⟨rfl, rfl, rfl, rfl, rfl, rfl, rfl, rfl, rfl, rfl, rfl, rfl⟩) (.inl ⟨rfl, rfl, rfl, rfl, rfl, rfl, rfl, rfl, rfl⟩) (.inl ⟨rfl, rfl, rfl⟩) (.inl ⟨rfl, rfl, rfl⟩) (.inl ⟨rfl, rfl, rfl, rfl, rfl, rfl, rfl, rfl, rfl⟩) (.inl rfl) (.inl rfl) (.inl rfl) (.inl rfl) (.inl ⟨rfl, rfl⟩) (.inl ⟨rfl, rfl⟩) (.inl rfl) (.inl ⟨rfl, rfl, rfl, rfl, rfl⟩) (.inl ⟨rfl, rfl⟩) (.inl ⟨rfl, rfl, rfl, rfl⟩) (.inl ⟨rfl, rfl, rfl⟩) (.inl rfl) (.inl ⟨rfl, rfl⟩) (.inl ⟨rfl, rfl, rfl, rfl, rfl, rfl, rfl⟩) (.inl ⟨rfl, rfl, rfl, rfl, rfl⟩) (.inl rfl) (.inl ⟨rfl, rfl, rfl, rfl, rfl, rfl⟩) (.inl ⟨rfl, rfl, rfl, rfl, rfl, rfl, rfl, rfl, rfl, rfl, rfl⟩) (.inl ⟨rfl, rfl, rfl, rfl⟩) (.inl rfl) (.inr rfl) (.inl ⟨rfl, rfl, rfl, rfl, rfl, rfl, rfl, rfl, rfl, rfl, rfl, rfl⟩) (.inl ⟨rfl, rfl⟩) (.inl ⟨rfl, rfl, rfl, rfl, rfl, rfl⟩) (.inl ⟨rfl, rfl, rfl, rfl, rfl, rfl⟩) (.inl ⟨rfl, rfl, rfl, rfl, rfl, rfl, rfl, rfl, rfl, rfl, rfl, rfl⟩) (.inr rfl) (.inr rfl) (.inr rfl) (.inl ⟨rfl, rfl, rfl, rfl, rfl, rfl, rfl, rfl, rfl, rfl⟩) (.inl ⟨rfl, rfl, rfl, rfl, rfl, rfl, rfl, rfl, rfl⟩) (.inl ⟨rfl, rfl, rfl, rfl, rfl, rfl, rfl, rfl, rfl, rfl, rfl, rfl, rfl⟩) (.inl ⟨rfl, rfl, rfl⟩) (.inl ⟨rfl, rfl, rfl, rfl, rfl⟩) (.inl rfl) (.inl rfl) (.inl ⟨rfl, rfl⟩) (.inl ⟨rfl, rfl, rfl, rfl, rfl, rfl, rfl, rfl, rfl, rfl, rfl, rfl, rfl⟩) (.inl rfl) (.inl rfl) (.inl ⟨rfl, rfl, rfl⟩) (.inl rfl)
    clear_value x3
    split
    · refine Frame.after ?_ (Frame.mono rfl (offerDone_frame _ _ _ _ _))
      refine Frame.after ?_ (Frame.mono rfl (progress_frame _ _ _))
      refine Frame.after ?_ (h5 _)
      exact h4
    · refine Frame.iteFst (fun _ => ?_) (fun _ => ?_)
      · refine Frame.after ?_ (Frame.mono rfl (offerDone_frame _ _ _ _ _))
        refine Frame.after ?_ (h5 _)
        exact h4
      · split
        · refine Frame.after ?_ (Frame.mono rfl (offerDone_frame _ _ _ _ _))
          refine Frame.after ?_ (h5 _)
          exact h4
        · extract_lets -merge -useContext -underBinder x9 x10
          have h11 : Frame touches179 s x9 := by
            unfold x9
            refine Frame.after ?_ (Frame.mono rfl (progress_frame _ _ _))
            exact h4
          clear_value x9
          refine Frame.after ?_ (Frame.mono rfl (offerDone_frame _ _ _ _ _))
          exact Frame.upd h11 (.inl rfl) (.inl rfl) (.inr rfl) (.inl rfl) (.inl rfl) (.inl rfl) (.inl rfl) (.inl rfl) (.inl rfl) (.inl rfl) (.inl ⟨rfl, rfl, rfl⟩) (.inl rfl) (.inl ⟨rfl, rfl, rfl⟩) (.inl ⟨rfl, rfl⟩) (.inl ⟨rfl, rfl, rfl, rfl, rfl, rfl, rfl, rfl⟩) (.inl ⟨rfl, rfl⟩) (.inl ⟨rfl, rfl, rfl, rfl, rfl, rfl, rfl, rfl, rfl, rfl⟩) (.inl ⟨rfl, rfl⟩) (.inl ⟨rfl, rfl⟩) (.inl rfl) (.inl rfl) (.inl rfl) (.inl rfl) (.inl ⟨rfl, rfl, rfl, rfl, rfl, rfl, rfl, rfl, rfl⟩) (.inl ⟨rfl, rfl, rfl, rfl, rfl, rfl, rfl, rfl, rfl⟩) (.inl ⟨rfl, rfl, rfl⟩) (.inl ⟨rfl, rfl, rfl, rfl, rfl, rfl, rfl, rfl, rfl, rfl, rfl, rfl, rfl, rfl, rfl, rfl, rfl, rfl, rfl, rfl, rfl, rfl, rfl, rfl, rfl, rfl, rfl⟩) (.inl ⟨rfl, rfl, rfl, rfl, rfl, rfl, rfl, rfl, rfl, rfl, rfl, rfl⟩) (.inl ⟨rfl, rfl, rfl, rfl, rfl, rfl, rfl, rfl, rfl⟩) (.inl ⟨rfl, rfl, rfl⟩) (.inl ⟨rfl, rfl, rfl⟩) (.inl ⟨rfl, rfl, rfl, rfl, rfl, rfl, rfl, rfl, rfl⟩) (.inl rfl) (.inl rfl) (.inl rfl) (.inl rfl) (.inl ⟨rfl, rfl⟩) (.inl ⟨rfl, rfl⟩) (.inl rfl) (.inl ⟨rfl, rfl, rfl, rfl, rfl⟩) (.inl ⟨rfl, rfl⟩) (.inl ⟨rfl, rfl, rfl, rfl⟩) (.inl ⟨rfl, rfl, rfl⟩) (.inl rfl) (.inl ⟨rfl, rfl⟩) (.inl ⟨rfl, rfl, rfl, rfl, rfl, rfl, rfl⟩) (.inl ⟨rfl, rfl, rfl, rfl, rfl⟩) (.inl rfl) (.inl ⟨rfl, rfl, rfl, rfl, rfl, rfl⟩) (.inl ⟨rfl, rfl, rfl, rfl, rfl, rfl, rfl, rfl, rfl, rfl, rfl⟩) (.inl ⟨rfl, rfl, rfl, rfl⟩) (.inl rfl) (.inr rfl) (.inl ⟨rfl, rfl, rfl, rfl, rfl, rfl, rfl, rfl, rfl, rfl, rfl, rfl⟩) (.inl ⟨rfl, rfl⟩) (.inl ⟨rfl, rfl, rfl, rfl, rfl, rfl⟩) (.inl ⟨rfl, rfl, rfl, rfl, rfl, rfl⟩) (.inl ⟨rfl, rfl, rfl, rfl, rfl, rfl, rfl, rfl, rfl, rfl, rfl, rfl⟩) (.inr rfl) (.inr rfl) (.inr rfl) (.inl ⟨rfl, rfl, rfl, rfl, rfl, rfl, rfl, rfl, rfl, rfl⟩) (.inl ⟨rfl, rfl, rfl, rfl, rfl, rfl, rfl, rfl, rfl⟩) (.inl ⟨rfl, rfl, rfl, rfl, rfl, rfl, rfl, rfl, rfl, rfl, rfl, rfl, rfl⟩) (.inl ⟨rfl, rfl, rfl⟩) (.inl ⟨rfl, rfl, rfl, rfl, rfl⟩) (.inl rfl) (.inl rfl) (.inl ⟨rfl, rfl⟩) (.inl ⟨rfl, rfl, rfl, rfl, rfl, rfl, rfl, rfl, rfl, rfl, rfl, rfl, rfl⟩) (.inl rfl) (.inl rfl) (.inl ⟨rfl, rfl, rfl⟩) (.inl rfl)

theorem offerMail_frame {G : List Field} (hG : touches153.all G.contains = true) (s : State) (a1 : Msg) (a2 : Nat) (a3 : Nat) {a4 : Bytes → State → State × Option (Nat × Bytes)} (ha4 : ∀ b0 b1, Frame G b1 (a4 b0 b1).1) : Frame G s (State.offerMail s a1 a2 a3 a4) := by
  have hs := Frame.refl G s
  unfold State.offerMail
  extract_lets -merge -useContext -underBinder x0 x1
  clear_value x0
  clear_value x1
  refine Frame.ite (fun _ => ?_) (fun _ => ?_)
  · refine Frame.after ?_ (mailLater_frame (Frame.sub rfl hG) _ _ _ _ _ ?_)
    · exact hs
    · intro y2 y3
      have h4 := Frame.refl G y3
      refine Frame.after ?_ (ha4 _ _)
      exact h4
  · exact hs

theorem offerPeer_frame (s : State) (a1 : Msg) (a2 : Nat) (a3 : Bytes) (a4 : Bytes) : Frame touches204 s (State.offerPeer s a1 a2 a3 a4).1 := by
  have hs := Frame.refl touches204 s
  unfold State.offerPeer
  extract_lets -merge -useContext -underBinder x0
  clear_value x0
  refine Frame.iteFst (fun _ => ?_) (fun _ => ?_)
  · refine Frame.after ?_ (Frame.mono rfl (offerAnswer_frame _ _ _ _ _))
    exact hs
  · refine Frame.iteFst (fun _ => ?_) (fun _ => ?_)
    · refine Frame.after ?_ (Frame.mono rfl (offerAnswer_frame _ _ _ _ _))
      exact hs
    · refine Frame.iteFst (fun _ => ?_) (fun _ => ?_)
      · refine Frame.after ?_ (Frame.mono rfl (offerAnswer_frame _ _ _ _ _))
        refine Frame.after ?_ (Frame.mono rfl (used_frame _))
        exact hs
      · dsimp only
        refine Frame.twinUpd ?_ (.inl ⟨rfl, rfl, rfl, rfl, rfl, rfl, rfl, rfl, rfl⟩) (.inr rfl) (.inl ⟨rfl, rfl, rfl⟩)
        exact hs

theorem offer_frame (s : State) (a1 : Msg) (a2 : OfferEnv) (a3 : Bytes) : Frame touches205 s (State.offer s a1 a2 a3).1 := by
  have hs := Frame.refl touches205 s
  unfold State.offer
  extract_lets -merge -useContext -underBinder x0 x1
  clear_value x0
  split
  · refine Frame.after ?_ (Frame.mono rfl (offerPeer_frame _ _ _ _ _))
    exact hs
  · refine Frame.iteFst (fun _ => ?_) (fun _ => ?_)
    · refine Frame.after ?_ (Frame.mono rfl (offerAnswer_frame _ _ _ _ _))
      refine Frame.after ?_ (Frame.mono rfl (slotBusy_frame _ _))
      exact hs
    · refine Frame.iteFst (fun _ => ?_) (fun _ => ?_)
      · refine Frame.after ?_ (Frame.mono rfl (offerDone_frame _ _ _ _ _))
        exact hs
      · refine Frame.iteFst (fun _ => ?_) (fun _ => ?_)
        · refine Frame.after ?_ (Frame.mono rfl (offerFirmware_frame _ _ _ _ _))
          exact hs
        · refine Frame.after ?_ (Frame.mono rfl (offerBundle_frame _ _ _))
          exact hs

theorem sessOpen_frame (s : State) (a1 : Nat) (a2 : SessFrame) : Frame touches209 s (State.sessOpen s a1 a2) := by
  have hs := Frame.refl touches209 s
  unfold State.sessOpen
  extract_lets -merge -useContext -underBinder x0 x1 x2 x3
  clear_value x0
  have h4 : Frame touches209 s x2 := by
    unfold x2
    exact Frame.upd hs (.inl rfl) (.inl rfl) (.inr rfl) (.inl rfl) (.inl rfl) (.inr rfl) (.inl rfl) (.inl rfl) (.inl rfl) (.inl rfl) (.inl ⟨rfl, rfl, rfl⟩) (.inl rfl) (.inl ⟨rfl, rfl, rfl⟩) (.inl ⟨rfl, rfl⟩) (.inl ⟨rfl, rfl, rfl, rfl, rfl, rfl, rfl, rfl⟩) (.inl ⟨rfl, rfl⟩) (.inl ⟨rfl, rfl, rfl, rfl, rfl, rfl, rfl, rfl, rfl, rfl⟩) (.inl ⟨rfl, rfl⟩) (.inl ⟨rfl, rfl⟩) (.inl rfl) (.inl rfl) (.inl rfl) (.inl rfl) (.inl ⟨rfl, rfl, rfl, rfl, rfl, rfl, rfl, rfl, rfl⟩) (.inl ⟨rfl, rfl, rfl, rfl, rfl, rfl, rfl, rfl, rfl⟩) (.inl ⟨rfl, rfl, rfl⟩) (.inl ⟨rfl, rfl, rfl, rfl, rfl, rfl, rfl, rfl, rfl, rfl, rfl, rfl, rfl, rfl, rfl, rfl, rfl, rfl, rfl, rfl, rfl, rfl, rfl, rfl, rfl, rfl, rfl⟩) (.inl ⟨rfl, rfl, rfl, rfl, rfl, rfl, rfl, rfl, rfl, rfl, rfl, rfl⟩) (.inl ⟨rfl, rfl, rfl, rfl, rfl, rfl, rfl, rfl, rfl⟩) (.inl ⟨rfl, rfl, rfl⟩) (.inl ⟨rfl, rfl, rfl⟩) (.inl ⟨rfl, rfl, rfl, rfl, rfl, rfl, rfl, rfl, rfl⟩) (.inl rfl) (.inl rfl) (.inl rfl) (.inl rfl) (.inl ⟨rfl, rfl⟩) (.inl ⟨rfl, rfl⟩) (.inl rfl) (.inl ⟨rfl, rfl, rfl, rfl, rfl⟩) (.inl ⟨rfl, rfl⟩) (.inl ⟨rfl, rfl, rfl, rfl⟩) (.inl ⟨rfl, rfl, rfl⟩) (.inl rfl) (.inl ⟨rfl, rfl⟩) (.inl ⟨rfl, rfl, rfl, rfl, rfl, rfl, rfl⟩) (.inl ⟨rfl, rfl, rfl, rfl, rfl⟩) (.inl rfl) (.inl ⟨rfl, rfl, rfl, rfl, rfl, rfl⟩) (.inl ⟨rfl, rfl, rfl, rfl, rfl, rfl, rfl, rfl, rfl, rfl, rfl⟩) (.inl ⟨rfl, rfl, rfl, rfl⟩) (.inl rfl) (.inr rfl) (.inl ⟨rfl, rfl, rfl, rfl, rfl, rfl, rfl, rfl, rfl, rfl, rfl, rfl⟩) (.inl ⟨rfl, rfl⟩) (.inl ⟨rfl, rfl, rfl, rfl, rfl, rfl⟩) (.inl ⟨rfl, rfl, rfl, rfl, rfl, rfl⟩) (.inl ⟨rfl, rfl, rfl, rfl, rfl, rfl, rfl, rfl, rfl, rfl, rfl, rfl⟩) (.inr rfl) (.inl ⟨rfl, rfl, rfl, rfl⟩) (.inr rfl) (.inl ⟨rfl, rfl, rfl, rfl, rfl, rfl, rfl, rfl, rfl, rfl⟩) (.inl ⟨rfl, rfl, rfl, rfl, rfl, rfl, rfl, rfl, rfl⟩) (.inr rfl) (.inl ⟨rfl, rfl, rfl⟩) (.inl ⟨rfl, rfl, rfl, rfl, rfl⟩) (.inl rfl) (.inl rfl) (.inr rfl) (.inr rfl) (.inl rfl) (.inl rfl) (.inl ⟨rfl, rfl, rfl⟩) (.inl rfl)
  clear_value x2
  clear_value x3
  refine Frame.ite (fun _ => ?_) (fun _ => ?_)
  · refine Frame.after ?_ (Frame.mono rfl (sessEnd_frame _ _ _ _))
    exact h4
  · split
    · refine Frame.after ?_ (Frame.mono rfl (sessEnd_frame _ _ _ _))
      refine Frame.after ?_ (when_frame rfl _ _ ?_)
      · exact h4
      · intro y5
        have h6 := Frame.refl touches209 y5
        refine Frame.after ?_ (Frame.mono rfl (slotBusy_frame _ _))
        exact h6
    · split
      · rename_i z7 z8 z9 z10
        have h11 : Frame touches209 s z8 := Frame.pair z10 (by
            refine Frame.after ?_ (Frame.mono rfl (sessFeed_frame _ _ _ _ _))
            exact h4)
        refine Frame.after ?_ (Frame.mono rfl (sessEnd_frame _ _ _ _))
        exact h11
      · rename_i z12 z13 z14
        have h15 : Frame touches209 s z13 := Frame.pair z14 (by
            refine Frame.after ?_ (Frame.mono rfl (sessFeed_frame _ _ _ _ _))
            exact h4)
        refine Frame.after ?_ (Frame.mono rfl (sessAck_frame _ _ _ _))
        exact h15

end Sys2Proof
end

