-- ==== Sys2Proof/Laws/KeyCells.lean ====
section
/-! SUPPORT. Laws/KeyCells.lean: the two shares of a secret recombine to it (R396). -/

namespace Sys2Proof.Machine

/-- The share that is the mask stream and the masked secret, XORed, are the secret. -/
theorem masked_shares (seed : Bytes) (i : Nat) (x : Bytes) :
    (((masked seed i (zeros x.length)).zip (masked seed i x)).map fun y => y.1 ^^^ y.2) = x := by
  apply List.ext_getElem
  · simp [masked, zeros]
  · intro n h1 h2
    simp [masked, zeros, BitVec.xor_comm, ← BitVec.xor_assoc]

end Sys2Proof.Machine
end

