-- ==== Sys2Proof/Laws/Modes.lean ====
section
/-! SUPPORT. Laws/Modes.lean: what the shared mode operations do to the mode, once. -/

namespace Sys2Proof

open Sys2Proof.Machine

theorem safeNow_enters (s : State) (c p2 : Nat) :
    (s.safeNow c p2).sys.mode = .safe ∧ (s.safeNow c p2).sys.previous = s.sys.mode ∧
    (s.safeNow c p2).sys.safeCause = BitVec.ofNat 8 c ∧ (s.safeNow c p2).sys.transition = none := by
  unfold State.safeNow
  extract_lets left b
  have hb : b.sys.mode = .safe ∧ b.sys.previous = s.sys.mode ∧ b.sys.safeCause = BitVec.ofNat 8 c ∧
      b.sys.transition = none := by
    unfold b
    refine ⟨?_, ?_, ?_, ?_⟩
    · rw [(cell_frame _ _ _ _ _).sys_mode_eq rfl, (strAbandon_frame _ _).sys_mode_eq rfl,
        (yieldLine_frame _ _).sys_mode_eq rfl, (muteAll_frame _).sys_mode_eq rfl]
      rfl
    · rw [(cell_frame _ _ _ _ _).sys_previous_eq rfl, (strAbandon_frame _ _).sys_previous_eq rfl,
        (yieldLine_frame _ _).sys_previous_eq rfl, (muteAll_frame _).sys_previous_eq rfl]
      exact (handoverEvent_frame _).sys_mode_eq rfl
    · rw [(cell_frame _ _ _ _ _).sys_safeCause_eq rfl, (strAbandon_frame _ _).sys_safeCause_eq rfl,
        (yieldLine_frame _ _).sys_safeCause_eq rfl, (muteAll_frame _).sys_safeCause_eq rfl]
      rfl
    · rw [(cell_frame _ _ _ _ _).sys_transition_eq rfl, (strAbandon_frame _ _).sys_transition_eq rfl,
        (yieldLine_frame _ _).sys_transition_eq rfl, (muteAll_frame _).sys_transition_eq rfl]
      rfl
  have hf := Frame.after (maskTake_frame b .safe) (Frame.mono rfl (event_frame _ 16))
  rw [hf.sys_mode_eq rfl, hf.sys_previous_eq rfl, hf.sys_safeCause_eq rfl, hf.sys_transition_eq rfl]
  exact hb

/-- `entersSafe` depends on the mode and the cause of the state before only. -/
theorem entersSafe_of {s s' u : State} {c : Nat} (h : entersSafe s' u c) (hm : s'.sys.mode = s.sys.mode)
    (hp : s'.sys.previous = s.sys.previous) (hc : s'.sys.safeCause = s.sys.safeCause) : entersSafe s u c := by
  unfold entersSafe at *
  rw [hm, hp, hc] at h
  exact h

theorem safe_enters (s : State) (c p2 : Nat) : entersSafe s (s.safe c p2) c := by
  unfold entersSafe State.safe
  cases s.sys.mode.canSafe
  · exact ⟨rfl, rfl, rfl⟩
  · exact safeNow_enters s c p2

theorem modeTo_mode (s : State) (m : Mode) :
    (s.modeTo m).sys.mode = m ∧ (s.modeTo m).sys.previous = s.sys.mode ∧ (s.modeTo m).sys.transition = none := by
  unfold State.modeTo
  extract_lets b
  have hf := Frame.after (maskTake_frame b m) (Frame.mono rfl (event_frame _ 16))
  rw [hf.sys_mode_eq rfl, hf.sys_previous_eq rfl, hf.sys_transition_eq rfl]
  exact ⟨rfl, rfl, rfl⟩

theorem degrade_mode (s : State) :
    s.degrade.sys.mode = if s.sys.mode = .active then .degraded else s.sys.mode := by
  unfold State.degrade
  split
  · exact (modeTo_mode s _).1
  · rfl

end Sys2Proof
end

