-- ==== Sys2Proof/WellFormed.lean ====
section
/-! DEFINITION. WellFormed.lean: what an operand must satisfy beyond its type. -/

namespace Sys2Proof

/-- The bytes of a BAR (R13, R284, R442). -/
def Bar.size : Bar → Nat
  | .bar0 => 0x4000000
  | .bar2 => 0x4000
  | .bar4 => 0x10000

/-- An access is of 1, 2, 4 or 8 bytes and lies inside its BAR (R8, R12, R13). -/
def Access.wf (a : Access) : Bool :=
  (a.size == 1 || a.size == 2 || a.size == 4 || a.size == 8) && decide (a.addr + a.size ≤ a.bar.size)

/-- A device ID field holds 16 bytes (R443). -/
def SessFrame.wf (f : SessFrame) : Bool := f.deviceId.length == 16 && decide (f.data.length ≤ 1024) && f.dst.length == 6 && f.src.length == 6

/-- Tones stand on the active tones of a mode, as many in every symbol (R170, R177). -/
def LaneTones.wf (x : LaneTones) (active : List Nat) : Bool :=
  active.contains x.y1.length && x.y2.length == x.y1.length && x.syms.all (fun l => l.length == x.y1.length)

/-- A lane reports tones of a mode. -/
def RxReport.wf (r : RxReport) : Bool :=
  match r.air with
  | .lofdm x => x.wf [52]
  | .sun x _ => x.wf [104, 52, 26, 14]
  | .fsk _ _ => true

/-- The tones of a header. -/
def HeaderRead.wf : HeaderRead → Bool
  | .lofdm x => x.wf [52]
  | _ => true

/-- A mailbox message has at most 65,536 request bytes (R294). -/
def Msg.wf (m : Msg) : Bool := decide (m.desc.reqLen ≤ 65536)

/-- Flits have 96 bytes (R98). -/
def FlitRx.wf (f : FlitRx) : Bool := f.raw.length == 96 && f.slots.all (fun l => l.all (fun x => x.2.length == 88))

/-- A millisecond has 400 samples (R141, R161). -/
def BinBlock.wf (b : BinBlock) : Bool := b.power.length == 1024 && b.samples.length == 400 && b.samples.all (fun x => x.length == 800)

/-- Whether the operands of a command are among those the spec describes. -/
def Instr.wf : Instr → Bool
  | .registerWrite a _ => a.wf
  | .flitCrcFail _ f _ => f.wf
  | .dieLinkNak _ raw _ => raw.length == 96
  | .nodeWindowWrite addr size _ =>
    (size == 1 || size == 2 || size == 4 || size == 8) && decide (0x1000000 ≤ addr) &&
      decide (addr + size ≤ 0x4000000)
  | .headerCheck _ h _ _ _ => h.wf
  | .frameEnd _ rx _ => rx.wf
  | .binPowerUpdate _ b _ => b.wf
  | .histogramSnapshot _ counts _ _ _ => counts.length == 64
  | .snapshotReady _ samples _ => samples.length == 16384
  | .submissionDescriptor _ desc _ _ => (desc.map List.length).getD 64 == 64
  | .echoMessage m => m.wf
  | .profileMessage m _ => m.wf
  | .ethSessionHello _ f => f.wf
  | .ethSessionStart _ f _ => f.wf
  | .ethSessionData _ f _ _ => f.wf
  | .ethSessionEnd _ f _ _ => f.wf
  | .ethSessionReboot _ f _ _ => f.wf
  | .ethSessionAbort _ f => f.wf
  | _ => true

end Sys2Proof
end

