-- ==== Sys2Proof/Tests/Slice0.lean ====
section
/-! SUPPORT. Tests/Slice0.lean: ill-formed operands refused, single steps whose results the spec gives, and for the statements'
hypotheses and branches states that meet them. -/

namespace Sys2Proof.Tests

open Sys2Proof Sys2Proof.Machine

/-! States. -/

/-- After start-up: CONFIGURE, every domain on, the host's link up. -/
def up : State :=
  { State.reset with
    sys := { State.reset.sys with mode := .configure, stage := 7, domains := 0xFFFF, loadDone := true }
    loftReady := true
    hif := { State.reset.hif with linkUp := true, busMaster := true, msix := true } }

/-- A structure image of which only some bytes are not 0. -/
def image (secs : List (Nat × Bytes)) : Image :=
  ⟨(List.range 18).map (fun i => (secs.lookup (i + 1)).getD []), zeros 32, 1, 0, zeros 8⟩

/-- `up` in a mode with an image active. -/
def live (m : Mode) (secs : List (Nat × Bytes)) : State :=
  { up with sys := { up.sys with mode := m }, str := { up.str with active := some (image secs) } }

/-- The front end of region M in service with its LO locked. -/
def radioOn (s : State) : State := s.radUpd .M fun d => { d with inService := true, loLocked := true }

/-- A downlink job. -/
def job : TxJob :=
  { kind := .downlink, slot := 3, handle := some 5, pre := .short, ext := 0, mode := 0, map := 0, rate := 0, frame := [1],
    seq := 0, airtime := 1000, needCca := false, wantAck := true, safety := false, powerReq := 0, power := 0, offset := 0,
    symScale := 0, start := 0, deadline := 0, copies := 0, sentCopies := 0, charged := 0, expected := 0, ackTo := 0, cls := 0,
    answers := none, opened := false, ackCtrl := 0, gapUs := 0, air := TxAir.reset }

/-- A downlink frame from a submission ring. -/
def dlFrame : DlFrame :=
  { source := .submission 0, op := 1, handle := 5, payload := [1], clsOverride := none, cls := 0, region := .M, finish := 0,
    enqueued := 0, lifetime := 0, attempts := 0, tries := 0, retries := 0, cookie := 0, complRing := 0, complete := false, iphcDone := false,
    stampRaw := 0, cells := 0, pool := .M, offset := 0, units := 1, seq := none, sentRaw := 0, sentSource := 0, waiting := false }

/-- Carrier 0 of region M with that job, in a phase. -/
def onCarrier (s : State) (ph : CPhase) : State :=
  s.setCarrier .M 0 { s.carrier .M 0 with phase := ph, job := some job }

/-- A lane that decodes. -/
def lane (confirmed : Bool) : Lane :=
  { confirmed := confirmed, region := .M, slot := 3, mode := 0, preStart := 0, level := 0, levelAt := 0, trim := 0, deadline := 0, reserved := false,
    overlapped := false, captured := false, lateStart := false, gainStepped := none, blanked := none, linkGap := none,
    started := 0, codes := 0, fcs2 := false, seed := 0, dw := false, length := 20, map := 0, rate := 0, dlHeld := 0, mcs := 0,
    rxCells := 1, safetyCells := 0 }

def onLane (s : State) (c : Bool) : State := { s with lanes := sput none s.lanes 0 (some (lane c)) }

/-- Command ring 0 runs and holds a descriptor. -/
def mailed (s : State) : State :=
  let s := (s.stk (ringBase 64 + 0x10) 31).setRing 64 { s.ring 64 with tail := 1 }
  { s with jobs := { s.jobs with handed := [⟨6, 0, 0, 1, 0⟩] } }

def msg (type rsp : Nat) (b : Bytes) : Msg := ⟨0, ⟨type, 7, 0, b.length, rsp, 0⟩, some b⟩

/-- An owner message for the part of `up`. -/
def owner (type n signer : Nat) (body : Bytes) : Bytes :=
  [0x45, 0x56, 0x4F, 0x4D] ++ toLE 2 type ++ [1, 0] ++ [1] ++ zeros 15 ++ toLE 8 1 ++ toLE 4 n ++ toLE 1 signer ++ zeros 27 ++
    fit body n ++ zeros 64

/-- A store with every key. -/
def store : KeyStore := ⟨0, some [], none, some (1, ⟨[], []⟩), none, 0, some ⟨[], []⟩, some ⟨[], []⟩, true⟩

/-- A part with keys, in a lifecycle state. -/
def keyed (life : Lifecycle) (s : State) : State :=
  let slot : KeySlot := ⟨some store, [], true⟩
  { s with key := { s.key with lifecycle := life, checked := true, root := some [], slotA := slot, slotB := slot } }

/-- A twin package with its lane running and its link up. -/
def paired (mode : Mode) : State :=
  let s := keyed .field (live mode [(14, (List.range 16).flatMap fun _ => [0x03, 0xDF, 0, 0]), (16, [1])])
  { s with twin := { s.twin with l := { s.twin.l with link := 3, rxNext := 1, txSeq := 1 } } }

/-- An idle twin frame of 0 bytes with its CRC. -/
def frame (type : Nat) (crc : Nat) : Bytes := [BitVec.ofNat 8 type, 1, 0, 0] ++ toLE 8 1 ++ zeros 8 ++ zeros 16 ++ toLE 4 crc

/-- A part in MAINTENANCE with both scopes open. -/
def opened : State :=
  let s := keyed .field up
  { s with sys := { s.sys with mode := .maintenance }, key := { s.key with debugLatch := true }
           dbg := { s.dbg with scopeTap := true, scopeBar := true } }

/-- The state a command leaves. -/
def after (i : Instr) (s : State) : State :=
  match exec i s with
  | .next u => u
  | _ => s

/-- What the surroundings give an access. -/
def bus : BusEnv := ⟨0, ⟨none, none, [], true, [], []⟩, ⟨false, false, false⟩, true⟩

/-- A reception by MR-OFDM on some tones, with no octets. -/
def received (n : Nat) : RxReport :=
  ⟨.sun ⟨List.replicate n ⟨0, 0⟩, List.replicate n ⟨0, 0⟩, []⟩ [], ⟨2, .data, false, false, 0, .none, .none, none, [], none, [], [], []⟩, 0, 0, 0, 0⟩

/-! Ill-formed operands. -/

theorem test_wf_access_size : (Instr.registerWrite ⟨true, 0, 3, 0, .bar0⟩ bus).wf = false := by decide
theorem test_wf_access_end : (Instr.registerWrite ⟨false, 0x3FFFFFD, 4, 0, .bar0⟩ bus).wf = false := by decide
theorem test_wf_window_size : (Instr.nodeWindowWrite 0x1000000 3 0).wf = false := by decide
theorem test_wf_window_low : (Instr.nodeWindowWrite 0xFFFFFF 1 0).wf = false := by decide
theorem test_wf_window_high : (Instr.nodeWindowWrite 0x3FFFFFF 2 0).wf = false := by decide
theorem test_wf_tones : (Instr.frameEnd 0 (received 49) 0).wf = false := by decide
theorem test_wf_header : (Instr.headerCheck 0 (.lofdm ⟨[], [], []⟩) 0 0 0).wf = false := by decide
theorem test_wf_flit : (Instr.flitCrcFail .frontToCore ⟨[[(0, [])]], []⟩ 0).wf = false ∧ (Instr.dieLinkNak .frontToCore [] 0).wf = false := by
  decide
theorem test_wf_half : (Instr.registerWrite ⟨true, 0x10000, 4, 0, .bar4⟩ bus).wf = false := by decide
theorem test_wf_bins : (Instr.binPowerUpdate .L ⟨[], []⟩ 0).wf = false := by decide
theorem test_wf_histogram : (Instr.histogramSnapshot .L [] 0 0 0).wf = false := by decide
theorem test_wf_snapshot : (Instr.snapshotReady .L [] 0).wf = false := by decide
theorem test_wf_descriptor : (Instr.submissionDescriptor 0 (some []) none 0).wf = false := by decide
theorem test_wf_echo : (Instr.echoMessage ⟨0, ⟨0x20, 0, 0, 65537, 0, 0⟩, none⟩).wf = false := by decide
theorem test_wf_profile : (Instr.profileMessage ⟨0, ⟨1, 0, 0, 65537, 0, 0⟩, none⟩ 0).wf = false := by decide
theorem test_wf_session : ∀ i ∈ [Instr.ethSessionHello 0 ⟨1, 1, 0, [], 0, 0, [], [], []⟩, .ethSessionStart 0 ⟨1, 3, 0, [], 0, 0, [], [], []⟩ 0,
    .ethSessionData 0 ⟨1, 4, 0, [], 0, 0, [], [], []⟩ true 0, .ethSessionEnd 0 ⟨1, 6, 0, [], 0, 0, [], [], []⟩ true 0,
    .ethSessionReboot 0 ⟨1, 7, 0, [], 0, 0, [], [], []⟩ ⟨false, false, false⟩ 0, .ethSessionAbort 0 ⟨1, 8, 0, [], 0, 0, [], [], []⟩],
    i.wf = false := by decide

/-! Single steps, with the rule that gives the result. -/

/-- R3: `SYS.ID`. -/
theorem test_sys_id : (after (.registerWrite ⟨false, 0, 4, 0, .bar0⟩ bus) up).readData = 0x26180201 := by decide
/-- R8: the upper half of `SYS.ID` by a 16-bit read. -/
theorem test_narrow_read : (after (.registerWrite ⟨false, 2, 2, 0, .bar0⟩ bus) up).readData = 0x2618 := by decide
/-- R8: an aligned 64-bit write sets SIZE_STK. -/
theorem test_wide_write : (after (.registerWrite ⟨true, 0x40, 8, 0, .bar0⟩ bus) up).rg Reg.sysAccessErr = 1 := by decide
/-- R9, R13: the unassigned addresses of R13's example. -/
theorem test_unassigned : (after (.registerWrite ⟨true, 0x4C000, 4, 1, .bar0⟩ bus) up).rg Reg.sysAccessErr = 2 ∧
    regDesc 0x7FFFC = none := by decide
/-- R4, R11: writing 1 clears a sticky bit; R5: not one that an event sets on the same tick. -/
theorem test_w1c : (after (.registerWrite ⟨true, 0x40, 4, 2, .bar0⟩ { bus with tick := 1 }) (up.stk Reg.sysAccessErr 1)).rg
    Reg.sysAccessErr = 0 ∧
    (after (.registerWrite ⟨true, 0x40, 4, 2, .bar0⟩ bus) (up.stk Reg.sysAccessErr 1)).rg Reg.sysAccessErr = 2 := by decide
/-- R85: RECOVERY is no target of `SYS.MODE_CMD`. -/
theorem test_mode_target : (after (.registerWrite ⟨true, 0x14, 4, 0x80000002, .bar0⟩ bus) up).rb Reg.sysModeCmd 29 = true := by decide
/-- R73: HEARTH is refused while SLOW_OK reads 0. -/
theorem test_hearth_refused : (after (.modeCmdHearth true 0) (up.clrb Reg.clkStatus 1)).rb Reg.sysModeCmd 29 = true := by decide
/-- R145: the header of a frame at 50 kb/s is checked by 1,660 µs after the report. -/
theorem test_header_deadline : headerDeadline 5 = 1660 := by decide
/-- R346: the first grid point not before the present. -/
theorem test_grid : gridNext 100 30 161 = 190 ∧ gridNext 100 30 160 = 160 := by decide
/-- The check value of CRC-32C. -/
theorem test_crc32c : crc32c [0x31, 0x32, 0x33, 0x34, 0x35, 0x36, 0x37, 0x38, 0x39] = 0xE3069283 := by decide +kernel
/-- R412: IDCODE. -/
theorem test_idcode : (after .tapIdcode up).outbox = [.tdo [0xB5, 0x84, 0x61, 0x22]] := by decide
/-- R351: a channel armed with TERMINAL 0 expires on the next tick. -/
theorem test_timer_zero : ((after (.timerArm 3) up).timer 3).running = true ∧
    ((after (.timerExpiry 3 1) (after (.timerArm 3) up)).timer 3).running = false := by decide
/-- R374: with nothing eligible a claim reads 0. -/
theorem test_claim_none : (after (.irqClaim .host) up).readData = 0 := by decide
/-- R232: four unsecured numbers are remembered. -/
theorem test_sequence : (seqCheck 0 9).1 = true ∧ (seqCheck (seqCheck 0 9).2 9).1 = false := by decide +kernel
/-- An idle step passes one tick. -/
theorem test_idle : (match step State.reset with | .next u => u.now | _ => 0) = 1 := by decide

/-! Witnesses: a state that meets what a statement supposes, and the conditions of its branches. -/

theorem witness_StructureCommands : strReady up ∧ up.upd.lock = none := by unfold strReady; decide
theorem witness_StructureApplyAnswers_branches :
    (up.sys.mode = .configure ∧ (live .active []).sys.mode ≠ .configure) ∧ up.changedSecs (image [(16, [1])]) ≠ [] := by decide
theorem witness_SafeCausesAndReferenceClocks : up.domOn 2 = true ∧ (up.stk Reg.clkStatus 0).rb Reg.clkStatus 0 = true ∧
    (up.sys.mainGood ∧ up.sys.coreEn) ∧ up.sys.mode.canSafe = true ∧ State.reset.sys.mode.canSafe = false ∧
    up.domOn 12 = true := by decide
theorem witness_ModeCommandsAreHeldRefusedOrBegun :
    ({ up with sys := { up.sys with heldCmd := some .active } } : State).sys.heldCmd = some Mode.active ∧
    up.starting = false ∧ up.holdsCmd .configure = false ∧ up.waitsLocks .configure = false ∧ up.waitsLocks .active = true ∧ (up.commandRow .safe) = none := by decide
theorem witness_TransitionsComplete : quietAir up = true ∧ quietAir (onCarrier up .onAir) = false ∧
    (let s : State := { up with sys := { up.sys with mode := .hearth, wake := some { up.wakeCtx with watch := [5] } } }
     (s.sys.wake.map (·.watch.contains 5)) = some true ∧ s.sys.mode = .hearth) := by decide
theorem witness_FaultsTakeUnitsOut : up.domOn 10 = true ∧ up.isOut (.timer 0) = false ∧
    ((radioOn up).radio.get .M).inService = true := by decide
theorem witness_PackageResets : up.canReset = true ∧ up.resetWrite 0xC3000001 1 = true ∧ up.resetWrite 0xC3000002 2 = true := by
  decide
/-- A flit that asks for a replay from 3: sequence 3, NAK, no payload, and its CRC. -/
def nakFlit : Bytes := [0x31, 0, 3, 0] ++ zeros 88 ++ toLE 4 0x3E4E8F98
theorem nakFlit_good : flitGood nakFlit = true := by
  have h1 : ([0x31, 0, 3, 0] ++ zeros 28 : Bytes).foldl crc32cByte 0xFFFFFFFF = 0xF031491 := by decide +kernel
  have h2 : (zeros 30).foldl crc32cByte 0xF031491 = 0xAE5213D4 := by decide +kernel
  have h3 : (zeros 30).foldl crc32cByte 0xAE5213D4 = 0xC1B17067 := by decide +kernel
  have ht : nakFlit.take 0x5C = ([0x31, 0, 3, 0] ++ zeros 28) ++ zeros 30 ++ zeros 30 := by decide +kernel
  unfold flitGood
  rw [ht, crc32c, List.foldl_append, List.foldl_append, h1, h2, h3]
  decide +kernel
theorem witness_SupplyPcieAndDieLinkEvents : up.domOn 15 = true ∧
    ({ up with dieF2c := { up.dieF2c with up := true, nak := some 3 } } : State).die .frontToCore =
      ⟨true, 0, none, 0, [], [], false, some 3, [], [], []⟩ ∧
    flitGood nakFlit = true ∧ flitNak nakFlit = true ∧ flitAck nakFlit = 3 ∧ flitGood [] = false :=
  ⟨by decide, by decide, nakFlit_good, by decide +kernel, by decide +kernel, by decide⟩
theorem witness_StartUpStages : State.reset.sys.stage = 0 ∧ State.reset.domOn 1 = true ∧ State.reset.sys.mode = .off ∧
    State.reset.sys.coreGood = true ∧ usTicks 200 ≤ 163840 ∧ ¬ usTicks 200 ≤ 163839 := by decide
theorem witness_RecalibrationAndSafeguards : up.domOn Region.M.frontDom = true ∧
    (radioOn (live .active [(1, zeros 24 ++ [1])])).calRegion .M = true ∧ Mode.recals .active = true ∧
    ((radioOn up).rad .M).loLocked = true ∧ ((radioOn up).rad .M).recal.running = none := by decide
theorem witness_ListenBeforeTalk : ∀ ph ∈ [CPhase.assigned, .backoff, .cca, .wait, .starting, .settle, .onAir, .ackWait],
    jobAt (onCarrier up ph) .M 0 ph 0 = some job := by decide
theorem witness_TransmissionSequence : job.kind = .downlink ∧ job.pre ≠ .strobe ∧
    (up.radUpd .M (fun d => { d with paOff := some 5 })).carriersOn .M = [] := by decide
theorem witness_CoexistenceAndRadioWindow :
    (live .active [(1, zeros 24 ++ [1, 1, 1])]).coexRole .M = 1 ∧ (live .active [(1, zeros 24 ++ [1, 1, 2])]).coexRole .M = 2 ∧
    (onCarrier up .onAir).carriersOn .M = [0] ∧ up.domOn Region.M.frontDom = true := by decide
theorem witness_CoexistenceAndRadioWindow_latched :
    let s := (up.setRf (Reg.rfcWinSel 1) 0 12 1).radUpd .M (fun d => { d with winLatch := some (0, [7]) })
    s.rf (Reg.rfcWinSel 1) 0 12 % winWords 0 ≠ 0 ∧ (s.rad .M).winLatch = some (0, [7]) := by decide
theorem witness_DetectionsTakeLanes : (up.tick 0).tooOld ⟨3, 0, 0, 0, 0⟩ = false := by decide
theorem witness_LanesEndTheirReceptions : (onLane up false).lane 0 = some (lane false) ∧
    (onLane up true).lane 0 = some (lane true) ∧ (received 104).fits (lane true) = true := by decide
theorem witness_ReceiveMeasurementsAndGain : up.domOn Region.M.dspDom = true ∧
    ((up.rxUpd .M fun x => { x with gainDeferred := some 4, gainTimed := true }).rxr .M).gainDeferred = some 4 := by decide
theorem witness_DuplicatesAndReplays : up.sys.mode ≠ .standby ∧ recFcValid 0 = false ∧ (9 : Nat) < 256 ∧ recSeqValid 0 = false ∧
    recFcValid (recSet (recSet 0 0x50 4 9) 0x59 1 0x20) = true ∧ recF (recSet (recSet 0 0x50 4 9) 0x59 1 0x20) 0x50 4 = 9 := by decide +kernel
theorem witness_MacJobsAndSchedulerTimers : ({ up with jobs := { up.jobs with handed := [⟨3, 0, 0, 1, 0⟩] } } : State).handedJob 3 0 =
    some ⟨3, 0, 0, 1, 0⟩ ∧ (up.setRf (Reg.txpMapWinSel 1) 0 4 2).rf (Reg.txpMapWinSel 1) 0 4 ≠ 0 := by decide
theorem witness_PorchAndAcknowledgementTimers :
    ({ up with porch := { up.porch with waiting := [5] } } : State).calCount < 65536 ∧ up.booking 20 = none ∧
    (up.stk Reg.tsuStatus 0).timeSet = true ∧ up.domOn 9 = true ∧ ({ up with dls := { up.dls with queues := [(5, [dlFrame])] } } : State).queue 5 ≠ [] := by decide
theorem witness_HistogramReadsOneSample : up.domOn 9 = true ∧ up.rf (Reg.dlsHistSel 1) 0 4 = 0 ∧
    (up.setRf (Reg.dlsHistSel 1) 0 4 15).rf (Reg.dlsHistSel 1) 0 4 ≠ 0 := by decide
theorem witness_ForwardingBlocksAnswer : up.domOn 9 = true ∧ up.domOn 12 = true ∧ up.fwdBusy 0xA8 = false ∧
    (({ up with tab := { up.tab with busy := [(0xA8, 9)] } } : State).fwdBusy 0xA8) = true := by decide
theorem witness_ForwardingReadsAndSearches : fwdOpen up (fromSup .host) 0 ∧ fwdOpen up (fromSup (.supervisor 0 0 [])) 4 := by unfold fwdOpen; decide
theorem witness_ForwardingTablesAndNodeRecords :
    fwdOpen (live .active [(8, [16])]) (fromSup .host) 0 ∧ (live .active [(8, [16])]).learnN 0 ≠ 0 := by unfold fwdOpen; decide
theorem witness_JobsAreTakenAndDispatched : up.jobRoom 1 = true ∧ (∀ y ∈ up.jobs.waiting, y.kind ≠ 1) ∧
    ({ up with jobs := { up.jobs with queued := [⟨1, 2, 0, 1, 0⟩], inFlight := 1 } } : State).nextGroup = some 2 := by decide
theorem witness_RingRegisterWrites : up.domOn 10 = true ∧ (RingKind.command = .command → (0 : Fin 32).val < 4) := by decide
theorem witness_RingEventsAndPower : (mailed up).ringRuns 64 = true ∧ (mailed up).canDma = true ∧ PciePower.d3cold ≠ .d0 := by
  decide
theorem witness_DescriptorsAndMessages : (mailed up).mailReady (msg 0x20 4 [1, 2, 3, 4]) = true ∧
    (msg 0x20 4 [1, 2, 3, 4]).req = some [1, 2, 3, 4] := by decide
theorem witness_EthernetPorts : (8 : Nat) % 2 = 0 ∧ ([0, 1] : Bytes).length = ([2, 3] : Bytes).length ∧
    sumUpdate 0xFFFF [0, 1] [2, 3] < 65536 := by decide
theorem witness_StepAndCommitBothTakeEffect :
    let p : StepPend := ⟨0, true, false, 1, 0, 0, 0⟩
    let s : State := { up with now := 1, tsu := { up.tsu with step := some p } }
    s.domOn 10 = true ∧ s.tsu.step = some p ∧ p.since < s.now ∧ (p.timed = true → p.instant ≤ s.tbNs) ∧ 0 ≤ s.stepResult p ∧
      s.stepResult p < (2 ^ 48 * 1000000000 * 2 ^ 32 : Int) ∧
      0x138300000 ≤ s.rf Reg.tsuIncrNs 0 4 * 2 ^ 32 + (0x38800000 : Word).toNat ∧
      s.rf Reg.tsuIncrNs 0 4 * 2 ^ 32 + (0x38800000 : Word).toNat ≤ 0x138D00000 := by decide
theorem witness_TimePins : (0 : Nat) < 30 ∧ (up.setRf (Reg.tsuPinCtrl 0) 0 1 0).domOn 10 = true := by decide
theorem witness_TimerChannels : up.timerOut 0 = false ∧
    ((after (.timerArm 0) up).timer 0).running = true := by decide
theorem witness_InterruptSources : swf (fun _ => IrqSrc.reset) up.irq.srcs = true ∧
    swf (fun _ => IrqSrc.reset) (up.setSrc 0x005 { up.src 0x005 with enabled := true }).irq.srcs = true ∧
    srcKind (0x005 : Fin 512) = .edge := by decide
theorem witness_ClaimAndEndOfInterrupt :
    let s := up.setSrc 0x020 { up.src 0x020 with enabled := true, pending := true, level := 3 }
    swf (fun _ => IrqSrc.reset) s.irq.srcs = true ∧ s.eligible .host (s.src 0x020) = true := by decide
theorem witness_KeyUpdatesCommitOrAreRefused :
    let m := msg 2 0 (owner 2 0x90 0 [4, 1])
    taken (mailed (keyed .field up)) m 2 (fun k => decide (0x110 ≤ k) && k % 44 == 0x110 % 44 && decide (k ≤ 0x110 + 44 * 1024)) 0 ∧
      kuSlot (omBody (request m)) = 4 := by unfold taken; decide +kernel
/-- Supposing that the signature verifies. -/
theorem witness_KeyUpdateEffects (h : ∀ a b c, Config.ecdsaVerify a b c = true) :
    keyRefusal (mailed (keyed .field up)) (request (msg 2 0 (owner 2 0x90 0 [4, 1]))) = none := by
  have hs : (mailed (keyed .field up)).omSigned (request (msg 2 0 (owner 2 0x90 0 [4, 1]))) = true := by
    have hk : (mailed (keyed .field up)).signerKey (omSigner (request (msg 2 0 (owner 2 0x90 0 [4, 1])))) = some [] := by
      decide +kernel
    unfold State.omSigned
    rw [hk]
    exact h _ _ _
  unfold keyRefusal State.omCheck
  rw [hs]
  decide +kernel
theorem witness_RolloverTamperAndRegeneration : (keyed .field up).armed = true ∧ up.domOn 1 = true ∧
    up.sys.mode ≠ .off ∧ up.sys.mode ≠ .hearth ∧ State.reset.sys.mode = .off := by decide
theorem witness_MaintenanceAndProfileMessages :
    taken (mailed (keyed .field up)) (msg 3 0 (owner 3 16 0 [1, 3])) 3 (· == 0x90) 0 ∧ up.mailReady (msg 3 0 []) = false := by
  unfold taken; decide +kernel
theorem witness_DebugPortObeysItsState : State.reset.debugState = .none_ ∧ up.debugState = .boundary ∧ opened.debugState = .open_ ∧
    opened.dbgBar = true ∧ (opened.rg Reg.dbgMemAddr).toNat < 0x200000 ∧
    0x200000 ≤ ((opened.setRg Reg.dbgMemAddr 0x200000).rg Reg.dbgMemAddr).toNat := by decide
theorem witness_OffersAreCheckedAndStored :
    taken (mailed up) (msg 0x10 4096 (zeros 12 ++ [1] ++ zeros 19)) 0x10 (· == 32) 16 ∧
      byteAt (request (msg 0x10 4096 (zeros 12 ++ [1] ++ zeros 19))) 0xC = 1 := by unfold taken; decide
theorem witness_LockHandoverTrialAndSettings : taken (mailed up) (msg 0x11 16 (zeros 16)) 0x11 (· == 16) 16 ∧
    ({ up with upd := { up.upd with lock := some 4 } } : State).sess 4 = none := by unfold taken; decide
theorem witness_SafetyMechanisms :
    (∀ m ∈ [Mode.safe, Mode.degraded], (State.reset.maskFor m).getLsbD 11 = true) ∧ up.domOn 12 = true ∧ up.pairOk 0 = true := by
  decide

theorem witness_RecoveryAndEthernetSessions :
    (({ up with upd := { up.upd with lock := some 2 } } : State).upd.lock.isSome = true) ∧ (1 : Nat) ≤ 32768 ∧
    ((up.stk Reg.updCtrl 0).setPort 0 { up.port 0 with up := true }).sessTakes 0 ⟨1, 3, 0, [1] ++ zeros 15, 2, 0, [], List.replicate 6 0xFF, zeros 6⟩ 3 = true := by decide
theorem witness_TwinFramesAreTakenInOrder : twinListens (paired .standby) 0x11 (frame 0x11 0xE775FB55) ∧
    ¬ twinListens up 0x11 (frame 0x11 0xE775FB55) ∧ twinCrcOk (frame 0x11 0xE775FB55) = true := by
  unfold twinListens; decide +kernel
/-- Supposing that the tag verifies. -/
theorem witness_TwinFrameEffects (p : Bytes) (h : twinOpen (paired .standby) (frame 0x12 0xB3203791) = some p) :
    twinNext (paired .standby) 0x12 (frame 0x12 0xB3203791) p := by
  unfold twinNext
  exact ⟨by decide +kernel, by decide +kernel, by decide +kernel, by decide +kernel, by decide +kernel, h, by decide +kernel⟩
theorem witness_TwinLinkTimers : (paired .standby).laneUp = true ∧ (paired .standby).twin.l.link = 3 ∧
    (paired .standby).twin.mirror = [] ∧ (paired .standby).twin.cursor = none := by decide
theorem witness_TwinLineAndTakeover : (paired .standby).twin.released = true ∧ (paired .standby).twin.ownDrive = false ∧
    (paired .handover).sys.mode = .handover ∧
    ∀ m ∈ [Mode.handover, .active, .quiet, .degraded], ((paired .handover).modeMask m).getLsbD 11 = true := by decide
theorem witness_SupervisionAndSafety : up.pairOk 0 = true ∧ up.pairOk 1 = true ∧ up.sys.mode.canSafe = true ∧
    (up.nvOwn.isSome = false) := by decide
theorem witness_CellarCommands : taken (mailed (keyed .field up)) (msg 5 0 (owner 5 16 0 [])) 5 (· == 0x90) 0 ∧
    taken (mailed (keyed .field up)) (msg 4 0 (owner 4 16 0 [])) 4 (· == 0x90) 0 := by unfold taken; decide +kernel
theorem witness_RegisterAccesses : barUp up ∧ up.debugStop ⟨false, 0, 4, 0, .bar0⟩ = false ∧ regDesc 0x4C000 = none ∧
    regDesc 0x47FFC = none ∧ (0x40 : Nat) < 0x1000000 := by unfold barUp; decide
theorem witness_RegisterWrites : State.reset.sys.stage < 3 ∧ up.answers (Reg.txpLoadCtrl 0) = true ∧
    (regDesc (Reg.txpLoadCtrl 0)).isSome = true ∧ storedOnly (Reg.txpLoadCtrl 0) = true ∧
    (up.stk (Reg.rfcCtrl 0) 31).rwlLocked (Reg.rfcCtrl 0) = true ∧ up.answers (Reg.rfcCtrl 0) = true ∧
    up.answers Reg.tsuCtrl = true ∧ up.answers Reg.tsuNowNs = true := by decide
theorem witness_RegisterWrites_stop :
    (opened.setRg Reg.dbgMemAddr 0x200000).debugStop ⟨true, Reg.dbgMemData, 4, 0, .bar0⟩ = true ∧
    (opened.setRg Reg.dbgMemAddr 0x1FFFFC).debugStop ⟨true, Reg.dbgMemData, 4, 0, .bar0⟩ = false := by decide
theorem witness_CommandsCompleteInFrame1 : part (.tcxoFailure 0) = 1 ∧ stops up (.tcxoFailure 0) = false := by decide
theorem witness_CommandsCompleteInFrame2 : part (.irqSwi 0) = 2 := by decide
theorem witness_CommandsCompleteInFrame3 : part .tapBypass = 3 ∧ stops up .tapBypass = false := by decide
theorem witness_LifecyclePaths : up.key.lifecycle ≠ .fieldDebug ∧ (match step up with | .next _ => true | _ => false) = true := by
  decide
theorem witness_SourcesStayOrdered : swf (fun _ => IrqSrc.reset) up.irq.srcs = true ∧
    (match step { up with pending := [.irqSwi 1] } with | .next _ => true | _ => false) = true := by decide
theorem witness_OwnerCounterNeverGoesBack :
    (match step up with | .next u => decide (up.key.counter ≤ u.key.counter) | _ => false) = true := by decide
theorem witness_TimebaseRegisters : up.domOn 10 = true ∧
    0x138300000 ≤ up.rf Reg.tsuIncrNs 0 4 * 2 ^ 32 + (0x38800000 : Word).toNat ∧
    up.rf Reg.tsuIncrNs 0 4 * 2 ^ 32 + (0x38800000 : Word).toNat ≤ 0x138D00000 ∧ (up.rg Reg.tsuStepNs).toNat ≤ 999999999 := by decide
theorem witness_StepsApply : up.domOn 10 = true ∧ (⟨0, true, false, 1, 0, 0, 0⟩ : StepPend).since < (up.tick 1).now ∧
    0 ≤ (up.tick 1).stepResult ⟨0, true, false, 1, 0, 0, 0⟩ ∧
    (up.tick 1).stepResult ⟨0, true, false, 1, 0, 0, 0⟩ < (2 ^ 48 * 1000000000 * 2 ^ 32 : Int) := by decide

end Sys2Proof.Tests
end

/-! PROOF. Faults of units, clusters and radio regions, and PG_TIMEOUT (R19, R20, R77, R84, R155): what goes out of service
stays out while the operations that follow end its work, and the mode becomes DEGRADED or SAFE. -/

namespace Sys2Proof

open Sys2Proof.Machine

/-! ### Radio regions out of service stay out -/

/-- No region comes into service from one state to the other. -/
def StaysOut (s u : State) : Prop := ∀ q, (s.rad q).inService = false → (u.rad q).inService = false

theorem StaysOut.refl (s : State) : StaysOut s s := fun _ h => h

theorem StaysOut.trans {s x u : State} (h : StaysOut s x) (k : StaysOut x u) : StaysOut s u :=
  fun q hq => k q (h q hq)

theorem StaysOut.foldl {α : Type} {f : State → α → State} (hf : ∀ x y, StaysOut x (f x y)) (l : List α) (s : State) :
    StaysOut s (l.foldl f s) := by
  induction l generalizing s with
  | nil => exact .refl s
  | cons y l ih => exact (hf s y).trans (ih (f s y))

theorem Frame.staysOut {F : List Field} {s u : State} (h : Frame F s u) (hF : F.contains .radioService = false) :
    StaysOut s u := fun q hq => (h.rad_inService hF q).trans hq

theorem radUpd_staysOut (s : State) (r : Region) {f : Radio → Radio}
    (hf : ∀ d, d.inService = false → (f d).inService = false) : StaysOut s (s.radUpd r f) := by
  intro q hq
  by_cases h : q = r
  · subst h; rw [rad_radUpd]; exact hf _ hq
  · rwa [rad_radUpd_ne s h]

theorem linesOff_staysOut (s : State) (r : Region) : StaysOut s (s.linesOff r) := by
  unfold State.linesOff
  refine StaysOut.trans ?_ (radUpd_staysOut _ r fun _ h => h)
  split
  · exact (samplesBad_frame s r).staysOut rfl
  · exact (blank_frame s r).staysOut rfl

theorem linesRest_staysOut (s : State) (r : Region) : StaysOut s (s.linesRest r) := by
  unfold State.linesRest
  split
  · exact .refl s
  split
  · exact linesOff_staysOut s r
  split
  · exact radUpd_staysOut s r fun _ h => h
  split
  · exact StaysOut.trans (radUpd_staysOut s r (f := (·.lines 1 none)) fun _ h => h) ((samplesGood_frame _ r).staysOut rfl)
  · exact radUpd_staysOut s r fun _ h => h

theorem linesDown_staysOut (s : State) (r : Region) (isolate : Bool) : StaysOut s (s.linesDown r isolate) := by
  unfold State.linesDown
  extract_lets at1 low off
  have hlow : StaysOut s low := radUpd_staysOut s r fun _ h => h
  have hoff : StaysOut low off := by
    unfold off
    split
    · exact linesOff_staysOut low r
    · exact radUpd_staysOut low r fun _ h => h
  exact (hlow.trans hoff).trans ((coexPlan_frame off r).staysOut rfl)

theorem muteRegion_staysOut (s : State) (r : Region) (onAir other : Outcome) (isolate : Bool) :
    StaysOut s (s.muteRegion r onAir other isolate) := by
  unfold State.muteRegion
  extract_lets ids air lines aside
  have hlines : StaysOut s lines := by
    unfold lines
    split
    · exact linesDown_staysOut s r isolate
    split
    · exact linesOff_staysOut s r
    · exact linesRest_staysOut s r
  have haside : StaysOut lines aside :=
    .foldl (fun x c => (asideEnd_frame x r c other).staysOut rfl) ids lines
  exact (hlines.trans haside).trans (.foldl (fun x c => (jobEnd_frame x r c _).staysOut rfl) ids aside)

theorem muteAll_staysOut (s : State) : StaysOut s s.muteAll :=
  .foldl (fun x r => muteRegion_staysOut x r _ _ _) allRegions s

theorem jobsOrphan_staysOut (s : State) (h : Nat) : StaysOut s (s.jobsOrphan h) := by
  refine .foldl (fun x r => ?_) allRegions s
  exact radUpd_staysOut x r fun _ k => k

theorem queueDiscard_staysOut (s : State) (h : Nat) : StaysOut s (s.queueDiscard h) := by
  unfold State.queueDiscard
  extract_lets q
  split
  · exact .refl s
  · have hempty : StaysOut s (((s.unbook h).jobsOrphan h).setQueue h []) :=
      (((unbook_frame s h).staysOut rfl).trans (jobsOrphan_staysOut _ h)).trans ((setQueue_frame _ h []).staysOut rfl)
    exact hempty.trans (.foldl (fun x f => ((cnt_frame x _).staysOut rfl).trans
      ((completeFrame_frame _ f 7).staysOut rfl)) q _)

theorem yieldLine_staysOut (s : State) (left : Mode) : StaysOut s (s.yieldLine left) := by
  unfold State.yieldLine State.when
  split
  · refine StaysOut.trans ?_ ((lineRelease_frame _).staysOut rfl)
    split
    · exact .foldl queueDiscard_staysOut _ s
    · exact .refl s
  · exact .refl s

theorem strAbandon_staysOut (s : State) (cause : Nat) : StaysOut s (s.strAbandon cause) := by
  unfold State.strAbandon
  split
  · exact .refl s
  · extract_lets _ noImage done
    have hdone : StaysOut noImage done :=
      ((setRg_frame _ _ _).staysOut rfl).trans <| ((clrb_frame _ _ _).staysOut rfl).trans <|
      ((clrb_frame _ _ _).staysOut rfl).trans <| ((lockFree_frame _).staysOut rfl).trans <|
      ((event_frame _ _).staysOut rfl).trans <| ((cell_frame _ _ _ _ _).staysOut rfl).trans <|
      (irqApply_frame _).staysOut rfl
    exact StaysOut.trans (x := noImage) (fun _ h => h)
      (hdone.trans (.foldl (fun x r => radUpd_staysOut x r fun _ _ => rfl) allRegions done))

theorem safe_staysOut (s : State) (cause p2 : Nat) : StaysOut s (s.safe cause p2) := by
  unfold State.safe State.safeNow
  split
  · extract_lets left dark
    have hmark : StaysOut s (s.handoverEvent.safeMark cause) :=
      ((handoverEvent_frame s).staysOut rfl).trans ((safeMark_frame _ cause).staysOut rfl)
    have hdark : StaysOut s dark :=
      hmark.trans <| (muteAll_staysOut _).trans <| (yieldLine_staysOut _ left).trans <|
      (strAbandon_staysOut _ cause).trans <| (cell_frame _ _ _ _ _).staysOut rfl
    exact hdark.trans <| ((maskTake_frame dark .safe).staysOut rfl).trans <| (event_frame _ _).staysOut rfl
  · exact .refl s

/-! ### Lanes of a cluster -/

theorem Frame.lane_eq {F : List Field} {s u : State} (h : Frame F s u) (hF : F.contains .lanes = false) (n : Nat) :
    u.lane n = s.lane n := by
  unfold State.lane
  rw [h.lanes_eq hF]

theorem lane_setLane (s : State) (n m : Nat) (x : Option Lane) :
    (s.setLane n x).lane m = if m = n then x else s.lane m := sget_sput none s.lanes n x m

theorem laneFree_lane (s : State) (n m : Nat) : (s.laneFree n).lane m = if m = n then none else s.lane m :=
  ((hbInject_frame _ n).lane_eq rfl m).trans (lane_setLane s n m none)

/-- A drop frees its own lane and no other. -/
theorem laneDrop_lane (s : State) (n m : Nat) : (s.laneDrop n).lane m = if m = n then none else s.lane m := by
  unfold State.laneDrop
  split
  · rw [(slotRxUpd_frame _ _ _ _).lane_eq rfl, (cnt_frame _ _).lane_eq rfl, (pantryFree_frame _ _ _).lane_eq rfl,
      laneFree_lane]
  · rename_i hfree
    split
    · rename_i hm; rw [hm, hfree]
    · rfl

theorem lanesDrop_keeps_free (b : Nat) (l : List Nat) (s : State) {m : Nat} (h : s.lane m = none) :
    (l.foldl (fun s i => s.laneDrop (b + i)) s).lane m = none := by
  induction l generalizing s with
  | nil => exact h
  | cons i l ih => exact ih _ (by rw [laneDrop_lane, h, ite_self])

theorem lanesDrop_frees (b : Nat) (l : List Nat) (s : State) {i : Nat} (h : i ∈ l) :
    (l.foldl (fun s i => s.laneDrop (b + i)) s).lane (b + i) = none := by
  induction l generalizing s with
  | nil => cases h
  | cons j l ih =>
    rcases List.mem_cons.1 h with rfl | h
    · exact lanesDrop_keeps_free b l _ (by rw [laneDrop_lane, if_pos rfl])
    · exact ih _ h

/-! ### What a Cellar record leaves: the system state, and all but three registers -/

theorem SameRegs.refl (s : State) (l : List Nat) : SameRegs s s l := fun _ _ => rfl

theorem SameRegs.of_regs {s u : State} (h : u.regs = s.regs) (l : List Nat) : SameRegs s u l := by
  intro a _
  unfold State.rg
  rw [h]

theorem SameRegs.trans {s x u : State} {l : List Nat} (h : SameRegs s x l) (k : SameRegs x u l) : SameRegs s u l :=
  fun a ha => (k a ha).trans (h a ha)

theorem SameRegs.mono {s u : State} {l m : List Nat} (h : SameRegs s u l)
    (hm : ∀ a, m.contains a = false → l.contains a = false) : SameRegs s u m := fun a ha => h a (hm a ha)

theorem setRg_sameRegs (s : State) (a : Nat) (w : Word) {l : List Nat} (h : l.contains a = true) :
    SameRegs s (s.setRg a w) l := by
  intro b hb
  refine rg_setRg_ne s ?_ w
  rintro rfl
  rw [h] at hb; cases hb

theorem stk_sameRegs (s : State) (a i : Nat) {l : List Nat} (h : l.contains a = true) : SameRegs s (s.stk a i) l :=
  setRg_sameRegs s a _ h

theorem cnt_sameRegs (s : State) (a : Nat) {l : List Nat} (h : l.contains a = true) : SameRegs s (s.cnt a) l :=
  setRg_sameRegs s a _ h

/-- The registers in which a record of the Cellar may be counted (R481, R483). -/
def cellRegs : List Nat := [Reg.recSuppressedCnt, Reg.recHoldOvfCnt, Reg.recStatus]

theorem cellWrite_keeps (s : State) (x : BitVec 256) : (s.cellWrite x).sys = s.sys ∧ (s.cellWrite x).regs = s.regs := by
  unfold State.cellWrite State.when
  split
  · exact ⟨rfl, rfl⟩
  · dsimp only
    split <;> exact ⟨rfl, rfl⟩

theorem cellWrite_sameRegs (s : State) (x : BitVec 256) (l : List Nat) : SameRegs s (s.cellWrite x) l :=
  .of_regs (cellWrite_keeps s x).2 l

theorem cellPut_keeps (s : State) (x : BitVec 256) :
    (s.cellPut x).sys = s.sys ∧ SameRegs s (s.cellPut x) cellRegs := by
  unfold State.cellPut
  split
  · extract_lets _ told
    have htold : told.sys = s.sys ∧ SameRegs s told cellRegs := by
      unfold told
      split
      · exact ⟨rfl, .refl s _⟩
      · exact ⟨(cellWrite_keeps _ _).1, cellWrite_sameRegs { s with cellar := { s.cellar with lostHold := 0 } } _ _⟩
    exact ⟨(cellWrite_keeps told x).1.trans htold.1, htold.2.trans (cellWrite_sameRegs told x _)⟩
  · split
    · exact ⟨rfl, .of_regs (by rfl) _⟩
    · have hlost (v : State) : SameRegs v ((v.cnt Reg.recHoldOvfCnt).stk Reg.recStatus 2) cellRegs :=
        (cnt_sameRegs v Reg.recHoldOvfCnt rfl).trans (stk_sameRegs _ Reg.recStatus 2 rfl)
      exact ⟨rfl, .trans (.of_regs (by rfl) _) (hlost _)⟩

theorem cellForm_keeps (s : State) (code p0 p1 p2 : Nat) :
    (s.cellForm code p0 p1 p2).sys = s.sys ∧ SameRegs s (s.cellForm code p0 p1 p2) cellRegs := by
  unfold State.cellForm
  split
  · exact ⟨rfl, .refl s _⟩
  · split
    extract_lets b spent one _ written
    clear_value b one
    have hwritten : written.sys = s.sys ∧ SameRegs s written cellRegs := by
      unfold written
      split
      · exact ⟨rfl, .refl s _⟩
      · exact ⟨rfl, .of_regs (by rfl) _⟩
    clear_value written
    split
    · exact ⟨rfl, .trans (.of_regs (by rfl) _) (cnt_sameRegs _ Reg.recSuppressedCnt rfl)⟩
    · exact ⟨(cellPut_keeps written _).1.trans hwritten.1, hwritten.2.trans (cellPut_keeps written _).2⟩

theorem cell_keeps (s : State) (code p0 p1 p2 : Nat) :
    (s.cell code p0 p1 p2).sys = s.sys ∧ SameRegs s (s.cell code p0 p1 p2) cellRegs := by
  unfold State.cell
  split
  · exact cellForm_keeps s code p0 p1 p2
  · exact ⟨rfl, .of_regs (by rfl) _⟩

theorem getLsbD_setBits_one (w : Word) {i : Nat} (h : i < 32) : (setBits w i 1 1).getLsbD i = true := by
  unfold setBits
  simp only [BitVec.getLsbD_or, BitVec.getLsbD_ofNat, Nat.one_mod_two_pow_eq_one.2 Nat.one_pos, Nat.one_mul,
    Nat.testBit_two_pow_self, h, decide_true, Bool.and_self, Bool.or_true]

theorem rb_stk (s : State) (a : Nat) {i : Nat} (h : i < 32) : (s.stk a i).rb a i = true := by
  have hw : (s.stk a i).rg a = setBits (s.rg a) i 1 1 := rg_setRg_same s a _
  unfold State.rb
  rw [hw, getLsbD_setBits_one _ h]

/-! ### What a fault does to the mode -/

theorem degrade_transition (s : State) : s.degrade.sys.transition = s.sys.transition := by
  unfold State.degrade
  split <;> rfl

theorem degrade_of_ne {s : State} (h : s.sys.mode ≠ .active) : s.degrade = s := if_neg h

theorem entersSafe_of_frame {F : List Field} {s d u : State} {c : Nat} (h : Frame F s d)
    (hF : F.contains .sysMode = false) (he : entersSafe d u c) : entersSafe s u c :=
  entersSafe_of he (h.sys_mode_eq hF) (h.sys_previous_eq hF) (h.sys_safeCause_eq hF)

theorem degrade_mode_of_frame {F : List Field} {s d : State} (h : Frame F s d) (hF : F.contains .sysMode = false) :
    d.degrade.sys.mode = if s.sys.mode = .active then .degraded else s.sys.mode := by
  rw [degrade_mode, h.sys_mode_eq hF]

theorem coreLost_of_oos {s u : State} (h : u.oos = s.oos) : u.coreLost = s.coreLost := by
  unfold State.coreLost State.nodesOut State.tableOut State.aesOut
  rw [h]

theorem oosSet_frame (s : State) (l : List UnitId) : Frame [.oos] s { s with oos := l } := by
  intro f hf
  cases f
  case oos => cases hf
  all_goals simp [agree]

theorem oosClustersSet_frame (s : State) (l : List Nat) : Frame [.oosClusters] s { s with oosClusters := l } := by
  intro f hf
  cases f
  case oosClusters => cases hf
  all_goals simp [agree]

/-- A unit in service that goes out: its work ends, then SAFE or DEGRADED. -/
theorem unitOut_cases (s : State) (x : UnitId) (cause : Nat) (h : s.isOut x = false) :
    ∃ d, Frame (.oos :: touches213) s d ∧ d.oos = s.oos ++ [x] ∧
      s.unitOut x cause = if d.coreLost && ! s.coreLost then d.safe 0x08 0 else d.degrade := by
  let listed : State := { s with oos := s.oos ++ [x] }
  have hlisted : Frame (.oos :: touches213) s listed := (oosSet_frame s _).mono rfl
  have hdrop := unitDrop_frame listed x
  have hrec := oosRecord_frame (listed.unitDrop x) 0 (unitKind x) (unitIndex x) cause
  refine ⟨(listed.unitDrop x).oosRecord 0 (unitKind x) (unitIndex x) cause,
    (hlisted.after (hdrop.mono rfl)).after (hrec.mono rfl), (hrec.oos_eq rfl).trans (hdrop.oos_eq rfl), ?_⟩
  unfold State.unitOut
  rw [h]
  rfl

theorem unitOut_effect (s : State) (x : UnitId) (cause : Nat) (h : s.isOut x = false) :
    (s.unitOut x cause).oos = s.oos ++ [x] ∧
      if (s.unitOut x cause).coreLost ∧ s.coreLost = false then entersSafe s (s.unitOut x cause) 0x08
      else (s.unitOut x cause).sys.transition = s.sys.transition ∧
        (s.unitOut x cause).sys.mode = (if s.sys.mode = .active then .degraded else s.sys.mode) := by
  obtain ⟨d, hd, hoos, hout⟩ := unitOut_cases s x cause h
  have hkept : (s.unitOut x cause).oos = d.oos := by
    rw [hout]
    split
    · exact (safe_frame d _ _).oos_eq rfl
    · exact (degrade_frame d).oos_eq rfl
  refine ⟨hkept.trans hoos, ?_⟩
  rw [coreLost_of_oos hkept, hout]
  by_cases hlost : d.coreLost = true ∧ s.coreLost = false
  · rw [if_pos hlost, if_pos (by simp [hlost])]
    exact entersSafe_of_frame hd rfl (safe_enters d 0x08 0)
  · rw [if_neg hlost, if_neg (by simpa using hlost)]
    exact ⟨(degrade_transition d).trans (hd.sys_transition_eq rfl), degrade_mode_of_frame hd rfl⟩

/-- A cluster in service that goes out: its lanes are freed, then DEGRADED. -/
theorem clusterOut_cases (s : State) (c cause : Nat) (h : s.oosClusters.contains c = false) :
    ∃ d, Frame (.oosClusters :: touches65 ++ records) s d ∧ d.oosClusters = s.oosClusters ++ [c] ∧
      (∀ i, i < 32 → d.lane (32 * c + i) = none) ∧ s.clusterOut c cause = d.degrade := by
  let listed : State := { s with oosClusters := s.oosClusters ++ [c] }
  let freed : State := (List.range 32).foldl (fun s i => s.laneDrop (32 * c + i)) listed
  have hlisted : Frame (.oosClusters :: touches65 ++ records) s listed := (oosClustersSet_frame s _).mono rfl
  have hfreed : Frame touches65 listed freed :=
    .foldl (.refl _ _) fun x i hx => hx.after (laneDrop_frame x _)
  have hstk := stk_frame freed Reg.rxpTrouble 16
  have hcnt := cntBy_frame (freed.stk Reg.rxpTrouble 16) (Reg.rxpClusterLossCnt c) (s.clusterLeft c)
  have hrec := oosRecord_frame
    ((freed.stk Reg.rxpTrouble 16).cntBy (Reg.rxpClusterLossCnt c) (s.clusterLeft c)) 1 0 c cause
  refine ⟨_, (((hlisted.after (hfreed.mono rfl)).after (hstk.mono rfl)).after (hcnt.mono rfl)).after (hrec.mono rfl),
    ?_, fun i hi => ?_, ?_⟩
  · rw [hrec.oosClusters_eq rfl, hcnt.oosClusters_eq rfl, hstk.oosClusters_eq rfl, hfreed.oosClusters_eq rfl]
  · rw [hrec.lane_eq rfl, hcnt.lane_eq rfl, hstk.lane_eq rfl]
    exact lanesDrop_frees (32 * c) _ listed (List.mem_range.2 hi)
  · unfold State.clusterOut
    rw [h]
    rfl

theorem clusterOut_effect (s : State) (c cause : Nat) (h : s.oosClusters.contains c = false) :
    (s.clusterOut c cause).oosClusters = s.oosClusters ++ [c] ∧
      (s.sys.mode ≠ .active → ∀ i, i < 32 → (s.clusterOut c cause).lane (32 * c + i) = none) ∧
      (s.clusterOut c cause).sys.mode = (if s.sys.mode = .active then .degraded else s.sys.mode) := by
  obtain ⟨d, hd, hlist, hfree, hout⟩ := clusterOut_cases s c cause h
  rw [hout]
  refine ⟨((degrade_frame d).oosClusters_eq rfl).trans hlist, fun hmode => ?_, degrade_mode_of_frame hd rfl⟩
  rwa [degrade_of_ne (by rwa [hd.sys_mode_eq rfl])]

/-- A radio region in service that goes out: its work ends, then SAFE where it was the last and one is needed, or its domains go
off and DEGRADED. -/
theorem regionOut_cases (s : State) (r : Region) (cause : Nat) (h : (s.rad r).inService = true) :
    ∃ d, Frame (.radioService :: touches121 ++ touches65) s d ∧ (d.rad r).inService = false ∧
      s.regionOut r cause = if d.sys.mode.needsRadio ∧ d.anyRadio = false then d.safe 0x09 r.ix
        else ((d.regionDark r).mapSettle r).degrade := by
  let apart : State := s.radUpd r fun d => { d with inService := false, isolated := true }
  let mute : State := apart.muteRegion r .lockLost .late false
  have hapart : Frame (.radioService :: touches121 ++ touches65) s apart :=
    Frame.radUpd (.refl _ s) (.inr rfl) (.inr rfl) (.inr rfl) (.inr rfl) (.inr rfl) (.inr rfl) (.inr rfl) (.inr rfl) (.inr rfl)
  have hmute := muteRegion_frame apart r .lockLost .late false
  have hdrop := rxDrop_frame mute r
  have hrec := oosRecord_frame (mute.rxDrop r) 2 0 r.ix cause
  have hout : StaysOut apart ((mute.rxDrop r).oosRecord 2 0 r.ix cause) :=
    ((muteRegion_staysOut apart r _ _ _).trans (hdrop.staysOut rfl)).trans (hrec.staysOut rfl)
  refine ⟨_, ((hapart.after (hmute.mono rfl)).after (hdrop.mono rfl)).after (hrec.mono rfl), hout r ?_, if_pos h⟩
  rw [rad_radUpd]

theorem regionOut_effect (s : State) (r : Region) (cause : Nat) (h : (s.rad r).inService = true) :
    ((s.regionOut r cause).rad r).inService = false ∧
      ((s.regionOut r cause).sys.mode = (if s.sys.mode = .active then .degraded else s.sys.mode) ∨
        s.sys.mode.needsRadio ∧ entersSafe s (s.regionOut r cause) 0x09) := by
  obtain ⟨d, hd, hout, hnext⟩ := regionOut_cases s r cause h
  rw [hnext]
  split
  · rename_i hlast
    refine ⟨safe_staysOut d _ _ r hout, .inr ⟨?_, entersSafe_of_frame hd rfl (safe_enters d _ _)⟩⟩
    rw [← hd.sys_mode_eq rfl]
    exact hlast.1
  · have hdark := (regionDark_frame d r).after ((mapSettle_frame (d.regionDark r) r).mono rfl)
    refine ⟨(hdark.staysOut rfl).trans ((degrade_frame _).staysOut rfl) r hout, .inl ?_⟩
    rw [degrade_mode_of_frame hdark rfl, hd.sys_mode_eq rfl]

theorem regionOut_of_out (s : State) (r : Region) (cause : Nat) (h : (s.rad r).inService = false) :
    s.regionOut r cause = s := if_neg (Bool.eq_false_iff.1 h)

/-- A region that faults, in service or not: DEGRADED, the mode as it was, or SAFE. -/
theorem regionOut_mode (s : State) (r : Region) (cause : Nat) :
    (s.regionOut r cause).sys.mode = (if s.sys.mode = .active then .degraded else s.sys.mode) ∨
      (s.regionOut r cause).sys.mode = s.sys.mode ∨ entersSafe s (s.regionOut r cause) 0x09 := by
  cases h : (s.rad r).inService with
  | false => exact .inr (.inl (by rw [regionOut_of_out s r cause h]))
  | true =>
    obtain ⟨_, hmode | ⟨_, hsafe⟩⟩ := regionOut_effect s r cause h
    · exact .inl hmode
    · exact .inr (.inr hsafe)

/-! ### PG_TIMEOUT -/

/-- The failed switching of domain `d + 1` as it is recorded (R77). -/
def pgRecorded (s : State) (d : Nat) : State := (s.stk Reg.pwrDomainState (16 + d)).cell 0x14 (2 ^ d) 0 0

theorem pgRecorded_sys (s : State) (d : Nat) : (pgRecorded s d).sys = s.sys := (cell_keeps _ _ _ _ _).1

theorem pgRecorded_sameRegs (s : State) (d : Nat) :
    SameRegs s (pgRecorded s d) (Reg.pwrDomainState :: cellRegs) :=
  (stk_sameRegs s Reg.pwrDomainState (16 + d) rfl).trans
    ((cell_keeps _ _ _ _ _).2.mono fun a ha => by
      rw [List.contains_cons, Bool.or_eq_false_iff] at ha
      exact ha.2)

theorem pgRecorded_bit (s : State) {d : Nat} (h : d < 16) : (pgRecorded s d).rb Reg.pwrDomainState (16 + d) = true := by
  have hrg : (pgRecorded s d).rg Reg.pwrDomainState = (s.stk Reg.pwrDomainState (16 + d)).rg Reg.pwrDomainState :=
    (cell_keeps _ _ _ _ _).2 Reg.pwrDomainState rfl
  unfold State.rb
  rw [hrg]
  exact rb_stk s _ (by omega)

/-- What the faults of PG_TIMEOUT lead to once it is recorded, judged from the state before. -/
theorem entersSafe_of_pgRecorded {s u : State} {d c : Nat} (h : entersSafe (pgRecorded s d) u c) : entersSafe s u c :=
  entersSafe_of h (by rw [pgRecorded_sys]) (by rw [pgRecorded_sys]) (by rw [pgRecorded_sys])

theorem pgRecorded_regionOut_mode (s : State) (d : Nat) (r : Region) :
    ((pgRecorded s d).regionOut r 0).sys.mode = (if s.sys.mode = .active then .degraded else s.sys.mode) ∨
      ((pgRecorded s d).regionOut r 0).sys.mode = s.sys.mode ∨ entersSafe s ((pgRecorded s d).regionOut r 0) 0x09 := by
  obtain hmode | hmode | hsafe := regionOut_mode (pgRecorded s d) r 0
  · rw [pgRecorded_sys] at hmode
    exact .inl hmode
  · rw [pgRecorded_sys] at hmode
    exact .inr (.inl hmode)
  · exact .inr (.inr (entersSafe_of_pgRecorded hsafe))

/-- The fault that a recorded PG_TIMEOUT of domain `d + 1` is (R19): of the region that owns the domain, if any. -/
def pgFault (v : State) (d : Nat) : State :=
  if 3 ≤ d + 1 ∧ d + 1 ≤ 5 then v.regionOut (Region.ofIx (d + 1 - 3)) 0
  else if 6 ≤ d + 1 ∧ d + 1 ≤ 8 then v.regionOut (Region.ofIx (d + 1 - 6)) 0
  else if d + 1 = 9 ∨ d + 1 = 10 then v.coreOut .network
  else if d + 1 = 11 then v.coreOut .strongroom
  else if d + 1 = 12 then v.coreOut .supervisor
  else v

theorem execPgTimeout_eq (d : Fin 16) (t : Nat) (s : State) :
    execPgTimeout d t s = s.act t fun s =>
      if s.domOn 10 = false ∨ d.val + 1 = 1 then s else pgFault (pgRecorded s d.val) d.val := rfl

theorem pgFault_core (s : State) (d : Nat) :
    (d = 8 ∨ d = 9 ∨ d = 10 → entersSafe s (pgFault (pgRecorded s d) d) 0x08) ∧
    (d = 11 → entersSafe s (pgFault (pgRecorded s d) d) 0x07) := by
  constructor
  · rintro (rfl | rfl | rfl) <;> exact entersSafe_of_pgRecorded (safe_enters _ 0x08 0)
  · rintro rfl
    exact entersSafe_of_pgRecorded (safe_enters _ 0x07 0)

theorem pgFault_unowned (v : State) {d : Nat} (h : d = 1 ∨ 12 ≤ d) : pgFault v d = v := by
  unfold pgFault
  rw [if_neg (by omega), if_neg (by omega), if_neg (by omega), if_neg (by omega), if_neg (by omega)]

theorem pgFault_radio (s : State) {d : Nat} (h1 : 2 ≤ d) (h2 : d ≤ 7) :
    (pgFault (pgRecorded s d) d).sys.mode = (if s.sys.mode = .active then .degraded else s.sys.mode) ∨
      (pgFault (pgRecorded s d) d).sys.mode = s.sys.mode ∨ entersSafe s (pgFault (pgRecorded s d) d) 0x09 := by
  unfold pgFault
  by_cases hfront : 3 ≤ d + 1 ∧ d + 1 ≤ 5
  · rw [if_pos hfront]
    exact pgRecorded_regionOut_mode s d _
  · rw [if_neg hfront, if_pos (by omega)]
    exact pgRecorded_regionOut_mode s d _

/-! ### The commands -/

theorem unitFault_completes (s : State) (t : Nat) (cause : Word) (x : UnitId) :
    Completes (.unitFault x cause t) s fun u =>
      if s.domOn 10 = false ∨ s.isOut x then u = s.tick t
      else u.oos = s.oos ++ [x] ∧
        if u.coreLost ∧ s.coreLost = false then entersSafe s u 0x08
        else u.sys.transition = s.sys.transition ∧
          u.sys.mode = (if s.sys.mode = .active then .degraded else s.sys.mode) := by
  refine completes_act t (fun s => if s.domOn 10 then s.unitOut x cause.toNat else s) rfl ?_
  have hon : (s.tick t).domOn 10 = s.domOn 10 := rfl
  have hisOut : (s.tick t).isOut x = s.isOut x := rfl
  rw [hon]
  split
  · rename_i hidle
    obtain hoff | hout := hidle
    · rw [hoff, if_neg Bool.false_ne_true, keep_self]
    · rw [State.unitOut, hisOut, if_pos hout, ite_self, keep_self]
  · rename_i hruns
    rw [not_or, Bool.not_eq_false, Bool.not_eq_true] at hruns
    rw [if_pos hruns.1]
    exact unitOut_effect (s.tick t) x cause.toNat hruns.2

theorem clusterFault_completes (s : State) (t : Nat) (cause : Word) (c : Fin 12) :
    Completes (.clusterFault c cause t) s fun u =>
      if s.domOn 10 = false ∨ s.oosClusters.contains c.val then u = s.tick t
      else u.oosClusters = s.oosClusters ++ [c.val] ∧
        (s.sys.mode ≠ .active → ∀ i, i < 32 → u.lane (32 * c + i) = none) ∧
        u.sys.mode = (if s.sys.mode = .active then .degraded else s.sys.mode) := by
  refine completes_act t (fun s => if s.domOn 10 then s.clusterOut c.val cause.toNat else s) rfl ?_
  have hon : (s.tick t).domOn 10 = s.domOn 10 := rfl
  rw [hon]
  split
  · rename_i hidle
    obtain hoff | hout := hidle
    · rw [hoff, if_neg Bool.false_ne_true, keep_self]
    · rw [State.clusterOut, tick_oosClusters, if_pos hout, ite_self, keep_self]
  · rename_i hruns
    rw [not_or, Bool.not_eq_false, Bool.not_eq_true] at hruns
    rw [if_pos hruns.1]
    exact clusterOut_effect (s.tick t) c.val cause.toNat hruns.2

theorem radioRegionFault_completes (s : State) (t : Nat) (cause : Word) (r : Region) :
    Completes (.radioRegionFault r cause t) s fun u =>
      if (s.radio.get r).inService then (u.radio.get r).inService = false ∧
        (u.sys.mode = (if s.sys.mode = .active then .degraded else s.sys.mode) ∨
          s.sys.mode.needsRadio ∧ entersSafe s u 0x09)
      else u = s.tick t := by
  refine completes_act t (fun s => s.regionOut r cause.toNat) rfl ?_
  split
  · rename_i hin
    exact regionOut_effect (s.tick t) r cause.toNat hin
  · rename_i hout
    rw [regionOut_of_out (s.tick t) r cause.toNat (Bool.eq_false_iff.2 hout), keep_self]

theorem pgTimeout_completes (s : State) (t : Nat) (d : Fin 16) :
    Completes (.pgTimeout d t) s fun u =>
      if s.domOn 10 = false ∨ d.val = 0 then u = s.tick t
      else if d.val = 10 ∨ d.val = 8 ∨ d.val = 9 then entersSafe s u 0x08
      else if d.val = 11 then entersSafe s u 0x07
      else if d.val = 1 ∨ 12 ≤ d.val then u.sys = s.sys ∧ SameRegs s u [Reg.pwrDomainState, Reg.recSuppressedCnt,
        Reg.recHoldOvfCnt, Reg.recStatus] ∧ u.rb Reg.pwrDomainState (16 + d.val) = true
      else u.sys.mode = (if s.sys.mode = .active then .degraded else s.sys.mode) ∨ u.sys.mode = s.sys.mode ∨
        entersSafe s u 0x09 := by
  refine completes_act t _ (execPgTimeout_eq d t s) ?_
  have hon : (s.tick t).domOn 10 = s.domOn 10 := rfl
  simp only [hon, Nat.add_eq_right]
  split
  · exact keep_self _
  split
  · rename_i hcore
    exact (pgFault_core (s.tick t) d.val).1 (by omega)
  split
  · rename_i hsup
    exact (pgFault_core (s.tick t) d.val).2 hsup
  split
  · rename_i hnone
    rw [pgFault_unowned _ hnone]
    exact ⟨pgRecorded_sys (s.tick t) d.val, pgRecorded_sameRegs (s.tick t) d.val, pgRecorded_bit (s.tick t) d.isLt⟩
  · exact pgFault_radio (s.tick t) (by omega) (by omega)

/-- Settles O6: each of the four commands, by what its fault leaves in service and by how `degrade` and `safe` then move the
mode. -/
theorem faultsTakeUnitsOut : Obligations.FaultsTakeUnitsOut := by
  unfold Obligations.FaultsTakeUnitsOut
  exact fun s t cause => ⟨unitFault_completes s t cause, clusterFault_completes s t cause,
    radioRegionFault_completes s t cause, pgTimeout_completes s t⟩

end Sys2Proof

/-! PROOF. The NV settings (R437–R439): a change of a set reads back as it was written. -/

namespace Sys2Proof.Machine

/-! A copy's records and header, and with them its CRC, do not depend on the CRC field. The CRC stands as a variable: a comparison
of two copies must not run into the computation of one. -/

section
variable (c : NvCopy) (crc : Word)

theorem NvCopy.records_withCrc : ({ c with crc := crc } : NvCopy).records = c.records := rfl

theorem NvCopy.header_withCrc (format : Nat) : ({ c with crc := crc } : NvCopy).header format = c.header format := rfl

theorem NvCopy.crc_withCrc : ({ c with crc := crc } : NvCopy).crc = crc := rfl

theorem NvCopy.defaultSlot_withCrc : ({ c with crc := crc } : NvCopy).defaultSlot = c.defaultSlot := rfl

theorem NvCopy.crcOf_withCrc (format : Nat) : ({ c with crc := crc } : NvCopy).crcOf format = c.crcOf format := by
  unfold NvCopy.crcOf
  rw [header_withCrc, records_withCrc]

end

theorem NvCopy.crc_sealed (c : NvCopy) (n : Nat) : (c.sealed n).crc = (c.sealed n).crcOf n :=
  (crc_withCrc c (c.crcOf n)).trans (crcOf_withCrc c (c.crcOf n) n).symm

/-- What a change of a set writes to both its copies: the next COUNTER and the CRC go with it. -/
def NvSet.changed (x : NvSet) (f : NvCopy → NvCopy) : NvCopy :=
  let c := f (x.pick.getD NvCopy.blank)
  { c with counter := c.counter + 1 }.sealed x.format

/-- A set whose copies are equal, with a CRC that holds, reads as they do. -/
theorem NvSet.pick_of_same {x : NvSet} {c : NvCopy} (ha : x.a = some c) (hb : x.b = some c)
    (hcrc : c.crc = c.crcOf x.format) : x.pick = some c := by
  have hgood : x.good (some c) = some c := by
    unfold NvSet.good
    rw [Option.filter_some, hcrc, beq_self_eq_true, if_pos rfl]
  unfold NvSet.pick
  rw [ha, hb, hgood]
  exact if_neg (Nat.lt_irrefl _)

theorem NvSet.pick_write (x : NvSet) (f : NvCopy → NvCopy) : (x.write f).pick = some (x.changed f) :=
  pick_of_same (x := x.write f) rfl rfl (NvCopy.crc_sealed _ _)

theorem NvSet.format_write (x : NvSet) (f : NvCopy → NvCopy) : (x.write f).format = x.format := rfl

theorem nvSet_setNvSet (s : State) (x : NvSet) {i j : Nat} (hi : i < 2) (hj : j < 2) :
    (s.setNvSet i x).nvSet j = if j = i then x else s.nvSet j := by
  unfold State.nvSet State.setNvSet
  obtain rfl | rfl : i = 0 ∨ i = 1 := by omega
  all_goals obtain rfl | rfl : j = 0 ∨ j = 1 := by omega
  all_goals rfl

theorem nvFormat_setNvSet (s : State) (i : Nat) (x : NvSet) : (s.setNvSet i x).nvFormat = s.nvFormat := by
  unfold State.setNvSet
  split <;> rfl

/-- Whether a set is one the running firmware reads (R438). -/
def nvServes (s : State) (i : Nat) : Bool := (s.nvSet i).format == s.nvFormat && (s.nvSet i).pick.isSome

theorem nvOwn_eq (s : State) : s.nvOwn = ([0, 1] : List Nat).find? (nvServes s) := rfl

theorem nvOwn_of_nvServes {s u : State} (h0 : nvServes u 0 = nvServes s 0) (h1 : nvServes u 1 = nvServes s 1) :
    u.nvOwn = s.nvOwn := by
  rw [nvOwn_eq, nvOwn_eq]
  simp only [List.find?_cons, List.find?_nil, h0, h1]

theorem nvServes_of_nvOwn {s : State} {i : Nat} (h : s.nvOwn = some i) : nvServes s i = true ∧ i < 2 := by
  rw [nvOwn_eq] at h
  have hmem := List.mem_of_find?_eq_some h
  simp only [List.mem_cons, List.not_mem_nil, or_false] at hmem
  exact ⟨List.find?_some h, by omega⟩

theorem nvServes_write {s : State} {i : Nat} (h : nvServes s i = true) (hi : i < 2) (f : NvCopy → NvCopy) {j : Nat}
    (hj : j < 2) : nvServes (s.setNvSet i ((s.nvSet i).write f)) j = nvServes s j := by
  by_cases hji : j = i
  · subst hji
    rw [h]
    unfold nvServes at h ⊢
    rw [Bool.and_eq_true] at h
    rw [nvFormat_setNvSet, nvSet_setNvSet s _ hi hj, if_pos rfl, NvSet.pick_write, NvSet.format_write, h.1]
    rfl
  · unfold nvServes
    rw [nvFormat_setNvSet, nvSet_setNvSet s _ hi hj, if_neg hji]

theorem nvWrite_of_own {s : State} {i : Nat} (h : s.nvOwn = some i) (f : NvCopy → NvCopy) :
    s.nvWrite f = s.setNvSet i ((s.nvSet i).write f) := by
  unfold State.nvWrite
  rw [h]

/-- A change of the running firmware's settings reads back as written. -/
theorem nv_nvWrite {s : State} {i : Nat} (h : s.nvOwn = some i) (f : NvCopy → NvCopy) :
    (s.nvWrite f).nv = (s.nvSet i).changed f := by
  obtain ⟨hserves, hi⟩ := nvServes_of_nvOwn h
  have hown : (s.setNvSet i ((s.nvSet i).write f)).nvOwn = some i :=
    (nvOwn_of_nvServes (nvServes_write hserves hi f (by omega)) (nvServes_write hserves hi f (by omega))).trans h
  unfold State.nv
  rw [nvWrite_of_own h, hown]
  simp only [nvSet_setNvSet s _ hi hi, if_true, NvSet.pick_write, Option.getD_some]

theorem nvSet_of_upd {s u : State} (h : u.upd = s.upd) (i : Nat) : u.nvSet i = s.nvSet i := by
  unfold State.nvSet
  rw [h]

theorem nvOwn_of_upd {s u : State} (h : u.upd = s.upd) : u.nvOwn = s.nvOwn := by
  unfold State.nvOwn State.nvFormat State.fwField
  simp only [nvSet_of_upd h, h]

theorem nv_of_upd {s u : State} (h : u.upd = s.upd) : u.nv = s.nv := by
  unfold State.nv
  rw [nvOwn_of_upd h]
  simp only [nvSet_of_upd h]

/-- A change that sets the default slot reads back with it. -/
theorem nv_defaultSlot_nvWrite {s : State} (h : s.nvOwn.isSome) (slot : Nat) :
    (s.nvWrite fun c => { c with defaultSlot := slot }).nv.defaultSlot = slot := by
  obtain ⟨i, hi⟩ := Option.isSome_iff_exists.1 h
  rw [nv_nvWrite hi]
  exact NvCopy.defaultSlot_withCrc _ _

end Sys2Proof.Machine

/-! PROOF. The commands of `STR.CMD` (R60–R64): each completes in the state in which its fields are stored, with its RESULT and
source 0x020; what OP STORE and OP SET_DEFAULT keep for good goes to the flash and to the NV settings alone. -/

namespace Sys2Proof

open Sys2Proof.Machine

/-! ### The command is taken -/

/-- `STR.CMD` as it reads while a command is carried out: the fields written with GO are stored. -/
def strStored (s : State) (w : StrWord) (op : Nat) : State := s.setRg Reg.strCmd (BitVec.ofNat 32 (strFields w op))

theorem strGo_of_ready {s : State} (h : strReady s) (w : StrWord) (op : Nat) (f : State → State) :
    s.strGo w op f = f (strStored s w op) := by
  obtain ⟨hdom, hrec, hret, hgo⟩ := h
  unfold State.strGo
  rw [if_neg (by simp [hdom]), if_neg (by simp [hrec, hret]), if_neg (by simp [hgo])]
  rfl

theorem strLocked_of_free {s : State} (h : s.upd.lock = none) (f : State → State) : s.strLocked f = f s :=
  if_neg (by simp [h])

section
variable {s : State} {w : StrWord} {e : StrEnv} (f : Image → Bool → State → State)

theorem strChecked_of_broken {b : Broken} (h : s.upd.lock = none) (hw : w.source.val < 5)
    (hv : s.strVerdict w e = .broken b) : s.strChecked w e f = s.strResult b.word := by
  unfold State.strChecked
  rw [if_neg (by omega), strLocked_of_free h]
  simp only [hv]

theorem strChecked_of_good {im : Image} {un : Bool} (h : s.upd.lock = none) (hw : w.source.val < 5)
    (hv : s.strVerdict w e = .good im un) : s.strChecked w e f = f im un s := by
  unfold State.strChecked
  rw [if_neg (by omega), strLocked_of_free h]
  simp only [hv]

end

/-! ### What the stored fields leave, and what an answer adds -/

theorem slotVerdict_strStored (s : State) (w : StrWord) (op i : Nat) (peer : Option Bytes) :
    (strStored s w op).slotVerdict i peer = s.slotVerdict i peer := rfl

theorem rg_strStored_ne (s : State) (w : StrWord) (op : Nat) {a : Nat} (h : a ≠ Reg.strCmd) :
    (strStored s w op).rg a = s.rg a := rg_setRg_ne s h _

theorem strVerdict_strStored (s : State) (w : StrWord) (op : Nat) (e : StrEnv) :
    (strStored s w op).strVerdict w e = s.strVerdict w e := by
  unfold State.strVerdict
  rw [rg_strStored_ne s w op (a := Reg.strSrcLen) (by decide), rg_strStored_ne s w op (a := Reg.strSrcAddrLo) (by decide)]
  rfl

theorem strStored_sameRegs (s : State) (w : StrWord) (op : Nat) {l : List Nat} (h : l.contains Reg.strCmd = true) :
    SameRegs s (strStored s w op) l := setRg_sameRegs s _ _ h

theorem strStored_frame (s : State) (w : StrWord) (op : Nat) : Frame [.regs, .irqEvents] s (strStored s w op) :=
  (setRg_frame s _ _).mono rfl

/-- A command answered and nothing else done: RESULT, source 0x020, and no other register or piece of state moves. -/
def StrAnswered (s u : State) (result : Word) : Prop :=
  u.rg Reg.strResult = result ∧ u.irq.events = s.irq.events ++ heard s 0x020 ∧
    SameRegs s u [Reg.strCmd, Reg.strResult] ∧ Frame [.regs, .irqEvents] s u

theorem rg_strResult_keep (s v : State) (n : Nat) :
    ((s.strResult n).keep v).rg Reg.strResult = BitVec.ofNat 32 n := rg_setRg_same s Reg.strResult _

theorem upd_strStored (s : State) (w : StrWord) (op : Nat) : (strStored s w op).upd = s.upd := setRg_upd s _ _

theorem lock_strStored {s : State} (h : s.upd.lock = none) (w : StrWord) (op : Nat) :
    (strStored s w op).upd.lock = none := by rw [upd_strStored, h]

/-- An answer leaves the flash and the NV settings to what came before it. -/
theorem upd_strResult_keep (s v : State) (n : Nat) : ((s.strResult n).keep v).upd = s.upd := rfl

theorem strResult_answers (s : State) (w : StrWord) (op n : Nat) :
    StrAnswered s (((strStored s w op).strResult n).keep s) (BitVec.ofNat 32 n) := by
  have hregs : SameRegs (strStored s w op) ((strStored s w op).strResult n) [Reg.strCmd, Reg.strResult] :=
    setRg_sameRegs _ Reg.strResult _ rfl
  have hframe := (strStored_frame s w op).after ((strResult_frame _ n).mono rfl)
  exact ⟨rg_strResult_keep _ s n, rfl, (strStored_sameRegs s w op rfl).trans hregs, hframe.keep⟩

/-! ### OP NONE, VALIDATE and those refused -/

theorem exec_strNone (w : StrWord) (s : State) :
    exec (.strNone w) s = s.go fun s => s.strGo w 0 fun s => s.event 0x020 := rfl

theorem exec_strValidate (w : StrWord) (e : StrEnv) (s : State) :
    exec (.strValidate w e) s = s.go fun s => s.strGo w 1 fun s => s.strChecked w e fun _ _ s => s.strResult 4 := rfl

theorem strNone_completes {s : State} (h : strReady s) (w : StrWord) :
    Completes (.strNone w) s fun u => u.rg Reg.strCmd = BitVec.ofNat 32 (strFields w 0) ∧
      u.irq.events = s.irq.events ++ heard s 0x020 ∧ SameRegs s u [Reg.strCmd] ∧ Frame [.regs, .irqEvents] s u := by
  refine completes_go _ (exec_strNone w s) ?_
  rw [strGo_of_ready h]
  exact ⟨rg_setRg_same s Reg.strCmd _, rfl, strStored_sameRegs s w 0 rfl,
    ((strStored_frame s w 0).after ((event_frame _ _).mono rfl)).keep⟩

theorem strOpRefused_completes {s : State} (h : strReady s) (w : StrWord) (op : Fin 16)
    (hop : 5 ≤ op.val ∨ (op.val ≠ 0 ∧ 5 ≤ w.source.val)) :
    Completes (.strOpRefused w op) s fun u => StrAnswered s u (BitVec.ofNat 32 (Broken.pkg 0x08 noIx).word) := by
  refine completes_go _ rfl ?_
  rw [if_pos hop, strGo_of_ready h]
  exact strResult_answers s w op.val _

theorem strValidate_completes {s : State} {w : StrWord} (h : strReady s) (e : StrEnv) (hw : w.source.val < 5)
    (hfree : s.upd.lock = none) :
    Completes (.strValidate w e) s fun u => StrAnswered s u
      (match s.strVerdict w e with | .broken b => BitVec.ofNat 32 b.word | .good _ _ => 4) := by
  refine completes_go _ (exec_strValidate w e s) ?_
  have hverdict := strVerdict_strStored s w 1 e
  rw [strGo_of_ready h]
  cases hv : s.strVerdict w e with
  | broken b =>
    rw [strChecked_of_broken _ (lock_strStored hfree w 1) hw (hverdict.trans hv)]
    exact strResult_answers s w 1 b.word
  | good im un =>
    rw [strChecked_of_good _ (lock_strStored hfree w 1) hw (hverdict.trans hv)]
    exact strResult_answers s w 1 4

/-! ### OP STORE -/

/-- The container that a SOURCE names, as OP STORE writes it (R60, R61). -/
def strContainer (s : State) (w : StrWord) (e : StrEnv) : Bytes :=
  if w.source.val = 0 then (e.host.getD []).take (s.rg Reg.strSrcLen).toNat else sget [] s.upd.slots (w.source.val - 1)

theorem strContainer_strStored (s : State) (w : StrWord) (op : Nat) (e : StrEnv) :
    strContainer (strStored s w op) w e = strContainer s w e := by
  unfold strContainer
  rw [rg_strStored_ne s w op (a := Reg.strSrcLen) (by decide)]
  rfl

/-- A container written to a flash slot. -/
def slotWritten (s : State) (i : Nat) (c : Bytes) : State :=
  { s with upd := { s.upd with slots := sput [] s.upd.slots i c } }

theorem slotWritten_same (s : State) (i : Nat) (c : Bytes) : sget [] (slotWritten s i c).upd.slots i = c :=
  sget_sput_same _ _ _ _

theorem slotWritten_other (s : State) {i k : Nat} (h : k ≠ i) (c : Bytes) :
    sget [] (slotWritten s i c).upd.slots k = sget [] s.upd.slots k := sget_sput_ne _ _ _ h _

theorem exec_strStore (w : StrWord) (e : StrEnv) (s : State) :
    exec (.strStore w e) s = s.go fun s => s.strGo w 3 fun s => s.strChecked w e fun _ _ s =>
      (slotWritten s w.dest.val (strContainer s w e)).strResult 9 := rfl

theorem strStore_completes {s : State} {w : StrWord} (h : strReady s) (e : StrEnv) (hfree : s.upd.lock = none)
    (hw : w.source.val < 5) :
    Completes (.strStore w e) s fun u =>
      match s.strVerdict w e with
      | .broken b => u.rg Reg.strResult = BitVec.ofNat 32 b.word ∧ u.upd = s.upd
      | .good _ _ => u.rg Reg.strResult = 9 ∧ sget [] u.upd.slots w.dest.val = strContainer s w e ∧
        ∀ k, k ≠ w.dest.val → sget [] u.upd.slots k = sget [] s.upd.slots k := by
  refine completes_go _ (exec_strStore w e s) ?_
  have hverdict := strVerdict_strStored s w 3 e
  rw [strGo_of_ready h]
  cases hv : s.strVerdict w e with
  | broken b =>
    rw [strChecked_of_broken _ (lock_strStored hfree w 3) hw (hverdict.trans hv)]
    exact ⟨rg_strResult_keep _ s b.word, (upd_strResult_keep _ s b.word).trans (upd_strStored s w 3)⟩
  | good im un =>
    rw [strChecked_of_good _ (lock_strStored hfree w 3) hw (hverdict.trans hv), strContainer_strStored]
    dsimp only
    rw [upd_strResult_keep, ← upd_strStored s w 3]
    exact ⟨rg_strResult_keep _ s 9, slotWritten_same _ _ _, fun k hk => slotWritten_other _ hk _⟩

/-! ### OP SET_DEFAULT -/

theorem exec_strSetDefault (w : StrWord) (e : StrEnv) (s : State) :
    exec (.strSetDefault w e) s = execStrSetDefault w e s := rfl

theorem strSetDefault_completes {s : State} {w : StrWord} (h : strReady s) (e : StrEnv) (hfree : s.upd.lock = none)
    (hw : w.source.val < 5) :
    Completes (.strSetDefault w e) s fun u =>
      match s.slotVerdict w.dest.val e.peer with
      | .broken b => u.rg Reg.strResult = BitVec.ofNat 32 b.word ∧ u.upd = s.upd
      | .good _ _ => u.rg Reg.strResult = 11 ∧ (s.nvOwn.isSome → u.nv.defaultSlot = w.dest.val) := by
  refine completes_go _ (exec_strSetDefault w e s) ?_
  rw [strGo_of_ready h, if_neg (by omega), strLocked_of_free (lock_strStored hfree w 4), slotVerdict_strStored]
  cases s.slotVerdict w.dest.val e.peer with
  | broken b => exact ⟨rg_strResult_keep _ s b.word, (upd_strResult_keep _ s b.word).trans (upd_strStored s w 4)⟩
  | good im un =>
    refine ⟨rg_strResult_keep _ s 11, fun hown => ?_⟩
    dsimp only
    rw [nv_of_upd (upd_strResult_keep _ s 11)]
    rw [← nvOwn_of_upd (upd_strStored s w 4)] at hown
    exact nv_defaultSlot_nvWrite hown w.dest.val

/-- Settles O1: each OP by the state its stored fields leave, in which the verdict on the container is the one before; OP STORE by
what a write of a flash slot reads as, OP SET_DEFAULT by what a write of the NV settings reads back as. -/
theorem structureCommands : Obligations.StructureCommands := by
  unfold Obligations.StructureCommands
  refine ⟨fun s w h => ⟨strNone_completes h w, fun op hop => strOpRefused_completes h w op hop,
    fun e hw hfree => strValidate_completes h e hw hfree⟩, fun s w e h hfree hw => ⟨?_, ?_⟩⟩
  · exact strStore_completes h e hfree hw
  · exact strSetDefault_completes h e hfree hw

end Sys2Proof

/-! PROOF. The self-tests of a start-up (R21, R84, R88, R95): units that fail go out of service first, and the SAFE cause that stands
is judged with them out. -/

namespace Sys2Proof

open Sys2Proof.Machine

/-! ### The loss of a core region stands as a SAFE cause -/

theorem standingCause_of_coreLost {s : State} (h : s.coreLost = true) : ∃ c, s.standingCause = some c := by
  unfold State.standingCause
  rw [if_pos h]
  repeat' split
  all_goals exact ⟨_, rfl⟩

theorem exec_selfTestComplete (f : List UnitId) (t : Nat) (s : State) :
    exec (.selfTestComplete f t) s = execSelfTestComplete f t s := rfl

/-- The units that fail their self-tests go out of service, one after the other (R21). -/
def failedOut (s : State) (f : List UnitId) : State := f.foldl (fun x u => x.unitOut u 0) s

theorem failedOut_frame (s : State) (f : List UnitId) : Frame touches226 s (failedOut s f) :=
  .foldl (.refl _ s) fun x u hx => hx.after (unitOut_frame x u 0)

/-- Self-tests that leave a core region without the last unit of a kind it needs lead from stage 5 to SAFE. -/
theorem selfTestComplete_safe {s : State} {f : List UnitId} (t : Nat) (hstage : s.sys.stage = 5)
    (hlife : s.key.lifecycle ≠ .returned) (hlost : (failedOut (s.tick t) f).coreLost = true) :
    Completes (.selfTestComplete f t) s fun u => u.sys.mode = .safe := by
  refine completes_act t _ (exec_selfTestComplete f t s) ?_
  rw [keep_sys, tick_sys, hstage, if_neg (by simp), if_pos rfl]
  extract_lets tested left entered _ kept
  have hlifecycle : tested.key.lifecycle = s.key.lifecycle := (failedOut_frame (s.tick t) f).key_lifecycle_eq rfl
  have hentered : entered.oos = tested.oos :=
    ((modeTo_frame _ _).oos_eq rfl).trans ((dutyLoad_frame tested).oos_eq rfl)
  have hkept : kept.oos = entered.oos := by
    unfold kept
    split <;> rfl
  have hout : kept.oos = (failedOut (s.tick t) f).oos := hkept.trans hentered
  obtain ⟨c, hc⟩ := standingCause_of_coreLost ((coreLost_of_oos hout).trans hlost)
  rw [if_neg (by rwa [hlifecycle]), hc]
  exact (safeNow_enters kept c 0).1

/-! ### Both node-record engines fail -/

/-- A start-up that waits for its self-tests: stage 5, the domains of CONFIGURE on, the root PLL locked, the die link up. -/
def selfTesting : State :=
  { State.reset with
    regs := [(Reg.clkStatus, 1)]
    sys := { State.reset.sys with stage := 5, domains := 0xDF03, mask := 0xDF03 }
    dieF2c := { DieDir.reset with up := true }
    dieC2f := { DieDir.reset with up := true } }

/-- No cause stands before the self-tests end: the dies are cool, the rails in range, the clock runs, every unit is in service. -/
theorem selfTesting_standingCause : selfTesting.standingCause = none := by decide

theorem isOut_tableEngine (s : State) (k : Fin 6) : s.isOut (.tableEngine k) = s.oos.contains (.tableEngine k) :=
  Bool.or_false _

/-- The node-record engines of R248 fail their self-tests. -/
def nodeEngines : List UnitId := [.tableEngine 4, .tableEngine 5]

theorem nodeEngines_out {s : State} (h : s.oos = []) :
    (failedOut s nodeEngines).oos = nodeEngines := by
  have h4 : (s.unitOut (.tableEngine 4) 0).oos = [.tableEngine 4] := by
    rw [(unitOut_effect s _ 0 (by rw [isOut_tableEngine, h]; rfl)).1, h]
    rfl
  have h5 : ((s.unitOut (.tableEngine 4) 0).isOut (.tableEngine 5)) = false := by
    rw [isOut_tableEngine, h4]
    decide
  exact (unitOut_effect _ _ 0 h5).1.trans (by rw [h4]; rfl)

theorem coreLost_of_nodeEngines {s : State} (h : s.oos = nodeEngines) : s.coreLost = true := by
  unfold State.coreLost State.nodesOut State.tableOut
  rw [h]
  rfl

theorem selfTesting_nodeEngines_safe :
    Completes (.selfTestComplete nodeEngines 0) selfTesting fun u => u.sys.mode = .safe :=
  selfTestComplete_safe 0 rfl (by decide) (coreLost_of_nodeEngines (nodeEngines_out rfl))

/-- Refutes O9: the statement judges the standing cause before the failed units are out. Both node-record engines failing their
self-tests is SAFE cause 0x08 that stands only once they are out (R20, R84, R88): the start-up ends in SAFE, where the statement
claims CONFIGURE. -/
theorem not_startUpStages : ¬ Obligations.StartUpStages := by
  unfold Obligations.StartUpStages
  intro h
  obtain ⟨-, -, -, -, -, -, -, hself, -⟩ := h selfTesting 0
  obtain ⟨u, hu, hclaim⟩ := hself nodeEngines
  obtain ⟨v, hv, hsafe⟩ := selfTesting_nodeEngines_safe
  obtain rfl : u = v := by
    rw [hu] at hv
    injection hv
  rw [if_neg (by decide), if_pos (by decide), if_neg (by decide), selfTesting_standingCause] at hclaim
  obtain ⟨-, -, hconfigure⟩ := hclaim
  exact absurd (hconfigure.symm.trans hsafe) (by decide)

end Sys2Proof
